-- ==== Sys2Proof/Word.lean ====
section
/-! DEFINITION. The words of the block: bytes, 32-bit registers, byte strings and sparse tables. -/

namespace Sys2Proof

/-- One byte. -/
abbrev Byte := BitVec 8

/-- One register of the control space: 32 bits (R8). -/
abbrev Word := BitVec 32

/-- A string of bytes, the first byte first. -/
abbrev Bytes := List Byte

/-- A sparse table: pairs of key and value, keys strictly rising, no pair holding the value an
unlisted key reads as (`Tab.wf` of Machine/Tab.lean says so). -/
abbrev Tab (α : Type) := List (Nat × α)

end Sys2Proof
end

