-- ==== Sys2Proof/Syntax.lean ====
section
/-! DEFINITION. Syntax: the commands that reach the block from outside, one constructor for each row
of the operation table, and the types of their operands. -/

namespace Sys2Proof

/-- Who makes a control-space access (R9, R542, R546): function 0 (service world) or 1 (guard world)
of a lane endpoint, or the steward master. -/
inductive Req where
  | fn (lane : Nat) (guard : Bool)
  | steward
deriving DecidableEq, Repr, Inhabited


/-- What a safety channel reads in one sample (R432, R449, R459): the levels of SIN00 to SIN15 and of SOUT0_FB to SOUT7_FB,
and whether the contacts SRST_NO and SRST_NC are closed. -/
structure SafIn where
  sin : Nat
  fb : Nat
  no : Bool
  nc : Bool
deriving DecidableEq, Repr, Inhabited

/-- What a scrubbed or read line shows (R505): nothing wrong, a corrected word, or an uncorrectable word in the spare under test
(of banks or engines), in a journal block, in an overflow slot of a stream, in peat staging, or anywhere else. -/
inductive EccSite where
  | clean
  | corrected
  | spare (bank : Bool)
  | journalBlock (place : Nat)
  | overflowSlot (stream : Nat)
  | peatStaging
  | elsewhere
deriving DecidableEq, Repr, Inhabited

/-- The header of a frame of the inter-unit link as the receiver sees it (R385): the path it came on (0 IU-A, 1 IU-B), its sequence
number, the sender's DEV_STATE code and the sender's highest epoch seen. -/
structure IuHead where
  path : Nat
  seq : Nat
  dev : Nat
  epoch : Nat
deriving DecidableEq, Repr, Inhabited

/-- An ingress record as it is mirrored (R381): port, source index, stamps, path bits, flags, match key, counter, payload. -/
structure IngRec where
  port : Nat
  src : Nat
  stamp : Nat
  endT : Nat
  path : Nat
  both : Bool
  hint : Bool
  key : Bytes
  count : Option Nat
  payload : Bytes
deriving DecidableEq, Repr, Inhabited

/-- A mirrored record (R381): an ingress record, a lane transmit copy with its ring, tag and fetch time, or the firing of a cyclic slot
with its trigger time. -/
inductive MirrorRec where
  | ingress (x : IngRec)
  | lane (k : Nat) (ring1 : Bool) (cycle stream index : Nat) (payload : Bytes) (time : Nat)
  | cyclic (slot time : Nat)
deriving DecidableEq, Repr

/-- An entry of the commit log (R382). -/
structure LogEnt where
  index : Nat
  mirror : Nat
  outNo : Nat
deriving DecidableEq, Repr, Inhabited

/-- A sealed peat block as it travels and is stored (R392): header fields and ciphertext with tag. -/
structure PeatBlk where
  q : Nat
  counter : Nat
  unit : Nat
  full : Bool
  cipher : Bytes
deriving DecidableEq, Repr, Inhabited
/-- The commands of the block: one constructor for each row of the operation table. -/
inductive Instr where
  /-- REGISTER_WRITE (R9): A BAR0 write to a register that has no row of its own sets every field its type and the writing world allow and leaves the other fields unchanged. Operands: the requester, the BAR0 offset, the bits of the access, the value. -/
  | registerWrite (r : Req) (off width value : Nat)
  /-- LATCHING_READ (R546): A read of the low half of a latched register pair latches the high half for that requester alone. Operands: the requester, the BAR0 offset read, the bits of the access. -/
  | latchingRead (r : Req) (off width : Nat)
  /-- MSIX_UNMASK (R551): Unmasking an MSI-X vector whose pending bit is set sends one message covering every event that fell due while it was masked. Operands: the function, the vector. -/
  | msixUnmask (r : Req) (vec : Nat)
  /-- SP_SENTENCE_END (R55): A sentence port completes a sentence at its end event; it is framed, checked and stamped, and then discarded or placed in the reception buffer. -/
  | spSentenceEnd (n : Nat)
  /-- SP_GAP_END (R55): On a gap-delimited port, the idle line reaches the configured gap and ends the sentence. -/
  | spGapEnd (n : Nat)
  /-- CHAR_TIMEOUT (R54): The inter-character timeout expires inside a sentence; the partial sentence is discarded as a framing error. -/
  | charTimeout (n : Nat)
  /-- CR_WAIT_EXPIRY (R55): In IEC tolerant mode, one character time passes after a CR without the start of an LF, and the sentence ends at the CR. -/
  | crWaitExpiry (n : Nat)
  /-- BREAK_OUTSIDE_SENTENCE (R54): A break outside a sentence raises PRT_CNT_FRAMING and has no other effect. -/
  | breakOutsideSentence (n : Nat)
  /-- CAN_FRAME_END (R59): A CAN FD controller completes a frame; an error frame is discarded, a remote frame is handled by cf_remote, and a good frame becomes a sentence. Operands: the port, the frame, the error found, the raw stamps of start and end. -/
  | canFrameEnd (n id : Nat) (ide rtr fd : Bool) (data : Bytes) (err t e : Nat)
  /-- CAN_BUS_OFF (R60): A controller enters bus-off; PRT_LINK_DOWN is reported, and the port becomes FAULTED unless cf_auto_recover is set. -/
  | canBusOff (n : Nat) (inFrame : Bool)
  /-- CAN_BUS_OFF_RECOVERY (R60): After 128 occurrences of 11 recessive bits, an auto-recovering controller rejoins the bus. -/
  | canBusOffRecovery (n : Nat)
  /-- MVB_SLAVE_FRAME_END (R61): A slave frame answering a master frame for a configured sink port ends; it is validated on either line and becomes a sentence or an error. Operands: the interface, what each line carried, the frame data, the raw stamps. -/
  | mvbSlaveFrameEnd (n a b : Nat) (data : Bytes) (t e : Nat)
  /-- MVB_MASTER_FRAME (R61): A master frame arrives, and the interface answers with the source-port buffer where the port address is configured as a source. -/
  | mvbMasterFrame (n addr code : Nat)
  /-- MVB_POLL (R61): In the bus-administrator role, the interface sends the next master frame of its polling list. -/
  | mvbPoll (n : Nat)
  /-- ETH_FRAME_END (R63): An Ethernet or 10G MAC completes a received frame, which is checked for length, FCS, VLAN tag and PRP trailer and then passed to upper-layer recognition. Operands: the port, the frame with its FCS, the raw stamps. -/
  | ethFrameEnd (n : Nat) (frame : Bytes) (t e : Nat)
  /-- PRP_NODE_FORGET (R73): A node entry that has been silent on both paths for node_forget is removed. -/
  | prpNodeForget (pair mac : Nat)
  /-- PRP_PATH_LOST (R75): A dually attached node receives nothing on one path for path_limit; PRT_PATH_LOST is reported and PRT_PATH_STATUS is set. -/
  | prpPathLost (pair mac path : Nat)
  /-- PAUSE_FRAME_RECEIVED (R232): A received pause frame is consumed, and it holds transmission only where pause_honour is 1. -/
  | pauseFrameReceived (n quanta : Nat)
  /-- LINK_DOWN (R81): An Ethernet link goes down; a partial frame is discarded and PRT_LINK_DOWN is reported. Operands: the port, whether a frame was in reception. -/
  | linkDown (n : Nat) (inFrame : Bool)
  /-- LINK_UP (R81): An Ethernet link comes up, and reception and transmission resume. -/
  | linkUp (n : Nat)
  /-- PORT_STAGING_ENTRY (R78): A completed sentence leaves the reception buffer into port staging once a credit for it is free. -/
  | portStagingEntry (n : Nat)
  /-- PORT_ENABLE (R80): Writing 1 to PRT_CTRL.enable makes a port ENABLED, or returns a DRAINING port to ENABLED without loss. -/
  | portEnable (r : Req) (n : Nat)
  /-- PORT_DISABLE (R80): Writing 0 to PRT_CTRL.enable stops admission at once and makes the port DRAINING. -/
  | portDisable (r : Req) (n : Nat)
  /-- PORT_DRAIN_COMPLETE (R80): A DRAINING port's reception buffer and port staging become empty, and the port turns DISABLED. -/
  | portDrainComplete (n : Nat)
  /-- PORT_DRAIN_LIMIT (R80): The drain limit of a DRAINING port expires; leftovers are discarded into PRT_CNT_DRAIN and the port becomes DISABLED. -/
  | portDrainLimit (n : Nat)
  /-- PRT_CNT_CLEAR_PORT (R83): PRT_CNT_CLEAR with all = 0 clears the counters of one port. -/
  | prtCntClearPort (r : Req) (n : Nat)
  /-- PRT_CNT_CLEAR_ALL (R83): PRT_CNT_CLEAR with all = 1 clears the counters of every port. -/
  | prtCntClearAll (r : Req)
  /-- STEWARD_SENTENCE (R12): The steward hands a sentence with a talker tag to the ST port staging queue. Operands: the talker tag and the payload. -/
  | stewardSentence (tag : Nat) (payload : Bytes)
  /-- CLASSIFY (R90): A classifier engine takes a sentence from port staging, builds its match key and digest, and looks it up in the stream table. Operand: the port staging queue its engine takes the sentence from. -/
  | classify (n : Nat)
  /-- WILDCARD_SEARCH (R98): The wildcard search unit takes the oldest miss and applies the lowest-index matching rule: ASSIGN, LEARN or DROP. -/
  | wildcardSearch
  /-- INSERTION_COMPLETE (R91): The inserter completes a cuckoo insertion with its displacements, or places the key in the stash, or fails. -/
  | insertionComplete
  /-- STREAM_ADMIT (R104): STB_ADMIT with the verdict "admitted" sets admitted = 1 and takes the template's dest_set. -/
  | streamAdmit (r : Req) (id : Nat)
  /-- STREAM_REJECT (R104): STB_ADMIT with the verdict reject disables the learned entry. -/
  | streamReject (r : Req) (id : Nat)
  /-- STREAM_RELEASE (R104): STB_ADMIT with the verdict release removes the learned entry at once. -/
  | streamRelease (r : Req) (id : Nat)
  /-- WHOLE_SECOND (R312): Device time reaches a whole second, which drives the aging and filter sweeps and the real-time clock write. -/
  | wholeSecond
  /-- LEARNED_ENTRY_EMPTY (R105): An aged learned entry has no sentence left before commit, and it becomes EMPTY with its id free. -/
  | learnedEntryEmpty (id : Nat)
  /-- STREAM_ENABLE (R108): STB_STREAM_CMD enable makes a stream ENABLED, or returns a DRAINING stream to ENABLED without loss. -/
  | streamEnable (r : Req) (id : Nat)
  /-- STREAM_DISABLE (R108): STB_STREAM_CMD disable stops admission at once and makes the stream DRAINING. -/
  | streamDisable (r : Req) (id : Nat)
  /-- STREAM_CLEAR_COUNTERS (R94): STB_STREAM_CMD command 3 clears a stream's counters. -/
  | streamClearCounters (r : Req) (id : Nat)
  /-- STREAM_CLEAR_LAST_VALUE (R114): STB_STREAM_CMD command 4 clears a stream's last value. -/
  | streamClearLastValue (r : Req) (id : Nat)
  /-- STREAM_DRAIN_COMPLETE (R108): A DRAINING stream has no admitted sentence left before dispatch, and it becomes DISABLED. -/
  | streamDrainComplete (id : Nat)
  /-- STREAM_DRAIN_LIMIT (R108): The drain limit of a stream expires; sentences still held at mapper dispatch are discarded as drain loss, and the stream becomes DISABLED. -/
  | streamDrainLimit (id : Nat)
  /-- LVC_WRITE (R114): The cache writer takes a committed sentence and writes its last value inline, and to DRAM where configured. -/
  | lvcWrite
  /-- STB_CNT_CLEAR_GLOBAL (R118): STB_CNT_CLEAR bit 0 clears STB_CNT_MISS to STB_CNT_LVC_STALE. -/
  | stbCntClearGlobal (r : Req)
  /-- STB_CNT_CLEAR_RULES (R98): STB_CNT_CLEAR bit 1 clears the hit counts of all 512 rules. -/
  | stbCntClearRules (r : Req)
  /-- STB_CNT_CLEAR_STREAMS (R94): STB_CNT_CLEAR bit 2 clears the counter table of every stream. -/
  | stbCntClearStreams (r : Req)
  /-- FILTER_EVALUATE (R119): The filter stage takes a classified sentence and applies the seal, sequence, age, range, step, source, change, interval and rate tests in order. -/
  | filterEvaluate
  /-- BOG_WRITE (R144): The bog writer takes an intake entry and writes its record and stored payload bytes. -/
  | bogWrite
  /-- SOURCE_FORCE (R140): FLT_SRC_FORCE force pins a source group to a member. Operands: requester, group, member. -/
  | sourceForce (r : Req) (g m : Nat)
  /-- SOURCE_RELEASE (R140): FLT_SRC_FORCE release returns a source group to automatic selection. -/
  | sourceRelease (r : Req) (g : Nat)
  /-- FLT_CNT_CLEAR_COUNTERS (R145): FLT_CNT_CLEAR bit 0 clears FLT_CNT_SEAL to FLT_CNT_BOG_SHED. -/
  | fltCntClearCounters (r : Req)
  /-- FLT_CNT_CLEAR_BOG (R144): FLT_CNT_CLEAR bit 1, from the guard world, empties the bog and sets FLT_BOG_NEXT to 0. -/
  | fltCntClearBog (r : Req)
  /-- MAPPER_DISPATCH (R146): Mapper dispatch takes a filtered sentence, charges fabric time to its leaf and sends a run to an engine, or holds, drops or discards it. -/
  | mapperDispatch
  /-- HOLD_LIMIT_EXPIRY (R192): A sentence or copy held under HOLD_THEN_DROP reaches hold_limit and is dropped. Operand: the mapper's hold store (none), or the egress port whose class lists hold the copy. -/
  | holdLimitExpiry (place : Option Nat)
  /-- MAP_RUN_START (R148): An engine context begins a run from the head of its sub-queue, with W0–W7 and the flags cleared. Operands: the engine, whether its class-0 context begins a run. -/
  | mapRunStart (e : Nat) (first : Bool)
  /-- CLASS0_PREEMPT (R148): A ready class-0 run preempts a running shared run at the next step boundary. -/
  | class0Preempt (e : Nat)
  /-- END (R165): The END micro-op ends the run and emits the open outputs. Operand: the engine whose active run executes the micro-op. -/
  | opEnd (e : Nat)
  /-- DROP (R165): The DROP micro-op ends the run without emitting any output. -/
  | opDrop (e : Nat)
  /-- SKIP (R164): The SKIP micro-op skips the next n micro-ops when its condition holds. -/
  | opSkip (e : Nat)
  /-- LDC (R152): The LDC micro-op loads a sign-extended immediate. -/
  | opLdc (e : Nat)
  /-- LDS (R156): The LDS micro-op loads a run value. -/
  | opLds (e : Nat)
  /-- LDB (R153): The LDB micro-op loads a binary field of the input. -/
  | opLdb (e : Nat)
  /-- LDT (R154): The LDT micro-op loads a text decimal field. -/
  | opLdt (e : Nat)
  /-- LDTM (R154): The LDTM micro-op loads a text time of day in milliseconds. -/
  | opLdtm (e : Nat)
  /-- LDCH (R154): The LDCH micro-op loads the code of a field's first character. -/
  | opLdch (e : Nat)
  /-- LDV (R158): The LDV micro-op loads a field of a snapshotted last value. -/
  | opLdv (e : Nat)
  /-- LDV_DRAM_READ_COMPLETE (R158): The DRAM read of overflow bytes for an LDV completes, and the run resumes. -/
  | ldvDramReadComplete (e : Nat)
  /-- LVA (R158): The LVA micro-op loads the age of a last value in µs. -/
  | opLva (e : Nat)
  /-- SRCL (R159): The SRCL micro-op yields the first fresh member of a source list. -/
  | opSrcl (e : Nat)
  /-- MOV (R152): The MOV micro-op copies rs into rd. -/
  | opMov (e : Nat)
  /-- ADD (R160): The ADD micro-op adds rs to rd with saturation. -/
  | opAdd (e : Nat)
  /-- SUB (R160): The SUB micro-op subtracts rs from rd with saturation. -/
  | opSub (e : Nat)
  /-- ADDI (R160): The ADDI micro-op adds an immediate to rd with saturation. -/
  | opAddi (e : Nat)
  /-- MUL (R161): The MUL micro-op multiplies, shifts and rounds. -/
  | opMul (e : Nat)
  /-- DIV (R161): The DIV micro-op divides with rounding and traps on division by zero. -/
  | opDiv (e : Nat)
  /-- SCALE (R161): The SCALE micro-op computes rs × M ÷ 2^sh with rounding. -/
  | opScale (e : Nat)
  /-- MIN (R152): The MIN micro-op takes the minimum of rd and rs. -/
  | opMin (e : Nat)
  /-- MAX (R152): The MAX micro-op takes the maximum of rd and rs. -/
  | opMax (e : Nat)
  /-- ABS (R160): The ABS micro-op takes the absolute value of rs. -/
  | opAbs (e : Nat)
  /-- NEG (R160): The NEG micro-op negates rs. -/
  | opNeg (e : Nat)
  /-- AND (R152): The AND micro-op computes rd AND rs. -/
  | opAnd (e : Nat)
  /-- OR (R152): The OR micro-op computes rd OR rs. -/
  | opOr (e : Nat)
  /-- XOR (R152): The XOR micro-op computes rd XOR rs. -/
  | opXor (e : Nat)
  /-- ANDI (R152): The ANDI micro-op computes rd AND a zero-extended immediate. -/
  | opAndi (e : Nat)
  /-- ORI (R152): The ORI micro-op computes rd OR a zero-extended immediate. -/
  | opOri (e : Nat)
  /-- EQI (R152): The EQI micro-op compares rd with an immediate. -/
  | opEqi (e : Nat)
  /-- RCHK (R162): The RCHK micro-op checks rd against a range, trapping or setting RNG on failure. -/
  | opRchk (e : Nat)
  /-- INTERP (R163): The INTERP micro-op applies an interpolation table to rs. -/
  | opInterp (e : Nat)
  /-- NEWO (R166): The NEWO micro-op opens an output filled with the fill byte. -/
  | opNewo (e : Nat)
  /-- SELO (R166): The SELO micro-op makes another output current. -/
  | opSelo (e : Nat)
  /-- CPY (R167): The CPY micro-op copies input data-area bytes into the current output. -/
  | opCpy (e : Nat)
  /-- STB (R167): The STB micro-op stores rs into a binary field of the current output. -/
  | opStb (e : Nat)
  /-- STT (R168): The STT micro-op appends rs as decimal text. -/
  | opStt (e : Nat)
  /-- STM (R168): The STM micro-op appends rs as a time of day. -/
  | opStm (e : Nat)
  /-- APC (R168): The APC micro-op appends up to six literal characters. -/
  | opApc (e : Nat)
  /-- APF (R168): The APF micro-op appends an input text field verbatim. -/
  | opApf (e : Nat)
  /-- CSUM (R169): The CSUM micro-op computes and writes a check code, deferred where it overlaps a marker. -/
  | opCsum (e : Nat)
  /-- STMK (R170): The STMK micro-op reserves a departure-stamp marker field. -/
  | opStmk (e : Nat)
  /-- MAP_OVERTIME (R178): A run's metered time exceeds t_max, and the run is aborted with MAP_OVERTIME. -/
  | mapOvertime (e : Nat)
  /-- COMMIT_GROUP_HANDOVER (R22): A finished run's commit group enters the commit intake once credits for all of its sentences are free. Operands: the engine, whether its class-0 context hands over. -/
  | commitGroupHandover (e : Nat) (first : Bool)
  /-- MAP_ENGINE_TAKE_OUT (R181): MAP_ENGINE_CMD take out stops dispatch to an engine, whose queued runs complete. -/
  | mapEngineTakeOut (r : Req) (e : Nat)
  /-- MAP_ENGINE_RETURN (R181): MAP_ENGINE_CMD return cancels an emptying take-out or starts the engine's test pass. -/
  | mapEngineReturn (r : Req) (e : Nat)
  /-- MAP_ENGINE_EMPTIED (R181): An engine being taken out has no run left; its contexts are cleared and it reads as taken out. -/
  | mapEngineEmptied (e : Nat)
  /-- PROG_ENABLE (R179): MAP_PROG_CMD enable returns a program to ENABLED and clears its consecutive count. -/
  | progEnable (r : Req) (p : Nat)
  /-- PROG_DISABLE (R180): MAP_PROG_CMD disable stops dispatch of a program's runs and makes it DRAINING or DISABLED. -/
  | progDisable (r : Req) (p : Nat)
  /-- PROG_CLEAR_COUNTERS (R175): MAP_PROG_CMD command 3 clears a program's counters. -/
  | progClearCounters (r : Req) (p : Nat)
  /-- PROG_DRAIN_COMPLETE (R180): A DRAINING program has no run queued or running, and it becomes DISABLED. -/
  | progDrainComplete (p : Nat)
  /-- PROG_DRAIN_LIMIT (R180): The drain limit of a program expires; its unstarted queued runs are discarded and it becomes DISABLED. -/
  | progDrainLimit (p : Nat)
  /-- CYC_ENABLE (R173): MAP_CYC_CMD enable makes a cyclic slot ENABLED. -/
  | cycEnable (r : Req) (i : Nat)
  /-- CYC_DISABLE (R173): MAP_CYC_CMD disable makes a cyclic slot DISABLED. -/
  | cycDisable (r : Req) (i : Nat)
  /-- CYC_CLEAR_OVERLAP (R174): MAP_CYC_CMD command 3 clears a slot's overlap count. -/
  | cycClearOverlap (r : Req) (i : Nat)
  /-- MAP_CNT_CLEAR_GLOBAL (R183): MAP_CNT_CLEAR bit 0 clears MAP_CNT_SATURATE to MAP_CNT_CYC_SKIP. -/
  | mapCntClearGlobal (r : Req)
  /-- MAP_CNT_CLEAR_PROGRAMS (R183): MAP_CNT_CLEAR bit 1 clears the counters of every program. -/
  | mapCntClearPrograms (r : Req)
  /-- COMMIT (R15): The commit point assigns a delivery index to a sentence and charges its buffer bytes to its leaf. -/
  | commit
  /-- REPLICATE (R210): The replicator expands a committed sentence into copies by reference for ports, listeners, lanes, JN, IU, ST and BG. -/
  | replicate
  /-- EGRESS_SCHEDULE (R190): The egress scheduler moves a copy from its class list into the port egress queue, charging egress bytes and applying the oasis share and over-budget policy. -/
  | egressSchedule (q : Nat)
  /-- COPY_START (R221): An encoder begins a copy: it fixes the departure stamp, consumes a sequence number, fills markers, inserts PTP times, repairs checks and starts a seal. -/
  | copyStart (q : Nat)
  /-- SEAL_TAG_COMPLETE (R226): A seal tag completes and the vault rechecks the slot; the tag is sent, or the frame is ended invalid and the copy goes to the bog. -/
  | sealTagComplete (q : Nat)
  /-- CAN_ARBITRATION_LOST (R221): A CAN copy loses arbitration, and it will receive a new departure stamp at its next attempt. -/
  | canArbitrationLost (q : Nat)
  /-- CAN_ARBITRATION_TIMEOUT (R220): A CAN copy has not won arbitration within 2 periods and is dropped. -/
  | canArbitrationTimeout (q : Nat)
  /-- LINK_DOWN_HOLD_EXPIRY (R229): down_hold passes on a link that is down; waiting copies are discarded, as are later copies until link-up. -/
  | linkDownHoldExpiry (q : Nat)
  /-- PREEMPT_VERIFY_DONE (R230): IEEE 802.3br verification on a port ends with success or failure. -/
  | preemptVerifyDone (q : Nat) (ok : Bool)
  /-- LISTENER_ENABLE (R214): EGR_LISTENER_CMD enable makes a listener ENABLED without replay. -/
  | listenerEnable (r : Req) (l : Nat)
  /-- LISTENER_DISABLE (R214): EGR_LISTENER_CMD disable makes a listener DRAINING. -/
  | listenerDisable (r : Req) (l : Nat)
  /-- LISTENER_JOIN (R215): EGR_LISTENER_CMD join enables a listener and starts a replay of current values, unless four replays are already running. -/
  | listenerJoin (r : Req) (l : Nat)
  /-- LISTENER_LEAVE (R214): EGR_LISTENER_CMD leave makes a listener DISABLED at once and discards its queued copies. -/
  | listenerLeave (r : Req) (l : Nat)
  /-- LISTENER_CLEAR_COUNTERS (R214): EGR_LISTENER_CMD command 5 clears a listener's counters. -/
  | listenerClearCounters (r : Req) (l : Nat)
  /-- LISTENER_DRAIN_COMPLETE (R214): A DRAINING listener has no queued copy left and becomes DISABLED. -/
  | listenerDrainComplete (l : Nat)
  /-- LISTENER_DRAIN_LIMIT (R214): The drain limit of a listener expires; leftovers are discarded and EGR_DRAIN_LOSS is reported. -/
  | listenerDrainLimit (l : Nat)
  /-- REPLAY_COPY (R215): The replayer yields the next last value to a joining listener as a late class-7 copy, and the join queue is released when replay ends. -/
  | replayCopy (l : Nat)
  /-- REPLAY_LIMIT_EXPIRY (R216): A replay exceeds its limit in periods; the remaining values are abandoned and the join queue is released. -/
  | replayLimitExpiry (l : Nat)
  /-- EGRESS_PORT_ENABLE (R231): Writing 1 to EGR_PORT_CTRL.enable makes an egress port ENABLED. -/
  | egressPortEnable (r : Req) (q : Nat)
  /-- EGRESS_PORT_DISABLE (R231): Writing 0 to EGR_PORT_CTRL.enable stops copies for the port and makes it DRAINING. -/
  | egressPortDisable (r : Req) (q : Nat)
  /-- EGRESS_PORT_DRAIN_COMPLETE (R231): A DRAINING egress port has sent all its queued copies and becomes DISABLED. -/
  | egressPortDrainComplete (q : Nat)
  /-- EGRESS_PORT_DRAIN_LIMIT (R231): The drain limit of an egress port expires, and its leftovers are discarded. -/
  | egressPortDrainLimit (q : Nat)
  /-- EGR_CNT_CLEAR_GLOBAL (R240): EGR_CNT_CLEAR bit 0 clears EGR_CNT_DROP to EGR_CNT_REPLAY. -/
  | egrCntClearGlobal (r : Req)
  /-- EGR_CNT_CLEAR_PORTS (R240): EGR_CNT_CLEAR bit 1 clears every EGR_PORT_DROP[q]. -/
  | egrCntClearPorts (r : Req)
  /-- JOURNAL_RECORD (R233): The journal writer takes a copy from the JN queue and appends its record, preceded by any LOSS or GENERATION mark due. -/
  | journalRecord
  /-- JOURNAL_CLOSE_TIMEOUT (R236): close_ms passes after a block's first record, and the block closes. -/
  | journalCloseTimeout
  /-- JOURNAL_SCAN_DONE (R237): The start scan of the journal area ends; the writer takes its first block number and begins recording. -/
  | journalScanDone
  /-- JOURNAL_EXPORT (R239): JRN_EXPORT_CMD starts the copy of a closed block into lane memory, or reports NOT_FOUND or BUSY. Operand: the value written to JRN_EXPORT_CMD. -/
  | journalExport (r : Req) (value : Word)
  /-- JOURNAL_EXPORT_DONE (R239): An export copy ends; JRN_EXPORT_STATUS reads DONE or OVERWRITTEN and the export vector is raised. -/
  | journalExportDone
  /-- JOURNAL_ENABLE (R231): Writing 1 to JRN_CTRL.enable enables recording. -/
  | journalEnable (r : Req)
  /-- JOURNAL_DISABLE (R231): Writing 0 to JRN_CTRL.enable makes the journal DRAINING. -/
  | journalDisable (r : Req)
  /-- JOURNAL_DRAIN_COMPLETE (R231): The DRAINING journal has recorded all its queued copies and becomes DISABLED. -/
  | journalDrainComplete
  /-- JOURNAL_DRAIN_LIMIT (R231): The journal's drain limit expires, and its leftovers are discarded. -/
  | journalDrainLimit
  /-- JRN_CNT_CLEAR_COUNTERS (R240): JRN_CNT_CLEAR bit 0 clears JRN_CNT_RECORDS to JRN_CNT_SEAL_FAIL. -/
  | jrnCntClearCounters (r : Req)
  /-- JOURNAL_RESTART (R238): JRN_CNT_CLEAR restart resumes recording in STOP mode from the next block number. -/
  | journalRestart (r : Req)
  /-- LANE_COPY_WRITE (R246): A lane copy, FENCE or MARK at the head of a lane list is written to the lane's rings once room is free, followed by the writeback block. Operand: the lane. -/
  | laneCopyWrite (k : Nat)
  /-- LANE_HOLD_EXPIRY (R254): The head of a lane list waits hold_us; a gap episode begins and the lane list is discarded. -/
  | laneHoldExpiry (k : Nat)
  /-- GAP_WRITE (R255): A quarter of the ring and of the data ring is free, and the GAP descriptor is written, ending the episode. -/
  | gapWrite (k : Nat)
  /-- RX_TAIL_WRITE (R244): A write to LNI_RX_TAIL frees ring space, or is discarded if it is invalid. -/
  | rxTailWrite (r : Req) (k : Nat) (value : Word)
  /-- LANE_DELIVERY_ENABLE (R247): Writing 1 to LNI_CTRL.rx_enable makes lane delivery ENABLED. -/
  | laneDeliveryEnable (r : Req) (k : Nat)
  /-- LANE_DELIVERY_DISABLE (R247): Writing 0 to LNI_CTRL.rx_enable makes lane delivery DRAINING. -/
  | laneDeliveryDisable (r : Req) (k : Nat)
  /-- LANE_DRAIN_COMPLETE (R247): A DRAINING lane list becomes empty and delivery becomes DISABLED. -/
  | laneDrainComplete (k : Nat)
  /-- LANE_DRAIN_LIMIT (R247): The drain limit of lane delivery expires; leftovers are lost and delivery becomes DISABLED. -/
  | laneDrainLimit (k : Nat)
  /-- TX0_ENABLE_WRITE (R258): A write to LNI_CTRL.tx0_enable starts or stops fetching from TX0. -/
  | tx0EnableWrite (r : Req) (k : Nat) (on : Bool)
  /-- TX1_ENABLE_WRITE (R258): A write to LNI_CTRL.tx1_enable starts or stops fetching from TX1. -/
  | tx1EnableWrite (r : Req) (k : Nat) (on : Bool)
  /-- TX_TAIL_WRITE (R258): A write to a transmit ring tail makes new descriptors available, or is discarded if it is invalid. -/
  | txTailWrite (r : Req) (k : Nat) (ring1 : Bool) (value : Word)
  /-- LANE_LINK_DOWN (R257): A lane's PCIe link goes down; copies for it are discarded and LNI_LINK_DOWN is reported. -/
  | laneLinkDown (k : Nat)
  /-- LANE_LINK_UP (R257): A lane's PCIe link comes up. -/
  | laneLinkUp (k : Nat)
  /-- LNI_CNT_CLEAR (R273): LNI_CNT_CLEAR clears the counters of the selected lane blocks. -/
  | lniCntClear (r : Req) (value : Word)
  /-- TX_FETCH_COMPLETE (R259): A transmit descriptor and its payload have been fetched, and the voter judges the copy. Operands: the lane, the ring, the descriptor and the payload fetched. -/
  | txFetchComplete (k : Nat) (ring1 : Bool) (desc payload : Bytes)
  /-- WINDOW_TIMEOUT (R263): win_us passes after a window opened, and the window closes. Operands: the tag. -/
  | windowTimeout (v cycle index : Nat)
  /-- LANE_OUT_CMD (R270): VOT_LANE_CMD out sends a lane OUT where the command is valid. -/
  | laneOutCmd (r : Req) (k : Nat)
  /-- LANE_RETURN_CMD (R270): VOT_LANE_CMD return moves an OUT lane to RETURNING or IN where the command is valid. -/
  | laneReturnCmd (r : Req) (k : Nat)
  /-- VOTER_STREAM_ENABLE (R268): VOT_STREAM_CMD enable makes a voter stream ENABLED. -/
  | voterStreamEnable (r : Req) (v : Nat)
  /-- VOTER_STREAM_DISABLE (R268): VOT_STREAM_CMD disable makes a voter stream DRAINING. -/
  | voterStreamDisable (r : Req) (v : Nat)
  /-- VOTER_STREAM_CLEAR (R268): VOT_STREAM_CMD command 3 clears a voter stream's counters. -/
  | voterStreamClear (r : Req) (v : Nat)
  /-- VOTER_STREAM_DRAIN_LIMIT (R268): The drain limit of a voter stream expires; open windows close without release and the stream becomes DISABLED. -/
  | voterStreamDrainLimit (v : Nat)
  /-- VOT_CNT_CLEAR_GLOBAL (R274): VOT_CNT_CLEAR bit 0 clears VOT_CNT_RELEASED to VOT_CNT_DRAIN. -/
  | votCntClearGlobal (r : Req)
  /-- VOT_CNT_CLEAR_LANES (R274): VOT_CNT_CLEAR bit 1 clears every per-lane counter. -/
  | votCntClearLanes (r : Req)
  /-- VOT_CNT_CLEAR_STREAMS (R274): VOT_CNT_CLEAR bit 2 clears the counters of every voter stream. -/
  | votCntClearStreams (r : Req)
  /-- BRIDGE_DIRECT_READ (R286): A BAR2 read of a field window is served from the read cache or issued to the far side, and completes with data or Completer Abort. Operands: endpoint, function, window, offset in the aperture, bytes, PCIe tag. -/
  | bridgeDirectRead (lane : Nat) (guard : Bool) (w offset len tag : Nat)
  /-- BRIDGE_DIRECT_WRITE (R288): A BAR2 write is accepted as a posted write, or is discarded and logged as REFUSED. -/
  | bridgeDirectWrite (lane : Nat) (guard : Bool) (w offset : Nat) (data : Bytes)
  /-- BRG_CMD_READ (R284): A fetched READ command reads a window into lane memory. Operands: the descriptor; an op that no row names (not 1 to 4) is fetched here. -/
  | brgCmdRead (lane : Nat) (guard : Bool) (op w tag offset len buffer : Nat)
  /-- BRG_CMD_WRITE (R284): A fetched WRITE command writes a window and completes only on far-side confirmation. Operands: the descriptor, the data at its buffer. -/
  | brgCmdWrite (lane : Nat) (guard : Bool) (w tag offset len : Nat) (data : Bytes)
  /-- BRG_CMD_SEM_ACQUIRE (R296): A fetched SEM_ACQUIRE command takes or renews a semaphore, or completes with SEM_BUSY. -/
  | brgCmdSemAcquire (lane : Nat) (guard : Bool) (sem tag : Nat)
  /-- BRG_CMD_SEM_RELEASE (R296): A fetched SEM_RELEASE command frees a semaphore held by the issuer, or completes with SEM_NOT_HELD. -/
  | brgCmdSemRelease (lane : Nat) (guard : Bool) (sem tag : Nat)
  /-- BRG_RING_ENABLE (R283): A write to BRG_CR_CTRL.enable turns a command ring set on or off and restarts its heads and tails. Operands: requester, ring set (2 × lane + world), the value written to BRG_CR_CTRL. -/
  | brgRingEnable (r : Req) (kw : Nat) (value : Word)
  /-- EXCHANGE_ISSUE (R278): A far-side exchange within its limits is handed to BG port staging as a bridge-talker sentence. -/
  | exchangeIssue
  /-- RESPONSE_MATCH (R279): The response matcher takes a BG copy, which updates a mirror block, triggers a mirror reply or completes an outstanding request. Operand: whether the lane's own completion timeout has passed for the direct read answered. -/
  | responseMatch (gone : Bool)
  /-- EXCHANGE_TIMEOUT (R281): An exchange's timeout expires; a read is retried, and otherwise the exchange fails with TIMEOUT. Operand: the number of the exchange. -/
  | exchangeTimeout (ex : Nat)
  /-- LATE_LOG_RELEASE (R292): BRG_LATE_ACK releases late-fault log entries, oldest first. Operands: requester, lane, the value written to BRG_LATE_ACK. -/
  | lateLogRelease (r : Req) (k : Nat) (value : Word)
  /-- LATE_UNFENCE (R292): BRG_LATE_ACK with unfence = 1 lifts a lane's fence on a window. Operands: requester, lane, the value written to BRG_LATE_ACK. -/
  | lateUnfence (r : Req) (k : Nat) (value : Word)
  /-- PREFETCH_COMPLETE (R293): A prefetch's remaining bytes arrive and fill a read-cache entry, unless a write invalidated it. -/
  | prefetchComplete
  /-- SEM_ACQUIRE_REG (R296): BRG_SEM_CMD acquire takes or renews a semaphore for the writer's lane and world. -/
  | semAcquireReg (r : Req) (n : Nat)
  /-- SEM_RELEASE_REG (R296): BRG_SEM_CMD release frees a semaphore held by the writer. -/
  | semReleaseReg (r : Req) (n : Nat)
  /-- SEM_LEASE_EXPIRY (R297): A semaphore lease passes without renewal; the semaphore is freed and BRG_SEM_EXPIRED is reported. -/
  | semLeaseExpiry (n : Nat)
  /-- WINDOW_ENABLE (R305): BRG_WIN_CMD enable makes a window ENABLED. -/
  | windowEnable (r : Req) (w : Nat)
  /-- WINDOW_DISABLE (R305): BRG_WIN_CMD disable makes a window DRAINING and refuses new requests. -/
  | windowDisable (r : Req) (w : Nat)
  /-- WINDOW_CLEAR_COUNTERS (R305): BRG_WIN_CMD command 3 clears a window's counters. -/
  | windowClearCounters (r : Req) (w : Nat)
  /-- WINDOW_DRAIN_LIMIT (R305): The drain limit of a window expires; unconfirmed requests complete with ABORTED and the window becomes DISABLED. -/
  | windowDrainLimit (w : Nat)
  /-- BRG_CNT_CLEAR_GLOBAL (R309): BRG_CNT_CLEAR bit 0 clears BRG_CNT_REQUESTS to BRG_CNT_MIRROR_EMPTY. -/
  | brgCntClearGlobal (r : Req)
  /-- BRG_CNT_CLEAR_WINDOWS (R309): BRG_CNT_CLEAR bit 1 clears the counters of every window. -/
  | brgCntClearWindows (r : Req)
  /-- PERIOD_BOUNDARY (R321): A period boundary occurs, from device time or from a cadence cycle start, and advances Q. -/
  | periodBoundary
  /-- CHECKPOINT_LATE (R391): A PEAT_COMMIT has not been sent within I/2 periods; the checkpoint is abandoned and its blocks join the next one. -/
  | checkpointLate
  /-- PACE_UPDATE (R201): Every 10 µs, each region's pace is recomputed from its canary rings, and DEV_PACE_LOW is reported where the pace is below pace_floor. Operands: for each canary ring its region (0 FAB, 1 CLS, 2 MAP, 3 BUF), its number and its measured lap time in ps. -/
  | paceUpdate (laps : List (Nat × Nat × Nat))
  /-- NODE_ENABLE (R195): BGT_NODE_CMD enable makes a budget node and its subtree ENABLED. -/
  | nodeEnable (r : Req) (n : Nat)
  /-- NODE_DISABLE (R195): BGT_NODE_CMD disable stops admission under a node and makes it DRAINING. -/
  | nodeDisable (r : Req) (n : Nat)
  /-- NODE_CLEAR_COUNTERS (R195): BGT_NODE_CMD command 3 clears the subtree's counters. -/
  | nodeClearCounters (r : Req) (n : Nat)
  /-- NODE_TAKE_OUT (R195): BGT_NODE_CMD take out makes a subtree read FAULTED and clears its credits and holds. -/
  | nodeTakeOut (r : Req) (n : Nat)
  /-- NODE_RETURN (R195): BGT_NODE_CMD return rewrites a subtree from the active budget region. -/
  | nodeReturn (r : Req) (n : Nat)
  /-- NODE_DRAIN_LIMIT (R195): The drain limit of a node expires; leftovers are discarded as drain loss and the node becomes DISABLED with its credits cleared. -/
  | nodeDrainLimit (n : Nat)
  /-- BGT_CNT_CLEAR_GLOBAL (R207): BGT_CNT_CLEAR bit 0 clears BGT_CNT_REFUSED_BUF to BGT_CNT_HOLD_FULL. -/
  | bgtCntClearGlobal (r : Req)
  /-- BGT_CNT_CLEAR_NODES (R207): BGT_CNT_CLEAR bit 1 clears the counters of every node. -/
  | bgtCntClearNodes (r : Req)
  /-- BGT_CNT_CLEAR_PACE (R201): BGT_CNT_CLEAR bit 2 resets every pace_min. -/
  | bgtCntClearPace (r : Req)
  /-- INC_STAGE (R314): A write to TIM_INC_LO stages the increment fraction. -/
  | incStage (r : Req) (value : Word)
  /-- INC_COMMIT (R314): A write to TIM_INC_HI commits the staged fraction and the integer from the next tick, clamped to inc_bound. -/
  | incCommit (r : Req) (value : Word)
  /-- TIME_STEP (R316): TIM_ADJ_CMD step adds TIM_ADJ to device time at one tick and places TIME_STEP marks. -/
  | timeStep (r : Req)
  /-- TIME_SLEW (R316): TIM_ADJ_CMD slew adds TIM_ADJ to the slew remainder. -/
  | timeSlew (r : Req)
  /-- TIME_SET (R316): TIM_ADJ_CMD set writes the TIM_SET stamp into device time, treated as a step. -/
  | timeSet (r : Req)
  /-- SLEW_COMPLETE (R316): The slew remainder is used up. -/
  | slewComplete
  /-- LEAP_ARM (R320): A write to TIM_LEAP_CTRL announces a leap second, or is discarded if T_L is invalid. -/
  | leapArm (r : Req) (value : Word)
  /-- LEAP_APPLY (R319): Device time reaches T_L; TIM_UTC_OFFSET changes by one and leap returns to none. -/
  | leapApply
  /-- TRIGGER_ARM (R325): TIM_TRG_CMD arm takes a trigger's record and arms it. -/
  | triggerArm (r : Req) (t : Nat)
  /-- TRIGGER_DISARM (R325): TIM_TRG_CMD disarm disarms a trigger at once. -/
  | triggerDisarm (r : Req) (t : Nat)
  /-- TRIGGER_FIRE (R324): A trigger reaches its firing time; it pulses its pin, starts its cyclic slots and raises its vector. -/
  | triggerFire (t : Nat)
  /-- TRIGGER_PULSE_END (R326): A trigger pulse's width passes, and the pin returns to its inactive level. -/
  | triggerPulseEnd (t : Nat)
  /-- CAPTURE_EDGE (R328): An accepted edge on CAP0–CAP7 is stamped and queued, or lost. Operands: the input, its new level, the stamp at which the edge reached the ball. -/
  | captureEdge (c : Nat) (level : Bool) (t : Nat)
  /-- CAPTURE_READ (R329): A read of TIM_CAP_LO removes the oldest capture and latches its upper half. -/
  | captureRead (r : Req) (c : Nat)
  /-- DEPARTURE_LOG_READ (R331): A read of TIM_DEP_INFO removes the oldest departure entry and latches its stamp. -/
  | departureLogRead (r : Req)
  /-- REFCLK_LOST (R332): REFCLK stops or departs by more than 1,000 ppm; holdover begins and TIM_REF_LOST is reported. -/
  | refclkLost
  /-- REFCLK_RETURNED (R333): REFCLK has been valid for 10 ms, and the PLL starts pulling to it. -/
  | refclkReturned
  /-- HOLDOVER_END (R333): The PLL reaches lock after the reference returns, and holdover ends. -/
  | holdoverEnd
  /-- HOLDOVER_LONG (R334): One holdover episode lasts holdover_s; holdover_long is set and the steward's reaction follows. -/
  | holdoverLong
  /-- TIM_CNT_CLEAR_GLOBAL (R335): TIM_CNT_CLEAR bit 0 clears TIM_CNT_FOREIGN and TIM_CNT_STEP to TIM_CNT_DEP_LOST. -/
  | timCntClearGlobal (r : Req)
  /-- TIM_CNT_CLEAR_TRIGGERS (R327): TIM_CNT_CLEAR bit 1 clears every trigger's missed and fired counts. -/
  | timCntClearTriggers (r : Req)
  /-- TIM_CNT_CLEAR_CAPTURES (R329): TIM_CNT_CLEAR bit 2 clears every capture lost count. -/
  | timCntClearCaptures (r : Req)
  /-- CDB_CYCLE_START (R336): A cadence cycle starts; the cycle counter advances, the guardian is told and the DT and cadence-time pair is captured. -/
  | cdbCycleStart
  /-- CDB_IDLE_SEGMENT (R350): At the start of the idle segment, the offset and rate corrections are computed and applied. -/
  | cdbIdleSegment
  /-- CB_FRAME_END (R342): A cadence frame ends on a channel; it is checked, windowed, used for synchronisation and delivered. -/
  | cbFrameEnd (chB : Bool) (bs : Bytes) (raw rawEnd : Nat) (good : Bool)
  /-- CDB_SLOT_TRANSMIT (R346): An own or held slot is reached, and its frame content is fixed and sent if the guardian permits. -/
  | cdbSlotTransmit (k : Nat) (outside : Bool)
  /-- LISTEN_TIMEOUT (R355): The listen timeout expires; a cold-start node of an ACTIVE unit enters COLDSTART, and any other node restarts the timeout. -/
  | listenTimeout
  /-- STARTUP_COMPLETE (R356): Four startup cycles pass without abandonment, and the node enters SYNC. -/
  | startupComplete
  /-- INTEGRATION_COMPLETE (R358): An integrating node completes a qualifying cycle and enters SYNC. -/
  | integrationComplete
  /-- PASSIVE_RECOVERY (R353): Four consecutive cycles in PASSIVE are not flagged, and the engine returns to SYNC. -/
  | passiveRecovery
  /-- PASSIVE_TIMEOUT (R353): 16 cycles pass in PASSIVE without a return to SYNC, and the engine enters LISTEN. -/
  | passiveTimeout
  /-- SYNC_LOST_TIMEOUT (R360): No other node's sync frame is accepted for sync_lost cycles, and a non-sync node enters LISTEN. -/
  | syncLostTimeout
  /-- CHANNEL_LOST (R343): A cadence channel delivers nothing for chan_limit cycles while the other delivers. -/
  | channelLost (chB : Bool)
  /-- ENGINE_ENABLE (R353): Writing 1 to CDB_CTRL.engine_en moves the engine from OFF to LISTEN. -/
  | engineEnable (r : Req)
  /-- ENGINE_DISABLE (R353): Writing 0 to CDB_CTRL.engine_en turns the engine OFF and stops transmission. -/
  | engineDisable (r : Req)
  /-- CDB_RESTART (R353): CDB_CMD restart sends the engine to LISTEN. -/
  | cdbRestart (r : Req)
  /-- SLOT_CLAIM (R364): CDB_CLAIM_CMD claim starts claiming a FREE spare slot. -/
  | slotClaim (r : Req) (k : Nat)
  /-- SLOT_RELEASE (R366): CDB_CLAIM_CMD release sends one release frame and frees the slot. -/
  | slotRelease (r : Req) (k : Nat)
  /-- CLAIM_CONFIRMED (R364): Three clean claim cycles pass, and the slot becomes HELD. -/
  | claimConfirmed (k : Nat)
  /-- CLAIM_BACKOFF_END (R365): The backoff after a conflict ends, and claiming resumes unless the slot is TAKEN. -/
  | claimBackoffEnd (k : Nat)
  /-- CLAIM_LAPSE (R366): A TAKEN slot stays silent for claim_lapse cycles and becomes FREE. -/
  | claimLapse (k : Nat)
  /-- CDB_CNT_CLEAR_GLOBAL (R369): CDB_CNT_CLEAR bit 0 clears CDB_CNT_EDGE to CDB_CNT_SLOT_DROP. -/
  | cdbCntClearGlobal (r : Req)
  /-- CDB_CNT_CLEAR_NODES (R352): CDB_CNT_CLEAR bit 1 clears the arrival counts of every node. -/
  | cdbCntClearNodes (r : Req)
  /-- LEASE_GRANT (R375): RED_GRANT_CMD grant renews a lane's grant, records a new epoch, or is rejected. of lane k -/
  | leaseGrant (r : Req) (k : Nat)
  /-- LEASE_WITNESS (R379): RED_GRANT_CMD witness records the epoch, and a higher epoch makes an ACTIVE unit close its gate. -/
  | leaseWitness (r : Req) (k : Nat)
  /-- LEASE_REVOKE (R373): RED_GRANT_CMD revoke withdraws a lane's grant at once. -/
  | leaseRevoke (r : Req) (k : Nat)
  /-- GRANT_BECOMES_CURRENT (R375): A new-epoch grant reaches its not-before time; a majority of it is adopted and a takeover begins. -/
  | grantBecomesCurrent (k : Nat)
  /-- GRANT_LAPSE (R374): A lane's grant passes L × (1 − 200 ppm) without renewal; where the majority ends, the gate closes and RED_LEASE_LOST is reported. -/
  | grantLapse (k : Nat)
  /-- TAKEOVER_COMPLETE (R397): A shadow, warm or cold takeover completes; the generation changes, the sequence jumps apply and the gate opens. Operands: what the memory BIST of a warm start that must run it found, as in SRAM_BIST_DONE. -/
  | takeoverComplete (banks : List Nat) (other : Bool)
  /-- RELINQUISH_CMD (R378): RED_CMD relinquish makes an ACTIVE unit close its gate, set relinquished and announce RELINQUISH. -/
  | relinquishCmd (r : Req)
  /-- JOIN_CMD (R405): RED_CMD join makes a standby send JOIN to the peer. -/
  | joinCmd (r : Req)
  /-- HEARTBEAT_SEND (R386): Every 100 µs, a unit sends a heartbeat on both inter-unit paths. -/
  | heartbeatSend
  /-- HEARTBEAT_RECEIVED (R387): A peer heartbeat is accepted, and RED_PEER_OFFSET and RED_PEER_DELAY are computed. -/
  | heartbeatReceived (h : IuHead) (tx rx : Nat) (echo : Option (Nat × Nat))
  /-- MIRROR_RECEIVED (R381): The standby receives a mirrored record and classifies it as the active would. -/
  | mirrorReceived (h : IuHead) (n : Nat) (m : MirrorRec)
  /-- COMMIT_LOG_RECEIVED (R382): The standby commits in the order and with the indices of the received commit log. -/
  | commitLogReceived (h : IuHead) (e : LogEnt)
  /-- DIGEST_RECEIVED (R383): The peer's period digest is compared, and a mismatch starts the divergence procedure. -/
  | digestReceived (h : IuHead) (q d : Nat)
  /-- DIVERGENCE_DECIDE (R384): Both self-test results are in, or 50 ms have passed, and the divergence outcome is applied. -/
  | divergenceDecide
  /-- PEAT_BLOCK_RECEIVED (R393): The standby writes a received sealed peat block into staging. -/
  | peatBlockReceived (h : IuHead) (b : Nat) (x : PeatBlk)
  /-- PEAT_COMMIT_RECEIVED (R393): A PEAT_COMMIT whose blocks have all arrived starts the copy into the image. -/
  | peatCommitReceived (h : IuHead) (q : Nat) (blocks : List Nat) (full : Bool)
  /-- PEAT_IMAGE_COPY_DONE (R393): The peat blocks have been copied into the image; the checkpoint's Q is recorded and confirmed to the active. -/
  | peatImageCopyDone
  /-- RELINQUISH_RECEIVED (R378): A CONTROL frame carrying RELINQUISH from the peer is accepted. -/
  | relinquishReceived (h : IuHead)
  /-- JOIN_RECEIVED (R391): A CONTROL frame carrying JOIN is accepted, and a full peat is scheduled. -/
  | joinReceived (h : IuHead)
  /-- IU_COPY_RECEIVED (R388): A copy carried over the inter-unit link is handed to the steward intake. -/
  | iuCopyReceived (h : IuHead) (stamp : Nat) (payload : Bytes)
  /-- IU_PATH_LOST (R386): An inter-unit path delivers nothing for 1 ms, and the link is lost when both paths are. The operand names IU-B. -/
  | iuPathLost (b : Bool)
  /-- PEAT_STALE (R395): The standby's peat becomes stale under the witness rule, and RED_PEAT_STALE is reported. -/
  | peatStale
  /-- RED_CNT_CLEAR (R407): RED_CNT_CLEAR clears the RED counters. -/
  | redCntClear (r : Req)
  /-- KVT_GENERATE (R409): KVT_CMD GENERATE fills the pending half from the DRBG. Operands: requester, target slot. -/
  | kvtGenerate (r : Req) (k : Nat)
  /-- KVT_DERIVE (R413): KVT_CMD DERIVE fills the pending half by SP 800-108 derivation. Operands: requester, target, parent slot, label index. -/
  | kvtDerive (r : Req) (k source label : Nat)
  /-- KVT_UNWRAP (R412): KVT_CMD UNWRAP fills the pending half by AES-KW unwrap of a blob in lane memory. Operands: requester, target, unwrapping slot, the blob lane memory holds at KVT_ADDR. -/
  | kvtUnwrap (r : Req) (k source : Nat) (blob : Bytes)
  /-- KVT_LOAD (R411): KVT_CMD LOAD fills the pending half from KVT_LOAD. -/
  | kvtLoad (r : Req) (k : Nat)
  /-- KVT_COMMIT (R414): KVT_CMD COMMIT swaps in a verified pending half and raises the generation. -/
  | kvtCommit (r : Req) (k : Nat)
  /-- KVT_DISCARD (R414): KVT_CMD DISCARD clears the pending half. -/
  | kvtDiscard (r : Req) (k : Nat)
  /-- KVT_INVALIDATE (R416): KVT_CMD INVALIDATE raises the generation and orphans the descendants. -/
  | kvtInvalidate (r : Req) (k : Nat)
  /-- KVT_ZEROIZE (R416): KVT_CMD ZEROIZE clears both halves and raises the generation. -/
  | kvtZeroize (r : Req) (k : Nat)
  /-- KVT_CLEAR (R410): KVT_CMD CLEAR makes an ORPHANED or ZEROIZED slot EMPTY. -/
  | kvtClear (r : Req) (k : Nat)
  /-- KVT_WRAP (R411): KVT_CMD WRAP writes an AES-KW blob of the target key to lane memory. -/
  | kvtWrap (r : Req) (k source : Nat)
  /-- NEW_ROOT (R409): KVT_CMD NEW_ROOT generates a new root. -/
  | newRoot (r : Req)
  /-- KCV_CHECK (R414): KVT_KCV_CHECK verifies or clears a slot's pending half. Operands: requester, slot, expected value. -/
  | kcvCheck (r : Req) (k value : Nat)
  /-- KVT_OP_COMPLETE (R415): A vault operation completes, and the chain check suppresses its output where the key has become orphaned. Operands: the operation's user and its number; user 255 is the KVT_CMD in progress. -/
  | kvtOpComplete (user ident : Nat)
  /-- ORPHAN_SWEEP_DONE (R416): The background sweep has marked every descendant ORPHANED. -/
  | orphanSweepDone
  /-- REMASK (R422): Every 10 s, the vault draws a new mask and rewrites and relocates every slot. -/
  | remask
  /-- LIFECYCLE_MOVE (R424): The KVT_LC_CMD sequence moves the life-cycle state one step forward. Operand: the value written to KVT_LC_CMD. -/
  | lifecycleMove (r : Req) (value : Word)
  /-- DEBUG_OPEN (R425): A debug request or a verified token over IEEE 1149.1 opens debug, and the test root stands in for the real one. Operands: the debug token presented. -/
  | debugOpen (pubkey token sig : Bytes)
  /-- TAMPER_DETECT (R427): A tamper sensor trips; the root is zeroed, a log entry is written and the slots are zeroed. Operand: the sensor. -/
  | tamperDetect (code : Nat)
  /-- TAMPER_STATUS_CLEAR (R427): KVT_TAMPER_CLEAR bit 0 clears KVT_TAMPER_STATUS while a root exists. -/
  | tamperStatusClear (r : Req)
  /-- TAMPER_LOG_CLEAR (R428): KVT_TAMPER_CLEAR bit 1 empties the tamper log. -/
  | tamperLogClear (r : Req)
  /-- KVT_CNT_CLEAR (R431): KVT_CNT_CLEAR clears the KVT counters. -/
  | kvtCntClear (r : Req)
  /-- SAFETY_START (R457): PORST_N or SAFE_PORST_N is released; both channels load their parameters, set the start latches and clear the faults. -/
  | safetyStart
  /-- SAFE_PORST_ASSERT (R458): SAFE_PORST_N falls, and both safety channels are held in reset with every drive pin low. -/
  | safePorstAssert
  /-- SAFE_H_CYCLE (R441): A SAFE_H evaluation cycle evaluates its inputs, speed, functions, button and outputs. Operand: the levels read in this cycle. -/
  | safeHCycle (i : SafIn)
  /-- SAFE_P_EVALUATE (R443): A SAFE_P evaluation evaluates the functions, pairs, button and outputs. Operand: the samples taken since the last evaluation, in order. -/
  | safePEvaluate (is : List SafIn)
  /-- ODO_EDGE (R440): A quadrature transition on an odometry input is counted, or counted as illegal. Operands: the input, its levels after the transition, the 2.5 ns tick within the sample. -/
  | odoEdge (odo : Nat) (a b : Bool) (sub : Nat)
  /-- CROSSLINK_FRAME_SEND (R434): Each channel sends its 32-byte cross-link frame every 100 µs. Operand: 1 SAFE_H, 2 SAFE_P. -/
  | crosslinkFrameSend (who : Nat)
  /-- CROSSLINK_FRAME_RECEIVED (R434): A channel receives a cross-link frame and takes the other channel's data from it. Operands: the receiving channel, whether the CRC-16 is right. -/
  | crosslinkFrameReceived (who : Nat) (intact : Bool)
  /-- CROSSLINK_STALE (R434): No good frame arrives for 350 µs, and SAF_CHANNEL_MISMATCH with cause LINK is declared. -/
  | crosslinkStale (who : Nat)
  /-- CLOCK_CHECK (R435): A channel's frame count over its window is checked, and a count out of range declares cause CLOCK. -/
  | clockCheck (who : Nat)
  /-- SAFE_P_LOCKSTEP_FAULT (R436): The SAFE_P cores diverge, and the P pins are driven low. -/
  | safePLockstepFault
  /-- SAFE_P_WATCHDOG_EXPIRY (R436): The SAFE_P watchdog is not served for 2 ms, and the P pins are driven low. -/
  | safePWatchdogExpiry
  /-- PARAM_RECHECK (R438): Each second, each channel recomputes the CRC of its parameter block. Operands: the channel, what its block reads as. -/
  | paramRecheck (who : Nat) (held : Bytes)
  /-- TEST_PULSE_START (R455): An output's off-pulse falls due in its channel's turn, and the pin is driven low for t_pulse. Operands: the channel, the output. -/
  | testPulseStart (who n : Nat)
  /-- TEST_PULSE_END (R455): An off-pulse ends, and its readback is judged. Operands: the channel, the output, whether readback went low in time. -/
  | testPulseEnd (who n : Nat) (low : Bool)
  /-- SAF_CNT_CLEAR (R468): SAF_CNT_CLEAR clears the view's counters. -/
  | safCntClear (r : Req)
  /-- PORST_ASSERT (R524): PORST_N falls; the gate closes, the halt line asserts and every domain except VBAT and AON goes off. -/
  | porstAssert
  /-- PORST_RELEASE (R523): PORST_N is released and the power-up sequence begins. -/
  | porstRelease
  /-- DOMAIN_POWER_STEP (R523): The sequencer switches on the next domain or VDD_FAB step. -/
  | domainPowerStep
  /-- PLL_LOCKED (R523): The REFCLK PLL locks and the derived clocks run. -/
  | pllLocked
  /-- PLL_LOCK_TIMEOUT (R523): The PLL has not locked within 10 ms; PWR_DOMAIN_FAULT is reported and the sequence restarts. -/
  | pllLockTimeout
  /-- DIRECTORY_READ (R470): The loader reads the directory and header and chooses a slot, or enters HALT_SAFE. -/
  | directoryRead
  /-- SRAM_BIST_DONE (R479): SRAM BIST ends; a failed buffer bank is mapped out, and any other failure fails the start. Operands: buffer banks that failed, whether anything else failed. -/
  | sramBistDone (banks : List Nat) (other : Bool)
  /-- DRAM_TRAINED (R479): DRAM training ends, and the body copy to DRAM begins. -/
  | dramTrained (ok : Bool)
  /-- BODY_READ_DONE (R473): The body read ends; the hash and regions are checked, admission is run, the steward starts and STARTING is entered. Operands: VOUT_MODE of the regulator, the version of the firmware started. -/
  | bodyReadDone (vout fw : Nat)
  /-- START_COMPLETE (R479): A grant majority exists or lease_wait_ms passes, and the unit becomes ACTIVE or STANDBY_COLD. -/
  | startComplete
  /-- START_SETTLED (R481): The unit runs 10 s after start completion without an F fault, and its start counter returns to 0. -/
  | startSettled
  /-- START_CLEAR_COUNTERS (R482): CFG_START_CMD 1 clears the start counters. -/
  | startClearCounters (r : Req)
  /-- START_RESTART (R482): CFG_START_CMD 2 restarts the unit, relinquishing first if it is ACTIVE. -/
  | startRestart (r : Req)
  /-- START_CLEAR_AND_RESTART (R482): CFG_START_CMD 3 clears the start counters and restarts. -/
  | startClearAndRestart (r : Req)
  /-- SECVER_RAISE (R473): CFG_SEC_CMD raises CFG_SECVER_MIN to the security version in use. -/
  | secverRaise (r : Req) (value : Word)
  /-- STAGE_DELTA (R484): CFG_STAGE_CMD stage fetches a delta and applies it to the shadows. Operand: the delta fetched, none on a fetch error. -/
  | stageDelta (r : Req) (fetched : Option Bytes)
  /-- VALIDATE_SHADOWS (R485): CFG_STAGE_CMD validate checks the caller's shadows, which become READY or return to IDLE. -/
  | validateShadows (r : Req)
  /-- DISCARD_SHADOWS (R484): CFG_STAGE_CMD discard returns the writer's shadows to IDLE. -/
  | discardShadows (r : Req)
  /-- CFG_CMD_DONE (R485): A staging or validation operation ends, and CFG_CMD_STATUS leaves busy. -/
  | cfgCmdDone
  /-- SWAP_GLOBAL (R486): CFG_SWAP_CMD global schedules all named regions to swap at one boundary. -/
  | swapGlobal (r : Req)
  /-- SWAP_PER_REGION (R486): CFG_SWAP_CMD per region schedules each region to swap when it is READY. -/
  | swapPerRegion (r : Req)
  /-- SWAP_CANCEL (R486): CFG_SWAP_CMD cancel withdraws the pending swaps. -/
  | swapCancel (r : Req)
  /-- PROFILE_STAGE_SWAP (R489): CFG_PROFILE_CMD stages a profile from DRAM and issues a global swap. -/
  | profileStageSwap (r : Req) (n : Nat)
  /-- MERGE_START (R487): No old-tagged sentence remains before commit, or 2 periods have passed, and the overlay merge begins. -/
  | mergeStart
  /-- MERGE_DONE (R487): The overlay merge ends, and the shadow returns to IDLE. -/
  | mergeDone
  /-- REPAIR_PORT_OUT (R490): CFG_REPAIR_CMD takes a port out; it reads FAULTED and is reset. -/
  | repairPortOut (r : Req) (p : Nat)
  /-- REPAIR_PORT_RETURN (R490): CFG_REPAIR_CMD returns a port after reinitialisation and a loopback slice. -/
  | repairPortReturn (r : Req) (p : Nat)
  /-- REPAIR_CLASSIFIER_OUT (R490): CFG_REPAIR_CMD takes a classifier engine out, and the spare takes its ports. -/
  | repairClassifierOut (r : Req) (e : Nat)
  /-- REPAIR_CLASSIFIER_RETURN (R490): CFG_REPAIR_CMD returns a classifier engine, which becomes the spare after a test slice. -/
  | repairClassifierReturn (r : Req) (e : Nat)
  /-- REPAIR_PARTITION_OUT (R109): CFG_REPAIR_CMD takes a stream-table partition out, and its entries read FAULTED. -/
  | repairPartitionOut (r : Req) (p : Nat)
  /-- REPAIR_PARTITION_RETURN (R109): CFG_REPAIR_CMD returns a partition, which is rewritten from the active set. -/
  | repairPartitionReturn (r : Req) (p : Nat)
  /-- REPAIR_BANK_OUT (R490): CFG_REPAIR_CMD starts copying a buffer bank to the spare bank. -/
  | repairBankOut (r : Req) (b : Nat)
  /-- REPAIR_BANK_RETURN (R490): CFG_REPAIR_CMD returns a bank, which becomes the spare after a test slice. -/
  | repairBankReturn (r : Req) (b : Nat)
  /-- BANK_REMAP_DONE (R490): The bank copy ends, and the logical bank is remapped in one step. -/
  | bankRemapDone
  /-- REPAIR_MAP_ENGINE_OUT (R490): CFG_REPAIR_CMD kind 5 takes a mapping engine out, as MAP_ENGINE_CMD does. -/
  | repairMapEngineOut (r : Req) (e : Nat)
  /-- REPAIR_MAP_ENGINE_RETURN (R490): CFG_REPAIR_CMD kind 5 returns a mapping engine, as MAP_ENGINE_CMD does. -/
  | repairMapEngineReturn (r : Req) (e : Nat)
  /-- REPAIR_SUBTREE_OUT (R490): CFG_REPAIR_CMD kind 6 takes a budget subtree out, as BGT_NODE_CMD does. -/
  | repairSubtreeOut (r : Req) (n : Nat)
  /-- REPAIR_SUBTREE_RETURN (R490): CFG_REPAIR_CMD kind 6 returns a budget subtree, as BGT_NODE_CMD does. -/
  | repairSubtreeReturn (r : Req) (n : Nat)
  /-- NVM_ERASE (R492): CFG_NVM_CMD erase clears a 64 KiB sector unless protected. -/
  | nvmErase (r : Req)
  /-- NVM_PROGRAM (R492): CFG_NVM_CMD program writes bytes from lane memory into the NVM unless protected. Operand: the bytes of lane memory at CFG_NVM_SRC. -/
  | nvmProgram (r : Req) (data : Bytes)
  /-- NVM_READ (R492): CFG_NVM_CMD read copies NVM bytes into lane memory. -/
  | nvmRead (r : Req) (len : Nat)
  /-- NVM_OP_DONE (R492): An NVM operation ends, and CFG_NVM_STATUS leaves busy. -/
  | nvmOpDone (ok : Bool)
  /-- CFG_CNT_CLEAR (R493): CFG_CNT_CLEAR clears CFG_CNT_SWAP to CFG_CNT_INVALID. -/
  | cfgCntClear (r : Req)
  /-- WATCHDOG_EXPIRY (R34): A handshake watchdog reaches its limit, and DEV_STALL, or DGN_SELFTEST_FAIL on the spare, is reported. Operands: the survey queue number, whether the queue belongs to the spare under test. -/
  | watchdogExpiry (q : Nat) (onSpare : Bool)
  /-- ERROR_RECORD_WRITE (R499): The error-journal writer takes an intake entry and writes its record to the first, recent or reserved area. -/
  | errorRecordWrite
  /-- EJ_CLEAR_RECORDS (R502): DGN_EJ_CMD 1 clears the records. -/
  | ejClearRecords (r : Req)
  /-- EJ_CLEAR_SOURCES (R502): DGN_EJ_CMD 2 clears the sources. -/
  | ejClearSources (r : Req)
  /-- EJ_CLEAR_BOTH (R502): DGN_EJ_CMD 3 clears records and sources. -/
  | ejClearBoth (r : Req)
  /-- CLEAR_ALL (R514): DGN_CLEAR_ALL requests that every counter be cleared at the next period boundary. -/
  | clearAll (r : Req) (value : Word)
  /-- SELFTEST_REQUEST (R506): DGN_ST_CMD requests a test of a target, merged with any running test. -/
  | selftestRequest (r : Req) (target element : Nat) (full : Bool)
  /-- SELFTEST_SLICE (R506): A self-test slice of at most 2 µs runs once the self-test node has credit. Operands: the test, the work of the slice in ns, the part of a pass reached. -/
  | selftestSlice (target element ns progress : Nat)
  /-- SELFTEST_PASS_COMPLETE (R506): A full test pass ends with pass or fail, and the failure action of its target applies. -/
  | selftestPassComplete (target element : Nat) (pass : Bool)
  /-- SPARE_ROTATION (R507): The rotation interval passes, and a passed spare replaces the next serving classifier engine or buffer bank. Operand: whether banks, not engines, rotate. -/
  | spareRotation (bank : Bool)
  /-- SNAPSHOT_CMD (R513): DGN_SNAP_CMD requests a snapshot of a block at the next boundary, or reads BUSY. -/
  | snapshotCmd (r : Req) (block : Nat)
  /-- SNAPSHOT_DONE (R513): The snapshot copy ends, reading DONE, or is abandoned when the side buffer fills. -/
  | snapshotDone (abandoned : Bool)
  /-- SCRUB_LINE (R504): The scrubber reads one line, corrects single errors and reports uncorrectable words. -/
  | scrubLine (found : EccSite) (dram passEnd : Bool)
  /-- TEMP_SAMPLE (R508): The junction sensors are read every 1 ms, and DEV_OVERTEMP episodes start or end. Operand: the junction sensors in °C. -/
  | tempSample (temps : List Int)
  /-- DGN_CNT_CLEAR (R515): DGN_CNT_CLEAR clears DGN_CNT_FOLDED to DGN_CNT_SNAP_ABANDON. -/
  | dgnCntClear (r : Req)
  /-- STEWARD_WATCHDOG_EXPIRY (R46): The steward watchdog expires, STW_WATCHDOG is reported and the unit reacts as to severity F. -/
  | stewardWatchdogExpiry
  /-- STEWARD_LOCKSTEP_FAULT (R495): The steward cores diverge, and STW_LOCKSTEP is reported. -/
  | stewardLockstepFault
  /-- POWER_MONITOR_TRIP (R520): A rail leaves its monitor window, with the reaction of that rail. Operands: the domain of the monitor, the side, the millivolts seen. -/
  | powerMonitorTrip (domain : Nat) (low : Bool) (mv : Nat)
  /-- VBAT_LOW_END (R520): VBAT has been at 2.5 V or more for 10 s, and the PWR_VBAT_LOW episode ends. -/
  | vbatLowEnd (mv : Nat)
  /-- READ_VOUT_CHECK (R526): 1 ms after a VOUT_COMMAND, READ_VOUT is read back and the command is judged. Operands: whether the transfers succeeded, READ_VOUT. -/
  | readVoutCheck (ok : Bool) (mv : Nat)
  /-- PMB_ALERT (R527): PMB_ALERT_N falls; STATUS_WORD is read and CLEAR_FAULTS is sent. Operand: STATUS_WORD as read. -/
  | pmbAlert (word : Nat)
  /-- PWR_CNT_CLEAR (R541): PWR_CNT_CLEAR clears PWR_CNT_PMB_FAIL to PWR_CNT_VBAT_LOW. -/
  | pwrCntClear (r : Req)
  /-- SENTENCE_PORT_CHARACTER (R56): A sentence port receives one character; this can open a sentence, or detect a parity error, a break, a bad character, an over-length sentence or a $ or ! inside a sentence, each of which is a framing error at that character. Operands: the port, the character, the raw stamp of its start bit, whether parity and stop bit are right. -/
  | sentencePortCharacter (n : Nat) (ch : Byte) (t : Nat) (good : Bool)
  /-- COPY_TRANSMISSION_END (R210): An encoder finishes sending a copy; it releases the copy's handle, frees the buffer block if this was the last reference, and lets the next copy of the port start. -/
  | copyTransmissionEnd (q : Nat)
  /-- PEAT_CONFIRMATION_RECEIVED (R393): The active accepts the standby's confirmation of a checkpoint, which becomes the last confirmed checkpoint that later deltas are taken from. -/
  | peatConfirmationReceived (h : IuHead) (q : Nat)
  /-- DIVERGENCE_TEST_REQUEST_RECEIVED (R384): A unit accepts a CONTROL frame that carries a self-test request or result from the peer, and runs its targeted slice or records the peer's result. A result says whether the peer's slice failed; without one the frame is a request. -/
  | divergenceTestRequestReceived (h : IuHead) (result : Option Bool)
  /-- SAFETY_RAIL_RETURN (R520): A SAFE_H or SAFE_P rail returns into its window, and that channel passes through a safety start. -/
  | safetyRailReturn (who : Nat)
  /-- VBAT_APPLIED (R426): VBAT is first applied; KVT_TAMPER_CFG clears and the VBAT domain starts with root_state ZERO. -/
  | vbatApplied
  /-- VBAT_LOST (R408): VBAT falls below its retention limit or is removed; the root, the tamper log and the real-time clock are lost. -/
  | vbatLost
  /-- AON_POWER_LOST (R481): AON power is lost; the start counters, the image record, CFG_BOOT_PREF and the PWR latches return to their reset values. -/
  | aonPowerLost
  /-- STANDBY_BIST_START (R480): Every 20 h in STANDBY_COLD, the SRAM domains and the second steward core are powered for a memory BIST pass. -/
  | standbyBistStart
  /-- STANDBY_BIST_DONE (R480): The 8 ms standby BIST pass ends; its RTC time is recorded in AON and the domains are powered off again. -/
  | standbyBistDone
  /-- MODERATION_INTERVAL_EXPIRY (R272): An rx_mod, tx_mod, BRG_CPL or ERR moderation interval passes, and the deferred vector or writeback block is raised or written. Operands: endpoint, function and vector of the interval. -/
  | moderationIntervalExpiry (lane : Nat) (guard : Bool) (vec : Nat)
  /-- RECEIVED_PAUSE_EXPIRY (R232): The quanta of a received pause frame run out on a port with pause_honour = 1, and the port may start frames again. -/
  | receivedPauseExpiry (n : Nat)
  /-- BRG_COMPLETION_TAIL_WRITE (R283): Lane software writes BRG_CPL_TAIL or BRG_CR_TAIL, which frees completion entries or makes commands available, so fetching can go on. Operands: requester, ring set, whether BRG_CPL_TAIL (not BRG_CR_TAIL) is written, the value. -/
  | brgCompletionTailWrite (r : Req) (kw : Nat) (cpl : Bool) (value : Word)
deriving DecidableEq, Repr

end Sys2Proof
end

