-- ==== Sys2Proof/Decode.lean ====
section
/-! DEFINITION. Words and commands: the operation table gives no command a bit pattern. -/

namespace Sys2Proof

/-- The command a word spells: none, since no row of the operation table gives bits. Both operands are accepted and ignored. -/
def decodeTableWord (_nbits _w : Nat) : Option Instr := none

end Sys2Proof
end

