-- ==== Sys2Proof/Machine/StatePath.lean ====
section
/-! DEFINITION. The state of the sentence path: sentences, ingress ports, stream table, filters and bog. -/

namespace Sys2Proof.Machine

/-- A sentence on its way through the block: the ingress record (R50, R51, R68, R86), and what the classifier,
the filter stage and the commit point add to it (R12, R14, R15). `oasis` says which kind of credit it holds
in the queue it stands in (R28). `mirror` is the mirror sequence number of its source record and
`outNo` the output of a mapping run it is (R382); `ex` is the bridge exchange it carries out, 0 none (R278). -/
structure Sent where
  payload : Bytes
  stamp : Nat
  endT : Nat
  src : Nat
  srcKind : Nat
  path : Nat
  both : Bool
  hint : Bool
  key : Bytes
  seq : Option Nat
  stream : Nat
  cls : Nat
  node : Nat
  fset : Nat
  prog : Nat
  dset : Nat
  tag : Nat
  verdict : Nat
  stranger : Bool
  sealOk : Bool
  stripped : Bool
  mapped : Bool
  late : Bool
  index : Nat
  group : Nat
  oasis : Bool
  buf : Nat
  slot : Option Nat
  held : Option Nat
  blk : Nat
  marks : List (Nat × Nat)
  defer : Option (Nat × Nat × Nat × Nat)
  mirror : Nat
  outNo : Option Nat
  ex : Nat
deriving DecidableEq, Repr, Inhabited

/-- The partial sentence in reception on a sentence port (R52, R54, R55). -/
structure Rx where
  active : Bool
  chars : Bytes
  start : Nat
  comp : Int
  ended : Option Nat
  crEnd : Option Nat
  lastEnd : Option Nat
  escaped : Bool
  sync : Bytes
  syncStart : Nat
  taking : Bool
deriving DecidableEq, Repr, Inhabited

/-- Runtime state of one ingress port (chapter 2). `compPast` lists the writes of PRT_STAMP_COMP, newest first: the stamp of the
write and the value before it (R52). -/
structure Port where
  state : Nat
  link : Bool
  overrun : Bool
  busOff : Bool
  txErr : Nat
  rxErr : Nat
  buf : List Sent
  staging : List Sent
  rx : Rx
  drainAt : Nat
  stopAt : Option Nat
  pauseSent : Bool
  mvMaster : Option (Nat × Nat)
  mvSeen : Nat
  pollAt : Nat
  compPast : List (Nat × Nat)
deriving DecidableEq, Repr, Inhabited

/-- An entry of the PRP node table (R71). `window` holds bit i for number top - i. -/
structure PrpNode where
  used : Bool
  top : Nat
  window : Nat
  lastAccept : Nat
  seenA : Option Nat
  seenB : Option Nat
  lostA : Bool
  lostB : Bool
deriving DecidableEq, Repr, Inhabited

/-- Ingress state shared by the ports. `mvSource` and `mvSink` hold the values of the MVB source and sink ports, keyed 4096 × port index
+ address. -/
structure Prt where
  ports : Tab Port := []
  prp : Tab PrpNode := []
  prpFull : Nat := 0
  prpWrongLan : Tab Nat := []
  prpOutOfWindow : Nat := 0
  mvSource : Tab (Option Bytes) := []
  mvSink : Tab (Option Bytes) := []
deriving DecidableEq, Repr, Inhabited

/-- Runtime state of one stream entry (R94): what is not configuration. -/
structure Stream where
  state : Nat
  admitted : Bool
  seqValid : Bool
  seqLast : Nat
  lastSeen : Nat
  lvHalf : Bool
  lvState : Nat
  lvStamp : Nat
  lvIndex : Nat
  lvLen : Nat
  line : Bytes
  ovf0 : Bytes
  ovf1 : Bytes
  matched : Nat
  refused : Nat
  seqAnomaly : Nat
  drainLoss : Nat
  drainAt : Nat
  contractAt : Option Nat
  aging : Bool
deriving DecidableEq, Repr, Inhabited

/-- The configuration fields of a stream entry (R94), decoded from the active set or kept by a learned entry. -/
structure StreamCfg where
  key : Bytes
  state : Nat
  lvcEnable : Bool
  lvcDram : Bool
  seqCheck : Bool
  cls : Nat
  node : Nat
  dset : Nat
  prog : Nat
  fset : Nat
  maxLen : Nat
  ovfSlot : Nat
  template : Nat
deriving DecidableEq, Repr, Inhabited

/-- A miss on its way to the wildcard search (R100). -/
structure Miss where
  sent : Sent
  port : Nat
  engine : Nat
  serial : Nat
deriving DecidableEq, Repr, Inhabited

/-- A key in the inserter's pending table (R102). -/
structure PendKey where
  key : Bytes
  id : Nat
  doneAt : Option Nat
deriving DecidableEq, Repr, Inhabited

/-- The stream table block (chapter 3). `engines` holds the states of STB_ENGINE_STATUS, `positions` the engine of each serving position
(R556), `returning` the engines under the test of a return. Bucket slots are keyed 4 × bucket + way and hold tag × 65536 + id, plus
2^31 when valid. -/
structure Stb where
  streams : Tab Stream := []
  learned : Tab (Option StreamCfg) := []
  slots : Tab Word := []
  stash : List (Nat × Nat) := []
  pending : List PendKey := []
  misses : List Miss := []
  missSerial : Nat := 0
  newThisPeriod : Nat := 0
  admitMiss : Nat := 0
  engines : List Nat := [0, 0, 0, 0, 0]
  spare : Nat := 4
  positions : List Nat := [0, 1, 2, 3]
  parts : List Nat := [0, 0, 0, 0, 0, 0, 0, 0, 0, 0, 0, 0, 0, 0, 0, 0]
  ruleHits : Tab Nat := []
  lvcQueue : List Sent := []
  classified : List Sent := []
  returning : List Nat := []
deriving DecidableEq, Repr, Inhabited

/-- Per-stream filter state (R136). -/
structure FState where
  lastPass : Nat
  passValid : Bool
  bucketTime : Nat
  bucketValid : Bool
  tokens : Nat
  refValid : Bool
  ref : Int
deriving DecidableEq, Repr, Inhabited

/-- State of one member of a source group (R138). -/
structure Member where
  lastHealthy : Option Nat
  liveSince : Nat
  dead : Bool
deriving DecidableEq, Repr, Inhabited

/-- Runtime state of one source group (R138 to R140). -/
structure SrcGroup where
  selected : Option Nat
  forced : Option Nat
  m0 : Member
  m1 : Member
  m2 : Member
  m3 : Member
deriving DecidableEq, Repr, Inhabited

/-- The freshness record of one key slot (R130). `window` holds bit i for top - i. -/
structure Fresh where
  top : Option Nat
  window : Nat
deriving DecidableEq, Repr, Inhabited

/-- An entry of the bog: in the intake, or with its number and store place as a record (R143, R144). -/
structure BogRec where
  stamp : Nat
  number : Nat
  stream : Nat
  port : Nat
  egress : Bool
  reason : Nat
  length : Nat
  stored : Nat
  lost : Bool
  rangeCheck : Nat
  offset : Nat
  fset : Nat
  detail : Nat
  payload : Bytes
deriving DecidableEq, Repr, Inhabited

/-- The filter block (chapter 4). `verifying` holds the sentences whose seal the vault is verifying, with the number of the
operation (R126). -/
structure Flt where
  verifying : List (Nat × Sent) := []
  nextOp : Nat := 0
  filtered : List Sent := []
  fstate : Tab FState := []
  groups : Tab SrcGroup := []
  fresh : Tab Fresh := []
  bogIntake : List BogRec := []
  bog : Tab (Option BogRec) := []
  bogStore : Tab Byte := []
  bogPtr : Nat := 0
  bogNext : Nat := 0
deriving DecidableEq, Repr, Inhabited

end Sys2Proof.Machine
end

