-- ==== Sys2Proof/Machine/StateBridge.lean ====
section
/-! DEFINITION. The state of the field bridge (chapter 9). -/

namespace Sys2Proof.Machine

/-- What a bridge request is: a direct read, a posted write, or a command of a ring (R284, R286, R288). -/
inductive BKind where
  | dread | posted | cread | cwrite
deriving DecidableEq, Repr, Inhabited

/-- A bridge request, from its acceptance until it has completed (R280, R281, R295). `uid` numbers the requests of the bridge; `ident`
is the PCIe tag of a direct read, the post number of a posted write, the tag of a command; `length` counts what is fetched or
written, `want` what the lane asked for; `part` and `done` are the parts and bytes confirmed. `ex` numbers the exchange in progress, 0
none, and `num` is its CB request number; `resp` is the stream that answers it. `answered` and `full` follow a prefetch
(R293), `noKeep` drops it (R294), `segment` and `toggle` a segmented SDO transfer. -/
structure BReq where
  uid : Nat
  kind : BKind
  window : Nat
  lane : Nat
  guard : Bool
  ident : Nat
  offset : Nat
  length : Nat
  want : Nat
  data : Bytes
  buffer : Nat
  got : Bytes
  part : Nat
  done : Nat
  ex : Nat
  num : Nat
  deadline : Nat
  retries : Nat
  resp : Nat
  answered : Bool
  full : Bool
  noKeep : Bool
  segment : Bool
  toggle : Bool
deriving DecidableEq, Repr, Inhabited

/-- A late-fault entry (R290). -/
structure LateEntry where
  stamp : Nat
  window : Nat
  lane : Nat
  guard : Bool
  cause : Nat
  tag : Nat
  offset : Nat
  bytes : Nat
  data : Bytes
  detail : Nat
deriving DecidableEq, Repr, Inhabited

/-- Runtime state of a window (R291, R305). -/
structure Win where
  state : Nat
  fenced : List Nat
  drainAt : Nat
  count : Nat
deriving DecidableEq, Repr, Inhabited

/-- A semaphore's holder and the end of its lease (R296, R297). -/
structure Sem where
  owner : Option (Nat × Bool)
  expiry : Nat
deriving DecidableEq, Repr, Inhabited

/-- An entry of the read cache (R293). -/
structure CacheEnt where
  window : Nat
  offset : Nat
  data : Bytes
  filled : Nat
deriving DecidableEq, Repr, Inhabited

/-- A mirror block (R302): the value readers see, none before the first write. -/
abbrev Mirror := Option Bytes

/-- A ring set of one lane and world (R283, R288): commands fetched, completions written, posted writes accepted, BRG_LAST_ERR. -/
structure RingSet where
  head : Nat
  cplHead : Nat
  post : Nat
  lastErr : Nat
deriving DecidableEq, Repr, Inhabited

/-- The bridge. Ring sets are keyed 2 × lane + world. `reqs` holds the requests in the order of their acceptance; `late` the late-fault
log of each lane, oldest first, whose oldest entry stands at place `latePlace`; `talker` the sentences that wait for BG port staging;
`intake` the copies addressed to BG. -/
structure Brg where
  wins : Tab Win := []
  reqs : List BReq := []
  nextReq : Nat := 1
  nextEx : Nat := 1
  cbNext : Nat := 0
  late : Tab (List LateEntry) := []
  latePlace : Tab Nat := []
  lost : Tab Nat := []
  sems : Tab Sem := []
  cache : List CacheEnt := []
  mirrors : Tab Mirror := []
  rings : Tab RingSet := []
  talker : List Sent := []
  intake : List Sent := []
deriving DecidableEq, Repr, Inhabited

end Sys2Proof.Machine
end

