-- ==== Sys2Proof/Machine/StateCadence.lean ====
section
/-! DEFINITION. The state of the cadence engine and its guardian (chapter 11). -/

namespace Sys2Proof.Machine

/-- Engine states of R353. -/
inductive CdbState where
  | off | listen | coldstart | integrate | sync | passive
deriving DecidableEq, Repr, Inhabited

/-- Spare-slot states of R364. -/
inductive SpareState where
  | free | claiming | held | taken | backoff
deriving DecidableEq, Repr, Inhabited

/-- A spare slot (R364 to R366). `silent` counts the cycles since its last accepted frame, `clean` the clean cycles of a claim,
`backoff` the cycles still to wait. Of the current cycle: `seen` an accepted frame, `okA` and `okB` this node's frame back intact
on a channel, `foul` a conflict or another frame. -/
structure Spare where
  state : SpareState
  holder : Nat
  silent : Nat
  clean : Nat
  backoff : Nat
  releasing : Bool
  seen : Bool
  okA : Bool
  okB : Bool
  foul : Bool
deriving DecidableEq, Repr, Inhabited

/-- The arrival history of a sync node (R352): the latest cycle first, whether a frame of the current cycle was discarded, and the last
deviation. -/
structure Arrivals where
  late : List Bool
  edge : Bool
  drifting : Bool
  dev : Int
deriving DecidableEq, Repr, Inhabited

/-- The cadence block. Deviations are in microticks. `start` is the stamp of the current cycle's start and `rCycle` the rate correction
spread over that cycle; `inState` counts the cycle starts since the engine entered its state. `devs` holds the current
cycle's deviations, `prevDevs` the last cycle's, `nextDevs` those that came after the idle segment began, and `terms` the
rate terms formed last. `sent` holds the frames this node has sent in the current cycle. Times of the guardian are raw ticks of 2 ns. -/
structure Cdb where
  state : CdbState := .off
  cycle : Nat := 0
  start : Nat := 0
  listenFrom : Nat := 0
  inState : Nat := 0
  idleDone : Bool := false
  o : Int := 0
  r : Int := 0
  rCycle : Int := 0
  devs : Tab (Option Int) := []
  prevDevs : Tab (Option Int) := []
  nextDevs : Tab (Option Int) := []
  terms : List Int := []
  flagged : Nat := 0
  clear : Nat := 0
  adopted : Nat := 0
  adoptedSeen : Bool := false
  syncOk : Bool := false
  seenNow : Nat := 0
  seenLast : Nat := 0
  syncMiss : Nat := 0
  chaMiss : Nat := 0
  chbMiss : Nat := 0
  chaSeen : Bool := false
  chbSeen : Bool := false
  chaLost : Bool := false
  chbLost : Bool := false
  slotsSeen : List Nat := []
  arrivals : Tab Arrivals := []
  slotBuf : Tab (Option Bytes) := []
  service : List (Nat × Bytes) := []
  spares : Tab Spare := []
  sent : Tab (Option Bytes) := []
  txFrom : Nat := 0
  guardSched : Tab Word := []
  guardStart : Option Nat := none
  guardFirst : Bool := false
  guardHold : Bool := false
  guardEpisode : Bool := false
  guardHit : Bool := false
  resync : Bool := false
  openSlots : List Nat := []
  autoDone : Bool := false
  chbPast : List (Nat × Nat) := []
deriving DecidableEq, Repr, Inhabited

end Sys2Proof.Machine
end

