-- ==== Sys2Proof/Machine/StateEgress.lean ====
section
/-! DEFINITION. The state of the replicator, the egress encoders, the journal, the lanes and the voter
(chapters 7 and 8). -/

namespace Sys2Proof.Machine

/-- A shared-buffer block (R13, R191, R210): the leaf that holds its bytes, the bytes, the references to it. -/
structure Block where
  leaf : Nat
  bytes : Nat
  refs : Nat
deriving DecidableEq, Repr, Inhabited

/-- A copy of a committed sentence for one port or listener (R208, R210, R212). `twin` numbers the two halves of a copy for a PRP pair
(R228), 0 for others; `deferred` is the boundary count of the period it is deferred to (R198), 0 for none. The start of the copy fills the last seven fields: the CAN attempt's first time, the sequence number, the
bytes before PRP trailer and frame check, the pair's trailer number, the bytes sent, the departure stamp, the number of the seal
operation that runs and the place of its tag. -/
structure Copy where
  sent : Sent
  port : Nat
  listener : Option Nat
  template : Nat
  replay : Bool
  reserved : Bool
  twin : Nat
  oasis : Bool
  held : Option Nat
  charged : Bool
  deferred : Nat
  firstTry : Option Nat
  seqNo : Option Nat
  body : Option Bytes
  prpSeq : Nat
  wire : Bytes
  dep : Nat
  sealOp : Option (Nat × Nat)
deriving DecidableEq, Repr, Inhabited

/-- Runtime state of the egress side of a port (chapter 7). `waiting` holds the class lists of R211 in one list,
in order of arrival; `preempted` is the frame that an express frame has interrupted (R230). -/
structure EgPort where
  state : Nat
  verify : Nat
  paused : Bool
  waiting : List Copy
  queue : List Copy
  cur : Option Copy
  preempted : Option Copy
  sentLow : Nat
  sentC0 : Nat
  downSince : Option Nat
  downHeld : Bool
  downReported : Bool
  ipId : Nat
  drainAt : Nat
  contractAt : Option Nat
deriving DecidableEq, Repr, Inhabited

/-- A listener (R214, R216). -/
structure Listener where
  state : Nat
  sent : Nat
  drainAt : Nat
  joinQ : List Copy
  replaying : Bool
deriving DecidableEq, Repr, Inhabited

/-- A running replay (R215, R216): listener, index J, next stream to read, boundary count at the join, class-0
streams already queued live. -/
structure Replay where
  listener : Nat
  upTo : Nat
  next : Nat
  since : Nat
  skip : List Nat
deriving DecidableEq, Repr, Inhabited

/-- The EGR block. -/
structure Egr where
  ports : Tab EgPort := []
  listeners : Tab Listener := []
  replays : List Replay := []
  joinBusy : Bool := false
  replicate : List Sent := []
  sharedUsed : Nat := 0
  reservedUsed : Nat := 0
  seqs : Tab Nat := []
  prpSend : Tab Nat := []
  blocks : Tab Block := []
  nextBlk : Nat := 1
  nextTwin : Nat := 1
  nextSeal : Nat := 0
deriving DecidableEq, Repr, Inhabited

/-- An item of the journal queue: a committed sentence, or a mark (code, bytes 8-15, bytes 24-31, stamp). -/
inductive JItem where
  | data (s : Sent)
  | mark (code a b stamp : Nat)
deriving DecidableEq, Repr, Inhabited

/-- A closed journal block (R235). -/
structure JBlock where
  bytes : Bytes
  number : Nat
  bad : Bool
deriving DecidableEq, Repr, Inhabited

/-- The journal (R233 to R239). -/
structure Jrn where
  state : Nat := 0
  scanning : Bool := false
  full : Bool := false
  backlog : Bool := false
  queue : List JItem := []
  missFirst : Nat := 0
  missCount : Nat := 0
  recs : Bytes := []
  recCount : Nat := 0
  openSince : Nat := 0
  firstIndex : Nat := 0
  lastIndex : Nat := 0
  firstStamp : Nat := 0
  firstGen : Nat := 0
  number : Nat := 0
  chainStart : Bool := true
  prevHash : Bytes := []
  lastGen : Nat := 0
  area : Tab (Option JBlock) := []
  written : Nat := 0
  oldest : Nat := 0
  newest : Option Nat := none
  expState : Nat := 0
  expNumber : Nat := 0
  expLane : Nat := 0
  expAddr : Nat := 0
  expData : Bytes := []
  drainAt : Nat := 0
deriving DecidableEq, Repr, Inhabited

/-- An item of a lane list (R211, R246, R250): a DATA copy, a FENCE (stamp, index, n, cycle) or a MARK
(code, stamp, bytes 8-15, bytes 24-31). -/
inductive LaneItem where
  | data (s : Sent)
  | fence (stamp index n cycle : Nat)
  | mark (code stamp a b : Nat)
deriving DecidableEq, Repr, Inhabited

/-- A gap episode, or the descriptors missed while delivery was disabled (R247, R254). -/
structure Gap where
  since : Nat
  first : Nat
  last : Nat
  fences : Nat
  marks : Nat
  copies : Nat
deriving DecidableEq, Repr, Inhabited

/-- The state of a lane in the vote (Lane states); OUT is what a lane is after a cold start (R271). -/
inductive LaneVote where
  | out | member | suspect | returning
deriving DecidableEq, Repr, Inhabited

/-- One lane block (R241 to R258). `used` lists for each ring entry not yet freed the data-ring bytes it holds. -/
structure Lane where
  state : Nat
  link : Bool
  linkReported : Bool
  tx0 : Bool
  tx1 : Bool
  list : List LaneItem
  wait : Option Nat
  gap : Option Gap
  missed : Option Gap
  head : Nat
  tail : Nat
  dataOff : Nat
  used : List Nat
  drainAt : Nat
  lastFence : Nat
  fenceSinceGap : Bool
  tx0Head : Nat
  tx1Head : Nat
  wbDue : Bool
  vote : LaneVote
  clean : Nat
  cleanFrom : Option Nat
  minority : List Nat
  charged : List Nat
  outAsk : List (Nat × Nat)
deriving DecidableEq, Repr, Inhabited

/-- The LNI block: lanes and the control cycle (R251, R252). -/
structure Lni where
  lanes : Tab Lane := []
  offset : Int := 0
  lastN : Nat := 1
  lastCycle : Int := 0
  fenced : Bool := false
deriving DecidableEq, Repr, Inhabited

/-- A lane's copy in a voter window (R263). -/
structure VCopy where
  lane : Nat
  payload : Bytes
  mirror : Nat
deriving DecidableEq, Repr, Inhabited

/-- An open voter window (R263, R264). -/
structure Window where
  vs : Nat
  cycle : Nat
  index : Nat
  opened : Nat
  copies : List VCopy
  released : Option VCopy
  reserved : Bool
  c0 : Bool
deriving DecidableEq, Repr, Inhabited

/-- Runtime state of a voter stream (R268). -/
structure VStream where
  state : Nat
  released : Nat
  nomaj : Nat
  drainAt : Nat
deriving DecidableEq, Repr, Inhabited

/-- The voter (R259 to R271). `closed` keeps the tags whose window has closed (stream, cycle, index); `outQ` holds the
releases that wait for a commit credit; `lastCycle` is the cycle of the last minority event. -/
structure Vot where
  streams : Tab VStream := []
  windows : List Window := []
  closed : List (Nat × Nat × Nat) := []
  outQ : List Sent := []
  lastCycle : Nat := 0
deriving DecidableEq, Repr, Inhabited

end Sys2Proof.Machine
end

