-- ==== Sys2Proof/Machine/StateMap.lean ====
section
/-! DEFINITION. The state of the mapper, the commit point and the budget tree (chapters 5, 1 and 6). -/

namespace Sys2Proof.Machine

/-- An output being built (R166, R169, R170): its bytes, its markers (format, offset) and its check codes
(kind, start, end, position). -/
structure OutBuf where
  bytes : Bytes
  marks : List (Nat × Nat)
  csums : List (Nat × Nat × Nat × Nat)
deriving DecidableEq, Repr, Inhabited

/-- A snapshot of a stream's last value (R157); `commits` is the stream's commit count when it was taken. -/
structure Snap where
  stream : Nat
  lvState : Nat
  lvLen : Nat
  lvStamp : Nat
  lvIndex : Nat
  lvHalf : Bool
  line : Bytes
  commits : Nat
  deep : Option Bytes
deriving DecidableEq, Repr, Inhabited

/-- How a run has ended (R165, R172, R177): the sentences of its commit group wait for hand-over. -/
structure RunEnd where
  group : List Sent
deriving DecidableEq, Repr, Inhabited

/-- A run of a mapping program in an engine context (R148, R150). Times are in 250 ps units. -/
structure Run where
  prog : Nat
  input : Sent
  pc : Nat
  w : List Int
  abs : Bool
  rng : Bool
  sat : Bool
  outs : List (Option OutBuf)
  cur : Option Nat
  snaps : List Snap
  metered : Nat
  since : Option Nat
  waiting : Option Nat
  tMax : Nat
  ended : Option RunEnd
deriving DecidableEq, Repr, Inhabited

/-- A mapping engine (R146, R148, R181): 0 off, 1 serving, 2 taken out, 3 faulted. -/
structure Engine where
  state : Nat
  emptying : Bool
  testing : Bool
  queue : List Sent
  c0 : Option Run
  sh : Option Run
deriving DecidableEq, Repr, Inhabited

/-- Runtime state of a mapping program (R175 to R180). -/
structure Prog where
  state : Nat
  runs : Nat
  aborts : Nat
  drain : Nat
  consecutive : Nat
  drainAt : Nat
deriving DecidableEq, Repr, Inhabited

/-- Runtime state of a cyclic slot (R173, R174). -/
structure CycSlot where
  enabled : Bool
  overlap : Nat
  fired : Nat
deriving DecidableEq, Repr, Inhabited

/-- The mapper block. `holds` is the hold store of mapper dispatch; `cycWait` holds cyclic runs, reserved and charged, that wait for
an engine credit (R29, R173). -/
structure Map where
  engines : Tab Engine := []
  progs : Tab Prog := []
  cyc : Tab CycSlot := []
  holds : List Sent := []
  cycWait : List Sent := []
  faultProg : Nat := 0
  faultIndex : Nat := 0
  faultCause : Nat := 0
  commits : Tab Nat := []
  nextGroup : Nat := 1
deriving DecidableEq, Repr, Inhabited

/-- The commit point (R15, R16, R22): generation and count of the last index, the intake, the group being committed. -/
structure Com where
  gen : Nat := 0
  count : Nat := 0
  intake : List Sent := []
  openGroup : Option Nat := none
deriving DecidableEq, Repr, Inhabited

/-- Learning state of one adaptive resource of a node (R205, R206). `staged` is a rate that takes effect at the next period
boundary. -/
structure Adapt where
  rate : Option Nat
  cap : Option Nat
  staged : Option Nat
  shortRun : Nat
  shortNow : Bool
  use : Nat
  maxUse : Nat
  lowSince : Option Nat
deriving DecidableEq, Repr, Inhabited

/-- Runtime state of a budget node (R185 to R206). -/
structure Node where
  state : Nat
  fCredit : Nat
  eCredit : Nat
  buf : Nat
  refused : Nat
  dropped : Nat
  sentences : Nat
  drain : Nat
  short : Bool
  drainAt : Nat
  out : Bool
  lastEnd : Option Nat
  contractAt : Option Nat
  fAdapt : Adapt
  eAdapt : Adapt
  settled : Bool
  paceMax : Nat
deriving DecidableEq, Repr, Inhabited

/-- The budget block. In the period that runs, `paceLowSeen` says that the lowest pace was below pace_floor, `belowBand` that it was
below the band of R202 and `inBand` that it was not above it; `ringsOut` lists canary rings left out. -/
structure Bgt where
  nodes : Tab Node := []
  rootFab : Nat := 0
  walkTime : Nat := 0
  periods : Nat := 0
  pace : Tab Nat := []
  paceMin : Tab Nat := []
  paceLow : Bool := false
  paceLowSeen : Bool := false
  belowBand : Bool := false
  abovePeriods : Nat := 0
  inBand : Bool := false
  setpoint : Nat := 0
  commands : Nat := 0
  cooldown : Bool := false
  ringsOut : List Nat := []
deriving DecidableEq, Repr, Inhabited

end Sys2Proof.Machine
end

