-- ==== Sys2Proof/Machine/StatePair.lean ====
section
/-! DEFINITION. The state of the unit pair: lease, link, peat, takeover (chapter 12). Lease times count raw ticks
of 2 ns of the AON lease timer (R374). -/

namespace Sys2Proof.Machine

/-- The grants of one lane (R373 to R376): the epoch of the grant that is or was current, whether it is current, the lease-timer tick at
which it lapses, whether it has lapsed or been revoked, a grant of a new term that waits for its not-before stamp, the tick of
the last grant or witness, and the stamp of the last witness. -/
structure Grant where
  epoch : Nat
  current : Bool
  lapsed : Bool
  lapse : Nat
  pend : Option (Nat × Nat)
  heard : Option Nat
  witness : Option Nat
deriving DecidableEq, Repr, Inhabited

/-- The latest heartbeat received (R387): the peer's departure stamp and the arrival stamp here. -/
structure Beat where
  tx : Nat
  rx : Nat
deriving DecidableEq, Repr, Inhabited

/-- The kinds of takeover (R397). -/
inductive Takeover where
  | shadow | warm | cold
deriving DecidableEq, Repr, Inhabited

/-- What a frame of the inter-unit link carries (R385): a heartbeat with its departure stamp and the echo of the peer's; mirrored
records, log entries and digests; a peat block under its number; a PEAT_COMMIT with Q, its blocks and whether the peat is full; and
the CONTROL frames. -/
inductive IuFrame where
  | heartbeat (tx : Nat) (echo : Option (Nat × Nat))
  | mirror (n : Nat) (m : MirrorRec)
  | log (e : LogEnt)
  | digest (q d : Nat)
  | peatBlock (b : Nat) (x : PeatBlk)
  | peatCommit (q : Nat) (blocks : List Nat) (full : Bool)
  | relinquish
  | join
  | testRequest
  | testResult (failed : Bool)
  | confirm (q : Nat)
  | copy (stamp : Nat) (payload : Bytes)
deriving DecidableEq, Repr

/-- The content of a peat block (Peat sections): every field but those of its own section is empty. `regs` holds the time registers
of block 0, `lanes` the states and histories of the voter lanes. -/
structure PeatPart where
  q : Nat
  bound : Nat
  gen : Nat
  epoch : Nat
  seen : Nat
  offset : Int
  lastN : Nat
  lastCycle : Int
  regs : Tab Word
  timeValid : Bool
  streams : Tab Stream
  learned : Tab (Option StreamCfg)
  fstate : Tab FState
  fresh : Tab Fresh
  groups : Tab SrcGroup
  seqs : Tab Nat
  prpSend : Tab Nat
  sends : Tab Nat
  nodes : Tab Node
  spares : Tab Spare
  sems : Tab Sem
  lanes : Tab Lane
deriving DecidableEq, Repr, Inhabited

/-- A checkpoint on its way (R391): its Q, the boundary count it was taken at, and the content of the blocks it sends. -/
structure Ckpt where
  q : Nat
  at_ : Nat
  full : Bool
  parts : Tab PeatPart
deriving DecidableEq, Repr, Inhabited

/-- The RED block. `takeSince` is a lease-timer tick and `takeAt` a boundary count. `lastA` and `lastB` are the stamps of the last frames
of the paths. `logIn` and `back` hold the log entries and mirrored records not yet served. `digests` holds for the last
16 periods Q, the own digest and the peer's. `base` is the content the standby confirmed last, `ckpt` the checkpoint that is not
confirmed, `unsent` says that its PEAT_COMMIT has not been sent. -/
structure Red where
  gate : Bool := false
  relinquished : Bool := false
  relinquishFatal : Bool := false
  peerRelinquished : Bool := false
  epoch : Nat := 0
  seen : Nat := 0
  leaseTimer : Nat := 0
  grants : Tab Grant := []
  taking : Option Takeover := none
  takeSince : Nat := 0
  takeAt : Nat := 0
  lastKind : Nat := 0
  lastDur : Nat := 0
  peerState : Nat := 0
  pathA : Bool := false
  pathB : Bool := false
  lastA : Nat := 0
  lastB : Nat := 0
  linkUp : Bool := false
  txSeq : Nat := 0
  rxSeqs : List Nat := []
  beat : Option Beat := none
  offset : Int := 0
  delay : Int := 0
  mirrorSeq : Nat := 0
  mirroring : Bool := false
  mirrorOvf : Bool := false
  mirrorQ : List (Nat × Nat × MirrorRec) := []
  mirrorLoad : Nat := 0
  loadShown : Nat := 0
  logIn : List LogEnt := []
  back : List (Nat × MirrorRec) := []
  digest : Nat := 0xFFFFFFFFFFFFFFFF
  digests : List (Nat × Option Nat × Option Nat) := []
  heldOver : List (Nat × Nat) := []
  divState : Nat := 0
  divSince : Nat := 0
  ownFail : Option Bool := none
  peerFail : Option Bool := none
  staging : Tab (Option PeatBlk) := []
  image : Tab (Option PeatBlk) := []
  copying : Option (Nat × Bool × Tab (Option PeatBlk)) := none
  commitWait : Option (Nat × List Nat × Bool) := none
  imageQ : Option Nat := none
  imageAt : Nat := 0
  fullReceived : Bool := false
  stale : Bool := false
  joinPending : Bool := false
  fullDue : Bool := false
  base : Tab PeatPart := []
  ckpt : Option Ckpt := none
  unsent : Bool := false
  sealCounter : Nat := 0
  shadowSeal : Bool := false
deriving DecidableEq, Repr, Inhabited

end Sys2Proof.Machine
end

