-- ==== Sys2Proof/Config.lean ====
section
/-! DEFINITION. What an implementation fixes and what the spec leaves open: constants with no body.
No proof can see a value of one; a statement that mentions one holds whatever it is. -/

namespace Sys2Proof.Config

/-- AES in the forward direction: key, block (FIPS 197). Not defined by the spec's own words; uninterpreted. (DESIGN CHOICE: log 64) -/
opaque aes (key block : Bytes) : Bytes

/-- AES-CMAC: key, message (NIST SP 800-38B), a 16-byte tag. Uninterpreted. (DESIGN CHOICE: log 64) -/
opaque cmac (key msg : Bytes) : Bytes

/-- AES-GMAC as AES-GCM gives it (NIST SP 800-38D): key, nonce, authenticated data, a 16-byte tag. Uninterpreted. (DESIGN CHOICE: log 64) -/
opaque gmac (key nonce aad : Bytes) : Bytes

/-- AES-GCM encryption (NIST SP 800-38D): key, nonce, authenticated data, plaintext; ciphertext with its tag. (DESIGN CHOICE: log 64) -/
opaque gcmSeal (key nonce aad plain : Bytes) : Bytes

/-- AES-GCM decryption: none where the tag does not verify. -/
opaque gcmOpen (key nonce aad cipher : Bytes) : Option Bytes

/-- AES key wrap (NIST SP 800-38F): key-encryption key, key. Uninterpreted. (DESIGN CHOICE: log 64) -/
opaque keyWrap (kek key : Bytes) : Bytes

/-- AES key unwrap: none where the integrity check fails. -/
opaque keyUnwrap (kek blob : Bytes) : Option Bytes

/-- SHA-256 (FIPS 180-4). Uninterpreted. (DESIGN CHOICE: log 64) -/
opaque sha256 (msg : Bytes) : Bytes

/-- ECDSA P-256 verification (FIPS 186-5): public key, SHA-256 digest, signature. Uninterpreted. (DESIGN CHOICE: log 64) -/
opaque ecdsaVerify (pubkey digest sig : Bytes) : Bool

/-- The `n`th output of the deterministic random bit generator, `len` bytes. A free value. (DESIGN CHOICE: log 6) -/
opaque drbg (n len : Nat) : Bytes

/-- Free values of the model, numbered by the counter `State.free`. (DESIGN CHOICE: log 6) -/
opaque freeNat : Nat → Nat

/-- The owner's detail of an error record (R500), which the spec leaves to each block without stating it: a free value
that may depend on the event, the instance and what the block knows. (DESIGN CHOICE: log 6) -/
opaque ownerDetail (code inst given : Nat) : Nat

/-- The lap time at the worst corner of canary ring `i` of region `r`, in ps, as fused in production (R201). (DESIGN CHOICE: log 6) -/
opaque worstLap (r i : Nat) : Nat

/-- The bytes of a peat block's content: the spec names what each section holds and leaves its layout open. Uninterpreted. -/
opaque peatEncode (part : Machine.PeatPart) : Bytes

/-- The content of a peat block from its bytes. -/
opaque peatDecode (bytes : Bytes) : Machine.PeatPart

end Sys2Proof.Config
end

