-- ==== Sys2Proof/Machine/Bits.lean ====
section
/-! DEFINITION. Bit fields, byte order, sign extension, saturation, rounding and check codes. -/

namespace Sys2Proof.Machine

/-- Bits `hi` down to `lo` of a number, as a number. -/
def nbits (n hi lo : Nat) : Nat := (n >>> lo) % 2 ^ (hi + 1 - lo)

/-- Bit `i` of a number. -/
def nbit (n i : Nat) : Bool := n.testBit i

/-- Field [hi:lo] of a register. -/
def bits (w : Word) (hi lo : Nat) : Nat := nbits w.toNat hi lo

/-- Bit `i` of a register. -/
def bit (w : Word) (i : Nat) : Bool := w.getLsbD i

/-- The register with field [hi:lo] replaced by the low bits of `v`. -/
def putBits (w : Word) (hi lo v : Nat) : Word :=
  let m : Word := BitVec.ofNat 32 ((2 ^ (hi + 1 - lo) - 1) <<< lo)
  (w &&& ~~~m) ||| (BitVec.ofNat 32 ((v % 2 ^ (hi + 1 - lo)) <<< lo))

/-- The register with bit `i` set to `b`. -/
def putBit (w : Word) (i : Nat) (b : Bool) : Word := putBits w i i (if b then 1 else 0)

/-- A value from 1 to 64 in a field of six bits, which holds 64 as 0. (DEDUCED: log 44) -/
def upTo64 (v : Nat) : Nat := if v = 0 then 64 else v

/-- One as a number for `true`. -/
def b2n (b : Bool) : Nat := if b then 1 else 0

/-- The number spelt by `n` bits read as two's complement. -/
def sext (n : Nat) (v : Nat) : Int :=
  if 2 * (v % 2 ^ n) < 2 ^ n then Int.ofNat (v % 2 ^ n) else Int.ofNat (v % 2 ^ n) - Int.ofNat (2 ^ n)

/-- The low `n` bits of an integer's two's complement. -/
def twos (n : Nat) (i : Int) : Nat := (i % Int.ofNat (2 ^ n)).toNat

/-- The number little-endian bytes spell (R8, R19). -/
def leNat : Bytes → Nat
  | [] => 0
  | b :: bs => b.toNat + 256 * leNat bs

/-- The number big-endian bytes spell. -/
def beNat (bs : Bytes) : Nat := leNat bs.reverse

/-- `n` bytes of a number, least significant first. -/
def toLE : Nat → Nat → Bytes
  | 0, _ => []
  | n + 1, v => BitVec.ofNat 8 v :: toLE n (v / 256)

/-- `n` bytes of a number, most significant first. -/
def toBE (n v : Nat) : Bytes := (toLE n v).reverse

/-- `len` bytes from offset `off`, short where the string ends. -/
def slice (bs : Bytes) (off len : Nat) : Bytes := (bs.drop off).take len

/-- The little-endian number at offset `off`, `len` bytes wide. -/
def leAt (bs : Bytes) (off len : Nat) : Nat := leNat (slice bs off len)

/-- The big-endian number at offset `off`, `len` bytes wide. -/
def beAt (bs : Bytes) (off len : Nat) : Nat := beNat (slice bs off len)

/-- Byte `i` as a number, 0 beyond the end. -/
def byteAt (bs : Bytes) (i : Nat) : Nat := match bs[i]? with
  | some b => b.toNat
  | none => 0

/-- The bytes with `new` written over those from offset `off`; nothing grows beyond the old end. -/
def overlay (bs : Bytes) (off : Nat) (new : Bytes) : Bytes :=
  bs.take off ++ (new.take (bs.length - off)) ++ bs.drop (off + new.length)

/-- Pad with `v` to at least `n` bytes. -/
def padTo (n : Nat) (v : Byte) (bs : Bytes) : Bytes := bs ++ List.replicate (n - bs.length) v

/-- The bytes of a character string, one byte per character. -/
def ascii (s : String) : Bytes := s.toList.map (fun c => BitVec.ofNat 8 c.toNat)

/-- Add to a 32-bit count that saturates at 0xFFFF_FFFF. -/
def satAdd32 (w : Word) (n : Nat) : Word :=
  if w.toNat + n ≥ 0xFFFFFFFF then BitVec.ofNat 32 0xFFFFFFFF else BitVec.ofNat 32 (w.toNat + n)

/-- Add to a count saturating at `m`. -/
def satAdd (m a b : Nat) : Nat := if a + b ≥ m then m else a + b

/-- Bring a number into [lo, hi]. -/
def clampN (lo hi n : Nat) : Nat := if n < lo then lo else if n > hi then hi else n

/-- Bring an integer into [lo, hi]. -/
def clampZ (lo hi n : Int) : Int := if n < lo then lo else if n > hi then hi else n

/-- One step of a left-shifting CRC of `w` bits with polynomial `poly`, most significant bit first. -/
def crcBitL (w poly : Nat) (c : Nat) : Nat :=
  if c.testBit (w - 1) then ((c <<< 1) % 2 ^ w) ^^^ poly else (c <<< 1) % 2 ^ w

/-- One step of a right-shifting (reflected) CRC. -/
def crcBitR (poly : Nat) (c : Nat) : Nat := if c.testBit 0 then (c >>> 1) ^^^ poly else c >>> 1

/-- Apply a function `n` times. -/
def times {α : Type} (f : α → α) : Nat → α → α
  | 0, a => a
  | n + 1, a => times f n (f a)

/-- A left-shifting CRC over bytes. -/
def crcL (w poly init : Nat) (bs : Bytes) : Nat :=
  bs.foldl (fun c b => times (crcBitL w poly) 8 (c ^^^ (b.toNat <<< (w - 8)))) init

/-- A right-shifting CRC over bytes. -/
def crcR (poly init : Nat) (bs : Bytes) : Nat :=
  bs.foldl (fun c b => times (crcBitR poly) 8 (c ^^^ b.toNat)) init

/-- The IEEE 802.3 CRC-32: reflected polynomial 0xEDB8_8320, preset and inverted. (DESIGN CHOICE: log 64) -/
def crc32 (bs : Bytes) : Nat := (crcR 0xEDB88320 0xFFFFFFFF bs) ^^^ 0xFFFFFFFF

/-- The exclusive or of all bytes. -/
def xorBytes (bs : Bytes) : Nat := bs.foldl (fun a b => a ^^^ b.toNat) 0

/-- The sum of all bytes modulo 2^n. -/
def sumBytes (n : Nat) (bs : Bytes) : Nat := (bs.foldl (fun a b => a + b.toNat) 0) % 2 ^ n

/-- The internet checksum: ones' complement of the ones' complement sum of big-endian 16-bit words. -/
def sum16 : Bytes → Nat
  | [] => 0
  | [a] => a.toNat * 256
  | a :: b :: t => a.toNat * 256 + b.toNat + sum16 t

/-- Fold carries back into 16 bits. -/
def fold16 (n : Nat) : Nat := times (fun x => x % 65536 + x / 65536) 4 n

/-- The internet checksum of a byte string. -/
def inetSum (bs : Bytes) : Nat := 0xFFFF - fold16 (sum16 bs)

/-- The list without its element at place `i`. -/
def removeAt {α : Type} (l : List α) (i : Nat) : List α := l.take i ++ l.drop (i + 1)

/-- The place of the first element that passes `p`. -/
def findIdx? {α : Type} (p : α → Bool) : List α → Option Nat
  | [] => none
  | a :: t => if p a then some 0 else (findIdx? p t).map (· + 1)

/-- The first element that passes `p`, with the list left when it is taken out. -/
def takeFirst {α : Type} (p : α → Bool) : List α → Option (α × List α)
  | [] => none
  | a :: t => if p a then some (a, t) else (takeFirst p t).map (fun x => (x.1, a :: x.2))

/-- The list with its first element that passes `p` replaced by `f` of it. -/
def modFirst {α : Type} (p : α → Bool) (f : α → α) : List α → List α
  | [] => []
  | a :: t => if p a then f a :: t else a :: modFirst p f t

end Sys2Proof.Machine
end

