-- ==== Sys2Proof/Machine/Regs.lean ====
section
/-! DEFINITION. The control-space offsets of the registers (R543, R548): a name for each. -/

namespace Sys2Proof.Reg

/-- Offset of DEV_ID. -/
abbrev DEV_ID : Nat := 0x000000
/-- Offset of DEV_REV. -/
abbrev DEV_REV : Nat := 0x000004
/-- Offset of DEV_STATE. -/
abbrev DEV_STATE : Nat := 0x000008
/-- Offset of DEV_DISCARD_COUNT. -/
abbrev DEV_DISCARD_COUNT : Nat := 0x00000C
/-- Offset of DEV_DISCARD_LAST. -/
abbrev DEV_DISCARD_LAST : Nat := 0x000010
/-- Offset of DEV_COMMIT_LO. -/
abbrev DEV_COMMIT_LO : Nat := 0x000040
/-- Offset of DEV_COMMIT_HI. -/
abbrev DEV_COMMIT_HI : Nat := 0x000044
/-- Offset of DEV_WDOG_CTRL. -/
abbrev DEV_WDOG_CTRL : Nat := 0x000050
/-- Offset of DEV_STALL_SITE. -/
abbrev DEV_STALL_SITE : Nat := 0x000054
/-- Offset of DEV_DRAIN_CTRL. -/
abbrev DEV_DRAIN_CTRL : Nat := 0x000058
/-- Offset of CFG_STATUS. -/
abbrev CFG_STATUS : Nat := 0x010000
/-- Offset of CFG_BOOT_PREF. -/
abbrev CFG_BOOT_PREF : Nat := 0x010004
/-- Offset of CFG_START_COUNT. -/
abbrev CFG_START_COUNT : Nat := 0x010008
/-- Offset of CFG_START_CMD. -/
abbrev CFG_START_CMD : Nat := 0x01000C
/-- Offset of CFG_IMAGE_SECVER. -/
abbrev CFG_IMAGE_SECVER : Nat := 0x010010
/-- Offset of CFG_IMAGE_BUILD. -/
abbrev CFG_IMAGE_BUILD : Nat := 0x010014
/-- Offset of CFG_SECVER_MIN. -/
abbrev CFG_SECVER_MIN : Nat := 0x010018
/-- Offset of CFG_SEC_CMD. -/
abbrev CFG_SEC_CMD : Nat := 0x01001C
/-- Offset of CFG_SHADOW_SEL. -/
abbrev CFG_SHADOW_SEL : Nat := 0x010020
/-- Offset of CFG_SHADOW_STATUS. -/
abbrev CFG_SHADOW_STATUS : Nat := 0x010024
/-- Offset of CFG_OVERLAY. -/
abbrev CFG_OVERLAY : Nat := 0x010028
/-- Offset of CFG_STAGE_ADDR_LO. -/
abbrev CFG_STAGE_ADDR_LO : Nat := 0x01002C
/-- Offset of CFG_STAGE_ADDR_HI. -/
abbrev CFG_STAGE_ADDR_HI : Nat := 0x010030
/-- Offset of CFG_STAGE_LEN. -/
abbrev CFG_STAGE_LEN : Nat := 0x010034
/-- Offset of CFG_STAGE_CMD. -/
abbrev CFG_STAGE_CMD : Nat := 0x010038
/-- Offset of CFG_SWAP_MASK. -/
abbrev CFG_SWAP_MASK : Nat := 0x01003C
/-- Offset of CFG_SWAP_Q_LO. -/
abbrev CFG_SWAP_Q_LO : Nat := 0x010040
/-- Offset of CFG_SWAP_Q_HI. -/
abbrev CFG_SWAP_Q_HI : Nat := 0x010044
/-- Offset of CFG_SWAP_CMD. -/
abbrev CFG_SWAP_CMD : Nat := 0x010048
/-- Offset of CFG_PROFILE_CMD. -/
abbrev CFG_PROFILE_CMD : Nat := 0x01004C
/-- Offset of CFG_CMD_STATUS. -/
abbrev CFG_CMD_STATUS : Nat := 0x010050
/-- Offset of CFG_LAST_SWAP_Q_LO. -/
abbrev CFG_LAST_SWAP_Q_LO : Nat := 0x010054
/-- Offset of CFG_LAST_SWAP_Q_HI. -/
abbrev CFG_LAST_SWAP_Q_HI : Nat := 0x010058
/-- Offset of CFG_LAST_SWAP_MASK. -/
abbrev CFG_LAST_SWAP_MASK : Nat := 0x01005C
/-- Offset of CFG_REPAIR_CMD. -/
abbrev CFG_REPAIR_CMD : Nat := 0x010060
/-- Offset of CFG_BANK_STATUS. -/
abbrev CFG_BANK_STATUS : Nat := 0x010064
/-- Offset of CFG_NVM_ADDR. -/
abbrev CFG_NVM_ADDR : Nat := 0x010068
/-- Offset of CFG_NVM_SRC_LO. -/
abbrev CFG_NVM_SRC_LO : Nat := 0x01006C
/-- Offset of CFG_NVM_SRC_HI. -/
abbrev CFG_NVM_SRC_HI : Nat := 0x010070
/-- Offset of CFG_NVM_CMD. -/
abbrev CFG_NVM_CMD : Nat := 0x010074
/-- Offset of CFG_NVM_STATUS. -/
abbrev CFG_NVM_STATUS : Nat := 0x010078
/-- Offset of CFG_DRAM_BASE_LO. -/
abbrev CFG_DRAM_BASE_LO : Nat := 0x01007C
/-- Offset of CFG_DRAM_BASE_HI. -/
abbrev CFG_DRAM_BASE_HI : Nat := 0x010080
/-- Offset of CFG_CNT_SWAP. -/
abbrev CFG_CNT_SWAP : Nat := 0x010088
/-- Offset of CFG_CNT_REJECT. -/
abbrev CFG_CNT_REJECT : Nat := 0x01008C
/-- Offset of CFG_CNT_INVALID. -/
abbrev CFG_CNT_INVALID : Nat := 0x010090
/-- Offset of CFG_CNT_CLEAR. -/
abbrev CFG_CNT_CLEAR : Nat := 0x010094
/-- Offset of PRT_CNT_CLEAR. -/
abbrev PRT_CNT_CLEAR : Nat := 0x022000
/-- Offset of PRT_PRP_CTRL. -/
abbrev PRT_PRP_CTRL : Nat := 0x022004
/-- Offset of PRT_PRP_STATUS. -/
abbrev PRT_PRP_STATUS : Nat := 0x022008
/-- Offset of PRT_PATH_STATUS. -/
abbrev PRT_PATH_STATUS : Nat := 0x02200C
/-- Offset of PRT_UDP_TRDP. -/
abbrev PRT_UDP_TRDP : Nat := 0x022010
/-- Offset of PRT_UDP_450. -/
abbrev PRT_UDP_450 : Nat := 0x022014
/-- Offset of PRT_TOPO_CTRL. -/
abbrev PRT_TOPO_CTRL : Nat := 0x022018
/-- Offset of PRT_TOPO_ETB. -/
abbrev PRT_TOPO_ETB : Nat := 0x02201C
/-- Offset of PRT_TOPO_OPTRN. -/
abbrev PRT_TOPO_OPTRN : Nat := 0x022020
/-- Offset of STB_STATUS. -/
abbrev STB_STATUS : Nat := 0x040000
/-- Offset of STB_LEARN_CTRL. -/
abbrev STB_LEARN_CTRL : Nat := 0x040004
/-- Offset of STB_LEARN_STATUS. -/
abbrev STB_LEARN_STATUS : Nat := 0x040008
/-- Offset of STB_ADMIT. -/
abbrev STB_ADMIT : Nat := 0x04000C
/-- Offset of STB_STREAM_CMD. -/
abbrev STB_STREAM_CMD : Nat := 0x040010
/-- Offset of STB_HASH_SEED_LO. -/
abbrev STB_HASH_SEED_LO : Nat := 0x040014
/-- Offset of STB_HASH_SEED_HI. -/
abbrev STB_HASH_SEED_HI : Nat := 0x040018
/-- Offset of STB_PART_STATUS. -/
abbrev STB_PART_STATUS : Nat := 0x04001C
/-- Offset of STB_ENGINE_STATUS. -/
abbrev STB_ENGINE_STATUS : Nat := 0x040020
/-- Offset of STB_LVC_OVF. -/
abbrev STB_LVC_OVF : Nat := 0x040024
/-- Offset of STB_LVC_OVF_BASE_LO. -/
abbrev STB_LVC_OVF_BASE_LO : Nat := 0x040028
/-- Offset of STB_LVC_OVF_BASE_HI. -/
abbrev STB_LVC_OVF_BASE_HI : Nat := 0x04002C
/-- Offset of STB_CNT_MISS. -/
abbrev STB_CNT_MISS : Nat := 0x040030
/-- Offset of STB_CNT_STRANGER. -/
abbrev STB_CNT_STRANGER : Nat := 0x040034
/-- Offset of STB_CNT_AGED. -/
abbrev STB_CNT_AGED : Nat := 0x040038
/-- Offset of STB_CNT_SHED. -/
abbrev STB_CNT_SHED : Nat := 0x04003C
/-- Offset of STB_CNT_LEARN_FULL. -/
abbrev STB_CNT_LEARN_FULL : Nat := 0x040040
/-- Offset of STB_CNT_LVC_STALE. -/
abbrev STB_CNT_LVC_STALE : Nat := 0x040044
/-- Offset of STB_CNT_CLEAR. -/
abbrev STB_CNT_CLEAR : Nat := 0x040048
/-- Offset of FLT_STATUS. -/
abbrev FLT_STATUS : Nat := 0x060000
/-- Offset of FLT_BOG_CTRL. -/
abbrev FLT_BOG_CTRL : Nat := 0x060004
/-- Offset of FLT_BOG_NEXT. -/
abbrev FLT_BOG_NEXT : Nat := 0x060008
/-- Offset of FLT_SRC_FORCE. -/
abbrev FLT_SRC_FORCE : Nat := 0x06000C
/-- Offset of FLT_CNT_SEAL. -/
abbrev FLT_CNT_SEAL : Nat := 0x060020
/-- Offset of FLT_CNT_SEQ. -/
abbrev FLT_CNT_SEQ : Nat := 0x060024
/-- Offset of FLT_CNT_AGE. -/
abbrev FLT_CNT_AGE : Nat := 0x060028
/-- Offset of FLT_CNT_RANGE. -/
abbrev FLT_CNT_RANGE : Nat := 0x06002C
/-- Offset of FLT_CNT_INTERVAL. -/
abbrev FLT_CNT_INTERVAL : Nat := 0x060030
/-- Offset of FLT_CNT_RATE. -/
abbrev FLT_CNT_RATE : Nat := 0x060034
/-- Offset of FLT_CNT_SUPPRESSED. -/
abbrev FLT_CNT_SUPPRESSED : Nat := 0x060038
/-- Offset of FLT_CNT_UNSELECTED. -/
abbrev FLT_CNT_UNSELECTED : Nat := 0x06003C
/-- Offset of FLT_CNT_SWITCH. -/
abbrev FLT_CNT_SWITCH : Nat := 0x060040
/-- Offset of FLT_CNT_BOG_SHED. -/
abbrev FLT_CNT_BOG_SHED : Nat := 0x060044
/-- Offset of FLT_CNT_CLEAR. -/
abbrev FLT_CNT_CLEAR : Nat := 0x060048
/-- Offset of MAP_ENGINE_STATUS. -/
abbrev MAP_ENGINE_STATUS : Nat := 0x070000
/-- Offset of MAP_ENGINE_CMD. -/
abbrev MAP_ENGINE_CMD : Nat := 0x070004
/-- Offset of MAP_PROG_CMD. -/
abbrev MAP_PROG_CMD : Nat := 0x070008
/-- Offset of MAP_PROG_SEL. -/
abbrev MAP_PROG_SEL : Nat := 0x07000C
/-- Offset of MAP_PROG_INFO. -/
abbrev MAP_PROG_INFO : Nat := 0x070010
/-- Offset of MAP_PROG_RUNS. -/
abbrev MAP_PROG_RUNS : Nat := 0x070014
/-- Offset of MAP_PROG_ABORTS. -/
abbrev MAP_PROG_ABORTS : Nat := 0x070018
/-- Offset of MAP_PROG_DRAIN. -/
abbrev MAP_PROG_DRAIN : Nat := 0x07001C
/-- Offset of MAP_PROG_FAULT. -/
abbrev MAP_PROG_FAULT : Nat := 0x070020
/-- Offset of MAP_CNT_SATURATE. -/
abbrev MAP_CNT_SATURATE : Nat := 0x070040
/-- Offset of MAP_CNT_RANGE. -/
abbrev MAP_CNT_RANGE : Nat := 0x070044
/-- Offset of MAP_CNT_TRAP. -/
abbrev MAP_CNT_TRAP : Nat := 0x070048
/-- Offset of MAP_CNT_OVERTIME. -/
abbrev MAP_CNT_OVERTIME : Nat := 0x07004C
/-- Offset of MAP_CNT_DROP. -/
abbrev MAP_CNT_DROP : Nat := 0x070050
/-- Offset of MAP_CNT_REFUSED. -/
abbrev MAP_CNT_REFUSED : Nat := 0x070054
/-- Offset of MAP_CNT_NOPROG. -/
abbrev MAP_CNT_NOPROG : Nat := 0x070058
/-- Offset of MAP_CNT_CYC_SKIP. -/
abbrev MAP_CNT_CYC_SKIP : Nat := 0x07005C
/-- Offset of MAP_CNT_CLEAR. -/
abbrev MAP_CNT_CLEAR : Nat := 0x070060
/-- Offset of MAP_FAULT_LAST. -/
abbrev MAP_FAULT_LAST : Nat := 0x070064
/-- Offset of MAP_CYC_CMD. -/
abbrev MAP_CYC_CMD : Nat := 0x070068
/-- Offset of BGT_STATUS. -/
abbrev BGT_STATUS : Nat := 0x080000
/-- Offset of BGT_PERIOD_COUNT. -/
abbrev BGT_PERIOD_COUNT : Nat := 0x080004
/-- Offset of BGT_ROOT_FAB. -/
abbrev BGT_ROOT_FAB : Nat := 0x080008
/-- Offset of BGT_HOLD_STATUS. -/
abbrev BGT_HOLD_STATUS : Nat := 0x08000C
/-- Offset of BGT_PACE_CTRL. -/
abbrev BGT_PACE_CTRL : Nat := 0x080020
/-- Offset of BGT_AVS_STATUS. -/
abbrev BGT_AVS_STATUS : Nat := 0x080024
/-- Offset of BGT_ADAPT_CTRL. -/
abbrev BGT_ADAPT_CTRL : Nat := 0x080028
/-- Offset of BGT_OASIS_BUF. -/
abbrev BGT_OASIS_BUF : Nat := 0x08002C
/-- Offset of BGT_NODE_SELECT. -/
abbrev BGT_NODE_SELECT : Nat := 0x080030
/-- Offset of BGT_NODE_INFO. -/
abbrev BGT_NODE_INFO : Nat := 0x080034
/-- Offset of BGT_NODE_FCREDIT. -/
abbrev BGT_NODE_FCREDIT : Nat := 0x080038
/-- Offset of BGT_NODE_ECREDIT. -/
abbrev BGT_NODE_ECREDIT : Nat := 0x08003C
/-- Offset of BGT_NODE_BUF. -/
abbrev BGT_NODE_BUF : Nat := 0x080040
/-- Offset of BGT_NODE_FRATE. -/
abbrev BGT_NODE_FRATE : Nat := 0x080044
/-- Offset of BGT_NODE_ERATE. -/
abbrev BGT_NODE_ERATE : Nat := 0x080048
/-- Offset of BGT_NODE_REFUSED. -/
abbrev BGT_NODE_REFUSED : Nat := 0x08004C
/-- Offset of BGT_NODE_CMD. -/
abbrev BGT_NODE_CMD : Nat := 0x080050
/-- Offset of BGT_NODE_DROPPED. -/
abbrev BGT_NODE_DROPPED : Nat := 0x080054
/-- Offset of BGT_NODE_DRAIN. -/
abbrev BGT_NODE_DRAIN : Nat := 0x080058
/-- Offset of BGT_CNT_REFUSED_BUF. -/
abbrev BGT_CNT_REFUSED_BUF : Nat := 0x080060
/-- Offset of BGT_CNT_HELD. -/
abbrev BGT_CNT_HELD : Nat := 0x080064
/-- Offset of BGT_CNT_DROP. -/
abbrev BGT_CNT_DROP : Nat := 0x080068
/-- Offset of BGT_CNT_CONTRACT. -/
abbrev BGT_CNT_CONTRACT : Nat := 0x08006C
/-- Offset of BGT_CNT_ADAPT. -/
abbrev BGT_CNT_ADAPT : Nat := 0x080070
/-- Offset of BGT_CNT_ADAPT_BLOCKED. -/
abbrev BGT_CNT_ADAPT_BLOCKED : Nat := 0x080074
/-- Offset of BGT_CNT_HOLD_FULL. -/
abbrev BGT_CNT_HOLD_FULL : Nat := 0x080078
/-- Offset of BGT_CNT_CLEAR. -/
abbrev BGT_CNT_CLEAR : Nat := 0x08007C
/-- Offset of EGR_STATUS. -/
abbrev EGR_STATUS : Nat := 0x0A0000
/-- Offset of EGR_LISTENER_CMD. -/
abbrev EGR_LISTENER_CMD : Nat := 0x0A0004
/-- Offset of EGR_LISTENER_SEL. -/
abbrev EGR_LISTENER_SEL : Nat := 0x0A0008
/-- Offset of EGR_LISTENER_INFO. -/
abbrev EGR_LISTENER_INFO : Nat := 0x0A000C
/-- Offset of EGR_REPLAY_CTRL. -/
abbrev EGR_REPLAY_CTRL : Nat := 0x0A0010
/-- Offset of EGR_CNT_DROP. -/
abbrev EGR_CNT_DROP : Nat := 0x0A0020
/-- Offset of EGR_CNT_STORE_FULL. -/
abbrev EGR_CNT_STORE_FULL : Nat := 0x0A0024
/-- Offset of EGR_CNT_GONE. -/
abbrev EGR_CNT_GONE : Nat := 0x0A0028
/-- Offset of EGR_CNT_DRAIN. -/
abbrev EGR_CNT_DRAIN : Nat := 0x0A002C
/-- Offset of EGR_CNT_SEAL_FAIL. -/
abbrev EGR_CNT_SEAL_FAIL : Nat := 0x0A0030
/-- Offset of EGR_CNT_REPLAY_CUT. -/
abbrev EGR_CNT_REPLAY_CUT : Nat := 0x0A0034
/-- Offset of EGR_CNT_REPLAY. -/
abbrev EGR_CNT_REPLAY : Nat := 0x0A0038
/-- Offset of EGR_CNT_CLEAR. -/
abbrev EGR_CNT_CLEAR : Nat := 0x0A003C
/-- Offset of LNI_CYCLE_CTRL. -/
abbrev LNI_CYCLE_CTRL : Nat := 0x0B0000
/-- Offset of LNI_HOLD. -/
abbrev LNI_HOLD : Nat := 0x0B0004
/-- Offset of LNI_CYCLE_LO. -/
abbrev LNI_CYCLE_LO : Nat := 0x0B0008
/-- Offset of LNI_CYCLE_HI. -/
abbrev LNI_CYCLE_HI : Nat := 0x0B000C
/-- Offset of LNI_CNT_CLEAR. -/
abbrev LNI_CNT_CLEAR : Nat := 0x0B0010
/-- Offset of VOT_STATUS. -/
abbrev VOT_STATUS : Nat := 0x0C0000
/-- Offset of VOT_CTRL. -/
abbrev VOT_CTRL : Nat := 0x0C0004
/-- Offset of VOT_LANE_CMD. -/
abbrev VOT_LANE_CMD : Nat := 0x0C0008
/-- Offset of VOT_STREAM_CMD. -/
abbrev VOT_STREAM_CMD : Nat := 0x0C000C
/-- Offset of VOT_STREAM_SEL. -/
abbrev VOT_STREAM_SEL : Nat := 0x0C0010
/-- Offset of VOT_STREAM_INFO. -/
abbrev VOT_STREAM_INFO : Nat := 0x0C0014
/-- Offset of VOT_STREAM_RELEASED. -/
abbrev VOT_STREAM_RELEASED : Nat := 0x0C0018
/-- Offset of VOT_STREAM_NOMAJ. -/
abbrev VOT_STREAM_NOMAJ : Nat := 0x0C001C
/-- Offset of VOT_LAST_DISAGREE. -/
abbrev VOT_LAST_DISAGREE : Nat := 0x0C0020
/-- Offset of VOT_LAST_CYCLE_LO. -/
abbrev VOT_LAST_CYCLE_LO : Nat := 0x0C0024
/-- Offset of VOT_LAST_CYCLE_HI. -/
abbrev VOT_LAST_CYCLE_HI : Nat := 0x0C0028
/-- Offset of VOT_CNT_RELEASED. -/
abbrev VOT_CNT_RELEASED : Nat := 0x0C0040
/-- Offset of VOT_CNT_DISAGREE. -/
abbrev VOT_CNT_DISAGREE : Nat := 0x0C0044
/-- Offset of VOT_CNT_NO_MAJORITY. -/
abbrev VOT_CNT_NO_MAJORITY : Nat := 0x0C0048
/-- Offset of VOT_CNT_WINDOW_FULL. -/
abbrev VOT_CNT_WINDOW_FULL : Nat := 0x0C004C
/-- Offset of VOT_CNT_REFUSED. -/
abbrev VOT_CNT_REFUSED : Nat := 0x0C0050
/-- Offset of VOT_CNT_DRAIN. -/
abbrev VOT_CNT_DRAIN : Nat := 0x0C0054
/-- Offset of VOT_CNT_CLEAR. -/
abbrev VOT_CNT_CLEAR : Nat := 0x0C0058
/-- Offset of BRG_STATUS. -/
abbrev BRG_STATUS : Nat := 0x0D0000
/-- Offset of BRG_WIN_CMD. -/
abbrev BRG_WIN_CMD : Nat := 0x0D0004
/-- Offset of BRG_WIN_SEL. -/
abbrev BRG_WIN_SEL : Nat := 0x0D0008
/-- Offset of BRG_WIN_INFO. -/
abbrev BRG_WIN_INFO : Nat := 0x0D000C
/-- Offset of BRG_WIN_FENCE. -/
abbrev BRG_WIN_FENCE : Nat := 0x0D0010
/-- Offset of BRG_SEM_CMD. -/
abbrev BRG_SEM_CMD : Nat := 0x0D0014
/-- Offset of BRG_CNT_REQUESTS. -/
abbrev BRG_CNT_REQUESTS : Nat := 0x0D0020
/-- Offset of BRG_CNT_TIMEOUT. -/
abbrev BRG_CNT_TIMEOUT : Nat := 0x0D0024
/-- Offset of BRG_CNT_FAR_ERROR. -/
abbrev BRG_CNT_FAR_ERROR : Nat := 0x0D0028
/-- Offset of BRG_CNT_ABORTED. -/
abbrev BRG_CNT_ABORTED : Nat := 0x0D002C
/-- Offset of BRG_CNT_REFUSED. -/
abbrev BRG_CNT_REFUSED : Nat := 0x0D0030
/-- Offset of BRG_CNT_LATE_FAULT. -/
abbrev BRG_CNT_LATE_FAULT : Nat := 0x0D0034
/-- Offset of BRG_CNT_FENCED. -/
abbrev BRG_CNT_FENCED : Nat := 0x0D0038
/-- Offset of BRG_CNT_CACHE_HIT. -/
abbrev BRG_CNT_CACHE_HIT : Nat := 0x0D003C
/-- Offset of BRG_CNT_LATE_CPL. -/
abbrev BRG_CNT_LATE_CPL : Nat := 0x0D0040
/-- Offset of BRG_CNT_UNMATCHED. -/
abbrev BRG_CNT_UNMATCHED : Nat := 0x0D0044
/-- Offset of BRG_CNT_MIRROR_EMPTY. -/
abbrev BRG_CNT_MIRROR_EMPTY : Nat := 0x0D0048
/-- Offset of BRG_CNT_CLEAR. -/
abbrev BRG_CNT_CLEAR : Nat := 0x0D004C
/-- Offset of TIM_CTRL. -/
abbrev TIM_CTRL : Nat := 0x0E0000
/-- Offset of TIM_STATUS. -/
abbrev TIM_STATUS : Nat := 0x0E0004
/-- Offset of TIM_NOW_LO. -/
abbrev TIM_NOW_LO : Nat := 0x0E0008
/-- Offset of TIM_NOW_HI. -/
abbrev TIM_NOW_HI : Nat := 0x0E000C
/-- Offset of TIM_INC_LO. -/
abbrev TIM_INC_LO : Nat := 0x0E0010
/-- Offset of TIM_INC_HI. -/
abbrev TIM_INC_HI : Nat := 0x0E0014
/-- Offset of TIM_ADJ. -/
abbrev TIM_ADJ : Nat := 0x0E0018
/-- Offset of TIM_ADJ_CMD. -/
abbrev TIM_ADJ_CMD : Nat := 0x0E001C
/-- Offset of TIM_SET_LO. -/
abbrev TIM_SET_LO : Nat := 0x0E0020
/-- Offset of TIM_SET_HI. -/
abbrev TIM_SET_HI : Nat := 0x0E0024
/-- Offset of TIM_SLEW_LEFT. -/
abbrev TIM_SLEW_LEFT : Nat := 0x0E0028
/-- Offset of TIM_UTC_OFFSET. -/
abbrev TIM_UTC_OFFSET : Nat := 0x0E002C
/-- Offset of TIM_LEAP_CTRL. -/
abbrev TIM_LEAP_CTRL : Nat := 0x0E0030
/-- Offset of TIM_LEAP_AT. -/
abbrev TIM_LEAP_AT : Nat := 0x0E0034
/-- Offset of TIM_PERIOD. -/
abbrev TIM_PERIOD : Nat := 0x0E0038
/-- Offset of TIM_Q_LO. -/
abbrev TIM_Q_LO : Nat := 0x0E003C
/-- Offset of TIM_Q_HI. -/
abbrev TIM_Q_HI : Nat := 0x0E0040
/-- Offset of TIM_BOUND_LO. -/
abbrev TIM_BOUND_LO : Nat := 0x0E0044
/-- Offset of TIM_BOUND_HI. -/
abbrev TIM_BOUND_HI : Nat := 0x0E0048
/-- Offset of TIM_CB_DT_LO. -/
abbrev TIM_CB_DT_LO : Nat := 0x0E004C
/-- Offset of TIM_CB_DT_HI. -/
abbrev TIM_CB_DT_HI : Nat := 0x0E0050
/-- Offset of TIM_CB_TIME. -/
abbrev TIM_CB_TIME : Nat := 0x0E0054
/-- Offset of TIM_CNT_FOREIGN. -/
abbrev TIM_CNT_FOREIGN : Nat := 0x0E0058
/-- Offset of TIM_CNT_STEP. -/
abbrev TIM_CNT_STEP : Nat := 0x0E0060
/-- Offset of TIM_CNT_INC_LIMIT. -/
abbrev TIM_CNT_INC_LIMIT : Nat := 0x0E0064
/-- Offset of TIM_CNT_REF_LOST. -/
abbrev TIM_CNT_REF_LOST : Nat := 0x0E0068
/-- Offset of TIM_CNT_PERIOD_SKIP. -/
abbrev TIM_CNT_PERIOD_SKIP : Nat := 0x0E006C
/-- Offset of TIM_CNT_TRG_MISSED. -/
abbrev TIM_CNT_TRG_MISSED : Nat := 0x0E0070
/-- Offset of TIM_CNT_CAP_LOST. -/
abbrev TIM_CNT_CAP_LOST : Nat := 0x0E0074
/-- Offset of TIM_CNT_DEP_LOST. -/
abbrev TIM_CNT_DEP_LOST : Nat := 0x0E0078
/-- Offset of TIM_CNT_CLEAR. -/
abbrev TIM_CNT_CLEAR : Nat := 0x0E007C
/-- Offset of TIM_TRG_CMD. -/
abbrev TIM_TRG_CMD : Nat := 0x0E0080
/-- Offset of TIM_DEP_INFO. -/
abbrev TIM_DEP_INFO : Nat := 0x0E0A10
/-- Offset of TIM_DEP_LO. -/
abbrev TIM_DEP_LO : Nat := 0x0E0A14
/-- Offset of TIM_DEP_HI. -/
abbrev TIM_DEP_HI : Nat := 0x0E0A18
/-- Offset of CDB_CTRL. -/
abbrev CDB_CTRL : Nat := 0x0F0000
/-- Offset of CDB_CONFIG. -/
abbrev CDB_CONFIG : Nat := 0x0F0004
/-- Offset of CDB_TIMING. -/
abbrev CDB_TIMING : Nat := 0x0F0008
/-- Offset of CDB_SLOT. -/
abbrev CDB_SLOT : Nat := 0x0F000C
/-- Offset of CDB_SYNC_CFG. -/
abbrev CDB_SYNC_CFG : Nat := 0x0F0010
/-- Offset of CDB_LIMITS. -/
abbrev CDB_LIMITS : Nat := 0x0F0014
/-- Offset of CDB_GUARD. -/
abbrev CDB_GUARD : Nat := 0x0F0018
/-- Offset of CDB_CHB_COMP. -/
abbrev CDB_CHB_COMP : Nat := 0x0F001C
/-- Offset of CDB_STATUS. -/
abbrev CDB_STATUS : Nat := 0x0F0020
/-- Offset of CDB_CORR. -/
abbrev CDB_CORR : Nat := 0x0F0024
/-- Offset of CDB_CMD. -/
abbrev CDB_CMD : Nat := 0x0F0028
/-- Offset of CDB_CLAIM_CMD. -/
abbrev CDB_CLAIM_CMD : Nat := 0x0F002C
/-- Offset of CDB_CLAIM_SEL. -/
abbrev CDB_CLAIM_SEL : Nat := 0x0F0030
/-- Offset of CDB_CLAIM_INFO. -/
abbrev CDB_CLAIM_INFO : Nat := 0x0F0034
/-- Offset of CDB_DRIFT_LO. -/
abbrev CDB_DRIFT_LO : Nat := 0x0F0038
/-- Offset of CDB_DRIFT_HI. -/
abbrev CDB_DRIFT_HI : Nat := 0x0F003C
/-- Offset of CDB_CNT_EDGE. -/
abbrev CDB_CNT_EDGE : Nat := 0x0F0040
/-- Offset of CDB_CNT_SYNC_LOST. -/
abbrev CDB_CNT_SYNC_LOST : Nat := 0x0F0044
/-- Offset of CDB_CNT_CONTENTION. -/
abbrev CDB_CNT_CONTENTION : Nat := 0x0F0048
/-- Offset of CDB_CNT_CLAIM_CONFLICT. -/
abbrev CDB_CNT_CLAIM_CONFLICT : Nat := 0x0F004C
/-- Offset of CDB_CNT_GUARDIAN. -/
abbrev CDB_CNT_GUARDIAN : Nat := 0x0F0050
/-- Offset of CDB_CNT_CLAMP. -/
abbrev CDB_CNT_CLAMP : Nat := 0x0F0054
/-- Offset of CDB_CNT_CHANNEL. -/
abbrev CDB_CNT_CHANNEL : Nat := 0x0F0058
/-- Offset of CDB_CNT_SLOT_DROP. -/
abbrev CDB_CNT_SLOT_DROP : Nat := 0x0F005C
/-- Offset of CDB_CNT_CLEAR. -/
abbrev CDB_CNT_CLEAR : Nat := 0x0F0060
/-- Offset of RED_STATUS. -/
abbrev RED_STATUS : Nat := 0x100000
/-- Offset of RED_CONFIG. -/
abbrev RED_CONFIG : Nat := 0x100004
/-- Offset of RED_CMD. -/
abbrev RED_CMD : Nat := 0x100008
/-- Offset of RED_EPOCH. -/
abbrev RED_EPOCH : Nat := 0x10000C
/-- Offset of RED_EPOCH_SEEN. -/
abbrev RED_EPOCH_SEEN : Nat := 0x100010
/-- Offset of RED_LEASE_LEFT. -/
abbrev RED_LEASE_LEFT : Nat := 0x100014
/-- Offset of RED_PEAT_STATUS. -/
abbrev RED_PEAT_STATUS : Nat := 0x100018
/-- Offset of RED_PEAT_Q_LO. -/
abbrev RED_PEAT_Q_LO : Nat := 0x10001C
/-- Offset of RED_PEAT_Q_HI. -/
abbrev RED_PEAT_Q_HI : Nat := 0x100020
/-- Offset of RED_PEER_OFFSET. -/
abbrev RED_PEER_OFFSET : Nat := 0x100024
/-- Offset of RED_PEER_DELAY. -/
abbrev RED_PEER_DELAY : Nat := 0x100028
/-- Offset of RED_LINK_STATUS. -/
abbrev RED_LINK_STATUS : Nat := 0x10002C
/-- Offset of RED_DIV_STATUS. -/
abbrev RED_DIV_STATUS : Nat := 0x100030
/-- Offset of RED_LAST_TAKEOVER. -/
abbrev RED_LAST_TAKEOVER : Nat := 0x100034
/-- Offset of RED_PEAT_BASE_LO. -/
abbrev RED_PEAT_BASE_LO : Nat := 0x100038
/-- Offset of RED_PEAT_BASE_HI. -/
abbrev RED_PEAT_BASE_HI : Nat := 0x10003C
/-- Offset of RED_CNT_TAKEOVER. -/
abbrev RED_CNT_TAKEOVER : Nat := 0x100040
/-- Offset of RED_CNT_LEASE_LOST. -/
abbrev RED_CNT_LEASE_LOST : Nat := 0x100044
/-- Offset of RED_CNT_GRANT_REJECT. -/
abbrev RED_CNT_GRANT_REJECT : Nat := 0x100048
/-- Offset of RED_CNT_LINK_LOST. -/
abbrev RED_CNT_LINK_LOST : Nat := 0x10004C
/-- Offset of RED_CNT_PEAT_LATE. -/
abbrev RED_CNT_PEAT_LATE : Nat := 0x100050
/-- Offset of RED_CNT_DIGEST_MISMATCH. -/
abbrev RED_CNT_DIGEST_MISMATCH : Nat := 0x100054
/-- Offset of RED_CNT_MIRROR_OVF. -/
abbrev RED_CNT_MIRROR_OVF : Nat := 0x100058
/-- Offset of RED_CNT_IU_MIRAGE. -/
abbrev RED_CNT_IU_MIRAGE : Nat := 0x10005C
/-- Offset of RED_CNT_CLEAR. -/
abbrev RED_CNT_CLEAR : Nat := 0x100060
/-- Offset of KVT_STATUS. -/
abbrev KVT_STATUS : Nat := 0x110000
/-- Offset of KVT_CMD. -/
abbrev KVT_CMD : Nat := 0x110004
/-- Offset of KVT_CMD_STATUS. -/
abbrev KVT_CMD_STATUS : Nat := 0x110008
/-- Offset of KVT_KCV_CHECK. -/
abbrev KVT_KCV_CHECK : Nat := 0x11000C
/-- Offset of KVT_ADDR_LO. -/
abbrev KVT_ADDR_LO : Nat := 0x110030
/-- Offset of KVT_ADDR_HI. -/
abbrev KVT_ADDR_HI : Nat := 0x110034
/-- Offset of KVT_SLOT_SEL. -/
abbrev KVT_SLOT_SEL : Nat := 0x110038
/-- Offset of KVT_SLOT_INFO. -/
abbrev KVT_SLOT_INFO : Nat := 0x11003C
/-- Offset of KVT_SLOT_KCV. -/
abbrev KVT_SLOT_KCV : Nat := 0x110040
/-- Offset of KVT_SLOT_GEN. -/
abbrev KVT_SLOT_GEN : Nat := 0x110044
/-- Offset of KVT_SLOT_ATTR. -/
abbrev KVT_SLOT_ATTR : Nat := 0x110048
/-- Offset of KVT_SLOT_SEND_LO. -/
abbrev KVT_SLOT_SEND_LO : Nat := 0x11004C
/-- Offset of KVT_SLOT_SEND_HI. -/
abbrev KVT_SLOT_SEND_HI : Nat := 0x110050
/-- Offset of KVT_TAMPER_CFG. -/
abbrev KVT_TAMPER_CFG : Nat := 0x110054
/-- Offset of KVT_TAMPER_STATUS. -/
abbrev KVT_TAMPER_STATUS : Nat := 0x110058
/-- Offset of KVT_LC_CMD. -/
abbrev KVT_LC_CMD : Nat := 0x11005C
/-- Offset of KVT_ANCHOR_STATUS. -/
abbrev KVT_ANCHOR_STATUS : Nat := 0x110060
/-- Offset of KVT_CNT_OPS. -/
abbrev KVT_CNT_OPS : Nat := 0x110080
/-- Offset of KVT_CNT_ATTR_DENY. -/
abbrev KVT_CNT_ATTR_DENY : Nat := 0x110084
/-- Offset of KVT_CNT_ORPHANED_IN_USE. -/
abbrev KVT_CNT_ORPHANED_IN_USE : Nat := 0x110088
/-- Offset of KVT_CNT_KCV_FAIL. -/
abbrev KVT_CNT_KCV_FAIL : Nat := 0x11008C
/-- Offset of KVT_CNT_ABORT. -/
abbrev KVT_CNT_ABORT : Nat := 0x110090
/-- Offset of KVT_CNT_REMASK. -/
abbrev KVT_CNT_REMASK : Nat := 0x110094
/-- Offset of KVT_CNT_CLEAR. -/
abbrev KVT_CNT_CLEAR : Nat := 0x110098
/-- Offset of KVT_TAMPER_COUNT. -/
abbrev KVT_TAMPER_COUNT : Nat := 0x110140
/-- Offset of KVT_TAMPER_CLEAR. -/
abbrev KVT_TAMPER_CLEAR : Nat := 0x110144
/-- Offset of SAF_STATUS. -/
abbrev SAF_STATUS : Nat := 0x120000
/-- Offset of SAF_OUT. -/
abbrev SAF_OUT : Nat := 0x120004
/-- Offset of SAF_PAIR. -/
abbrev SAF_PAIR : Nat := 0x120008
/-- Offset of SAF_FUNC. -/
abbrev SAF_FUNC : Nat := 0x12000C
/-- Offset of SAF_FAULT. -/
abbrev SAF_FAULT : Nat := 0x120010
/-- Offset of SAF_SPEED_H. -/
abbrev SAF_SPEED_H : Nat := 0x120014
/-- Offset of SAF_SPEED_P. -/
abbrev SAF_SPEED_P : Nat := 0x120018
/-- Offset of SAF_COUNT_H. -/
abbrev SAF_COUNT_H : Nat := 0x12001C
/-- Offset of SAF_COUNT_P. -/
abbrev SAF_COUNT_P : Nat := 0x120020
/-- Offset of SAF_COUNT_P0. -/
abbrev SAF_COUNT_P0 : Nat := 0x120024
/-- Offset of SAF_ODO0_STAMP_LO. -/
abbrev SAF_ODO0_STAMP_LO : Nat := 0x120028
/-- Offset of SAF_ODO0_STAMP_HI. -/
abbrev SAF_ODO0_STAMP_HI : Nat := 0x12002C
/-- Offset of SAF_ODO1_STAMP_LO. -/
abbrev SAF_ODO1_STAMP_LO : Nat := 0x120030
/-- Offset of SAF_ODO1_STAMP_HI. -/
abbrev SAF_ODO1_STAMP_HI : Nat := 0x120034
/-- Offset of SAF_RESET. -/
abbrev SAF_RESET : Nat := 0x120038
/-- Offset of SAF_PARAM_CRC. -/
abbrev SAF_PARAM_CRC : Nat := 0x12003C
/-- Offset of SAF_PARAM_ID. -/
abbrev SAF_PARAM_ID : Nat := 0x120040
/-- Offset of SAF_PARAM_SRC. -/
abbrev SAF_PARAM_SRC : Nat := 0x120044
/-- Offset of SAF_CLOCK. -/
abbrev SAF_CLOCK : Nat := 0x120048
/-- Offset of SAF_LAST_EVENT. -/
abbrev SAF_LAST_EVENT : Nat := 0x12004C
/-- Offset of SAF_CNT_RESET_REFUSED. -/
abbrev SAF_CNT_RESET_REFUSED : Nat := 0x120060
/-- Offset of SAF_CNT_DISAGREE. -/
abbrev SAF_CNT_DISAGREE : Nat := 0x120064
/-- Offset of SAF_CNT_DISCREPANCY. -/
abbrev SAF_CNT_DISCREPANCY : Nat := 0x120068
/-- Offset of SAF_CNT_CHATTER. -/
abbrev SAF_CNT_CHATTER : Nat := 0x12006C
/-- Offset of SAF_CNT_TESTPULSE. -/
abbrev SAF_CNT_TESTPULSE : Nat := 0x120070
/-- Offset of SAF_CNT_TRIP. -/
abbrev SAF_CNT_TRIP : Nat := 0x120074
/-- Offset of SAF_CNT_TESTS. -/
abbrev SAF_CNT_TESTS : Nat := 0x120078
/-- Offset of SAF_CNT_ENC_ERR. -/
abbrev SAF_CNT_ENC_ERR : Nat := 0x12007C
/-- Offset of SAF_CNT_LINK_ERR. -/
abbrev SAF_CNT_LINK_ERR : Nat := 0x120080
/-- Offset of SAF_CNT_H_OVERWRITE. -/
abbrev SAF_CNT_H_OVERWRITE : Nat := 0x120084
/-- Offset of SAF_CNT_CLEAR. -/
abbrev SAF_CNT_CLEAR : Nat := 0x120088
/-- Offset of DGN_STATUS. -/
abbrev DGN_STATUS : Nat := 0x130000
/-- Offset of DGN_EJ_CTRL. -/
abbrev DGN_EJ_CTRL : Nat := 0x130004
/-- Offset of DGN_REC_INFO. -/
abbrev DGN_REC_INFO : Nat := 0x130008
/-- Offset of DGN_EJ_NEXT. -/
abbrev DGN_EJ_NEXT : Nat := 0x13000C
/-- Offset of DGN_EJ_CMD. -/
abbrev DGN_EJ_CMD : Nat := 0x130010
/-- Offset of DGN_LAST_SF. -/
abbrev DGN_LAST_SF : Nat := 0x130014
/-- Offset of DGN_LAST_SF_SEQ. -/
abbrev DGN_LAST_SF_SEQ : Nat := 0x130018
/-- Offset of DGN_SOURCES. -/
abbrev DGN_SOURCES : Nat := 0x13001C
/-- Offset of DGN_CNT_FOLDED. -/
abbrev DGN_CNT_FOLDED : Nat := 0x130020
/-- Offset of DGN_CNT_LOSS. -/
abbrev DGN_CNT_LOSS : Nat := 0x130024
/-- Offset of DGN_CNT_ECC_CORR. -/
abbrev DGN_CNT_ECC_CORR : Nat := 0x130028
/-- Offset of DGN_CNT_ECC_FATAL. -/
abbrev DGN_CNT_ECC_FATAL : Nat := 0x13002C
/-- Offset of DGN_CNT_ECC_JOURNAL. -/
abbrev DGN_CNT_ECC_JOURNAL : Nat := 0x130030
/-- Offset of DGN_CNT_ST_PASS. -/
abbrev DGN_CNT_ST_PASS : Nat := 0x130034
/-- Offset of DGN_CNT_ST_FAIL. -/
abbrev DGN_CNT_ST_FAIL : Nat := 0x130038
/-- Offset of DGN_CNT_SNAP_ABANDON. -/
abbrev DGN_CNT_SNAP_ABANDON : Nat := 0x13003C
/-- Offset of DGN_CNT_CLEAR. -/
abbrev DGN_CNT_CLEAR : Nat := 0x130040
/-- Offset of DGN_SCRUB_STATUS. -/
abbrev DGN_SCRUB_STATUS : Nat := 0x130044
/-- Offset of DGN_SCRUB_CTRL. -/
abbrev DGN_SCRUB_CTRL : Nat := 0x130048
/-- Offset of DGN_ST_CTRL. -/
abbrev DGN_ST_CTRL : Nat := 0x130050
/-- Offset of DGN_ST_NODE. -/
abbrev DGN_ST_NODE : Nat := 0x130054
/-- Offset of DGN_ST_CMD. -/
abbrev DGN_ST_CMD : Nat := 0x130058
/-- Offset of DGN_ST_SEL. -/
abbrev DGN_ST_SEL : Nat := 0x13005C
/-- Offset of DGN_ST_INFO. -/
abbrev DGN_ST_INFO : Nat := 0x130060
/-- Offset of DGN_ST_LAST_LO. -/
abbrev DGN_ST_LAST_LO : Nat := 0x130064
/-- Offset of DGN_ST_LAST_HI. -/
abbrev DGN_ST_LAST_HI : Nat := 0x130068
/-- Offset of DGN_SNAP_CMD. -/
abbrev DGN_SNAP_CMD : Nat := 0x130070
/-- Offset of DGN_SNAP_STATUS. -/
abbrev DGN_SNAP_STATUS : Nat := 0x130074
/-- Offset of DGN_SNAP_BASE_LO. -/
abbrev DGN_SNAP_BASE_LO : Nat := 0x130078
/-- Offset of DGN_SNAP_BASE_HI. -/
abbrev DGN_SNAP_BASE_HI : Nat := 0x13007C
/-- Offset of DGN_SURVEY_DRAM_LO. -/
abbrev DGN_SURVEY_DRAM_LO : Nat := 0x130080
/-- Offset of DGN_SURVEY_DRAM_HI. -/
abbrev DGN_SURVEY_DRAM_HI : Nat := 0x130084
/-- Offset of DGN_CLEAR_ALL. -/
abbrev DGN_CLEAR_ALL : Nat := 0x130088
/-- Offset of DGN_TEMP. -/
abbrev DGN_TEMP : Nat := 0x13008C
/-- Offset of PWR_STATUS. -/
abbrev PWR_STATUS : Nat := 0x140000
/-- Offset of PWR_FAULT. -/
abbrev PWR_FAULT : Nat := 0x140004
/-- Offset of PWR_VBAT. -/
abbrev PWR_VBAT : Nat := 0x140008
/-- Offset of PWR_AVS_CFG. -/
abbrev PWR_AVS_CFG : Nat := 0x14000C
/-- Offset of PWR_AVS_STATUS. -/
abbrev PWR_AVS_STATUS : Nat := 0x140010
/-- Offset of PWR_PMB_LAST_STATUS. -/
abbrev PWR_PMB_LAST_STATUS : Nat := 0x140014
/-- Offset of PWR_CNT_PMB_FAIL. -/
abbrev PWR_CNT_PMB_FAIL : Nat := 0x140020
/-- Offset of PWR_CNT_PMB_ALERT. -/
abbrev PWR_CNT_PMB_ALERT : Nat := 0x140024
/-- Offset of PWR_CNT_DOMAIN_FAULT. -/
abbrev PWR_CNT_DOMAIN_FAULT : Nat := 0x140028
/-- Offset of PWR_CNT_VBAT_LOW. -/
abbrev PWR_CNT_VBAT_LOW : Nat := 0x14002C
/-- Offset of PWR_CNT_CLEAR. -/
abbrev PWR_CNT_CLEAR : Nat := 0x140030
/-- Offset of JRN_CTRL. -/
abbrev JRN_CTRL : Nat := 0x150000
/-- Offset of JRN_STATUS. -/
abbrev JRN_STATUS : Nat := 0x150004
/-- Offset of JRN_AREA_BASE_LO. -/
abbrev JRN_AREA_BASE_LO : Nat := 0x150008
/-- Offset of JRN_AREA_BASE_HI. -/
abbrev JRN_AREA_BASE_HI : Nat := 0x15000C
/-- Offset of JRN_AREA_BLOCKS. -/
abbrev JRN_AREA_BLOCKS : Nat := 0x150010
/-- Offset of JRN_NEWEST_LO. -/
abbrev JRN_NEWEST_LO : Nat := 0x150014
/-- Offset of JRN_NEWEST_HI. -/
abbrev JRN_NEWEST_HI : Nat := 0x150018
/-- Offset of JRN_OLDEST_LO. -/
abbrev JRN_OLDEST_LO : Nat := 0x15001C
/-- Offset of JRN_OLDEST_HI. -/
abbrev JRN_OLDEST_HI : Nat := 0x150020
/-- Offset of JRN_EXPORT_BLOCK_LO. -/
abbrev JRN_EXPORT_BLOCK_LO : Nat := 0x150024
/-- Offset of JRN_EXPORT_BLOCK_HI. -/
abbrev JRN_EXPORT_BLOCK_HI : Nat := 0x150028
/-- Offset of JRN_EXPORT_ADDR_LO. -/
abbrev JRN_EXPORT_ADDR_LO : Nat := 0x15002C
/-- Offset of JRN_EXPORT_ADDR_HI. -/
abbrev JRN_EXPORT_ADDR_HI : Nat := 0x150030
/-- Offset of JRN_EXPORT_CMD. -/
abbrev JRN_EXPORT_CMD : Nat := 0x150034
/-- Offset of JRN_EXPORT_STATUS. -/
abbrev JRN_EXPORT_STATUS : Nat := 0x150038
/-- Offset of JRN_CNT_RECORDS. -/
abbrev JRN_CNT_RECORDS : Nat := 0x150040
/-- Offset of JRN_CNT_LOST. -/
abbrev JRN_CNT_LOST : Nat := 0x150044
/-- Offset of JRN_CNT_BLOCKS. -/
abbrev JRN_CNT_BLOCKS : Nat := 0x150048
/-- Offset of JRN_CNT_WRAP. -/
abbrev JRN_CNT_WRAP : Nat := 0x15004C
/-- Offset of JRN_CNT_SEAL_FAIL. -/
abbrev JRN_CNT_SEAL_FAIL : Nat := 0x150050
/-- Offset of JRN_CNT_CLEAR. -/
abbrev JRN_CNT_CLEAR : Nat := 0x150054
/-- Offset of STW_STATUS. -/
abbrev STW_STATUS : Nat := 0x160000
/-- Offset of STW_FW_VERSION. -/
abbrev STW_FW_VERSION : Nat := 0x160004
/-- Offset of STW_HEARTBEAT. -/
abbrev STW_HEARTBEAT : Nat := 0x160008
/-- Offset of STW_INTAKE. -/
abbrev STW_INTAKE : Nat := 0x16000C
/-- Offset of PRT_CTRL[n]. -/
abbrev PRT_CTRL (n : Nat) : Nat := 0x020000 + 0x40 * n
/-- Offset of PRT_STATUS[n]. -/
abbrev PRT_STATUS (n : Nat) : Nat := 0x020004 + 0x40 * n
/-- Offset of PRT_MODE[n]. -/
abbrev PRT_MODE (n : Nat) : Nat := 0x020008 + 0x40 * n
/-- Offset of PRT_TIMING[n]. -/
abbrev PRT_TIMING (n : Nat) : Nat := 0x02000C + 0x40 * n
/-- Offset of PRT_TIMING2[n]. -/
abbrev PRT_TIMING2 (n : Nat) : Nat := 0x020010 + 0x40 * n
/-- Offset of PRT_LIMITS[n]. -/
abbrev PRT_LIMITS (n : Nat) : Nat := 0x020014 + 0x40 * n
/-- Offset of PRT_SYNC[n]. -/
abbrev PRT_SYNC (n : Nat) : Nat := 0x020018 + 0x40 * n
/-- Offset of PRT_HINT[n]. -/
abbrev PRT_HINT (n : Nat) : Nat := 0x02001C + 0x40 * n
/-- Offset of PRT_STAMP_COMP[n]. -/
abbrev PRT_STAMP_COMP (n : Nat) : Nat := 0x020020 + 0x40 * n
/-- Offset of PRT_CNT_GOOD[n]. -/
abbrev PRT_CNT_GOOD (n : Nat) : Nat := 0x020024 + 0x40 * n
/-- Offset of PRT_CNT_FRAMING[n]. -/
abbrev PRT_CNT_FRAMING (n : Nat) : Nat := 0x020028 + 0x40 * n
/-- Offset of PRT_CNT_CHECKSUM[n]. -/
abbrev PRT_CNT_CHECKSUM (n : Nat) : Nat := 0x02002C + 0x40 * n
/-- Offset of PRT_CNT_OVERRUN[n]. -/
abbrev PRT_CNT_OVERRUN (n : Nat) : Nat := 0x020030 + 0x40 * n
/-- Offset of PRT_CNT_MIRAGE[n]. -/
abbrev PRT_CNT_MIRAGE (n : Nat) : Nat := 0x020034 + 0x40 * n
/-- Offset of PRT_CNT_DRAIN[n]. -/
abbrev PRT_CNT_DRAIN (n : Nat) : Nat := 0x020038 + 0x40 * n
/-- Offset of PRT_CNT_HINT[n]. -/
abbrev PRT_CNT_HINT (n : Nat) : Nat := 0x02003C + 0x40 * n
/-- Offset of STB_KEYOPT[n]. -/
abbrev STB_KEYOPT (n : Nat) : Nat := 0x040100 + 0x4 * n
/-- Offset of FLT_SRC_STATUS[g]. -/
abbrev FLT_SRC_STATUS (g : Nat) : Nat := 0x060100 + 0x4 * g
/-- Offset of MAP_CYC_STATUS[c]. -/
abbrev MAP_CYC_STATUS (c : Nat) : Nat := 0x070100 + 0x4 * c
/-- Offset of MAP_ENGINE_LOAD[e]. -/
abbrev MAP_ENGINE_LOAD (e : Nat) : Nat := 0x070500 + 0x4 * e
/-- Offset of BGT_PACE[r]. -/
abbrev BGT_PACE (r : Nat) : Nat := 0x080010 + 0x4 * r
/-- Offset of BGT_OASIS_SHARE[q]. -/
abbrev BGT_OASIS_SHARE (q : Nat) : Nat := 0x080100 + 0x4 * q
/-- Offset of EGR_PORT_CTRL[q]. -/
abbrev EGR_PORT_CTRL (q : Nat) : Nat := 0x0A0100 + 0x10 * q
/-- Offset of EGR_PORT_STATUS[q]. -/
abbrev EGR_PORT_STATUS (q : Nat) : Nat := 0x0A0104 + 0x10 * q
/-- Offset of EGR_TX_COMP[q]. -/
abbrev EGR_TX_COMP (q : Nat) : Nat := 0x0A0108 + 0x10 * q
/-- Offset of EGR_PORT_DROP[q]. -/
abbrev EGR_PORT_DROP (q : Nat) : Nat := 0x0A010C + 0x10 * q
/-- Offset of LNI_CTRL[k]. -/
abbrev LNI_CTRL (k : Nat) : Nat := 0x0B0100 + 0x80 * k
/-- Offset of LNI_STATUS[k]. -/
abbrev LNI_STATUS (k : Nat) : Nat := 0x0B0104 + 0x80 * k
/-- Offset of LNI_RX_RING_LO[k]. -/
abbrev LNI_RX_RING_LO (k : Nat) : Nat := 0x0B0108 + 0x80 * k
/-- Offset of LNI_RX_RING_HI[k]. -/
abbrev LNI_RX_RING_HI (k : Nat) : Nat := 0x0B010C + 0x80 * k
/-- Offset of LNI_RX_DATA_LO[k]. -/
abbrev LNI_RX_DATA_LO (k : Nat) : Nat := 0x0B0110 + 0x80 * k
/-- Offset of LNI_RX_DATA_HI[k]. -/
abbrev LNI_RX_DATA_HI (k : Nat) : Nat := 0x0B0114 + 0x80 * k
/-- Offset of LNI_RX_SIZE[k]. -/
abbrev LNI_RX_SIZE (k : Nat) : Nat := 0x0B0118 + 0x80 * k
/-- Offset of LNI_RX_HEAD[k]. -/
abbrev LNI_RX_HEAD (k : Nat) : Nat := 0x0B011C + 0x80 * k
/-- Offset of LNI_RX_TAIL[k]. -/
abbrev LNI_RX_TAIL (k : Nat) : Nat := 0x0B0120 + 0x80 * k
/-- Offset of LNI_WB_LO[k]. -/
abbrev LNI_WB_LO (k : Nat) : Nat := 0x0B0124 + 0x80 * k
/-- Offset of LNI_WB_HI[k]. -/
abbrev LNI_WB_HI (k : Nat) : Nat := 0x0B0128 + 0x80 * k
/-- Offset of LNI_TX0_RING_LO[k]. -/
abbrev LNI_TX0_RING_LO (k : Nat) : Nat := 0x0B012C + 0x80 * k
/-- Offset of LNI_TX0_RING_HI[k]. -/
abbrev LNI_TX0_RING_HI (k : Nat) : Nat := 0x0B0130 + 0x80 * k
/-- Offset of LNI_TX0_SIZE[k]. -/
abbrev LNI_TX0_SIZE (k : Nat) : Nat := 0x0B0134 + 0x80 * k
/-- Offset of LNI_TX0_TAIL[k]. -/
abbrev LNI_TX0_TAIL (k : Nat) : Nat := 0x0B0138 + 0x80 * k
/-- Offset of LNI_TX0_HEAD[k]. -/
abbrev LNI_TX0_HEAD (k : Nat) : Nat := 0x0B013C + 0x80 * k
/-- Offset of LNI_TX1_RING_LO[k]. -/
abbrev LNI_TX1_RING_LO (k : Nat) : Nat := 0x0B0140 + 0x80 * k
/-- Offset of LNI_TX1_RING_HI[k]. -/
abbrev LNI_TX1_RING_HI (k : Nat) : Nat := 0x0B0144 + 0x80 * k
/-- Offset of LNI_TX1_SIZE[k]. -/
abbrev LNI_TX1_SIZE (k : Nat) : Nat := 0x0B0148 + 0x80 * k
/-- Offset of LNI_TX1_TAIL[k]. -/
abbrev LNI_TX1_TAIL (k : Nat) : Nat := 0x0B014C + 0x80 * k
/-- Offset of LNI_TX1_HEAD[k]. -/
abbrev LNI_TX1_HEAD (k : Nat) : Nat := 0x0B0150 + 0x80 * k
/-- Offset of LNI_CNT_DELIVERED[k]. -/
abbrev LNI_CNT_DELIVERED (k : Nat) : Nat := 0x0B0154 + 0x80 * k
/-- Offset of LNI_CNT_GAP[k]. -/
abbrev LNI_CNT_GAP (k : Nat) : Nat := 0x0B0158 + 0x80 * k
/-- Offset of LNI_CNT_LOST[k]. -/
abbrev LNI_CNT_LOST (k : Nat) : Nat := 0x0B015C + 0x80 * k
/-- Offset of LNI_CNT_FETCHED[k]. -/
abbrev LNI_CNT_FETCHED (k : Nat) : Nat := 0x0B0160 + 0x80 * k
/-- Offset of LNI_CNT_TAIL_BAD[k]. -/
abbrev LNI_CNT_TAIL_BAD (k : Nat) : Nat := 0x0B0164 + 0x80 * k
/-- Offset of VOT_CNT_MINORITY[k]. -/
abbrev VOT_CNT_MINORITY (k : Nat) : Nat := 0x0C0100 + 0x10 * k
/-- Offset of VOT_CNT_MISSED[k]. -/
abbrev VOT_CNT_MISSED (k : Nat) : Nat := 0x0C0104 + 0x10 * k
/-- Offset of VOT_CNT_LATE[k]. -/
abbrev VOT_CNT_LATE (k : Nat) : Nat := 0x0C0108 + 0x10 * k
/-- Offset of VOT_CNT_BAD[k]. -/
abbrev VOT_CNT_BAD (k : Nat) : Nat := 0x0C010C + 0x10 * k
/-- Offset of BRG_CR_BASE_LO[kw]. -/
abbrev BRG_CR_BASE_LO (kw : Nat) : Nat := 0x0D0100 + 0x40 * kw
/-- Offset of BRG_CR_BASE_HI[kw]. -/
abbrev BRG_CR_BASE_HI (kw : Nat) : Nat := 0x0D0104 + 0x40 * kw
/-- Offset of BRG_CR_SIZE[kw]. -/
abbrev BRG_CR_SIZE (kw : Nat) : Nat := 0x0D0108 + 0x40 * kw
/-- Offset of BRG_CR_TAIL[kw]. -/
abbrev BRG_CR_TAIL (kw : Nat) : Nat := 0x0D010C + 0x40 * kw
/-- Offset of BRG_CR_HEAD[kw]. -/
abbrev BRG_CR_HEAD (kw : Nat) : Nat := 0x0D0110 + 0x40 * kw
/-- Offset of BRG_CPL_HEAD[kw]. -/
abbrev BRG_CPL_HEAD (kw : Nat) : Nat := 0x0D0114 + 0x40 * kw
/-- Offset of BRG_CPL_TAIL[kw]. -/
abbrev BRG_CPL_TAIL (kw : Nat) : Nat := 0x0D0118 + 0x40 * kw
/-- Offset of BRG_CR_CTRL[kw]. -/
abbrev BRG_CR_CTRL (kw : Nat) : Nat := 0x0D011C + 0x40 * kw
/-- Offset of BRG_LAST_ERR[kw]. -/
abbrev BRG_LAST_ERR (kw : Nat) : Nat := 0x0D0120 + 0x40 * kw
/-- Offset of BRG_POST_COUNT[kw]. -/
abbrev BRG_POST_COUNT (kw : Nat) : Nat := 0x0D0124 + 0x40 * kw
/-- Offset of BRG_LATE_STATUS[k]. -/
abbrev BRG_LATE_STATUS (k : Nat) : Nat := 0x0D0300 + 0x10 * k
/-- Offset of BRG_LATE_ACK[k]. -/
abbrev BRG_LATE_ACK (k : Nat) : Nat := 0x0D0304 + 0x10 * k
/-- Offset of BRG_LATE_LOST[k]. -/
abbrev BRG_LATE_LOST (k : Nat) : Nat := 0x0D0308 + 0x10 * k
/-- Offset of BRG_SEM_STATUS[n]. -/
abbrev BRG_SEM_STATUS (n : Nat) : Nat := 0x0D0400 + 0x4 * n
/-- Offset of TIM_TRG_START_LO[t]. -/
abbrev TIM_TRG_START_LO (t : Nat) : Nat := 0x0E0100 + 0x20 * t
/-- Offset of TIM_TRG_START_HI[t]. -/
abbrev TIM_TRG_START_HI (t : Nat) : Nat := 0x0E0104 + 0x20 * t
/-- Offset of TIM_TRG_INTERVAL[t]. -/
abbrev TIM_TRG_INTERVAL (t : Nat) : Nat := 0x0E0108 + 0x20 * t
/-- Offset of TIM_TRG_OFFSET[t]. -/
abbrev TIM_TRG_OFFSET (t : Nat) : Nat := 0x0E010C + 0x20 * t
/-- Offset of TIM_TRG_CFG[t]. -/
abbrev TIM_TRG_CFG (t : Nat) : Nat := 0x0E0110 + 0x20 * t
/-- Offset of TIM_TRG_COMP[t]. -/
abbrev TIM_TRG_COMP (t : Nat) : Nat := 0x0E0114 + 0x20 * t
/-- Offset of TIM_TRG_STATUS[t]. -/
abbrev TIM_TRG_STATUS (t : Nat) : Nat := 0x0E0118 + 0x20 * t
/-- Offset of TIM_TRG_FIRED[t]. -/
abbrev TIM_TRG_FIRED (t : Nat) : Nat := 0x0E011C + 0x20 * t
/-- Offset of TIM_CAP_CFG[c]. -/
abbrev TIM_CAP_CFG (c : Nat) : Nat := 0x0E0900 + 0x10 * c
/-- Offset of TIM_CAP_LO[c]. -/
abbrev TIM_CAP_LO (c : Nat) : Nat := 0x0E0904 + 0x10 * c
/-- Offset of TIM_CAP_HI[c]. -/
abbrev TIM_CAP_HI (c : Nat) : Nat := 0x0E0908 + 0x10 * c
/-- Offset of TIM_CAP_STATUS[c]. -/
abbrev TIM_CAP_STATUS (c : Nat) : Nat := 0x0E090C + 0x10 * c
/-- Offset of TIM_DEP_STREAM[i]. -/
abbrev TIM_DEP_STREAM (i : Nat) : Nat := 0x0E0A00 + 0x4 * i
/-- Offset of CDB_NODE_DEV[n]. -/
abbrev CDB_NODE_DEV (n : Nat) : Nat := 0x0F0100 + 0x4 * n
/-- Offset of RED_GRANT_EPOCH[k]. -/
abbrev RED_GRANT_EPOCH (k : Nat) : Nat := 0x100100 + 0x20 * k
/-- Offset of RED_GRANT_NB_LO[k]. -/
abbrev RED_GRANT_NB_LO (k : Nat) : Nat := 0x100104 + 0x20 * k
/-- Offset of RED_GRANT_NB_HI[k]. -/
abbrev RED_GRANT_NB_HI (k : Nat) : Nat := 0x100108 + 0x20 * k
/-- Offset of RED_GRANT_CMD[k]. -/
abbrev RED_GRANT_CMD (k : Nat) : Nat := 0x10010C + 0x20 * k
/-- Offset of RED_GRANT_STATUS[k]. -/
abbrev RED_GRANT_STATUS (k : Nat) : Nat := 0x100110 + 0x20 * k
/-- Offset of KVT_LOAD_W[i]. -/
abbrev KVT_LOAD_W (i : Nat) : Nat := 0x110010 + 0x4 * i
/-- Offset of KVT_TAMPER_LOG_S[i]. -/
abbrev KVT_TAMPER_LOG_S (i : Nat) : Nat := 0x110100 + 0x8 * i
/-- Offset of KVT_TAMPER_LOG_D[i]. -/
abbrev KVT_TAMPER_LOG_D (i : Nat) : Nat := 0x110104 + 0x8 * i

/-- The reset value of the register at an offset (R548). Registers whose reset the tables give as 0, and offsets
that hold no register, read 0; fused values stand in `State`. -/
def resetOf (off : Nat) : Word :=
  if off = DEV_ID then 0x6416#32 else if off = DEV_REV then 0xB1#32
  else if off = DEV_WDOG_CTRL then 0x07D00032#32 else if off = DEV_DRAIN_CTRL then 2#32
  else if off = CFG_STATUS then 7#32 else if off = CFG_OVERLAY then 0x4000#32
  else if off = CFG_BANK_STATUS then 0x20FFFF#32
  else if off = PRT_PRP_CTRL then 0x3E80F190#32 else if off = PRT_UDP_TRDP then 0x43494348#32
  else if off = STB_LEARN_CTRL then 0x00100078#32 else if off = STB_ENGINE_STATUS then 0x40000#32
  else if off = FLT_BOG_CTRL then 0x01000000#32
  else if 0x60100 ≤ off ∧ off < 0x60500 then 4#32
  else if 0x80010 ≤ off ∧ off < 0x80020 then 0xFFFF0000#32
  else if off = BGT_PACE_CTRL then 0x400#32
  else if off = EGR_REPLAY_CTRL then 0x140000#32
  else if 0xA0100 ≤ off ∧ off < 0xA0790 ∧ off % 16 = 0 then 0x03E80000#32
  else if off = LNI_CYCLE_CTRL then 1#32 else if off = LNI_HOLD then 0x1F4#32
  else if off = VOT_STATUS then 0x2A#32 else if off = VOT_CTRL then 0x01200310#32
  else if off = TIM_CTRL then 0x29F46400#32 else if off = TIM_INC_HI then 2#32
  else if off = TIM_PERIOD then 0x3E8#32
  else if off = CDB_SYNC_CFG then 0x250320C8#32 else if off = CDB_LIMITS then 0x04104008#32
  else if off = CDB_GUARD then 0x19#32 else if off = CDB_CLAIM_INFO then 5#32
  else if off = RED_CONFIG then 0x80A0#32
  else if off = DGN_SCRUB_CTRL then 0x18#32 else if off = DGN_ST_CTRL then 0x003C000A#32
  else if off = PWR_STATUS then 3#32 else if off = PWR_AVS_CFG then 0xC8000000#32
  else if off = JRN_CTRL then 0x190#32
  else 0#32

end Sys2Proof.Reg
end

