-- ==== Sys2Proof/Machine/StatePower.lean ====
section
/-! DEFINITION. The state of power sequencing, of the PMBus master and of the steward (chapters 17 and 1). -/

namespace Sys2Proof.Machine

/-- An entry of the history of VDD_FAB commands (R541): mV commanded, mV read back. -/
structure AvsEnt where
  mv : Nat
  back : Nat
deriving DecidableEq, Repr, Inhabited

/-- The PWR block and the sequencer (R516 to R527). `on` and `part` list domain numbers; `step` is the power-up step
reached. -/
structure Pwr where
  porst : Bool := true
  on : List Nat := [1, 2]
  part : List Nat := []
  sequencing : Bool := false
  step : Nat := 0
  pllLocked : Bool := false
  out : List Nat := []
  fabLow : Bool := false
  vbatMv : Nat := 0
  vbatLow : Bool := false
  vbatOkSince : Option Nat := none
  linked : Bool := false
  exponent : Nat := 0
  avsFail : Bool := false
  failPeriods : Nat := 0
  tries : Nat := 0
  command : Nat := 800
  cmdBusy : Bool := false
  readback : Nat := 0
  history : List AvsEnt := []
  alertPending : Option Nat := none
  lastStatus : Nat := 0
deriving DecidableEq, Repr, Inhabited

/-- The steward (R44 to R46, R549): 0 off, 1 both cores, 2 one core, 3 stopped; its intake and the mailbox of STW_INTAKE. -/
structure Stw where
  state : Nat := 0
  fwVersion : Nat := 0
  heartbeat : Nat := 0
  intake : List Sent := []
  dropped : Nat := 0
deriving DecidableEq, Repr, Inhabited

end Sys2Proof.Machine
end

