-- ==== Sys2Proof/Machine/StateSafety.lean ====
section
/-! DEFINITION. The state of the two safety channels (chapter 14). A channel counts time in its own samples of
100 µs (`clk`); SAFE_P times odometry edges in ticks of 2.5 ns, 40,000 to a sample. -/

namespace Sys2Proof.Machine

/-- One digital input as a channel filters it (R449, R459): filtered level, raw level, samples it has held. -/
structure FiltIn where
  level : Bool
  raw : Bool
  held : Nat
deriving DecidableEq, Repr, Inhabited

/-- A safety input pair in one channel (R449 to R452). `dis` is the sample in which a disagreement began, `ends` the
ends of the last disagreements, latest first; `fault` is 0 none, 1 discrepancy, 2 chatter. -/
structure SafPair where
  a : FiltIn
  b : FiltIn
  dis : Option Nat
  ends : List Nat
  fault : Nat
deriving DecidableEq, Repr, Inhabited

/-- A motion function in one channel (R446 to R448). `ssm` holds SSM's permissive for its hysteresis; `travel` is r or
d in counts times q. -/
structure SafFunc where
  armed : Bool
  armedAt : Nat
  tripped : Bool
  ssm : Bool
  travel : Nat
deriving DecidableEq, Repr, Inhabited

/-- An output in one channel (R453 to R457): start latch, its drive pin, the samples since which readback is awaited low or
high, latched test fault, the running off-pulse, the tests done or skipped. -/
structure SafOut where
  start : Bool
  drive : Bool
  fellAt : Option Nat
  roseAt : Option Nat
  testFault : Bool
  pulse : Option Nat
  intervals : Nat
deriving DecidableEq, Repr, Inhabited

/-- A cross-link frame (R434): sequence number, the sender's speed, direction and counts, input-pair states, latched
faults, reset acceptance, and the CRC of its parameter block. -/
structure XFrame where
  seq : Nat
  speed : Nat
  dir : Nat
  count0 : Nat
  count1 : Nat
  pairs : List Nat
  pairFaults : List Nat
  trips : List Bool
  tests : List Bool
  mismatch : Nat
  param : Bool
  accept : Nat
  crc : Nat
deriving DecidableEq, Repr, Inhabited

/-- What a channel holds of the other from the cross-link (R434). `accept` counts the releases the other has accepted;
`fresh` is the sample in which it last rose. -/
structure SafPeer where
  seq : Option Nat
  lastGood : Nat
  good : Nat
  stale : Bool
  speed : Nat
  dir : Nat
  count0 : Nat
  count1 : Nat
  pairs : List Nat
  crc : Option Nat
  accept : Nat
  fresh : Option Nat
deriving DecidableEq, Repr, Inhabited

/-- The reset button in one channel (R459). Times in samples; `block` is the time since when it has been seen released
after SAF_RESET_FAULT. -/
structure SafButton where
  no : FiltIn
  nc : FiltIn
  pressed : Bool
  noAt : Nat
  ncAt : Nat
  pressFrom : Option Nat
  refused : Bool
  disFrom : Option Nat
  heldDone : Bool
  faulted : Bool
  clearFrom : Option Nat
deriving DecidableEq, Repr, Inhabited

/-- A safety channel. `block` is the parameter block in use; `copies` bit 0 and 1 say which copies are valid. `mismatch`
has bit c set while cause c of SAF_CHANNEL_MISMATCH is latched, `mismatchBy` says who declared (bit 0 SAFE_H, bit 1
SAFE_P), `causeSeen` is the sample in which a cause 5 to 7 was last present. -/
structure Chan where
  on : Bool
  reset : Bool
  clk : Nat
  block : Option Bytes
  usingB : Bool
  copies : Nat
  blockCrc : Nat
  paramFault : Bool
  mismatch : Nat
  mismatchBy : Nat
  causeSeen : Nat
  ready : Bool
  count0 : Nat
  count1 : Nat
  lev0 : Nat
  lev1 : Nat
  illegal0 : List Nat
  illegal1 : List Nat
  window : List Int
  sub : Int
  edge : Nat
  delta : Nat
  pdir : Nat
  speed : Nat
  dir : Nat
  ssFrom : Option Nat
  odoFrom : Option Nat
  cntFrom : Option Nat
  pairs : Tab SafPair
  funcs : Tab SafFunc
  outs : Tab SafOut
  button : SafButton
  accepted : Option Nat
  acceptN : Nat
  standstill : Bool
  peer : SafPeer
  txSeq : Nat
  frames : List XFrame
  clockFrom : Nat
  clockCount : Nat
  pulseFree : Nat
  lockstep : Bool
deriving DecidableEq, Repr, Inhabited

/-- The safety supervisor: both channels, the halt line, the parameter buffer of R438, the view of R468. -/
structure Saf where
  h : Chan := default
  p : Chan := default
  halt : Bool := true
  srst : Bool := true
  bufA : Bytes := []
  bufB : Bytes := []
  bufOk : Bool := false
  odo0Stamp : Nat := 0
  odo1Stamp : Nat := 0
  fb : Nat := 0
  resets : Nat := 0
  lastEvent : Word := 0
  status : List Nat := []
  hRun : Bool := false
deriving DecidableEq, Repr, Inhabited

end Sys2Proof.Machine
end

