-- ==== Sys2Proof/Machine/StateTime.lean ====
section
/-! DEFINITION. The state of the time unit (chapter 10). -/

namespace Sys2Proof.Machine

/-- A time trigger (R324 to R327). -/
structure Trig where
  armed : Bool
  armedAt : Nat
  due : Option Nat
  pulseEnd : Option Nat
  missed : Nat
  fired : Nat
deriving DecidableEq, Repr, Inhabited

/-- A capture input (R328, R329). -/
structure Capt where
  queue : List Nat
  level : Bool
  lost : Nat
  last : Option Nat
deriving DecidableEq, Repr, Inhabited

/-- An entry of the departure log (R331). -/
structure DepEntry where
  stamp : Nat
  sel : Nat
  port : Nat
  tag : Nat
deriving DecidableEq, Repr, Inhabited

/-- The time unit. `dt` counts 2^-32 ns since the PTP epoch; `slew` is the slew remainder in the same unit.
`qNext` and `qBound` are the Q and the boundary a restored peat names, until the first boundary that follows (R321);
`fresh` says that no boundary has come since a cold start. -/
structure Tim where
  dt : Nat := 0
  staged : Nat := 0
  slew : Int := 0
  timeValid : Bool := false
  refLost : Bool := false
  holdover : Bool := false
  holdoverLong : Bool := false
  holdSince : Nat := 0
  periodFree : Bool := false
  running : Bool := false
  q : Nat := 0
  boundaries : Nat := 0
  qNext : Option Nat := none
  qBound : Nat := 0
  bound : Nat := 0
  cycleDue : Bool := false
  fresh : Bool := true
  cbPairs : List (Nat × Nat) := []
  lastSec : Nat := 0
  trig : Tab Trig := []
  capt : Tab Capt := []
  depLog : List DepEntry := []
  servoCaps : List Nat := []
  rtc : Nat := 0
deriving DecidableEq, Repr, Inhabited

end Sys2Proof.Machine
end

