-- ==== Sys2Proof/Machine/StateUnit.lean ====
section
/-! DEFINITION. The state of the unit's own organs: device, configuration and start, diagnostics, power. -/

namespace Sys2Proof.Machine

/-- DEV_STATE (R548): the unit's role and phase. -/
inductive DevState where
  | reset | loading | starting | standbyCold | standbyShadow | active | relinquishing | haltSafe
deriving DecidableEq, Repr, Inhabited

/-- The step of a start that has been reached (R479, R523). -/
inductive StartPhase where
  | off | powering | pllWait | directory | bist | body | running | complete
deriving DecidableEq, Repr, Inhabited

/-- State of a source of errors: one entry of the coalescing table (R497). -/
structure Source where
  code : Nat
  inst : Nat
  count : Nat
  first : Nat
  last : Nat
deriving DecidableEq, Repr, Inhabited

/-- An error record (R500), in the intake queue or in the record store. -/
structure ErrRec where
  stamp : Nat
  seq : Nat
  code : Nat
  sev : Nat
  loss : Bool
  inst : Nat
  source : Nat
  detail : Nat
  count : Nat
deriving DecidableEq, Repr, Inhabited

/-- Progress and history of one online test (R506). -/
structure SelfTest where
  state : Nat
  progress : Nat
  passes : Nat
  last : Nat
deriving DecidableEq, Repr, Inhabited

/-- The DGN block: error journal (AON domain, R497 to R503), self-tests, snapshot, temperature. -/
structure Dgn where
  intake : List ErrRec := []
  folding : Bool := false
  folded : Nat := 0
  foldSources : List Nat := []
  general : List Source := []
  catchAll : Tab Source := []
  store : Tab ErrRec := []
  nextSeq : Nat := 0
  sfNext : Nat := 0
  recentNext : Nat := 0
  lastSfCode : Nat := 0
  lastSfSev : Nat := 0
  lastSfSeq : Nat := 0
  tests : Tab SelfTest := []
  sramPasses : Nat := 0
  dramPasses : Nat := 0
  snapState : Nat := 0
  snapBlock : Nat := 0
  snapBusy : Bool := false
  snapPending : Bool := false
  snapRegs : Tab Word := []
  clearAllPending : Bool := false
  overTemp : Bool := false
  coolSince : Option Nat := none
  tempNow : Int := 0
  tempMax : Int := 0
  vaultTestFail : Bool := false
deriving DecidableEq, Repr, Inhabited

/-- A configuration set that a swap has replaced (R14, R487): its tag, the boundary count of the swap, its words. -/
structure OldSet where
  tag : Nat
  since : Nat
  words : Tab Word
deriving DecidableEq, Repr, Inhabited

/-- A shadow set of one region (R483): its overlay of data words and control pairs. -/
structure Shadow where
  state : Nat
  owner : Nat
  words : Tab (Option Word)
  pairs : Tab (Option Word)
  pending : Bool
  perRegion : Bool
  swapQ : Nat
  mergeSince : Nat
deriving DecidableEq, Repr, Inhabited

/-- A global swap that waits for its boundary (R486, R489): its regions, its Q (0 for the next ready boundary), and its profile. -/
structure GlobalSwap where
  mask : Nat
  q : Nat
  profile : Option Nat
deriving DecidableEq, Repr, Inhabited

/-- A staging or validation in progress (R484, R485, R489): command code, the reason it will fail for (0 for none), the region, the
requester's number, and the swap that follows it. -/
structure CfgRun where
  code : Nat
  reason : Nat
  region : Nat
  by_ : Nat
  swap : Option GlobalSwap
deriving DecidableEq, Repr, Inhabited

/-- What an NVM command does to the device (R492). -/
inductive NvmOp where
  | erase
  | program (data : Bytes)
  | read (len dst : Nat)
deriving DecidableEq, Repr, Inhabited

/-- An NVM command in progress (R492): its operation, address and the requester's number. -/
structure NvmRun where
  op : NvmOp
  addr : Nat
  by_ : Nat
deriving DecidableEq, Repr, Inhabited

/-- The configuration block: loader, shadows, live repair, NVM (chapter 15). -/
structure CfgS where
  phase : StartPhase := .off
  startSlot : Nat := 7
  startWarm : Bool := false
  startHeader : Bytes := []
  startBase : Nat := 0
  unsigned : Bool := false
  sigSkipped : Bool := false
  bistSkipped : Bool := false
  dirCopy : Bool := false
  dramReady : Bool := false
  bodyReady : Bool := false
  slotUsed : Nat := 7
  image : Bytes := []
  startAt : Nat := 0
  completeAt : Option Nat := none
  settled : Bool := true
  profile : Option Nat := none
  shadows : Tab Shadow := []
  cmdState : Nat := 0
  cmdCode : Nat := 0
  cmdReason : Nat := 0
  cmdRegion : Nat := 0
  run : Option CfgRun := none
  swaps : List GlobalSwap := []
  mergeBegun : Bool := false
  lastSwapQ : Nat := 0
  lastSwapMask : Nat := 0
  bankServing : Nat := 0xFFFF
  bankSpare : Nat := 16
  bankMap : Tab Nat := []
  bankCopy : Option (Nat × Nat) := none
  bankCopyRepair : Bool := false
  bankReturning : Option Nat := none
  portsOut : List Nat := []
  nvmState : Nat := 0
  nvmReason : Nat := 0
  nvmRun : Option NvmRun := none
  dir : Bytes := []
deriving DecidableEq, Repr, Inhabited

/-- What the AON domain keeps across a restart of the unit (R16, R480, R481). -/
structure Aon where
  imageRecord : Option (Bytes × Nat) := none
  warm : Nat := 0
  failA : Nat := 0
  failB : Nat := 0
  failG : Nat := 0
  starts : Nat := 0
  lastGen : Nat := 0
  bistRtc : Option Nat := none
  countedKind : Nat := 0
deriving DecidableEq, Repr, Inhabited

end Sys2Proof.Machine
end

