-- ==== Sys2Proof/Machine/StateVault.lean ====
section
/-! DEFINITION. The state of the key vault and of the tamper logic (chapter 13). -/

namespace Sys2Proof.Machine

/-- State of a key slot (Slot record, R410). -/
inductive SlotState where
  | empty | pending | valid | orphaned | zeroized
deriving DecidableEq, Repr, Inhabited

/-- A key slot (Slot record, R409 to R416, R422). `key` and `pendKey` are stored XOR `mask`; `pend` is 0 none,
1 loaded, 2 verified; `row` is the physical cell row the slot stands in; `pParent`, `pParentGen`, `pLabel` belong to the
pending half. -/
structure Slot where
  state : SlotState
  pend : Nat
  parent : Option Nat
  label : Nat
  gen : Nat
  parentGen : Nat
  kcv : Nat
  send : Nat
  fromImage : Bool
  key : Bytes
  pendKey : Bytes
  mask : Bytes
  row : Nat
  pParent : Option Nat
  pParentGen : Nat
  pLabel : Nat
deriving DecidableEq, Repr, Inhabited

/-- An operation of the vault in progress (R415, R417): its user (a master bit of R411), a number the user gives
it, the slot, the key it began with, and its output, which leaves only at completion. -/
structure VOp where
  user : Nat
  ident : Nat
  slot : Nat
  key : Bytes
  out : Bytes
deriving DecidableEq, Repr, Inhabited

/-- A KVT_CMD command in progress: code, target, source, the writer, the wrapped blob and where it goes. -/
structure KCmd where
  code : Nat
  slot : Nat
  source : Nat
  by_ : Nat
  blob : Bytes
  addr : Nat
  aborted : Bool
deriving DecidableEq, Repr, Inhabited

/-- An entry of the tamper log (R428): RTC seconds, ticks within the second, sensor code, power context. -/
structure TamperEnt where
  secs : Nat
  ticks : Nat
  code : Nat
  context : Nat
deriving DecidableEq, Repr, Inhabited

/-- The KEY domain and the VBAT domain's root, tamper logic and tamper log. -/
structure Vault where
  root : Bytes := List.replicate 32 0
  rootNew : Bool := false
  testRoot : Bool := false
  slots : Tab Slot := []
  cmdState : Nat := 0
  cmdReason : Nat := 0
  cmdSlot : Nat := 0
  cmd : Option KCmd := none
  ops : List VOp := []
  load : Tab Word := []
  sweep : Bool := false
  unsealed : Bool := false
  lc : Nat := 0
  lcMove : Option Nat := none
  lcArmed : Option Nat := none
  anchors : Tab Bytes := []
  anchorRevoked : List Nat := []
  debug : Bool := false
  tamperCfg : Nat := 0
  tamperStatus : Nat := 0
  tamperLive : Nat := 0
  tamperLog : Tab (Option TamperEnt) := []
  tamperCount : Nat := 0
  tamperNext : Nat := 0
  lfsr : Nat := 0
  drbgN : Nat := 0
  remaskAt : Nat := 0
deriving DecidableEq, Repr, Inhabited

end Sys2Proof.Machine
end

