-- ==== Sys2Proof/Machine/State.lean ====
section
/-! DEFINITION. The state of the block: plain data. What each part holds is said where its structure stands. -/

namespace Sys2Proof.Machine

/-- The moderation interval of a vector (R272): whether one runs, the stamp at which it ends, and whether the vector has fallen due in it. -/
structure Moder where
  running : Bool
  until_ : Nat
  due : Bool
deriving DecidableEq, Repr, Inhabited

/-- What leaves the block (the model's own record of its outputs, newest first). (DESIGN CHOICE: log 7) -/
inductive Out where
  /-- A frame or sentence on the wire of a port: departure stamp, bytes, whether its check sequence is good. -/
  | wire (port dep : Nat) (bytes : Bytes) (good : Bool)
  /-- A pause frame with its quanta (R79). -/
  | pause (port quanta : Nat)
  /-- A write into lane memory: lane, address, bytes (R241 to R258). -/
  | lane (lane addr : Nat) (bytes : Bytes)
  /-- An MSI-X message: endpoint, function, vector (R550). -/
  | msix (lane : Nat) (guard : Bool) (vec : Nat)
  /-- The value a register read returns. -/
  | readData (r : Req) (off : Nat) (v : Word)
  /-- The PCIe completion of a bridge read: tag, whether it succeeded, data. -/
  | completion (lane : Nat) (guard : Bool) (tag : Nat) (ok : Bool) (data : Bytes)
  /-- A frame of the inter-unit link, sent on both paths (R385): sequence number, the sender's DEV_STATE code and its highest epoch
  seen, and what it carries. -/
  | iu (seq dev seen : Nat) (f : IuFrame)
  /-- A frame on a cadence channel: channel, slot, bytes. -/
  | cadence (channel slot : Nat) (bytes : Bytes)
  /-- A level driven on a pin of a group: 0 trigger pins, 1 SOUT_H, 2 SOUT_P, 3 SEAL of the XSPI reset. -/
  | pin (group num : Nat) (level : Bool)
  /-- A PMBus transfer: command code, bytes written. -/
  | pmbus (code : Nat) (bytes : Bytes)
  /-- A master or slave frame on an MVB interface. -/
  | mvb (port code addr : Nat) (bytes : Bytes)
deriving DecidableEq, Repr

/-- The state of the block. Registers stand in `regs` by their BAR0 offset; an unlisted offset reads its reset value.
`latch` holds the latched halves of R546, keyed requester × 2^24 + offset. `cfg` is the set of configuration words in
force, keyed region × 2^20 + word, `prev` the sets that swaps have replaced, oldest first, until their merge begins, `tag` the set
tag (R14). `free` counts the free values taken. -/
structure State where
  pending : List Instr
  regs : Tab Word
  latch : Tab Word
  cfg : Tab Word
  prev : List OldSet
  tag : Nat
  dev : DevState
  msix : Tab Word
  pba : Tab Bool
  moder : Tab Moder
  nvm : Tab Byte
  secver : Nat
  tim : Tim
  prt : Prt
  stb : Stb
  flt : Flt
  map : Map
  com : Com
  bgt : Bgt
  egr : Egr
  jrn : Jrn
  lni : Lni
  vot : Vot
  brg : Brg
  cdb : Cdb
  red : Red
  vault : Vault
  saf : Saf
  dgn : Dgn
  cfgs : CfgS
  aon : Aon
  pwr : Pwr
  stw : Stw
  free : Nat
  out : List Out
deriving DecidableEq, Repr

/-- Why the block stops. No command of this block stops it: the type has no constructor (safe: nothing is hidden). -/
inductive Fault where
deriving DecidableEq, Repr

/-- Why a command has no meaning. -/
inductive Refusal where
  /-- Raised by an arm of `exec` whose command has no meaning yet; safe, since no claim can be proved of it. -/
  | notModelled (mnemonic : String)
deriving DecidableEq, Repr

/-- The block right after power has been applied and PORST_N is held low (R518): every register at its reset value. (DESIGN CHOICE: log 3; PRESUMED: log 5) -/
def State.reset : State where
  pending := []
  regs := []
  latch := []
  cfg := []
  prev := []
  tag := 0
  dev := .reset
  msix := []
  pba := []
  moder := []
  nvm := []
  secver := 0
  tim := {}
  prt := {}
  stb := {}
  flt := {}
  map := {}
  com := {}
  bgt := {}
  egr := {}
  jrn := {}
  lni := {}
  vot := {}
  brg := {}
  cdb := {}
  red := {}
  vault := {}
  saf := {}
  dgn := {}
  cfgs := {}
  aon := {}
  pwr := {}
  stw := {}
  free := 0
  out := []

end Sys2Proof.Machine
end

