-- ==== Sys2Proof/Machine/Tab.lean ====
section
/-! DEFINITION. Sparse tables in canonical form: what an unlisted key reads as is a function of the key,
keys rise strictly, and no pair holds the value its key would read as unlisted. -/

namespace Sys2Proof.Machine

/-- Read key `k`, with `d` giving what unlisted keys read as. -/
def tgetD {α : Type} (d : Nat → α) : Tab α → Nat → α
  | [], k => d k
  | (k', v) :: t, k => if k = k' then v else tgetD d t k

/-- Write key `k`; writing what an unlisted key reads as removes the pair. -/
def tsetD {α : Type} [DecidableEq α] (d : Nat → α) : Tab α → Nat → α → Tab α
  | [], k, v => if v = d k then [] else [(k, v)]
  | (k', v') :: t, k, v =>
    if k < k' then (if v = d k then (k', v') :: t else (k, v) :: (k', v') :: t)
    else if k = k' then (if v = d k then t else (k, v) :: t)
    else (k', v') :: tsetD d t k v

/-- Every key of the table is above `b`, keys rise, and no pair is redundant. -/
def tabWfFrom {α : Type} [DecidableEq α] (d : Nat → α) : Nat → Tab α → Bool
  | _, [] => true
  | b, (k, v) :: t => decide (b ≤ k) && decide (v ≠ d k) && tabWfFrom d (k + 1) t

/-- The canonical form of a table. -/
def tabWf {α : Type} [DecidableEq α] (d : Nat → α) (t : Tab α) : Bool := tabWfFrom d 0 t

/-- Read key `k` of a table whose unlisted keys read as the type's default. -/
def tget {α : Type} [Inhabited α] (t : Tab α) (k : Nat) : α := tgetD (fun _ => default) t k

/-- Write key `k` of a table whose unlisted keys read as the type's default. -/
def tset {α : Type} [DecidableEq α] [Inhabited α] (t : Tab α) (k : Nat) (v : α) : Tab α :=
  tsetD (fun _ => default) t k v

/-- Change the value at key `k`. -/
def tmod {α : Type} [DecidableEq α] [Inhabited α] (t : Tab α) (k : Nat) (f : α → α) : Tab α :=
  tset t k (f (tget t k))

/-- Apply `f` to every listed value, dropping pairs that become redundant. `f` is meant to leave the
default as it is. -/
def tmap {α : Type} [DecidableEq α] [Inhabited α] (f : Nat → α → α) : Tab α → Tab α
  | [] => []
  | (k, v) :: t => if f k v = default then tmap f t else (k, f k v) :: tmap f t

/-- Keep the pairs that pass `p`. -/
def tfilter {α : Type} (p : Nat → α → Bool) (t : Tab α) : Tab α := t.filter (fun e => p e.1 e.2)

/-- The keys listed. -/
def tkeys {α : Type} (t : Tab α) : List Nat := t.map (·.1)

end Sys2Proof.Machine
end

