-- ==== Sys2Proof/Machine/Operands.lean ====
section
/-! DEFINITION. The operand of a control-space access: who may write which fields of which register (R9, R545, R548). -/

namespace Sys2Proof.Machine

/-- The world codes of R548 (Worlds). `lk` is the endpoint-only code of BRG_LATE_ACK. -/
inductive World where
  | r | b | g | gs | bs | k (lane : Nat) | k1 (lane : Nat) | m | lk (lane : Nat)
deriving DecidableEq, Repr

/-- How a register can be written: its world, its RW fields, its RWG fields, its W1C and W1S fields, and its WO fields. -/
structure Acc where
  world : World
  rw : Nat := 0
  rwg : Nat := 0
  w1c : Nat := 0
  w1s : Nat := 0
  wo : Nat := 0
deriving DecidableEq, Repr

/-- A mask of bits `hi` down to `lo`. -/
def msk (hi lo : Nat) : Nat := (2 ^ (hi + 1 - lo) - 1) <<< lo

/-- All 32 bits. -/
def allBits : Nat := 0xFFFFFFFF

/-- The registers that lanes or the steward may write in blocks DEV to STB. -/
def accLow (off : Nat) : Option Acc :=
  if off = Reg.DEV_WDOG_CTRL then some { world := .g, rwg := allBits }
  else if off = Reg.DEV_DRAIN_CTRL then some { world := .g, rwg := msk 7 0 }
  else if off = Reg.CFG_BOOT_PREF then some { world := .g, rwg := 1 }
  else if off = Reg.CFG_START_CMD then some { world := .g, wo := allBits }
  else if off = Reg.CFG_SEC_CMD then some { world := .g, wo := allBits }
  else if off = Reg.CFG_SHADOW_SEL then some { world := .b, rw := msk 4 0 }
  else if off = Reg.CFG_STAGE_ADDR_LO then some { world := .g, rwg := msk 31 4 }
  else if off = Reg.CFG_STAGE_ADDR_HI then some { world := .g, rwg := allBits }
  else if off = Reg.CFG_STAGE_LEN then some { world := .g, rwg := allBits }
  else if off = Reg.CFG_STAGE_CMD then some { world := .g, wo := allBits }
  else if off = Reg.CFG_SWAP_MASK then some { world := .g, rwg := msk 16 0 }
  else if off = Reg.CFG_SWAP_Q_LO then some { world := .g, rwg := allBits }
  else if off = Reg.CFG_SWAP_Q_HI then some { world := .g, rwg := allBits }
  else if off = Reg.CFG_SWAP_CMD then some { world := .g, wo := allBits }
  else if off = Reg.CFG_PROFILE_CMD then some { world := .g, wo := allBits }
  else if off = Reg.CFG_REPAIR_CMD then some { world := .gs, wo := allBits }
  else if off = Reg.CFG_NVM_ADDR then some { world := .g, rwg := allBits }
  else if off = Reg.CFG_NVM_SRC_LO then some { world := .g, rwg := allBits }
  else if off = Reg.CFG_NVM_SRC_HI then some { world := .g, rwg := allBits }
  else if off = Reg.CFG_NVM_CMD then some { world := .g, wo := allBits }
  else if off = Reg.CFG_CNT_CLEAR then some { world := .b, wo := allBits }
  else if off = Reg.PRT_CNT_CLEAR then some { world := .b, wo := allBits }
  else if off = Reg.PRT_PRP_CTRL then some { world := .g, rwg := allBits }
  else if off = Reg.PRT_TOPO_CTRL then some { world := .g, rwg := 1 }
  else if off = Reg.PRT_TOPO_ETB then some { world := .g, rwg := allBits }
  else if off = Reg.PRT_TOPO_OPTRN then some { world := .g, rwg := allBits }
  else if off = Reg.STB_LEARN_CTRL then some { world := .g, rwg := msk 23 0 }
  else if off = Reg.STB_ADMIT then some { world := .gs, wo := allBits }
  else if off = Reg.STB_STREAM_CMD then some { world := .gs, wo := allBits }
  else if off = Reg.STB_CNT_CLEAR then some { world := .b, wo := allBits }
  else if 0x20000 ≤ off ∧ off < 0x21A40 ∧ off % 64 = 0 then some { world := .g, rwg := 1 }
  else if 0x20000 ≤ off ∧ off < 0x21A40 ∧ off % 64 = 0x20 then some { world := .g, rwg := msk 15 0 }
  else none

/-- The registers that lanes or the steward may write in blocks FLT to LNI. -/
def accMid (off : Nat) : Option Acc :=
  if off = Reg.FLT_BOG_CTRL then some { world := .g, rwg := msk 27 16 ||| msk 3 0 }
  else if off = Reg.FLT_SRC_FORCE then some { world := .g, wo := allBits }
  else if off = Reg.FLT_CNT_CLEAR then some { world := .b, wo := allBits }
  else if off = Reg.MAP_ENGINE_CMD then some { world := .gs, wo := allBits }
  else if off = Reg.MAP_PROG_CMD then some { world := .gs, wo := allBits }
  else if off = Reg.MAP_PROG_SEL then some { world := .b, rw := msk 11 0 }
  else if off = Reg.MAP_CNT_CLEAR then some { world := .b, wo := allBits }
  else if off = Reg.MAP_CYC_CMD then some { world := .gs, wo := allBits }
  else if off = Reg.BGT_PACE_CTRL then some { world := .g, rwg := msk 16 0 }
  else if off = Reg.BGT_ADAPT_CTRL then some { world := .g, rwg := 1 }
  else if off = Reg.BGT_NODE_SELECT then some { world := .b, rw := msk 12 0 }
  else if off = Reg.BGT_NODE_CMD then some { world := .gs, wo := allBits }
  else if off = Reg.BGT_CNT_CLEAR then some { world := .b, wo := allBits }
  else if off = Reg.EGR_LISTENER_CMD then some { world := .gs, wo := allBits }
  else if off = Reg.EGR_LISTENER_SEL then some { world := .b, rw := msk 13 0 }
  else if off = Reg.EGR_REPLAY_CTRL then some { world := .g, rwg := msk 23 16 }
  else if off = Reg.EGR_CNT_CLEAR then some { world := .b, wo := allBits }
  else if 0xA0100 ≤ off ∧ off < 0xA0790 ∧ off % 16 = 0 then some { world := .g, rwg := msk 31 16 ||| 1 }
  else if 0xA0100 ≤ off ∧ off < 0xA0790 ∧ off % 16 = 8 then some { world := .g, rwg := msk 15 0 }
  else if off = Reg.LNI_HOLD then some { world := .g, rwg := msk 15 0 }
  else if off = Reg.LNI_CNT_CLEAR then some { world := .b, wo := allBits }
  else if 0xB0100 ≤ off ∧ off < 0xB0280 then
    let k := (off - 0xB0100) / 0x80
    let o := off % 0x80
    if o = 0x00 then some { world := .k k, rw := msk 23 8 ||| 3, rwg := 4 }
    else if o = 0x08 then some { world := .k k, rw := msk 31 12 }
    else if o = 0x0C then some { world := .k k, rw := allBits }
    else if o = 0x10 then some { world := .k k, rw := msk 31 16 }
    else if o = 0x14 then some { world := .k k, rw := allBits }
    else if o = 0x18 then some { world := .k k, rw := msk 12 8 ||| msk 4 0 }
    else if o = 0x20 then some { world := .k k, rw := allBits }
    else if o = 0x24 then some { world := .k k, rw := msk 31 6 }
    else if o = 0x28 then some { world := .k k, rw := allBits }
    else if o = 0x2C then some { world := .k k, rw := msk 31 12 }
    else if o = 0x30 then some { world := .k k, rw := allBits }
    else if o = 0x34 then some { world := .k k, rw := msk 4 0 }
    else if o = 0x38 then some { world := .k k, rw := allBits }
    else if o = 0x40 then some { world := .k k, rwg := msk 31 12 }
    else if o = 0x44 then some { world := .k k, rwg := allBits }
    else if o = 0x48 then some { world := .k k, rwg := msk 4 0 }
    else if o = 0x4C then some { world := .k k, rwg := allBits }
    else none
  else none

/-- The registers that lanes or the steward may write in blocks VOT to CDB. -/
def accHigh (off : Nat) : Option Acc :=
  if off = Reg.VOT_CTRL then some { world := .g, rwg := msk 25 16 ||| msk 11 0 }
  else if off = Reg.VOT_LANE_CMD then some { world := .g, wo := allBits }
  else if off = Reg.VOT_STREAM_CMD then some { world := .gs, wo := allBits }
  else if off = Reg.VOT_STREAM_SEL then some { world := .b, rw := msk 11 0 }
  else if off = Reg.VOT_CNT_CLEAR then some { world := .b, wo := allBits }
  else if off = Reg.BRG_WIN_CMD then some { world := .gs, wo := allBits }
  else if off = Reg.BRG_WIN_SEL then some { world := .b, rw := msk 7 0 }
  else if off = Reg.BRG_SEM_CMD then some { world := .b, wo := allBits }
  else if off = Reg.BRG_CNT_CLEAR then some { world := .b, wo := allBits }
  else if 0xD0100 ≤ off ∧ off < 0xD0280 then
    let kw := (off - 0xD0100) / 0x40
    let o := off % 0x40
    let m := if o = 0x00 then msk 31 12 else if o = 0x04 then allBits else if o = 0x08 then msk 3 0
      else if o = 0x0C then allBits else if o = 0x18 then allBits else if o = 0x1C then msk 15 8 ||| 1 else 0
    if m = 0 then none
    else if kw % 2 = 0 then some { world := .k (kw / 2), rw := m } else some { world := .k (kw / 2), rwg := m }
  else if 0xD0300 ≤ off ∧ off < 0xD0330 ∧ off % 16 = 4 then
    some { world := .lk ((off - 0xD0300) / 16), wo := allBits }
  else if off = Reg.TIM_CTRL then some { world := .g, rwg := msk 31 8 }
  else if off = Reg.TIM_INC_LO then some { world := .m, rwg := allBits }
  else if off = Reg.TIM_INC_HI then some { world := .m, rwg := msk 7 0 }
  else if off = Reg.TIM_ADJ then some { world := .m, rwg := allBits }
  else if off = Reg.TIM_ADJ_CMD then some { world := .m, wo := allBits }
  else if off = Reg.TIM_SET_LO then some { world := .m, rwg := allBits }
  else if off = Reg.TIM_SET_HI then some { world := .m, rwg := allBits }
  else if off = Reg.TIM_UTC_OFFSET then some { world := .g, rwg := msk 15 0 }
  else if off = Reg.TIM_LEAP_CTRL then some { world := .g, rwg := msk 1 0 }
  else if off = Reg.TIM_LEAP_AT then some { world := .g, rwg := allBits }
  else if off = Reg.TIM_CNT_CLEAR then some { world := .b, wo := allBits }
  else if off = Reg.TIM_TRG_CMD then some { world := .gs, wo := allBits }
  else if 0xE0100 ≤ off ∧ off < 0xE0900 then
    let o := off % 0x20
    let m := if o = 0x00 then allBits else if o = 0x04 then allBits else if o = 0x08 then allBits
      else if o = 0x0C then allBits else if o = 0x10 then msk 27 8 ||| msk 6 0 else if o = 0x14 then msk 15 0 else 0
    if m = 0 then none else some { world := .g, rwg := m }
  else if 0xE0900 ≤ off ∧ off < 0xE0980 ∧ off % 16 = 0 then some { world := .g, rwg := msk 31 8 ||| msk 2 0 }
  else if 0xE0A00 ≤ off ∧ off < 0xE0A10 ∧ off % 4 = 0 then some { world := .g, rwg := msk 29 0 }
  else if off = Reg.CDB_CTRL then some { world := .g, rwg := 1 }
  else if off = Reg.CDB_SYNC_CFG then some { world := .g, rwg := allBits }
  else if off = Reg.CDB_LIMITS then some { world := .g, rwg := msk 27 0 }
  else if off = Reg.CDB_GUARD then some { world := .g, rwg := msk 7 0 }
  else if off = Reg.CDB_CHB_COMP then some { world := .g, rwg := msk 15 0 }
  else if off = Reg.CDB_CMD then some { world := .gs, wo := allBits }
  else if off = Reg.CDB_CLAIM_CMD then some { world := .gs, wo := allBits }
  else if off = Reg.CDB_CLAIM_SEL then some { world := .b, rw := msk 9 0 }
  else if off = Reg.CDB_CNT_CLEAR then some { world := .b, wo := allBits }
  else none

/-- The registers that lanes or the steward may write in blocks RED to JRN. -/
def accTop (off : Nat) : Option Acc :=
  if off = Reg.RED_CMD then some { world := .gs, wo := allBits }
  else if off = Reg.RED_CNT_CLEAR then some { world := .b, wo := allBits }
  else if 0x100100 ≤ off ∧ off < 0x100160 then
    let k := (off - 0x100100) / 0x20
    let o := off % 0x20
    if o = 0x00 ∨ o = 0x04 ∨ o = 0x08 then some { world := .k1 k, rwg := allBits }
    else if o = 0x0C then some { world := .k1 k, wo := allBits } else none
  else if off = Reg.KVT_CMD then some { world := .bs, wo := allBits }
  else if off = Reg.KVT_KCV_CHECK then some { world := .bs, wo := allBits }
  else if 0x110010 ≤ off ∧ off < 0x110030 ∧ off % 4 = 0 then some { world := .g, wo := allBits }
  else if off = Reg.KVT_ADDR_LO then some { world := .b, rw := msk 31 3 }
  else if off = Reg.KVT_ADDR_HI then some { world := .b, rw := allBits }
  else if off = Reg.KVT_SLOT_SEL then some { world := .b, rw := msk 7 0 }
  else if off = Reg.KVT_TAMPER_CFG then some { world := .g, w1s := msk 4 0 }
  else if off = Reg.KVT_LC_CMD then some { world := .g, wo := allBits }
  else if off = Reg.KVT_CNT_CLEAR then some { world := .b, wo := allBits }
  else if off = Reg.KVT_TAMPER_CLEAR then some { world := .g, wo := allBits }
  else if off = Reg.SAF_CNT_CLEAR then some { world := .b, wo := allBits }
  else if off = Reg.DGN_EJ_CTRL then some { world := .g, rwg := 3 }
  else if off = Reg.DGN_REC_INFO then some { world := .g, rwg := msk 20 1 }
  else if off = Reg.DGN_EJ_CMD then some { world := .g, wo := allBits }
  else if off = Reg.DGN_CNT_CLEAR then some { world := .b, wo := allBits }
  else if off = Reg.DGN_SCRUB_CTRL then some { world := .g, rwg := msk 7 0 }
  else if off = Reg.DGN_ST_CTRL then some { world := .g, rwg := msk 23 16 ||| msk 7 0 }
  else if off = Reg.DGN_ST_CMD then some { world := .gs, wo := allBits }
  else if off = Reg.DGN_ST_SEL then some { world := .b, rw := msk 7 0 }
  else if off = Reg.DGN_SNAP_CMD then some { world := .b, wo := allBits }
  else if off = Reg.DGN_SURVEY_DRAM_LO then some { world := .b, rw := msk 31 26 }
  else if off = Reg.DGN_SURVEY_DRAM_HI then some { world := .b, rw := 3 }
  else if off = Reg.DGN_CLEAR_ALL then some { world := .g, wo := allBits }
  else if off = Reg.PWR_FAULT then some { world := .g, w1c := msk 15 0 }
  else if off = Reg.PWR_CNT_CLEAR then some { world := .b, wo := allBits }
  else if off = Reg.JRN_CTRL then some { world := .g, rwg := msk 11 2 ||| 1 }
  else if 0x150024 ≤ off ∧ off ≤ 0x150030 ∧ off % 4 = 0 then some { world := .b, rw := allBits }
  else if off = Reg.JRN_EXPORT_CMD then some { world := .b, wo := allBits }
  else if off = Reg.JRN_CNT_CLEAR then some { world := .b, wo := allBits }
  else none

/-- How the register at an offset can be written; none where every field is RO or there is no register. -/
def accOf (off : Nat) : Option Acc :=
  if off < 0x60000 then accLow off else if off < 0xC0000 then accMid off
  else if off < 0x100000 then accHigh off else accTop off

/-- Whether an offset holds a register whose fields are all RO (R548); the remaining offsets without an entry in
`accOf` are reserved. -/
def roOffset (off : Nat) : Bool :=
  let within (lo hi : Nat) := decide (lo ≤ off ∧ off ≤ hi)
  let every (lo hi stride a b : Nat) := decide (lo ≤ off ∧ off ≤ hi ∧ a ≤ (off - lo) % stride ∧ (off - lo) % stride ≤ b)
  decide (off % 4 = 0) &&
  (within 0x0 0x10 || within 0x40 0x44 || within 0x54 0x54 ||
   within 0x10000 0x10000 || within 0x10008 0x10008 || within 0x10010 0x10018 || within 0x10024 0x10028 ||
   within 0x10050 0x1005C || within 0x10064 0x10064 || within 0x10078 0x10080 || within 0x10088 0x10090 ||
   every 0x20000 0x21A3F 0x40 0x04 0x1C || every 0x20000 0x21A3F 0x40 0x24 0x3C || within 0x22008 0x2200C ||
   within 0x22010 0x22014 ||
   within 0x40000 0x40000 || within 0x40008 0x40008 || within 0x40014 0x40044 || within 0x40100 0x402A0 ||
   within 0x60000 0x60000 || within 0x60008 0x60008 || within 0x60020 0x60044 || within 0x60100 0x604FC ||
   within 0x70000 0x70000 || within 0x70010 0x70020 || within 0x70040 0x7005C || within 0x70064 0x70064 ||
   within 0x70100 0x704FC || within 0x70500 0x7053C ||
   within 0x80000 0x8001C || within 0x80024 0x80024 || within 0x8002C 0x8002C || within 0x80034 0x8004C ||
   within 0x80054 0x80058 || within 0x80060 0x80078 || within 0x80100 0x802A0 ||
   within 0xA0000 0xA0000 || within 0xA000C 0xA000C || within 0xA0020 0xA0038 || every 0xA0100 0xA078F 0x10 0x4 0x4 ||
   every 0xA0100 0xA078F 0x10 0xC 0xC ||
   within 0xB0000 0xB0000 || within 0xB0008 0xB000C || every 0xB0100 0xB027F 0x80 0x04 0x04 ||
   every 0xB0100 0xB027F 0x80 0x1C 0x1C || every 0xB0100 0xB027F 0x80 0x3C 0x3C || every 0xB0100 0xB027F 0x80 0x50 0x64 ||
   within 0xC0000 0xC0000 || within 0xC0014 0xC0028 || within 0xC0040 0xC0054 || within 0xC0100 0xC012C ||
   within 0xD0000 0xD0000 || within 0xD000C 0xD0010 || within 0xD0020 0xD0048 || every 0xD0100 0xD027F 0x40 0x10 0x14 ||
   every 0xD0100 0xD027F 0x40 0x20 0x24 || every 0xD0300 0xD032F 0x10 0x0 0x0 || every 0xD0300 0xD032F 0x10 0x8 0x8 ||
   within 0xD0400 0xD05FC || within 0xD1000 0xD27FC ||
   within 0xE0004 0xE000C || within 0xE0028 0xE0028 || within 0xE0038 0xE0058 || within 0xE0060 0xE0078 ||
   every 0xE0100 0xE08FF 0x20 0x18 0x1C || every 0xE0900 0xE097F 0x10 0x4 0xC || within 0xE0A10 0xE0A18 ||
   within 0xF0004 0xF000C || within 0xF0020 0xF0024 || within 0xF0034 0xF005C || within 0xF0100 0xF01FC ||
   within 0x100000 0x100004 || within 0x10000C 0x10005C || every 0x100100 0x10015F 0x20 0x10 0x10 ||
   within 0x110000 0x110000 || within 0x110008 0x110008 || within 0x11003C 0x110050 || within 0x110058 0x110058 ||
   within 0x110060 0x110060 || within 0x110080 0x110094 || within 0x110100 0x110140 ||
   within 0x120000 0x12004C || within 0x120060 0x120084 ||
   within 0x130000 0x130000 || within 0x13000C 0x13000C || within 0x130014 0x13003C || within 0x130044 0x130044 ||
   within 0x130054 0x130054 || within 0x130060 0x130068 || within 0x130074 0x13007C || within 0x13008C 0x13008C ||
   within 0x140000 0x140000 || within 0x140008 0x140014 || within 0x140020 0x14002C ||
   within 0x150004 0x150020 || within 0x150038 0x150038 || within 0x150040 0x150050 || within 0x160000 0x16000C)

/-- The power domain (R516) whose registers lie at an offset. -/
def domainOf (off : Nat) : Nat :=
  if off < 0x20000 then 2
  else if off < 0x40000 then
    (if 0x21500 ≤ off ∧ off < 0x21A00 then 13 else if off < 0x22000 then 14 else 13)
  else if off < 0x70000 then 8 else if off < 0x80000 then 9 else if off < 0xE0000 then 7 else if off < 0xF0000 then 3
  else if off < 0x100000 then 14 else if off < 0x110000 then 2
  else if off < 0x120000 then (if off = Reg.KVT_TAMPER_CFG ∨ off = Reg.KVT_TAMPER_STATUS ∨ 0x110100 ≤ off then 1 else 11)
  else if off < 0x130000 then 5 else if off < 0x150000 then 2 else if off < 0x160000 then 12
  else if off < 0x170000 then 6 else 15

/-- Whether a domain is on, or on in part (R517). -/
def domainOn (s : State) (d : Nat) : Bool := s.pwr.on.contains d || s.pwr.part.contains d

/-- The fields a requester may set in a register of the given access (R9, R548). For world M the discipline master
of R313 is checked where the register's own command is given. -/
def allowedMask (r : Req) (a : Acc) : Nat :=
  match a.world, r with
  | .r, _ => 0
  | .b, .fn _ guard => a.rw ||| a.wo ||| (if guard then a.rwg else 0)
  | .b, .steward => 0
  | .g, .fn _ guard => if guard then a.rwg ||| a.rw ||| a.wo ||| a.w1c ||| a.w1s else 0
  | .g, .steward => 0
  | .gs, .fn _ guard => if guard then a.rwg ||| a.rw ||| a.wo else 0
  | .gs, .steward => a.rwg ||| a.rw ||| a.wo
  | .bs, _ => a.rw ||| a.wo
  | .k lane, .fn l guard => if l = lane then (if guard then a.rwg else a.rw) else 0
  | .k _, .steward => 0
  | .k1 lane, .fn l guard => if l = lane ∧ guard = true then a.rwg ||| a.wo else 0
  | .k1 _, .steward => 0
  | .m, .fn _ guard => if guard then a.rwg ||| a.wo else 0
  | .m, .steward => a.rwg ||| a.wo
  | .lk lane, .fn l _ => if l = lane then a.wo else 0
  | .lk _, .steward => 0

/-- Whether a register is bound to one endpoint and the requester comes through another (R545, cause 3). -/
def wrongEndpoint (r : Req) (a : Acc) : Bool :=
  match a.world, r with
  | .k lane, .fn l _ => decide (l ≠ lane)
  | .k1 lane, .fn l _ => decide (l ≠ lane)
  | .lk lane, .fn l _ => decide (l ≠ lane)
  | _, _ => false

/-- Why a write is discarded (R545): none, or the cause code of DEV_DISCARD_LAST. (DEDUCED: log 11) -/
def discardCause (s : State) (r : Req) (off width : Nat) : Option Nat :=
  if width ≠ 32 ∨ off % 4 ≠ 0 then some 5
  else match accOf off with
    | none => if roOffset off then (if domainOn s (domainOf off) then none else some 4) else some 1
    | some a =>
      if wrongEndpoint r a then some 3
      else if allowedMask r a = 0 then some 2
      else if ¬ domainOn s (domainOf off) then some 4 else none

end Sys2Proof.Machine
end

