-- ==== Sys2Proof/Machine/Ops.lean ====
section
/-! DEFINITION. The named operations every command is written in: time, registers, counters, configuration words,
outputs, free values, and the gate a register write passes (R545). -/

namespace Sys2Proof.Machine

/-- Device time as a stamp: 250 ps units, 64 bits (R312). -/
def now (s : State) : Nat := (s.tim.dt >>> 30) % 2 ^ 64

/-- A stamp's units in a microsecond. -/
abbrev usUnits : Nat := 4000
/-- A stamp's units in a millisecond. -/
abbrev msUnits : Nat := 4000000
/-- A stamp's units in a second. -/
abbrev secUnits : Nat := 4000000000

/-- Raw ticks of 2 ns of the AON lease timer in a microsecond (R374). -/
abbrev usTicks : Nat := 500

/-- Time since a stamp, 0 where it lies ahead. -/
def since (s : State) (t : Nat) : Nat := now s - t

/-- Read the stored value of the register at an offset. -/
def rd (s : State) (off : Nat) : Word := tgetD Reg.resetOf s.regs off

/-- Store a register. -/
def wr (s : State) (off : Nat) (v : Word) : State := { s with regs := tsetD Reg.resetOf s.regs off v }

/-- Field [hi:lo] of the register at an offset. -/
def fld (s : State) (off hi lo : Nat) : Nat := bits (rd s off) hi lo

/-- Store a number into field [hi:lo] of the register at an offset. -/
def setFld (s : State) (off hi lo v : Nat) : State := wr s off (putBits (rd s off) hi lo v)

/-- Raise a 32-bit counter that saturates (R9, R514). -/
def cntAdd (s : State) (off n : Nat) : State := wr s off (satAdd32 (rd s off) n)

/-- Raise a 32-bit counter by one. -/
def cnt (s : State) (off : Nat) : State := cntAdd s off 1

/-- Clear the registers from `lo` to `hi` at 4-byte steps. -/
def clearRegs (s : State) (lo hi : Nat) : State :=
  { s with regs := tfilter (fun k _ => decide (k < lo ∨ hi < k)) s.regs }

/-- Put an output on the record. (DESIGN CHOICE: log 7) -/
def emit (s : State) (o : Out) : State := { s with out := o :: s.out }

/-- Take a free value: a number nothing constrains, and the state in which the next one is another. (DESIGN CHOICE: log 6) -/
def freeVal (s : State) : Nat × State := (Config.freeNat s.free, { s with free := s.free + 1 })

/-- Word `i` of the data area of a region in force (R473). -/
def cw (s : State) (region i : Nat) : Nat := (tget s.cfg (region * 2 ^ 20 + i)).toNat

/-- The configuration words of a set tag (R14): those of a replaced set for an older tag, until the merge of R487 has begun; then those
of the set that followed it. -/
def cfgOf (s : State) (tag : Nat) : Tab Word :=
  match s.prev.find? (fun e => decide (tag ≤ e.tag)) with
  | some e => e.words
  | none => s.cfg

/-- Word `i` of a region under the set a sentence was tagged with (R14). -/
def cwT (s : State) (tag region i : Nat) : Nat := (tget (cfgOf s tag) (region * 2 ^ 20 + i)).toNat

/-- Bits [hi:lo] of word `i` of a region in force. -/
def cf (s : State) (region i hi lo : Nat) : Nat := nbits (cw s region i) hi lo

/-- Bits [hi:lo] of word `i` of a region under a tag. -/
def cfT (s : State) (tag region i hi lo : Nat) : Nat := nbits (cwT s tag region i) hi lo

/-- Bytes `off` to `off + len − 1` of a region's data area under a tag. -/
def cBytes (s : State) (tag region off : Nat) : Nat → Bytes
  | 0 => []
  | n + 1 => BitVec.ofNat 8 (cwT s tag region (off / 4) >>> (8 * (off % 4))) :: cBytes s tag region (off + 1) n

/-- The requester's number: 2 × lane + world, 6 for the steward (R546). -/
def reqKey : Req → Nat
  | .fn lane guard => 2 * lane + b2n guard
  | .steward => 6

/-- The lane of a requester, 3 for the steward. -/
def reqLane : Req → Nat
  | .fn lane _ => lane
  | .steward => 3

/-- Whether a requester speaks for the guard world. -/
def reqGuard : Req → Bool
  | .fn _ guard => guard
  | .steward => false

/-- A discarded write: counted and latched (R545). -/
def discard (s : State) (r : Req) (off cause : Nat) : State :=
  let s := cnt s Reg.DEV_DISCARD_COUNT
  wr s Reg.DEV_DISCARD_LAST
    (BitVec.ofNat 32 (off % 2 ^ 24 + reqLane r * 2 ^ 24 + b2n (reqGuard r) * 2 ^ 26 + cause * 2 ^ 27))

/-- A write to a register that acts only where R545 does not discard it. -/
def gated (s : State) (r : Req) (off : Nat) (k : State → State) : State :=
  match discardCause s r off 32 with
  | some c => discard s r off c
  | none => k s

/-- Whether field [hi:lo] of a register may be written by a requester. -/
def mayWrite (r : Req) (off bitNo : Nat) : Bool :=
  match accOf off with
  | some a => (allowedMask r a).testBit bitNo
  | none => false

/-- A write to one field of a register (bit `bitNo`): as `gated`, and with no effect where that field is not the
requester's to set while another field of the register is (R9). -/
def gatedBit (s : State) (r : Req) (off bitNo : Nat) (k : State → State) : State :=
  gated s r off (fun s => if mayWrite r off bitNo then k s else s)

/-- The drain limit in periods (R80): 0 acts as 1. (DEDUCED: log 10) -/
def drainPeriods (s : State) : Nat := max 1 (fld s Reg.DEV_DRAIN_CTRL 7 0)

/-- The boundary count at which a drain that begins now has reached its limit. (DEDUCED: log 10) -/
def drainEnd (s : State) : Nat := s.tim.boundaries + drainPeriods s + 1

/-- The period P in µs (R321). -/
def periodUs (s : State) : Nat := fld s Reg.TIM_PERIOD 15 0

/-- The period in stamp units. -/
def periodUnits (s : State) : Nat := periodUs s * usUnits

/-- The key of a vector: function 2 × lane + world, 64 vectors each. -/
def vecKey (lane : Nat) (guard : Bool) (vec : Nat) : Nat := (2 * lane + b2n guard) * 64 + vec

/-- What an unlisted word of the MSI-X table reads as: the mask bit of the vector control word is 1. (PRESUMED: log 4) -/
def msixReset (k : Nat) : Word := if k % 4 = 3 then 1#32 else 0#32

/-- Word `i` of an MSI-X table entry. -/
def msixWord (s : State) (lane : Nat) (guard : Bool) (vec i : Nat) : Word :=
  tgetD msixReset s.msix (vecKey lane guard vec * 4 + i)

/-- A vector falls due (R551): a message, or its pending bit while it is masked. -/
def raise (s : State) (lane : Nat) (guard : Bool) (vec : Nat) : State :=
  if bit (msixWord s lane guard vec 3) 0 then { s with pba := tset s.pba (vecKey lane guard vec) true }
  else emit s (.msix lane guard vec)

/-- A vector falls due on every lane endpoint (R550). -/
def raiseAll (s : State) (guard : Bool) (vec : Nat) : State :=
  raise (raise (raise s 0 guard vec) 1 guard vec) 2 guard vec

/-- A moderated vector falls due (R272): at once where no interval is set or none runs, and the interval begins; else it
is left for the interval's end. `interval` is in µs. (DEDUCED: log 63) -/
def raiseMod (s : State) (lane : Nat) (guard : Bool) (vec interval : Nat) : State :=
  let k := vecKey lane guard vec
  if interval = 0 then raise s lane guard vec
  else if (tget s.moder k).running then { s with moder := tmod s.moder k (fun m => { m with due := true }) }
  else raise { s with moder := tset s.moder k ⟨true, now s + interval * usUnits, false⟩ } lane guard vec

/-- Whether the transmit gate is open (R370). -/
def gateOpen (s : State) : Bool := s.red.gate && decide (s.dev = .active)

/-- The value the peat, log and status fields use for DEV_STATE. -/
def devCode : DevState → Nat
  | .reset => 0
  | .loading => 1
  | .starting => 2
  | .standbyCold => 3
  | .standbyShadow => 4
  | .active => 5
  | .relinquishing => 6
  | .haltSafe => 7

/-- Whether the unit is starting (R494). -/
def starting (s : State) : Bool := decide (s.dev = .loading) || decide (s.dev = .starting) || decide (s.dev = .reset)

/-- Whether the unit runs the path: it is active or it shadows the active. -/
def pathOn (s : State) : Bool := decide (s.dev = .active) || decide (s.dev = .standbyShadow) || decide (s.dev = .starting)

/-- The bytes a mirrored record takes on the inter-unit link: 32 for its stamps and marks, and its payload. (DEDUCED: log 52) -/
def mirrorSize : MirrorRec → Nat
  | .ingress x => 32 + x.payload.length
  | .lane _ _ _ _ _ p _ => 32 + p.length
  | .cyclic _ _ => 32

/-- The bytes of mirrored records that one period carries: 20 Gbit/s averaged over it (R381). -/
def mirrorBudget (s : State) : Nat := 2500 * periodUs s

/-- A frame leaves on both paths of the inter-unit link under the next sequence number (R385); with NET off nothing leaves. -/
def sendIu (s : State) (f : IuFrame) : State :=
  if s.dev = .reset ∨ s.dev = .haltSafe then s
  else
    let n := (s.red.txSeq + 1) % 2 ^ 32
    emit { s with red := { s.red with txSeq := n } } (.iu n (devCode s.dev) s.red.seen f)

/-- Waiting mirrored records leave while the period's budget lasts. -/
def mirrorSend : List (Nat × Nat × MirrorRec) → State → State
  | [], s => { s with red := { s.red with mirrorQ := [] } }
  | (q, n, m) :: t, s =>
    if s.red.mirrorLoad + mirrorSize m > mirrorBudget s then { s with red := { s.red with mirrorQ := (q, n, m) :: t } }
    else mirrorSend t (sendIu { s with red := { s.red with mirrorLoad := s.red.mirrorLoad + mirrorSize m } } (.mirror n m))

/-- A record is mirrored to the standby (R381): its mirror sequence number, 0 where nothing is mirrored. -/
def mirrorRec (s : State) (m : MirrorRec) : Nat × State :=
  if s.red.mirroring = false ∨ s.dev ≠ .active then (0, s)
  else
    let n := s.red.mirrorSeq + 1
    let s := { s with red := { s.red with mirrorSeq := n } }
    (n, mirrorSend (s.red.mirrorQ ++ [(s.tim.boundaries, n, m)]) s)

/-- Whether the unit shadows the active (R380): its work comes from mirrored records alone. -/
def shadowing (s : State) : Bool := decide (s.dev = .standbyShadow)

/-- Whether the unit is a standby: its own reception, fetches and firings feed no path (R380, R389). -/
def isStandby (s : State) : Bool := decide (s.dev = .standbyShadow ∨ s.dev = .standbyCold)

end Sys2Proof.Machine
end

