-- ==== Sys2Proof/Machine/Events.lean ====
section
/-! DEFINITION. The events the block reports: codes and severities, sources, the error journal's intake (R494 to R503), and the
change of DEV_STATE (R372). -/

namespace Sys2Proof.Ev

/-- Event code of DEV_OVERTEMP, severity D. -/
abbrev DEV_OVERTEMP : Nat := 0x0101
/-- Event code of DEV_UNDERVOLT, severity F. -/
abbrev DEV_UNDERVOLT : Nat := 0x0102
/-- Event code of DEV_STALL, severity F. -/
abbrev DEV_STALL : Nat := 0x0103
/-- Event code of DEV_PACE_LOW, severity D. -/
abbrev DEV_PACE_LOW : Nat := 0x0104
/-- Event code of CFG_SIG_BAD, severity F. -/
abbrev CFG_SIG_BAD : Nat := 0x0201
/-- Event code of CFG_CRC_BAD, severity F. -/
abbrev CFG_CRC_BAD : Nat := 0x0202
/-- Event code of CFG_SWAP_DONE, severity I. -/
abbrev CFG_SWAP_DONE : Nat := 0x0203
/-- Event code of CFG_SWAP_REJECT, severity E. -/
abbrev CFG_SWAP_REJECT : Nat := 0x0204
/-- Event code of CFG_REGION_INVALID, severity E. -/
abbrev CFG_REGION_INVALID : Nat := 0x0205
/-- Event code of CFG_START_FALLBACK, severity D. -/
abbrev CFG_START_FALLBACK : Nat := 0x0206
/-- Event code of PRT_FRAMING, severity E. -/
abbrev PRT_FRAMING : Nat := 0x0301
/-- Event code of PRT_CHECKSUM, severity E. -/
abbrev PRT_CHECKSUM : Nat := 0x0302
/-- Event code of PRT_OVERRUN, severity D. -/
abbrev PRT_OVERRUN : Nat := 0x0303
/-- Event code of PRT_LINK_DOWN, severity D. -/
abbrev PRT_LINK_DOWN : Nat := 0x0304
/-- Event code of PRT_PATH_LOST, severity D. -/
abbrev PRT_PATH_LOST : Nat := 0x0305
/-- Event code of PRT_MIRAGE, severity I. -/
abbrev PRT_MIRAGE : Nat := 0x0306
/-- Event code of STB_MISS, severity I. -/
abbrev STB_MISS : Nat := 0x0401
/-- Event code of STB_STRANGER, severity I. -/
abbrev STB_STRANGER : Nat := 0x0402
/-- Event code of STB_LEARN_FULL, severity E. -/
abbrev STB_LEARN_FULL : Nat := 0x0403
/-- Event code of STB_AGED, severity I. -/
abbrev STB_AGED : Nat := 0x0404
/-- Event code of FLT_RATE, severity E. -/
abbrev FLT_RATE : Nat := 0x0501
/-- Event code of FLT_RANGE, severity E. -/
abbrev FLT_RANGE : Nat := 0x0502
/-- Event code of FLT_AGE, severity E. -/
abbrev FLT_AGE : Nat := 0x0503
/-- Event code of FLT_SEAL_FAIL, severity E. -/
abbrev FLT_SEAL_FAIL : Nat := 0x0504
/-- Event code of FLT_SOURCE_SWITCH, severity I. -/
abbrev FLT_SOURCE_SWITCH : Nat := 0x0505
/-- Event code of MAP_SATURATE, severity E. -/
abbrev MAP_SATURATE : Nat := 0x0601
/-- Event code of MAP_RANGE, severity E. -/
abbrev MAP_RANGE : Nat := 0x0602
/-- Event code of MAP_TRAP, severity D. -/
abbrev MAP_TRAP : Nat := 0x0603
/-- Event code of MAP_OVERTIME, severity D. -/
abbrev MAP_OVERTIME : Nat := 0x0604
/-- Event code of BGT_EXHAUST, severity I. -/
abbrev BGT_EXHAUST : Nat := 0x0701
/-- Event code of BGT_DROP, severity E. -/
abbrev BGT_DROP : Nat := 0x0702
/-- Event code of BGT_CONTRACT, severity D. -/
abbrev BGT_CONTRACT : Nat := 0x0703
/-- Event code of BGT_ADAPT, severity I. -/
abbrev BGT_ADAPT : Nat := 0x0704
/-- Event code of EGR_DROP, severity E. -/
abbrev EGR_DROP : Nat := 0x0801
/-- Event code of EGR_LISTENER_GONE, severity I. -/
abbrev EGR_LISTENER_GONE : Nat := 0x0802
/-- Event code of EGR_DRAIN_LOSS, severity E. -/
abbrev EGR_DRAIN_LOSS : Nat := 0x0803
/-- Event code of LNI_RING_FULL, severity E. -/
abbrev LNI_RING_FULL : Nat := 0x0901
/-- Event code of LNI_LANE_GAP, severity D. -/
abbrev LNI_LANE_GAP : Nat := 0x0902
/-- Event code of LNI_LINK_DOWN, severity D. -/
abbrev LNI_LINK_DOWN : Nat := 0x0903
/-- Event code of VOT_DISAGREE, severity E. -/
abbrev VOT_DISAGREE : Nat := 0x0A01
/-- Event code of VOT_LATE_COPY, severity I. -/
abbrev VOT_LATE_COPY : Nat := 0x0A02
/-- Event code of VOT_NO_MAJORITY, severity D. -/
abbrev VOT_NO_MAJORITY : Nat := 0x0A03
/-- Event code of VOT_LANE_SUSPECT, severity D. -/
abbrev VOT_LANE_SUSPECT : Nat := 0x0A04
/-- Event code of VOT_LANE_OUT, severity D. -/
abbrev VOT_LANE_OUT : Nat := 0x0A05
/-- Event code of BRG_LATE_FAULT, severity E. -/
abbrev BRG_LATE_FAULT : Nat := 0x0B01
/-- Event code of BRG_TIMEOUT, severity E. -/
abbrev BRG_TIMEOUT : Nat := 0x0B02
/-- Event code of BRG_ABORT, severity E. -/
abbrev BRG_ABORT : Nat := 0x0B03
/-- Event code of BRG_SEM_EXPIRED, severity E. -/
abbrev BRG_SEM_EXPIRED : Nat := 0x0B04
/-- Event code of TIM_STEP, severity I. -/
abbrev TIM_STEP : Nat := 0x0C01
/-- Event code of TIM_INC_LIMIT, severity E. -/
abbrev TIM_INC_LIMIT : Nat := 0x0C02
/-- Event code of TIM_REF_LOST, severity D. -/
abbrev TIM_REF_LOST : Nat := 0x0C03
/-- Event code of CDB_EDGE, severity E. -/
abbrev CDB_EDGE : Nat := 0x0D01
/-- Event code of CDB_SYNC_LOST, severity D. -/
abbrev CDB_SYNC_LOST : Nat := 0x0D02
/-- Event code of CDB_STARTUP_CONTENTION, severity I. -/
abbrev CDB_STARTUP_CONTENTION : Nat := 0x0D03
/-- Event code of CDB_CLAIM_CONFLICT, severity I. -/
abbrev CDB_CLAIM_CONFLICT : Nat := 0x0D04
/-- Event code of CDB_GUARDIAN, severity D. -/
abbrev CDB_GUARDIAN : Nat := 0x0D05
/-- Event code of CDB_DRIFTING_NEIGHBOUR, severity D. -/
abbrev CDB_DRIFTING_NEIGHBOUR : Nat := 0x0D06
/-- Event code of RED_LEASE_LOST, severity D. -/
abbrev RED_LEASE_LOST : Nat := 0x0E01
/-- Event code of RED_TAKEOVER, severity I. -/
abbrev RED_TAKEOVER : Nat := 0x0E02
/-- Event code of RED_LINK_LOST, severity D. -/
abbrev RED_LINK_LOST : Nat := 0x0E03
/-- Event code of RED_PEAT_STALE, severity D. -/
abbrev RED_PEAT_STALE : Nat := 0x0E04
/-- Event code of RED_DIVERGENCE, severity D. -/
abbrev RED_DIVERGENCE : Nat := 0x0E05
/-- Event code of RED_RELINQUISH, severity F. -/
abbrev RED_RELINQUISH : Nat := 0x0E06
/-- Event code of KVT_TAMPER, severity F. -/
abbrev KVT_TAMPER : Nat := 0x0F01
/-- Event code of KVT_ORPHANED_IN_USE, severity E. -/
abbrev KVT_ORPHANED_IN_USE : Nat := 0x0F02
/-- Event code of KVT_KCV_FAIL, severity E. -/
abbrev KVT_KCV_FAIL : Nat := 0x0F03
/-- Event code of KVT_ATTR_DENY, severity E. -/
abbrev KVT_ATTR_DENY : Nat := 0x0F04
/-- Event code of KVT_TEST_ROOT, severity I. -/
abbrev KVT_TEST_ROOT : Nat := 0x0F05
/-- Event code of SAF_DISCREPANCY, severity S. -/
abbrev SAF_DISCREPANCY : Nat := 0x1001
/-- Event code of SAF_CHATTER, severity S. -/
abbrev SAF_CHATTER : Nat := 0x1002
/-- Event code of SAF_TESTPULSE, severity S. -/
abbrev SAF_TESTPULSE : Nat := 0x1003
/-- Event code of SAF_OVERSPEED, severity S. -/
abbrev SAF_OVERSPEED : Nat := 0x1004
/-- Event code of SAF_DIRECTION, severity S. -/
abbrev SAF_DIRECTION : Nat := 0x1005
/-- Event code of SAF_DISTANCE, severity S. -/
abbrev SAF_DISTANCE : Nat := 0x1006
/-- Event code of SAF_CHANNEL_MISMATCH, severity S. -/
abbrev SAF_CHANNEL_MISMATCH : Nat := 0x1007
/-- Event code of SAF_RESET_HELD, severity S. -/
abbrev SAF_RESET_HELD : Nat := 0x1008
/-- Event code of SAF_RESET_FAULT, severity S. -/
abbrev SAF_RESET_FAULT : Nat := 0x1009
/-- Event code of SAF_PARAM_CRC, severity S. -/
abbrev SAF_PARAM_CRC : Nat := 0x100A
/-- Event code of DGN_JOURNAL_LOSS, severity I. -/
abbrev DGN_JOURNAL_LOSS : Nat := 0x1101
/-- Event code of DGN_ECC_CORRECTED, severity I. -/
abbrev DGN_ECC_CORRECTED : Nat := 0x1102
/-- Event code of DGN_ECC_FATAL, severity F. -/
abbrev DGN_ECC_FATAL : Nat := 0x1103
/-- Event code of DGN_SELFTEST_FAIL, severity D. -/
abbrev DGN_SELFTEST_FAIL : Nat := 0x1104
/-- Event code of PWR_DOMAIN_FAULT, severity F. -/
abbrev PWR_DOMAIN_FAULT : Nat := 0x1201
/-- Event code of PWR_VBAT_LOW, severity D. -/
abbrev PWR_VBAT_LOW : Nat := 0x1202
/-- Event code of JRN_WRAP, severity I. -/
abbrev JRN_WRAP : Nat := 0x1301
/-- Event code of JRN_SEAL_FAIL, severity E. -/
abbrev JRN_SEAL_FAIL : Nat := 0x1302
/-- Event code of JRN_BACKLOG, severity E. -/
abbrev JRN_BACKLOG : Nat := 0x1303
/-- Event code of STW_LOCKSTEP, severity F. -/
abbrev STW_LOCKSTEP : Nat := 0x1401
/-- Event code of STW_WATCHDOG, severity F. -/
abbrev STW_WATCHDOG : Nat := 0x1402

/-- The severity of an event code (R494, R495): 4 F, 3 S, 2 D, 1 E, 0 I. -/
def severity (code : Nat) : Nat :=
  if [0x0102, 0x0103, 0x0201, 0x0202, 0x0E06, 0x0F01, 0x1103, 0x1201, 0x1401, 0x1402].contains code then 4
  else if 0x1001 ≤ code ∧ code ≤ 0x100A then 3
  else if [0x0101, 0x0104, 0x0206, 0x0303, 0x0304, 0x0305, 0x0603, 0x0604, 0x0703, 0x0902, 0x0903, 0x0A03, 0x0A04, 0x0A05, 0x0C03, 0x0D02, 0x0D05, 0x0D06, 0x0E01, 0x0E03, 0x0E04, 0x0E05, 0x1104, 0x1202].contains code then 2
  else if [0x0204, 0x0205, 0x0301, 0x0302, 0x0403, 0x0501, 0x0502, 0x0503, 0x0504, 0x0601, 0x0602, 0x0702, 0x0801, 0x0803, 0x0901, 0x0A01, 0x0B01, 0x0B02, 0x0B03, 0x0B04, 0x0C02, 0x0D01, 0x0F02, 0x0F03, 0x0F04, 0x1302, 0x1303].contains code then 1
  else 0

end Sys2Proof.Ev

namespace Sys2Proof.Machine

/-- No object (R496). -/
abbrev noInst : Nat := 0xFFFF

/-- The place of a source among the general entries (R497). -/
def sourceIdx (d : Dgn) (code inst : Nat) : Option Nat :=
  findIdx? (fun e => decide (e.code = code ∧ e.inst = inst)) d.general

/-- A source entry counted once more at a stamp. -/
def bumpSource (e : Source) (code inst t : Nat) : Source :=
  if e.count = 0 ∧ e.first = 0 ∧ e.last = 0 ∧ e.code = 0 then { code := code, inst := inst, count := 1, first := t, last := t }
  else { e with count := satAdd 0xFFFFFFFF e.count 1, last := t }

/-- A report updates its source (R497): the index of the entry, its count, and the state. General entries are 0 to
1003, the catch-all of block b is 1003 + b. -/
def touchSource (s : State) (code inst : Nat) : Nat × Nat × State :=
  let t := now s
  match sourceIdx s.dgn code inst with
  | some i =>
    let g := s.dgn.general.modify i (fun e => bumpSource e code inst t)
    (i, ((g[i]?).map (·.count)).getD 0, { s with dgn := { s.dgn with general := g } })
  | none =>
    if s.dgn.general.length < 1004 then
      (s.dgn.general.length, 1, { s with dgn := { s.dgn with
        general := s.dgn.general ++ [{ code := code, inst := inst, count := 1, first := t, last := t }] } })
    else
      let b := code / 256
      let e := bumpSource (tget s.dgn.catchAll b) (b * 256) noInst t
      (1003 + b, e.count, { s with dgn := { s.dgn with catchAll := tset s.dgn.catchAll b e } })

/-- Whether the first and recent areas are frozen (R502). -/
def ejFrozen (s : State) : Bool := bit (rd s Reg.DGN_EJ_CTRL) 0

/-- Whether a report of this severity and block is recorded (R494, R502). -/
def isRecorded (s : State) (sev block : Nat) : Bool :=
  if sev ≥ 3 then true
  else if ejFrozen s then false
  else if sev = 0 then bit (rd s Reg.DGN_REC_INFO) block else true

/-- The intake's handling of a report that is to be recorded (R498). -/
def intakeReport (s : State) (code inst detail src count : Nat) : State :=
  let sev := Ev.severity code
  let sf := decide (sev ≥ 3)
  let d := s.dgn
  let fill := d.intake.length
  let room := if sf then decide (fill < 64) else decide (fill < 56) && !d.folding
  let entry : ErrRec := { stamp := now s, seq := 0, code := code, sev := sev, loss := false, inst := inst, source := src,
                          detail := Config.ownerDetail code inst detail % 2 ^ 64, count := count }
  let s :=
    if room then
      let marker : List ErrRec := if d.folded > 0 then
        [{ stamp := now s, seq := 0, code := Ev.DGN_JOURNAL_LOSS, sev := 0, loss := true, inst := noInst, source := 0,
           detail := min d.folded 0xFFFFFFFF + (min d.foldSources.length 0xFFFFFFFF) * 2 ^ 32, count := 0 }] else []
      let s := { s with dgn := { d with intake := d.intake ++ marker ++ [entry], folded := 0, foldSources := [] } }
      if d.folded > 0 then cnt s Reg.DGN_CNT_LOSS else s
    else
      let srcs := if d.foldSources.contains src then d.foldSources else src :: d.foldSources
      let s := { s with dgn := { d with folded := d.folded + 1, foldSources := srcs } }
      cnt s Reg.DGN_CNT_FOLDED
  let fill := s.dgn.intake.length
  let folding := if !sf && decide (fill ≥ 56) then true else if fill ≤ 16 then false else s.dgn.folding
  { s with dgn := { s.dgn with folding := folding } }

/-- An event is counted in its source and, where it is recorded, enters the intake (R497, R498); an F event may freeze the
journal (R502) and an S or F event the bog (R143). -/
def recordReport (s : State) (code inst detail : Nat) : State :=
  let sev := Ev.severity code
  let s := if sev = 4 ∧ bit (rd s Reg.DGN_EJ_CTRL) 1 = true then setFld s Reg.DGN_EJ_CTRL 0 0 1 else s
  let s := if sev ≥ 3 ∧ bit (rd s Reg.FLT_BOG_CTRL) 1 = true then setFld s Reg.FLT_BOG_CTRL 0 0 1 else s
  let (src, count, s) := touchSource s code inst
  if isRecorded s sev (code / 256) then intakeReport s code inst detail src count else s

/-- DEV_STATE changes, and the ROLE vectors are raised (R372, R406). -/
def setRole (s : State) (d : DevState) : State :=
  if s.dev = d then s else raiseAll (raiseAll { s with dev := d } true 7) false 8

end Sys2Proof.Machine
end

