-- ==== Sys2Proof/Machine/Requests.lean ====
section
/-! DEFINITION. Requests of the field bridge as shared operations (chapter 9): window records, parts, completions, late faults. -/

namespace Sys2Proof.Machine

/-- Word `i` of a window's record (R276). -/
def winW (s : State) (w i : Nat) : Nat := cw s 9 (8 * w + i)

/-- Kind of a window: 1 CB_REG, 2 CAN_SDO, 3 MVB_PD, 4 MVB_STATUS, 5 SP_DIALOG, 6 MIRROR. -/
def winKind (s : State) (w : Nat) : Nat := nbits (winW s w 0) 2 0

/-- The field port of a window. -/
def winPort (s : State) (w : Nat) : Nat := nbits (winW s w 1) 6 0

/-- The bytes of the aperture in use. -/
def winSize (s : State) (w : Nat) : Nat := nbits (winW s w 5) 16 0

/-- The stream that answers a window. -/
def winResp (s : State) (w : Nat) : Nat := nbits (winW s w 3) 15 0

/-- Narrow width of a window in bytes (R276, Window kinds): of an MVB_PD window with width 3 the 32 bytes of a port. -/
def narrow (s : State) (w : Nat) : Nat :=
  match winKind s w with
  | 1 | 4 => 2
  | 3 => match nbits (winW s w 0) 9 8 with
    | 0 => 1
    | 1 => 2
    | 2 => 4
    | _ => 32
  | _ => 1

/-- Whether accesses of a window are split into narrow parts (R295). -/
def splits (s : State) (w : Nat) : Bool := decide (winKind s w = 1 ∨ winKind s w = 3 ∨ winKind s w = 4)

/-- Where part of a request begins within it (R293, R295): a prefetching read ascends. -/
def partAt (s : State) (r : BReq) : Nat :=
  let n := narrow s r.window
  if splits s r.window = false then 0
  else if (winW s r.window 0).testBit 7 = true ∧ r.length = r.want then n * ((r.length + n - 1) / n - 1 - r.part)
  else n * r.part

/-- The bytes of the part of a request that is due. -/
def partLen (s : State) (r : BReq) : Nat :=
  if splits s r.window then min (narrow s r.window) (r.length - partAt s r) else r.length

/-- Whether a request writes. -/
def writes (r : BReq) : Bool := decide (r.kind = .posted ∨ r.kind = .cwrite)

/-- Runtime state of a window. -/
def win (s : State) (w : Nat) : Win := tget s.brg.wins w

/-- Store a window's runtime state. -/
def setWin (s : State) (w : Nat) (x : Win) : State := { s with brg := { s.brg with wins := tset s.brg.wins w x } }

/-- The number of a ring set: 2 × lane + world. -/
def kwOf (lane : Nat) (guard : Bool) : Nat := 2 * lane + b2n guard

/-- A ring set's runtime state. -/
def ring (s : State) (kw : Nat) : RingSet := tget s.brg.rings kw

/-- Store a ring set's runtime state. -/
def setRing (s : State) (kw : Nat) (x : RingSet) : State := { s with brg := { s.brg with rings := tset s.brg.rings kw x } }

/-- The exponent a of a ring set's size. -/
def ringA (s : State) (kw : Nat) : Nat := fld s (Reg.BRG_CR_SIZE kw) 3 0

/-- Whether a ring set is on (R283, ring-set registers). -/
def ringOn (s : State) (kw : Nat) : Bool :=
  bit (rd s (Reg.BRG_CR_CTRL kw)) 0 && decide (4 ≤ ringA s kw ∧ ringA s kw ≤ 10)

/-- A completion is written after a ring's commands in lane memory, and BRG_CPL falls due (R283, R284, R308). -/
def writeCpl (s : State) (lane : Nat) (guard : Bool) (tag status op done detail : Nat) : State :=
  let kw := kwOf lane guard
  if ringOn s kw = false then s
  else
    let x := ring s kw
    let n := 2 ^ ringA s kw
    let base := (rd s (Reg.BRG_CR_BASE_LO kw)).toNat + (rd s (Reg.BRG_CR_BASE_HI kw)).toNat * 2 ^ 32
    let bytes := toLE 2 tag ++ toLE 1 status ++ toLE 1 op ++ toLE 4 done ++ toLE 4 detail ++ toLE 4 0
    let s := emit s (.lane lane (base + 32 * n + 16 * (x.cplHead % n)) bytes)
    let s := setRing s kw { x with cplHead := (x.cplHead + 1) % 2 ^ 32 }
    raiseMod s lane guard (if guard then 3 else 5) (fld s (Reg.BRG_CR_CTRL kw) 15 8)

/-- The counter of a failing status (BRG counters). (DEDUCED: log 40) -/
def countStatus (s : State) (status : Nat) : State :=
  match status with
  | 1 => cnt s Reg.BRG_CNT_TIMEOUT
  | 2 => cnt s Reg.BRG_CNT_FAR_ERROR
  | 3 => cnt s Reg.BRG_CNT_ABORTED
  | 4 | 7 => cnt s Reg.BRG_CNT_REFUSED
  | _ => s

/-- A posted write that has been accepted and no part of which has been issued (R291). -/
def unissued (r : BReq) : Bool := decide (r.ex = 0 ∧ r.done = 0) && !r.segment

/-- A lane's fence falls on a window (R291): its posted writes there that have not been issued are discarded. -/
def fence (s : State) (lane w : Nat) : State :=
  let x := win s w
  let s := setWin s w { x with fenced := if x.fenced.contains lane then x.fenced else lane :: x.fenced }
  let gone (r : BReq) : Bool := decide (r.kind = .posted ∧ r.lane = lane ∧ r.window = w) && unissued r
  let s := cntAdd s Reg.BRG_CNT_FENCED (s.brg.reqs.filter gone).length
  { s with brg := { s.brg with reqs := s.brg.reqs.filter (fun r => !gone r) } }

/-- BRG_LATE_FAULT (R290 to R292): a posted write has failed. -/
def lateFault (s : State) (e : LateEntry) : State :=
  let s := recordReport (cnt s Reg.BRG_CNT_LATE_FAULT) Ev.BRG_LATE_FAULT e.window 0
  let s := raise s e.lane e.guard (if e.guard then 4 else 6)
  let log := tget s.brg.late e.lane
  let s :=
    if log.length < 64 then { s with brg := { s.brg with late := tset s.brg.late e.lane (log ++ [e]) } }
    else { s with brg := { s.brg with lost := tmod s.brg.lost e.lane (fun n => satAdd 0xFFFFFFFF n 1) } }
  if (winW s e.window 0).testBit 6 then s else fence s e.lane e.window

/-- A direct read fails (R286): Completer Abort, and the failure is latched. -/
def readFails (s : State) (lane : Nat) (guard : Bool) (tag w offset status : Nat) : State :=
  let kw := kwOf lane guard
  let s := setRing s kw { ring s kw with lastErr := w % 256 + status * 2 ^ 8 + offset % 65536 * 2 ^ 16 }
  let s := if status = 1 then recordReport s Ev.BRG_TIMEOUT w 0 else s
  emit s (.completion lane guard tag false [])

/-- A request leaves the bridge. -/
def dropReq (s : State) (uid : Nat) : State :=
  { s with brg := { s.brg with reqs := s.brg.reqs.filter (fun r => !decide (r.uid = uid)) } }

/-- A request changes. -/
def putReq (s : State) (r : BReq) : State :=
  { s with brg := { s.brg with reqs := s.brg.reqs.map (fun x => if x.uid = r.uid then r else x) } }

/-- A request fails (R281, R286, R290, R305, R306). -/
def failReq (s : State) (r : BReq) (status detail : Nat) : State :=
  let s := countStatus (dropReq s r.uid) status
  match r.kind with
  | .dread => if r.answered then s else readFails s r.lane r.guard r.ident r.window r.offset status
  | .posted =>
    let at_ := partAt s r
    let bytes := slice r.data at_ (partLen s r)
    lateFault s { stamp := now s, window := r.window, lane := r.lane, guard := r.guard, cause := status, tag := r.ident % 65536
                  offset := r.offset + at_, bytes := bytes.length, data := bytes.take 4, detail := detail }
  | .cread => writeCpl s r.lane r.guard r.ident status 1 r.done detail
  | .cwrite => writeCpl s r.lane r.guard r.ident status 2 r.done detail

/-- Every request completes with ABORTED (R306). -/
def abortAll (s : State) : State := s.brg.reqs.foldl (fun s r => failReq s r 3 0) s

/-- The data a read returns: what arrived, padded to what was asked for. (DEDUCED: log 40) -/
def readData (r : BReq) : Bytes := (padTo r.want 0#8 r.got).take r.want

/-- Every byte of a request has been confirmed or read (R284, R286, R293). -/
def finishReq (s : State) (r : BReq) : State :=
  match r.kind with
  | .dread =>
    let s := if r.answered then s else emit s (.completion r.lane r.guard r.ident true (readData r))
    if r.length > r.want ∧ r.noKeep = false then putReq s { r with ex := 0, answered := true, full := true } else dropReq s r.uid
  | .posted => dropReq s r.uid
  | .cread =>
    let d := r.got.take r.want
    writeCpl (emit (dropReq s r.uid) (.lane r.lane r.buffer d)) r.lane r.guard r.ident 0 1 d.length 0
  | .cwrite => writeCpl (dropReq s r.uid) r.lane r.guard r.ident 0 2 r.done 0

/-- A part of a request has been confirmed or read (R295): `bytes` is what a read brought. (DEDUCED: log 40) -/
def partDone (s : State) (r : BReq) (bytes : Bytes) : State :=
  let down := (winW s r.window 0).testBit 7 && decide (r.length = r.want)
  let r := { r with done := r.done + partLen s r, part := r.part + 1, ex := 0, retries := nbits (winW s r.window 1) 10 8
                    got := if down then bytes ++ r.got else r.got ++ bytes }
  if r.done ≥ r.length then finishReq s r
  else if r.kind = .dread ∧ r.answered = false ∧ r.done ≥ r.want then
    emit (putReq s { r with answered := true }) (.completion r.lane r.guard r.ident true (readData r))
  else putReq s r

/-- A request sentence is discarded before commit (R282): its exchange fails with REFUSED and the stage as detail. -/
def brgLose (s : State) (x : Sent) (stage : Nat) : State :=
  if x.ex = 0 then s
  else match s.brg.reqs.find? (fun r => decide (r.ex = x.ex)) with
    | some r => failReq s r 4 stage
    | none => s

/-- The MVB port address of the part of an MVB_PD request that is due. -/
def mvAddr (s : State) (r : BReq) : Nat := nbits (winW s r.window 2) 11 0 + (r.offset + partAt s r) / 32

/-- A slave frame has carried a source port's value (R277, Window kinds): the writes that wait for it are confirmed. -/
def mvSent (s : State) (n addr : Nat) : State :=
  let hit (r : BReq) : Bool := decide (winKind s r.window = 3 ∧ winPort s r.window = n ∧ r.ex ≠ 0 ∧ mvAddr s r = addr)
  (s.brg.reqs.filter hit).foldl (fun s r => partDone s r []) s

/-- A device-status reply has arrived (Window kinds): the reads of that device address are answered. -/
def mvStatus (s : State) (n device : Nat) (data : Bytes) : State :=
  let hit (r : BReq) : Bool :=
    decide (winKind s r.window = 4 ∧ winPort s r.window = n ∧ r.ex ≠ 0 ∧ (r.offset + partAt s r) / 4 = device)
  (s.brg.reqs.filter hit).foldl (fun s r => partDone s r (data.take (partLen s r))) s

end Sys2Proof.Machine
end

