-- ==== Sys2Proof/Machine/Flags.lean ====
section
/-! DEFINITION. What an event sets in motion (R494): the gate, the relinquish, the restart, and the report of an event as every
block makes it. -/

namespace Sys2Proof.Machine

/-- The transmit gate closes (R370): E and X frames in progress end with an inverted FCS, other transmitters stop. -/
def closeGate (s : State) : State :=
  let s := { s with red := { s.red with gate := false } }
  let cut (s : State) (e : Nat × EgPort) : State :=
    match e.2.cur with
    | none => s
    | some c => if 84 ≤ e.1 ∧ e.1 < 104 then emit s (.wire e.1 c.dep c.wire false) else s
  let s := s.egr.ports.foldl cut s
  { s with egr := { s.egr with ports := tmap (fun _ p => { p with cur := none, preempted := none }) s.egr.ports } }

/-- What a unit that leaves its role forgets of the path (R372, R517): every runtime table of the path. The journal's blocks stand in
DRAM and stay; the links of the LANE domain stay as they are. (DEDUCED: log 62) -/
def clearPath (s : State) : State :=
  { s with
    prt := {}, stb := {}, flt := {}, map := {}, com := { gen := s.com.gen }, bgt := {}, egr := {},
    jrn := { area := s.jrn.area, written := s.jrn.written, oldest := s.jrn.oldest, newest := s.jrn.newest,
             number := s.jrn.number, prevHash := s.jrn.prevHash },
    lni := { lanes := tmap (fun _ x => { (default : Lane) with link := x.link, linkReported := x.linkReported }) s.lni.lanes }
    vot := {}, brg := {} }

/-- The relinquish of R378: the gate closes first, then the bit is set, then RELINQUISH is announced and the ROLE vectors are
raised; RED_RELINQUISH is reported. The unit's term of service is over: no epoch is in force and no grant is current. The
bridge's requests complete with ABORTED (R306). (DEDUCED: log 49) -/
def relinquish (s : State) (fatal : Bool) : State :=
  let s := abortAll (closeGate s)
  let s := { s with red := { s.red with relinquished := true, relinquishFatal := fatal, epoch := 0, taking := none, mirroring := false
                                        grants := tmap (fun _ g => { g with current := false, pend := none, lapsed := true }) s.red.grants } }
  let s := sendIu s .relinquish
  let s := recordReport s Ev.RED_RELINQUISH noInst (b2n fatal)
  setRole s .relinquishing

/-- The domains powered in each DEV_STATE (R517), and those powered in part. -/
def domainsOf (d : DevState) : List Nat × List Nat :=
  match d with
  | .reset => ([1, 2, 3, 4, 5, 15], [12])
  | .loading | .starting => ([1, 2, 3, 4, 5, 6, 7, 8, 9, 10, 11, 12, 13, 14, 15], [])
  | .standbyCold => ([1, 2, 3, 4, 5], [6, 12, 13, 14, 15])
  | .standbyShadow | .active | .relinquishing => ([1, 2, 3, 4, 5, 6, 7, 8, 9, 10, 11, 12, 13, 14, 15], [])
  | .haltSafe => ([1, 2, 3, 4, 5, 15], [])

/-- The domains of a DEV_STATE are switched. (DEDUCED: log 62) -/
def powerFor (s : State) (d : DevState) : State :=
  { s with pwr := { s.pwr with on := (domainsOf d).1, part := (domainsOf d).2 } }

/-- The registers that keep their contents when the switched domains go off: those of VBAT, AON and the safety view. (DEDUCED: log 62) -/
def keepsOff (off : Nat) : Bool :=
  decide (domainOf off = 1) || decide (domainOf off = 2) || decide (domainOf off = 5)

/-- The vault without its KEY domain: the slots and every operation are lost (R410, R517). -/
def vaultOff (v : Vault) : Vault :=
  { root := v.root, rootNew := v.rootNew, testRoot := v.testRoot, lc := v.lc, lcMove := v.lcMove, anchors := v.anchors
    anchorRevoked := v.anchorRevoked, debug := v.debug, tamperCfg := v.tamperCfg, tamperStatus := v.tamperStatus
    tamperLive := v.tamperLive, tamperLog := v.tamperLog, tamperCount := v.tamperCount, tamperNext := v.tamperNext
    lfsr := v.lfsr, drbgN := v.drbgN }

/-- The unit restarts (R481, R517): every switched domain loses its contents, DEV_STATE is RESET, and the power-up sequence
begins again. (DEDUCED: log 54, 62) -/
def restartUnit (s : State) : State :=
  let s := closeGate s
  let s := clearPath s
  let s := { s with
    regs := tfilter (fun k _ => keepsOff k) s.regs, latch := [], cfg := [], prev := [], tag := 0,
    cdb := {}, pba := [], moder := [], tim := { s.tim with fresh := true, cycleDue := false, qNext := none }, saf := { s.saf with halt := false },
    vault := vaultOff s.vault,
    red := { s.red with relinquished := false, gate := false, taking := none, staging := [], image := [], imageQ := none,
                        fullReceived := false, copying := none, joinPending := true, mirroring := false },
    cfgs := { phase := .powering, image := s.cfgs.image }, stw := {} }
  let s := powerFor s .reset
  let s := { s with pwr := { s.pwr with sequencing := true, step := 2 } }
  setRole s .reset

/-- The start in progress fails (R479, R481): the unit restarts. -/
def failStart (s : State) : State := restartUnit s

/-- The reaction to a severity-F event (R494): an active unit relinquishes and restarts from RELINQUISHING; a standby
restarts; a start fails. KVT_TAMPER during a start and RED_RELINQUISH bring about nothing here. -/
def fatalReaction (s : State) (code : Nat) : State :=
  if code = Ev.RED_RELINQUISH then s
  else match s.dev with
    | .active => relinquish s true
    | .standbyCold | .standbyShadow => restartUnit s
    | .loading | .starting => if code = Ev.KVT_TAMPER then s else failStart s
    | .relinquishing => { s with red := { s.red with relinquishFatal := true } }
    | .reset | .haltSafe => s

/-- A block reports an event: ERROR_REPORT with SEVERITY_F_REACTION (R494, R497). -/
def report (s : State) (code inst detail : Nat) : State :=
  let s := recordReport s code inst detail
  if Ev.severity code = 4 then fatalReaction s code else s

end Sys2Proof.Machine
end

