-- ==== Sys2Proof/Machine/Vault.lean ====
section
/-! DEFINITION. The key vault: the root, the slots, their commands, generations, masking, life cycle, tamper (chapter 13). -/

namespace Sys2Proof.Machine

/-- The three outcomes of a command of this block. -/
abbrev Res := Host.Outcome State Fault Refusal

/-- 32 bytes of zeros: an erased root. -/
def zeroKey : Bytes := List.replicate 32 0

/-- The public test root of R425. -/
def testRootKey : Bytes := (List.range 32).map (fun i => BitVec.ofNat 8 i)

/-- root_state of R408: 0 ZERO, 1 REAL, 2 TEST, 3 NEW. -/
def rootState (v : Vault) : Nat :=
  if v.testRoot then 2 else if v.root = zeroKey then 0 else if v.rootNew then 3 else 1

/-- The root the derivation engine reads (R408, R425). -/
def rootKey (v : Vault) : Bytes := if v.testRoot then testRootKey else v.root

/-- Two byte strings XORed, over the length of the first; missing mask bytes are 0 (R422). -/
def xorStr : Bytes → Bytes → Bytes
  | [], _ => []
  | a :: as, [] => a :: as
  | a :: as, b :: bs => (a ^^^ b) :: xorStr as bs

/-- The committed key of a slot, unmasked inside an engine. -/
def slotKey (v : Vault) (k : Nat) : Bytes :=
  if k = 0 then rootKey v else xorStr (tget v.slots k).key (tget v.slots k).mask

/-- The pending key of a slot, unmasked inside an engine. -/
def slotPend (v : Vault) (k : Nat) : Bytes := xorStr (tget v.slots k).pendKey (tget v.slots k).mask

/-- Whether a slot is VALID (R410): slot 0 stands for the root. -/
def slotValid (v : Vault) (k : Nat) : Bool :=
  if k = 0 then decide (rootState v ≠ 0) else decide ((tget v.slots k).state = .valid)

/-- The chain check of R415, over at most `fuel` links. -/
def chainOk (v : Vault) : Nat → Nat → Bool
  | 0, k => slotValid v k && decide (k = 0)
  | fuel + 1, k =>
    slotValid v k &&
    (if k = 0 then true
     else match (tget v.slots k).parent with
      | none => true
      | some p => decide ((tget v.slots p).gen = (tget v.slots k).parentGen) && chainOk v fuel p)

/-- How far a slot's key lies from the root (R413); a key without a parent begins a chain of its own. -/
def slotDepth (v : Vault) : Nat → Nat → Nat
  | 0, _ => 0
  | fuel + 1, k => if k = 0 then 0 else match (tget v.slots k).parent with
    | none => 0
    | some p => slotDepth v fuel p + 1

/-- The attributes word of a slot (R411, Slot attributes). Slot 0 allows derive alone; slot 1 allows wrap and unwrap for the
guard worlds in PROVISION and DEPLOYED. -/
def slotAttr (s : State) (k : Nat) : Nat :=
  if k = 0 then 2 ^ 19 + 2 ^ 22 + 0xF * 2 ^ 11
  else if k = 1 then 2 ^ 20 + 2 ^ 21 + 2 ^ 22 + 2 ^ 12 + 2 ^ 13 + 7 * 2 ^ 3
  else cf s 13 (k * 16) 22 0

/-- The master bit of a requester (R411). (DEDUCED: log 53) -/
def masterOf : Req → Nat
  | .fn lane guard => if guard then 3 + lane else lane
  | .steward => 6

/-- Usage bits of R411. -/
abbrev useMacGen : Nat := 15
/-- MAC verify. -/
abbrev useMacVer : Nat := 16
/-- Encrypt. -/
abbrev useEncrypt : Nat := 17
/-- Decrypt. -/
abbrev useDecrypt : Nat := 18
/-- Derive. -/
abbrev useDerive : Nat := 19
/-- Wrap. -/
abbrev useWrap : Nat := 20
/-- Unwrap. -/
abbrev useUnwrap : Nat := 21

/-- Whether a slot's attributes allow a master in the fused life-cycle state (R411). -/
def attrMaster (s : State) (k master : Nat) : Bool :=
  (slotAttr s k).testBit master && (slotAttr s k).testBit (11 + s.vault.lc)

/-- Whether they also allow a usage. -/
def attrUse (s : State) (k master usage : Nat) : Bool := attrMaster s k master && (slotAttr s k).testBit usage

/-- A request refused by attributes (R411). -/
def attrDeny (s : State) (k : Nat) : State := cnt (report s Ev.KVT_ATTR_DENY k 0) Reg.KVT_CNT_ATTR_DENY

/-- The slot with both halves cleared and in a state without a key (R410). -/
def clearSlot (x : Slot) (st : SlotState) : Slot :=
  { x with state := st, pend := 0, key := [], pendKey := [], mask := [], pParent := none, pParentGen := 0, pLabel := 0 }

/-- Change a slot's record. -/
def modSlot (s : State) (k : Nat) (f : Slot → Slot) : State :=
  { s with vault := { s.vault with slots := tmod s.vault.slots k f } }

/-- A slot is marked ORPHANED with its halves cleared (R415). -/
def orphanSlot (s : State) (k : Nat) : State := modSlot s k (fun x => clearSlot x .orphaned)

/-- Whether a slot serves an operation now: VALID, its chain whole, and the vault's self-test not failed (R415, R506). -/
def slotServes (s : State) (k : Nat) : Bool := !s.dgn.vaultTestFail && chainOk s.vault 9 k

/-- The key a block or command begins an operation with (R411, R415): the key where attributes and chain allow; a slot whose
chain fails is marked ORPHANED. -/
def takeKey (s : State) (k master usage : Nat) : Option Bytes × State :=
  if ¬ attrUse s k master usage then (none, attrDeny s k)
  else if slotServes s k then (some (slotKey s.vault k), s)
  else if slotValid s.vault k && !s.dgn.vaultTestFail && decide (k ≠ 0) then (none, orphanSlot s k)
  else (none, s)

/-- The completion check of R415 on a slot: whether its output may leave. -/
def completionOk (s : State) (k : Nat) : Bool := slotServes s k

/-- An output suppressed at completion (R417): the slot is ORPHANED, counted and reported. -/
def suppressed (s : State) (k : Nat) : State :=
  cnt (report (if slotValid s.vault k && decide (k ≠ 0) then orphanSlot s k else s) Ev.KVT_ORPHANED_IN_USE k 0)
    Reg.KVT_CNT_ORPHANED_IN_USE

/-- The 24-bit key check value of a key (R412). -/
def kcvOf (key : Bytes) : Nat := beNat ((Config.aes key (List.replicate 16 0)).take 3)

/-- The derivation of R413: SP 800-108 in counter mode with AES-CMAC. -/
def kdf (parent label : Bytes) (target gen : Nat) (size : Bool) : Bytes :=
  let l := if size then 256 else 128
  let ctx := toBE 1 target ++ toBE 2 gen ++ toBE 1 (b2n size)
  let blk (i : Nat) := Config.cmac parent (toBE 4 i ++ label ++ [0] ++ ctx ++ toBE 4 l)
  if size then blk 1 ++ blk 2 else blk 1

/-- Label `i` of the key-policy region (R413, R473). -/
def labelOf (s : State) (i : Nat) : Bytes :=
  let n := leNat (cBytes s s.tag 13 (16384 + 33 * i) 1)
  cBytes s s.tag 13 (16384 + 33 * i + 1) (min n 32)

/-- Whether a slot's key is AES-256. (DEDUCED: log 53) -/
def slotSize (s : State) (k : Nat) : Bool := (slotAttr s k).testBit 22

/-- The next output of the DRBG, `len` bytes (R409). -/
def takeDrbg (s : State) (len : Nat) : Bytes × State :=
  ((Config.drbg s.vault.drbgN len).take len, { s with vault := { s.vault with drbgN := s.vault.drbgN + 1 } })

/-- Fill the pending half of a slot (R410, R412): loaded, with what the record holds of its origin. -/
def loadPend (s : State) (k : Nat) (key : Bytes) (parent : Option Nat) (parentGen label : Nat) : State :=
  modSlot s k (fun x =>
    let x := if x.state = .valid then x
      else { x with state := .pending, parent := parent, parentGen := parentGen, label := label }
    { x with pend := 1, pendKey := xorStr key x.mask, pParent := parent, pParentGen := parentGen, pLabel := label })

/-- Clear the pending half of a slot (R412, R414). -/
def clearPend (s : State) (k : Nat) : State :=
  modSlot s k (fun x => { x with pend := 0, pendKey := [], state := if x.state = .pending then .empty else x.state })

/-- The vector of R550 that says a KVT_CMD has ended. -/
def kvtEnd (s : State) (by_ : Nat) : State :=
  if by_ ≥ 6 then s else raise s (by_ / 2) (decide (by_ % 2 = 1)) (if by_ % 2 = 1 then 11 else 14)

/-- A KVT_CMD ends at once: done (2) or failed (3) with its reason. -/
def kvtDone (s : State) (r : Req) (k st reason : Nat) : State :=
  kvtEnd { s with vault := { s.vault with cmdState := st, cmdReason := reason, cmdSlot := k } } (reqKey r)

/-- A KVT_CMD goes on until KVT_OP_COMPLETE. (DEDUCED: log 53) -/
def kvtBusy (s : State) (r : Req) (code k source : Nat) (blob : Bytes) : State :=
  let addr := (rd s Reg.KVT_ADDR_LO).toNat + (rd s Reg.KVT_ADDR_HI).toNat * 2 ^ 32
  let c : KCmd := { code := code, slot := k, source := source, by_ := reqKey r, blob := blob, addr := addr, aborted := false }
  { s with vault := { s.vault with cmdState := 1, cmdReason := 0, cmdSlot := k, cmd := some c } }

/-- What every KVT_CMD on a slot passes first (R411, R412): no other command runs, the target is a general slot, and the
writer is its master. -/
def kvtCmd (s : State) (r : Req) (k : Nat) (act : State → State) : State :=
  gated s r Reg.KVT_CMD (fun s =>
    if s.vault.cmd.isSome then kvtDone s r k 3 9
    else if k < 2 ∨ k > 255 then kvtDone s r k 3 2
    else if ¬ attrMaster s k (masterOf r) then kvtDone (attrDeny s k) r k 3 1
    else act s)

/-- KVT_GENERATE (R409, R412). -/
def execKvtGenerate (r : Req) (k : Nat) (s : State) : Res :=
  .next (kvtCmd s r k (fun s =>
    let (key, s) := takeDrbg s (if slotSize s k then 32 else 16)
    cnt (kvtDone (loadPend s k key none 0 0) r k 2 0) Reg.KVT_CNT_OPS))

/-- KVT_DERIVE (R413): the pending half is filled; the command ends, with the check of R415 repeated, at KVT_OP_COMPLETE. -/
def execKvtDerive (r : Req) (k source label : Nat) (s : State) : Res :=
  .next (kvtCmd s r k (fun s =>
    if source = 0 ∨ ¬ attrUse s source (masterOf r) useDerive then kvtDone (attrDeny s source) r k 3 1
    else
      let (key, s) := takeKey s source (masterOf r) useDerive
      match key with
      | none => kvtDone s r k 3 (if rootState s.vault = 0 then 5 else 2)
      | some key =>
        if slotDepth s.vault 9 source + 1 > 8 then kvtDone s r k 3 7
        else
          let g := (tget s.vault.slots source).gen
          let new := kdf key (labelOf s label) k g (slotSize s k)
          kvtBusy (loadPend s k new (some source) g label) r 2 k source []))

/-- KVT_UNWRAP (R412): `blob` is what lane memory holds at KVT_ADDR. -/
def execKvtUnwrap (r : Req) (k source : Nat) (blob : Bytes) (s : State) : Res :=
  .next (kvtCmd s r k (fun s =>
    if source = 0 ∨ ¬ attrUse s source (masterOf r) useUnwrap then kvtDone (attrDeny s source) r k 3 1
    else
      let (key, s) := takeKey s source (masterOf r) useUnwrap
      match key with
      | none => kvtDone s r k 3 (if rootState s.vault = 0 then 5 else 2)
      | some key =>
        let n := if slotSize s k then 40 else 24
        match Config.keyUnwrap key (blob.take n) with
        | none => kvtDone (clearPend s k) r k 3 4
        | some new => kvtBusy (loadPend s k (new.take (n - 8)) none 0 0) r 3 k source []))

/-- KVT_LOAD (R411, R412): from the eight words of KVT_LOAD, in PROVISION or under a NEW root. -/
def execKvtLoad (r : Req) (k : Nat) (s : State) : Res :=
  .next (kvtCmd s r k (fun s =>
    if s.vault.lc ≠ 1 ∧ rootState s.vault ≠ 3 then kvtDone s r k 3 6
    else
      let words := (List.range (if slotSize s k then 8 else 4)).map (fun i => toBE 4 (tget s.vault.load i).toNat)
      kvtDone (loadPend s k words.flatten none 0 0) r k 2 0))

/-- The sweep of R416 starts where a generation has risen. -/
def startSweep (s : State) : State := { s with vault := { s.vault with sweep := true } }

/-- KVT_COMMIT (R414): a verified pending half becomes the key; the freshness record empties and the send counter
restarts; in the peat slot the peat seal counter returns to 0 (R392). -/
def execKvtCommit (r : Req) (k : Nat) (s : State) : Res :=
  .next (kvtCmd s r k (fun s =>
    if (tget s.vault.slots k).pend ≠ 2 then kvtDone s r k 3 3
    else
      let kcv := kcvOf (slotPend s.vault k)
      let commit (x : Slot) : Slot :=
        { x with state := .valid, pend := 0, key := x.pendKey, pendKey := [], kcv := kcv, gen := (x.gen + 1) % 65536
                 parent := x.pParent, parentGen := x.pParentGen, label := x.pLabel, send := 1, fromImage := false }
      let s := modSlot s k commit
      let s := { s with flt := { s.flt with fresh := tset s.flt.fresh k default } }
      let s := if fld s Reg.RED_CONFIG 26 19 = k then { s with red := { s.red with sealCounter := 0 } } else s
      kvtDone (startSweep s) r k 2 0))

/-- KVT_DISCARD (R414). -/
def execKvtDiscard (r : Req) (k : Nat) (s : State) : Res :=
  .next (kvtCmd s r k (fun s => kvtDone (clearPend s k) r k 2 0))

/-- KVT_INVALIDATE (R416): the generation rises, the key is kept, descendants are orphaned. -/
def execKvtInvalidate (r : Req) (k : Nat) (s : State) : Res :=
  .next (kvtCmd s r k (fun s =>
    kvtDone (startSweep (modSlot s k (fun x => { x with gen := (x.gen + 1) % 65536 }))) r k 2 0))

/-- Operations in progress under a slot's key abort (R417): their output is suppressed and counted. -/
def abortOps (s : State) (p : Nat → Bool) : State :=
  let n := (s.vault.ops.filter (fun o => p o.slot)).length
  let cmdHit := match s.vault.cmd with
    | some c => p c.slot || p c.source
    | none => false
  let mark (c : KCmd) : KCmd := if p c.slot || p c.source then { c with aborted := true } else c
  let v := { s.vault with ops := s.vault.ops.filter (fun o => !p o.slot), cmd := s.vault.cmd.map mark }
  cntAdd { s with vault := v } Reg.KVT_CNT_ABORT (n + b2n cmdHit)

/-- KVT_ZEROIZE (R416, R417). -/
def execKvtZeroize (r : Req) (k : Nat) (s : State) : Res :=
  .next (kvtCmd s r k (fun s =>
    let s := abortOps s (fun j => decide (j = k))
    let s := modSlot s k (fun x => { clearSlot x .zeroized with gen := (x.gen + 1) % 65536 })
    kvtDone (startSweep s) r k 2 0))

/-- KVT_CLEAR (R410, R412). -/
def execKvtClear (r : Req) (k : Nat) (s : State) : Res :=
  .next (kvtCmd s r k (fun s =>
    let st := (tget s.vault.slots k).state
    if st = .orphaned ∨ st = .zeroized then kvtDone (modSlot s k (fun x => { x with state := .empty })) r k 2 0
    else kvtDone s r k 3 2))

/-- KVT_WRAP (R411, R412): effective in PROVISION; the blob leaves at KVT_OP_COMPLETE. -/
def execKvtWrap (r : Req) (k source : Nat) (s : State) : Res :=
  .next (kvtCmd s r k (fun s =>
    if s.vault.lc ≠ 1 then kvtDone s r k 3 6
    else if source = 0 ∨ ¬ attrUse s source (masterOf r) useWrap then kvtDone (attrDeny s source) r k 3 1
    else if ¬ (slotAttr s k).testBit useWrap then kvtDone (attrDeny s k) r k 3 1
    else if ¬ slotServes s k then kvtDone s r k 3 2
    else
      let (key, s) := takeKey s source (masterOf r) useWrap
      match key with
      | none => kvtDone s r k 3 (if rootState s.vault = 0 then 5 else 2)
      | some key => kvtBusy s r 10 k source (Config.keyWrap key (slotKey s.vault k))))

/-- A root of 32 bytes that is not all zeros (R409), by at most `fuel` tries. (DEDUCED: log 53) -/
def genRoot : Nat → State → Option Bytes × State
  | 0, s => (none, s)
  | fuel + 1, s =>
    let (key, s) := takeDrbg s 32
    if key = zeroKey ∨ key.length ≠ 32 then genRoot fuel s else (some key, s)

/-- NEW_ROOT (R409). -/
def execNewRoot (r : Req) (s : State) : Res :=
  .next (gated s r Reg.KVT_CMD (fun s =>
    if s.vault.cmd.isSome then kvtDone s r 0 3 9
    else if rootState s.vault ≠ 0 then kvtDone s r 0 3 2
    else if s.vault.lc ≠ 1 ∧ s.vault.lc ≠ 2 then kvtDone s r 0 3 6
    else match genRoot 8 s with
      | (none, s) => kvtDone s r 0 3 8
      | (some key, s) =>
        kvtDone { s with vault := { s.vault with root := key, rootNew := true } } r 0 2 0))

/-- KCV_CHECK (R414): a given value against the key check value of the pending half. -/
def execKcvCheck (r : Req) (k value : Nat) (s : State) : Res :=
  .next (gated s r Reg.KVT_KCV_CHECK (fun s =>
    if k < 2 ∨ k > 255 then s
    else if ¬ attrMaster s k (masterOf r) then attrDeny s k
    else if (tget s.vault.slots k).pend = 0 then s
    else if kcvOf (slotPend s.vault k) = value % 2 ^ 24 then modSlot s k (fun x => { x with pend := 2 })
    else cnt (report (clearPend s k) Ev.KVT_KCV_FAIL k 0) Reg.KVT_CNT_KCV_FAIL))

/-- The command in progress ends (R415, R417). -/
def kvtCmdComplete (s : State) (c : KCmd) : State :=
  let fin (s : State) (st reason : Nat) : State :=
    kvtEnd { s with vault := { s.vault with cmd := none, cmdState := st, cmdReason := reason, cmdSlot := c.slot } } c.by_
  if c.aborted then fin (if c.code = 10 then s else clearPend s c.slot) 3 8
  else if ¬ completionOk s c.source then fin (suppressed (if c.code = 10 then s else clearPend s c.slot) c.source) 3 8
  else if c.code = 10 then
    if ¬ completionOk s c.slot then fin (suppressed s c.slot) 3 8
    else fin (cnt (emit s (.lane (c.by_ / 2) c.addr c.blob)) Reg.KVT_CNT_OPS) 2 0
  else fin (cnt s Reg.KVT_CNT_OPS) 2 0

/-- An operation of a block ends (R415): whether its output may leave. -/
def opComplete (s : State) (user ident : Nat) : Bool × State :=
  match takeFirst (fun o : VOp => decide (o.user = user ∧ o.ident = ident)) s.vault.ops with
  | none => (false, s)
  | some (o, rest) =>
    let s := { s with vault := { s.vault with ops := rest } }
    if completionOk s o.slot then (true, cnt s Reg.KVT_CNT_OPS)
    else (false, suppressed s o.slot)

/-- Every slot whose chain is broken is marked ORPHANED (R416). -/
def orphanAll (v : Vault) : Tab Slot :=
  tmap (fun k x => if x.state = .valid ∧ chainOk v 9 k = false then clearSlot x .orphaned else x) v.slots

/-- ORPHAN_SWEEP_DONE (R416). -/
def execOrphanSweepDone (s : State) : Res :=
  .next (if s.vault.sweep then { s with vault := { s.vault with slots := orphanAll s.vault, sweep := false } } else s)

/-- Take the elements of a list in an order that a list of numbers chooses. -/
def permBy : List Nat → List Nat → List Nat
  | [], rest => rest
  | n :: ns, rest =>
    match rest with
    | [] => []
    | _ => ((rest[n % rest.length]?).getD 0) :: permBy ns (removeAt rest (n % rest.length))

/-- A key half under a new mask (R422): stored XOR old mask XOR new mask. -/
def remaskSlot (new : Bytes) (row : Nat) (x : Slot) : Slot :=
  if x.key = [] ∧ x.pendKey = [] then { x with row := row }
  else { x with key := xorStr (xorStr x.key x.mask) new, pendKey := xorStr (xorStr x.pendKey x.mask) new, mask := new, row := row }

/-- REMASK (R422): every 10 s. -/
def execRemask (s : State) : Res :=
  .next (if ¬ domainOn s 11 ∨ since s s.vault.remaskAt < 10 * secUnits then s else
    let (order, s) := takeDrbg s 512
    let rows := permBy ((List.range 256).map (fun i => beAt order (2 * i) 2)) (List.range 256)
    let n := s.vault.drbgN
    let slots := tmap (fun k x =>
      if x = default then x else remaskSlot ((Config.drbg (n + k) 32).take 32) ((rows[k]?).getD 0) x) s.vault.slots
    cnt { s with vault := { s.vault with slots := slots, drbgN := n + 256, remaskAt := now s } } Reg.KVT_CNT_REMASK)

/-- The image record is cleared (R480). -/
def clearImageRecord (s : State) : State := { s with aon := { s.aon with imageRecord := none } }

/-- LIFECYCLE_MOVE (R424): a write of KVT_LC_CMD; 0x4C43_0001 arms, and the code of the next state within 1 ms moves. -/
def execLifecycleMove (r : Req) (value : Word) (s : State) : Res :=
  .next (gated s r Reg.KVT_LC_CMD (fun s =>
    if value.toNat = 0x4C430001 then { s with vault := { s.vault with lcArmed := some (now s) } }
    else
      let armed := match s.vault.lcArmed with
        | some t => decide (since s t ≤ msUnits)
        | none => false
      let s := { s with vault := { s.vault with lcArmed := none } }
      let next := s.vault.lc + 1
      if armed = false ∨ value.toNat ≠ next ∨ next > 3 ∨ (next = 1 ∧ s.vault.anchors = []) then s
      else
        let s := clearImageRecord { s with vault := { s.vault with lcMove := some next } }
        if next = 3 then { s with vault := { s.vault with root := zeroKey, rootNew := false } } else s))

/-- Whether a public key's hash is a trust anchor that is not revoked (R424). -/
def anchorOf (s : State) (pubkey : Bytes) : Option Nat :=
  (s.vault.anchors.find? (fun a => decide (a.2 = Config.sha256 pubkey) && !s.vault.anchorRevoked.contains a.1)).map (·.1)

/-- DEBUG_OPEN (R425): `pubkey`, `token` and `sig` are the debug token presented, which DEPLOYED requires. -/
def execDebugOpen (pubkey token sig : Bytes) (s : State) : Res :=
  .next (
    let ok := decide (s.vault.lc ≠ 2) ||
      ((anchorOf s pubkey).isSome && Config.ecdsaVerify pubkey (Config.sha256 token) sig)
    if ¬ ok ∨ s.vault.debug = true ∨ ¬ domainOn s 11 then s
    else
      let s := clearImageRecord { s with vault := { s.vault with debug := true, testRoot := true } }
      report s Ev.KVT_TEST_ROOT 0 0)

/-- The power context of a tamper-log entry (R428). -/
def tamperContext (s : State) : Nat :=
  if ¬ s.pwr.on.contains 2 ∨ s.pwr.porst = true then 0 else if starting s then 1 else 2

/-- The root, the log and the status after a detection: what the VBAT domain does alone (R427, R428). -/
def tamperVbat (s : State) (code : Nat) : State :=
  let v := s.vault
  let e : TamperEnt := { secs := s.tim.rtc / 32768, ticks := s.tim.rtc % 32768, code := code, context := tamperContext s }
  { s with vault := { v with
      root := zeroKey, rootNew := false
      tamperStatus := v.tamperStatus ||| 2 ^ (code - 1)
      tamperLog := tset v.tamperLog v.tamperNext (some e)
      tamperCount := satAdd 65535 v.tamperCount 1
      tamperNext := (v.tamperNext + 1) % 8 } }

/-- A start under way in which a tamper is seen does not count (R429, R481): its increment is withdrawn. -/
def withdrawStart (s : State) : State :=
  if ¬ starting s then s
  else
    let a := s.aon
    let a := match a.countedKind with
      | 1 => { a with failA := a.failA - 1 }
      | 2 => { a with failB := a.failB - 1 }
      | 3 => { a with failG := a.failG - 1 }
      | 4 => { a with warm := a.warm - 1 }
      | _ => a
    { s with aon := { a with countedKind := 0 } }

/-- A tamper sensor trips (R426, R427): it acts only while its bit of KVT_TAMPER_CFG is set. -/
def tamperDetect (code : Nat) (s : State) : State :=
  (if code < 1 ∨ code > 5 ∨ s.vault.tamperCfg.testBit (code - 1) = false then s
    else
      let s := clearImageRecord (withdrawStart (tamperVbat s code))
      let s := if domainOn s 11 then
          let s := abortOps s (fun _ => true)
          { s with vault := { s.vault with slots := tmap (fun _ x => if x = default then x else clearSlot x .zeroized) s.vault.slots } }
        else s
      if s.pwr.on.contains 2 ∧ s.pwr.porst = false then report s Ev.KVT_TAMPER noInst code else s)

/-- TAMPER_DETECT (R427): sensor 1 to 5. -/
def execTamperDetect (code : Nat) (s : State) : Res := .next (tamperDetect code s)

/-- TAMPER_STATUS_CLEAR (R427): only while root_state is not ZERO. -/
def execTamperStatusClear (r : Req) (s : State) : Res :=
  .next (gated s r Reg.KVT_TAMPER_CLEAR (fun s =>
    if rootState s.vault = 0 then s else { s with vault := { s.vault with tamperStatus := 0 } }))

/-- TAMPER_LOG_CLEAR (R428). -/
def execTamperLogClear (r : Req) (s : State) : Res :=
  .next (gated s r Reg.KVT_TAMPER_CLEAR (fun s => { s with vault := { s.vault with tamperLog := [], tamperNext := 0 } }))

/-- KVT_CNT_CLEAR (R431). -/
def execKvtCntClear (r : Req) (s : State) : Res :=
  .next (gated s r Reg.KVT_CNT_CLEAR (fun s => clearRegs s Reg.KVT_CNT_OPS Reg.KVT_CNT_REMASK))

/-- VBAT_APPLIED (R426): the sensor enables clear, and the domain starts with root_state ZERO. -/
def execVbatApplied (s : State) : Res :=
  .next { s with vault := { s.vault with root := zeroKey, rootNew := false, tamperCfg := 0, tamperStatus := 0
                                         tamperLog := [], tamperCount := 0, tamperNext := 0, lfsr := 0 } }

/-- VBAT_LOST (R408): the root, the tamper log and the real-time clock are lost. -/
def execVbatLost (s : State) : Res :=
  .next { s with vault := { s.vault with root := zeroKey, rootNew := false, tamperStatus := 0
                                         tamperLog := [], tamperCount := 0, tamperNext := 0 }
                 tim := { s.tim with rtc := 0 } }

/-- The send counter of a slot whose key a start restores, other than a warm one (R420). -/
def sendStart (s : State) : Nat := now s / 2 ^ 20 + 1

/-- One slot rebuilt from its key-policy record (R419). -/
def unsealSlot (s : State) (k : Nat) : State :=
  let rec_ := cBytes s s.tag 13 (64 * k) 64
  let source := byteAt rec_ 6 % 4
  let parent := byteAt rec_ 4
  let size := slotSize s k
  let got : Option (Bytes × Option Nat × Nat) :=
    if source = 1 then
      if slotServes s parent then
        let g := (tget s.vault.slots parent).gen
        some (kdf (slotKey s.vault parent) (labelOf s (byteAt rec_ 5)) k g size, some parent, g)
      else none
    else if source = 2 then
      if slotServes s 1 then
        (Config.keyUnwrap (slotKey s.vault 1) (slice rec_ 16 (if size then 40 else 24))).map (fun key => (key, none, 0))
      else none
    else none
  match got with
  | none => s
  | some (key, p, g) =>
    if kcvOf key ≠ beAt rec_ 8 3 then cnt (report s Ev.KVT_KCV_FAIL k 0) Reg.KVT_CNT_KCV_FAIL
    else
      let (mask, s) := takeDrbg s 32
      let send := sendStart s
      modSlot { s with vault := { s.vault with rootNew := false } } k (fun x =>
        { x with state := .valid, pend := 0, key := xorStr key mask, mask := mask, kcv := kcvOf key, parent := p
                 parentGen := g, label := if p.isSome then byteAt rec_ 5 else 0, fromImage := true
                 send := send, row := k })

/-- KEY_UNSEAL (R410, R419): slot 1 from the root, then slots 2 to 255 in ascending order. (DEDUCED: log 53) -/
def keyUnseal (s : State) : State :=
  let s := { s with vault := { s.vault with slots := [], unsealed := false, sweep := false, cmd := none, ops := [] } }
  let s := if rootState s.vault = 0 then s
    else
      let key := kdf (rootKey s.vault) (ascii "storage") 1 0 true
      let (mask, s) := takeDrbg s 32
      modSlot s 1 (fun x => { x with state := .valid, key := xorStr key mask, mask := mask, kcv := kcvOf key
                                     parent := some 0, parentGen := 0, row := 1 })
  let s := (List.range 254).foldl (fun s i => unsealSlot s (i + 2)) s
  let cfg := s.vault.tamperCfg ||| fld s Reg.KVT_TAMPER_CFG 4 0
  { s with vault := { s.vault with unsealed := true, remaskAt := now s, tamperCfg := cfg } }

/-- How far the record of a slot lies from the root (R418). -/
def policyDepth (s : State) : Nat → Nat → Nat
  | 0, _ => 0
  | fuel + 1, k =>
    let w := cw s 13 (16 * k + 1)
    if k < 2 ∨ nbits w 17 16 ≠ 1 then 0 else policyDepth s fuel (nbits w 7 0) + 1

/-- The key-policy rules of R418 on the slot records in force. -/
def keyPolicyOk (s : State) : Bool :=
  (List.range 254).all (fun i =>
    let k := i + 2
    let w := cw s 13 (16 * k + 1)
    let source := nbits w 17 16
    let parent := nbits w 7 0
    if source = 3 then false
    else if source = 1 then
      decide (parent < k) && (slotAttr s parent).testBit useDerive && decide (policyDepth s 10 k ≤ 8)
    else true)

end Sys2Proof.Machine
end

