-- ==== Sys2Proof/Machine/Fields.lean ====
section
/-! DEFINITION. What is read out of a payload: the data area of each key kind (R122, R555), binary and text fields
(R124, R153, R154), exact rounding (R161), UTC (R319). -/

namespace Sys2Proof.Machine

/-- An integer divided by a positive one and rounded (R161): 0 half away from zero, 1 half to even, 2 toward zero,
3 toward −∞. -/
def roundDiv (mode : Nat) (n : Int) (d : Nat) : Int :=
  let q := Int.fdiv n d
  let r := (n - q * d).toNat
  match mode with
  | 0 => if 2 * r > d then q + 1 else if 2 * r = d then (if n < 0 then q else q + 1) else q
  | 1 => if 2 * r > d then q + 1 else if 2 * r = d then (if q % 2 = 0 then q else q + 1) else q
  | 2 => if n < 0 ∧ r ≠ 0 then q + 1 else q
  | _ => q

/-- Whether an integer fits 64 signed bits. -/
def fits64 (i : Int) : Bool := decide (-(2 : Int) ^ 63 ≤ i ∧ i < (2 : Int) ^ 63)

/-- Where the EtherType of a frame stands: at 12, or at 16 behind one 802.1Q tag (R63, R555). -/
def etOff (f : Bytes) : Nat := if beAt f 12 2 = 0x8100 then 16 else 12

/-- The EtherType of a frame. -/
def etherType (f : Bytes) : Nat := beAt f (etOff f) 2

/-- The first byte of the UDP header of an IPv4 frame. -/
def udpOff (f : Bytes) : Nat := etOff f + 2 + 4 * (byteAt f (etOff f + 2) % 16)

/-- The first byte of the UDP payload. -/
def udpData (f : Bytes) : Nat := udpOff f + 8

/-- The place of the first byte from `i` on that passes `p`, or the length of the string. -/
def scanFrom (p : Byte → Bool) (bs : Bytes) (i : Nat) : Nat :=
  match findIdx? p (bs.drop i) with
  | some j => i + j
  | none => bs.length

/-- Where the $ or ! of an IEC sentence stands, behind a leading TAG block (R55). (DEDUCED: log 19) -/
def iecStart (bs : Bytes) (i : Nat) : Nat :=
  let i := if byteAt bs i = 0x5C then scanFrom (fun b => decide (b = 0x5C#8)) bs (i + 1) + 1 else i
  scanFrom (fun b => decide (b = 0x24#8 ∨ b = 0x21#8)) bs i

/-- Where the data area of an IEC sentence ends: before the * or the terminator. (DEDUCED: log 19) -/
def iecEnd (bs : Bytes) (i : Nat) : Nat :=
  scanFrom (fun b => decide (b = 0x2A#8 ∨ b = 0x0D#8 ∨ b = 0x0A#8)) bs i

/-- How many leading and trailing bytes of a sentence-port payload of key kind 0x02 lie outside the data area: flags,
sync bytes and check code, by the mode and check of the port it came from. -/
def spMargins (mode sync : Word) : Nat × Nat :=
  let fr := bits mode 2 0
  let ck := bits mode 10 8
  let c := if ck = 5 ∨ ck = 6 then 2 else if ck = 7 then 4 else if ck = 3 ∨ ck = 4 then 1 else 0
  if fr = 2 then (1, c + 1) else if fr = 3 then (bits sync 17 16, c) else (0, c)

/-- Offset and length of the data area (R122) of a payload with a match key; `margins` belongs to key kind 0x02. -/
def dataArea (margins : Nat × Nat) (key p : Bytes) : Nat × Nat :=
  let clip (o n : Nat) := (min o p.length, min n (p.length - o))
  match byteAt key 0 with
  | 0x01 => let i := iecStart p 0
            clip i (iecEnd p i - i)
  | 0x02 => clip margins.1 (p.length - margins.1 - margins.2)
  | 0x05 => clip (etOff p + 2) p.length
  | 0x06 => let i := if etherType p = 0x88F7 then etOff p + 2 else udpData p
            clip i (beAt p (i + 2) 2)
  | 0x07 => let i := udpData p
            clip (i + 40) (beAt p (i + 20) 4)
  | 0x08 => let i := udpData p
            clip (i + 116) (beAt p (i + 20) 4)
  | 0x09 => let i := iecStart p (udpData p + 6)
            clip i (iecEnd p i - i)
  | _ => (0, p.length)

/-- Offset and length of the data area of a sentence, under the sentence-port mode of its source. A TRDP dataset that has
lost its seal trailer (R131) is 24 bytes shorter than its header says. -/
def sentSpan (s : State) (x : Sent) : Nat × Nat :=
  let (o, n) := dataArea (spMargins (rd s (Reg.PRT_MODE x.src)) (rd s (Reg.PRT_SYNC x.src))) x.key x.payload
  if x.stripped ∧ (byteAt x.key 0 = 7 ∨ byteAt x.key 0 = 8) then (o, min n (beAt x.payload (udpData x.payload + 20) 4 - 24))
  else (o, n)

/-- The data area of a sentence. -/
def sentArea (s : State) (x : Sent) : Bytes := slice x.payload (sentSpan s x).1 (sentSpan s x).2

/-- A binary field (R124): none where a bit of it lies beyond the data area. -/
def binField (da : Bytes) (off bitNo width : Nat) (signed le : Bool) : Option Int :=
  if width = 0 ∨ 8 * off + bitNo + width > 8 * da.length then none
  else
    let n := (bitNo + width + 7) / 8
    let v := if le then (leAt da off n >>> bitNo) % 2 ^ width
      else (beAt da off n >>> (8 * n - bitNo - width)) % 2 ^ width
    some (if signed ∨ width = 64 then sext width v else Int.ofNat v)

/-- The bytes between commas of a data area: field 0 follows the start character (R122). -/
def commaSplit : Bytes → List Bytes
  | [] => [[]]
  | b :: t => if b = 0x2C#8 then [] :: commaSplit t else
      match commaSplit t with
      | [] => [[b]]
      | f :: fs => (b :: f) :: fs

/-- Text field k of a data area that opens with $ or ! (R122). (DEDUCED: log 19) -/
def textField (da : Bytes) (k : Nat) : Option Bytes := (commaSplit (da.drop 1))[k]?

/-- Whether a byte is a decimal digit. -/
def isDigit (b : Byte) : Bool := decide (0x30 ≤ b.toNat ∧ b.toNat ≤ 0x39)

/-- The number spelt by decimal digits. -/
def digitsVal (bs : Bytes) : Nat := bs.foldl (fun a b => 10 * a + (b.toNat - 0x30)) 0

/-- Text decimal × 10^d (R124). -/
def textDecimal (f : Bytes) (d : Nat) : Option Int :=
  let neg := decide (byteAt f 0 = 0x2D)
  let body := if byteAt f 0 = 0x2D ∨ byteAt f 0 = 0x2B then f.drop 1 else f
  let dig := body.filter (fun b => !decide (b = 0x2E#8))
  let stops := body.length - dig.length
  let frac := if stops = 0 then 0 else body.length - 1 - scanFrom (fun b => decide (b = 0x2E#8)) body 0
  let sig := (dig.dropWhile (fun b => decide (b = 0x30#8))).length
  if stops > 1 ∨ dig = [] ∨ ¬ dig.all isDigit ∨ sig > 18 then none
  else
    let n : Int := Int.ofNat (digitsVal dig * 10 ^ d)
    let v := roundDiv 0 (if neg then -n else n) (10 ^ frac)
    if fits64 v then some v else none

/-- Text time of day in milliseconds (R124). -/
def textTime (f : Bytes) : Option Int :=
  let hms := f.take 6
  let rest := f.drop 6
  let hh := digitsVal (slice hms 0 2)
  let mm := digitsVal (slice hms 2 2)
  let ss := digitsVal (slice hms 4 2)
  let frac := rest.drop 1
  let okFrac : Bool := decide (rest = []) || (decide (byteAt rest 0 = 0x2E) && decide (frac ≠ []) && frac.all isDigit)
  if hms.length < 6 ∨ ¬ hms.all isDigit ∨ hh > 23 ∨ mm > 59 ∨ ss > 60 ∨ okFrac = false then none
  else some (Int.ofNat (((hh * 60 + mm) * 60 + ss) * 1000 + digitsVal ((frac ++ ascii "000").take 3)))

/-- The value a field descriptor yields (R123, R124). Text fields are absent outside key kinds 0x01 and 0x09. -/
def descField (key da : Bytes) (desc : Nat) : Option Int :=
  let off := nbits desc 15 2
  let text := if byteAt key 0 = 1 ∨ byteAt key 0 = 9 then textField da (off % 256) else none
  match nbits desc 1 0 with
  | 1 => binField da off (nbits desc 18 16) (nbits desc 25 19) (desc.testBit 26) (desc.testBit 27)
  | 2 => text.bind (fun f => textDecimal f (nbits desc 31 28))
  | 3 => text.bind textTime
  | _ => none

/-- The signed offset TAI − UTC in seconds. -/
def utcOffset (s : State) : Int := sext 16 (fld s Reg.TIM_UTC_OFFSET 15 0)

/-- The pending leap: 1 insert, 2 delete, 0 none (R319, R320). -/
def leapKind (s : State) : Nat :=
  let v := fld s Reg.TIM_LEAP_CTRL 1 0
  if v = 3 then 0 else v

/-- Whether a stamp falls into an inserted leap second (R319). -/
def inLeapSecond (s : State) (t : Nat) : Bool :=
  decide (leapKind s = 1 ∧ t / secUnits + 1 = (rd s Reg.TIM_LEAP_AT).toNat)

/-- The UTC second count of a stamp (R319). -/
def utcSecond (s : State) (t : Nat) : Int :=
  Int.ofNat (t / secUnits) - utcOffset s - (if inLeapSecond s t then 1 else 0)

/-- The UTC millisecond of day of a stamp (R319). -/
def utcMillis (s : State) (t : Nat) : Nat :=
  let ms := (t % secUnits) / msUnits
  if inLeapSecond s t then 86400000 + ms
  else 1000 * ((Int.ofNat (t / secUnits) - utcOffset s) % 86400).toNat + ms

end Sys2Proof.Machine
end

