-- ==== Sys2Proof/Machine/Tree.lean ====
section
/-! DEFINITION. The budget tree and the shared buffer as the other stages use them (R107, R185 to R198), the stream
entries (R94), and the credits of the path queues (R28). -/

namespace Sys2Proof.Machine

/-- Field [hi:lo] of word `w` of node `n`'s record (R185). -/
def ndF (s : State) (n w hi lo : Nat) : Nat := cf s 5 (8 * n + w) hi lo

/-- The parent of a node. -/
def ndParent (s : State) (n : Nat) : Nat := ndF s n 0 12 0

/-- The class of a node. -/
def ndClass (s : State) (n : Nat) : Nat := ndF s n 0 15 13

/-- Whether a record is a node of the tree. -/
def ndUsed (s : State) (n : Nat) : Bool := decide (ndF s n 0 23 23 = 1)

/-- Over-budget policy: 0 HOLD, 1 DROP, 2 HOLD_THEN_DROP. -/
def ndPolicy (s : State) (n : Nat) : Nat := ndF s n 0 21 20

/-- The buffer quota of a node. -/
def ndQuota (s : State) (n : Nat) : Nat := ndF s n 1 24 0

/-- min_gap in ns of a class-0 leaf, hold limit in µs of another node. -/
def ndGap (s : State) (n : Nat) : Nat := ndF s n 6 31 0

/-- The runtime state of a node. -/
def nodeRt (s : State) (n : Nat) : Node := tget s.bgt.nodes n

/-- Store a node's runtime state. -/
def setNode (s : State) (n : Nat) (nd : Node) : State :=
  { s with bgt := { s.bgt with nodes := tset s.bgt.nodes n nd } }

/-- The rate in force of a node (R205): the adapted one where there is one; `fab` chooses fabric time. -/
def ndRate (s : State) (fab : Bool) (n : Nat) : Nat :=
  if fab then (nodeRt s n).fAdapt.rate.getD (ndF s n 2 31 0) else (nodeRt s n).eAdapt.rate.getD (ndF s n 4 31 0)

/-- The cap in force of a node. -/
def ndCap (s : State) (fab : Bool) (n : Nat) : Nat :=
  if fab then (nodeRt s n).fAdapt.cap.getD (ndF s n 3 31 0) else (nodeRt s n).eAdapt.cap.getD (ndF s n 5 31 0)

/-- A node and the nodes above it up to its class root, `fuel` of them at most. -/
def chainUp (s : State) : Nat → Nat → List Nat
  | 0, _ => []
  | f + 1, n => if n = 0 then [] else n :: chainUp s f (ndParent s n)

/-- A node and the nodes above it, node 0 left out: a parent's number is lower than its child's. -/
def chainOf (s : State) (n : Nat) : List Nat := chainUp s (n + 1) n

/-- Whether every node on the path up to the class root is ENABLED and none is taken out (R107, R195). -/
def nodeOpen (s : State) (n : Nat) : Bool :=
  ndUsed s n && (chainOf s n).all (fun k => decide ((nodeRt s k).state = 1) && !(nodeRt s k).out)

/-- Whether a node lies in the subtree of another. -/
def under (s : State) (n root : Nat) : Bool := (chainOf s n).contains root

/-- Buffer bytes are charged to a leaf (R191). -/
def bufAdd (s : State) (n b : Nat) : State := setNode s n { nodeRt s n with buf := (nodeRt s n).buf + b }

/-- Buffer bytes return to a leaf. -/
def bufSub (s : State) (n b : Nat) : State := setNode s n { nodeRt s n with buf := (nodeRt s n).buf - b }

/-- A node has a shortfall (R194): the first of a period reports BGT_EXHAUST. -/
def shortfall (s : State) (fab : Bool) (n : Nat) : State :=
  let nd := nodeRt s n
  let nd' := { nd with short := true
                       fAdapt := { nd.fAdapt with shortNow := nd.fAdapt.shortNow || fab }
                       eAdapt := { nd.eAdapt with shortNow := nd.eAdapt.shortNow || !fab } }
  let s := setNode s n nd'
  if nd.short then s else report s Ev.BGT_EXHAUST n 0

/-- A charge is made to a leaf (R190): its credit falls and its use of the period rises. -/
def charge (s : State) (fab : Bool) (n amount : Nat) : State :=
  let nd := nodeRt s n
  if fab then setNode s n { nd with fCredit := nd.fCredit - amount
                                    fAdapt := { nd.fAdapt with use := nd.fAdapt.use + amount } }
  else setNode s n { nd with eCredit := nd.eCredit - amount
                             eAdapt := { nd.eAdapt with use := nd.eAdapt.use + amount } }

/-- A sentence or copy is dropped by policy at a node (R194). -/
def policyDrop (s : State) (n : Nat) : State :=
  let s := setNode s n { nodeRt s n with dropped := satAdd 0xFFFFFFFF (nodeRt s n).dropped 1 }
  report (cnt s Reg.BGT_CNT_DROP) Ev.BGT_DROP n 0

/-- BGT_CONTRACT at most once per leaf and period (R197). -/
def contractAtNode (s : State) (n : Nat) : State :=
  if (nodeRt s n).contractAt = some s.tim.boundaries then s
  else report (setNode s n { nodeRt s n with contractAt := some s.tim.boundaries }) Ev.BGT_CONTRACT n 0

/-- A new block of the shared buffer whose bytes are charged to a leaf already (R13, R191). -/
def blkNew (s : State) (leaf bytes refs : Nat) : Nat × State :=
  (s.egr.nextBlk, { s with egr := { s.egr with nextBlk := s.egr.nextBlk + 1
                                               blocks := tset s.egr.blocks s.egr.nextBlk ⟨leaf, bytes, refs⟩ } })

/-- A block gains a reference (R210). -/
def blkRef (s : State) (b : Nat) : State :=
  { s with egr := { s.egr with blocks := tmod s.egr.blocks b (fun k => { k with refs := k.refs + 1 }) } }

/-- A block loses a reference; with the last one its bytes return to their leaf (R191, R210). -/
def blkDrop (s : State) (b : Nat) : State :=
  let k := tget s.egr.blocks b
  if k.refs ≤ 1 then
    bufSub { s with egr := { s.egr with blocks := tset s.egr.blocks b default } } k.leaf k.bytes
  else { s with egr := { s.egr with blocks := tset s.egr.blocks b { k with refs := k.refs - 1 } } }

/-- A sentence that is discarded before commit returns the bytes charged for it: until commit `blk` names the leaf they
are charged to. A request of the bridge fails in the mapper (R282). -/
def sentFree (s : State) (x : Sent) : State := brgLose (bufSub s x.blk x.buf) x 3

/-- The runtime state of a stream. -/
def strm (s : State) (id : Nat) : Stream := tget s.stb.streams id

/-- Store a stream's runtime state. -/
def setStrm (s : State) (id : Nat) (x : Stream) : State :=
  { s with stb := { s.stb with streams := tset s.stb.streams id x } }

/-- A stream entry of the image under a set tag (R94). -/
def imageStream (s : State) (tag id : Nat) : StreamCfg :=
  let w (i : Nat) := cwT s tag 1 (16 * id + i)
  { key := (List.range 6).flatMap (fun i => toLE 4 (w i))
    state := nbits (w 6) 1 0, lvcEnable := (w 6).testBit 4, lvcDram := (w 6).testBit 5, seqCheck := (w 6).testBit 6
    cls := nbits (w 6) 10 8, node := nbits (w 7) 12 0, dset := nbits (w 7) 27 16, prog := nbits (w 8) 11 0
    fset := nbits (w 8) 21 12, maxLen := nbits (w 9) 13 0, ovfSlot := nbits (w 9) 31 16, template := 0 }

/-- The configuration of a stream: a learned entry keeps its own (R101, R110). -/
def strmCfg (s : State) (tag id : Nat) : StreamCfg :=
  if 61440 ≤ id then (tget s.stb.learned id).getD default else imageStream s tag id

/-- A stream id's filter state is cleared (R137). -/
def clearFilterState (s : State) (id : Nat) : State :=
  let f := { tget s.flt.fstate id with passValid := false, bucketValid := false, refValid := false }
  { s with flt := { s.flt with fstate := tset s.flt.fstate id f } }

/-- The kind of credit a descriptor may take in a queue of `total` places, `oasis` of them for class 0 (R28): oasis
credits first; `first` says whether it may use them. -/
def credit (q : List Sent) (total oasis : Nat) (first : Bool) : Option Bool :=
  let o := (q.filter (·.oasis)).length
  if first ∧ o < oasis then some true
  else if q.length - o < total - oasis then some false else none

/-- The next sentence a stage serves (R28): the oldest of class 0, then the oldest of the others. -/
def serveNext (first : Sent → Bool) (q : List Sent) : Option (Sent × List Sent) :=
  match takeFirst first q with
  | some r => some r
  | none => takeFirst (fun _ => true) q

/-- Whether a sentence is class 0. -/
def c0 (x : Sent) : Bool := decide (x.cls = 0)

/-- The voter's releases enter the commit intake as credits allow (R29, R266). -/
def voterFlushAux : List Sent → List Sent → List Sent × List Sent
  | q, [] => (q, [])
  | q, x :: t => match credit q 256 64 (c0 x) with
    | some o => voterFlushAux (q ++ [{ x with oasis := o }]) t
    | none => let r := voterFlushAux q t
              (r.1, x :: r.2)

/-- The voter's output is served. -/
def voterFlush (s : State) : State :=
  let r := voterFlushAux s.com.intake s.vot.outQ
  { s with com := { s.com with intake := r.1 }, vot := { s.vot with outQ := r.2 } }

/-- The last committed delivery index (R15, R40): 0 in the count where nothing is committed in the generation. -/
def lastIndex (s : State) : Nat := s.com.gen * 2 ^ 56 + s.com.count

/-- The index a descriptor carries for the last commit: 0 where the generation has none (R15). -/
def lastIndexOr0 (s : State) : Nat := if s.com.count = 0 then 0 else lastIndex s

end Sys2Proof.Machine
end

