-- ==== Sys2Proof/Machine/Vote.lean ====
section
/-! DEFINITION. The lane lists and the vote as shared operations (R211, R242, R250 to R254, R259 to R269). -/

namespace Sys2Proof.Machine

/-- A lane's state. -/
def lane (s : State) (k : Nat) : Lane := tget s.lni.lanes k

/-- Store a lane's state. -/
def setLane (s : State) (k : Nat) (l : Lane) : State := { s with lni := { s.lni with lanes := tset s.lni.lanes k l } }

/-- A descriptor is counted for the GAP of a lane (R254): DATA by its index, FENCEs and MARKs by number. -/
def gapAdd (g : Gap) (it : LaneItem) : Gap :=
  match it with
  | .data x => { g with first := if g.copies = 0 then x.index else g.first, last := x.index, copies := g.copies + 1 }
  | .fence _ _ _ _ => { g with fences := satAdd 65535 g.fences 1 }
  | .mark _ _ _ _ => { g with marks := satAdd 65535 g.marks 1 }

/-- A lane that has missed nothing. -/
def gapNone (t : Nat) : Gap := { since := t, first := 0, last := 0, fences := 0, marks := 0, copies := 0 }

/-- A discarded lane item gives up its buffer reference; a DATA item may count in LNI_CNT_LOST. (DEDUCED: log 38) -/
def laneLose (s : State) (k : Nat) (lost : Bool) (it : LaneItem) : State :=
  match it with
  | .data x => blkDrop (if lost then cnt s (Reg.LNI_CNT_LOST k) else s) x.blk
  | _ => s

/-- A descriptor due to a lane that takes none: it goes to the GAP of the running episode, or to the GAP of R247. (DEDUCED: log 38) -/
def laneMiss (s : State) (k : Nat) (it : LaneItem) : State :=
  let l := lane s k
  match l.gap with
  | some g => laneLose (setLane s k { l with gap := some (gapAdd g it) }) k true it
  | none =>
    laneLose (setLane s k { l with missed := some (gapAdd (l.missed.getD (gapNone (now s))) it) }) k (!l.link) it

/-- Entries of a lane's receive ring, 0 where the size register is out of range (R244, R247). -/
def ringEntries (s : State) (k : Nat) : Nat :=
  let a := fld s (Reg.LNI_RX_SIZE k) 4 0
  if 8 ≤ a ∧ a ≤ 16 then 2 ^ a else 0

/-- Bytes of a lane's data ring, 0 where the size register is out of range. -/
def dataBytes (s : State) (k : Nat) : Nat :=
  let b := fld s (Reg.LNI_RX_SIZE k) 12 8
  if 16 ≤ b ∧ b ≤ 26 then 2 ^ b else 0

/-- A length rounded up to 64 bytes. -/
def up64 (n : Nat) : Nat := (n + 63) / 64 * 64

/-- Where a payload of `n` bytes goes in the data ring and how many bytes it uses (R245). -/
def dataPlace (s : State) (k n : Nat) : Nat × Nat :=
  let l := lane s k
  let size := dataBytes s k
  if l.dataOff + n > size then (0, up64 n + (size - l.dataOff)) else (l.dataOff, up64 n)

/-- Whether a descriptor has room (R245): one ring entry, and for DATA its payload's bytes. -/
def laneRoom (s : State) (k : Nat) (it : LaneItem) : Bool :=
  let l := lane s k
  decide (l.used.length < ringEntries s k) &&
  match it with
  | .data x => decide (l.used.sum + (dataPlace s k x.payload.length).2 ≤ dataBytes s k)
  | _ => true

/-- The head of a lane list begins to wait for ring room (R254): LNI_RING_FULL once per episode. -/
def laneWait (s : State) (k : Nat) : State :=
  let l := lane s k
  match l.list with
  | [] => s
  | it :: _ =>
    if l.state = 0 ∨ l.gap.isSome ∨ l.wait.isSome ∨ laneRoom s k it = true then s
    else report (setLane s k { l with wait := some (now s) }) Ev.LNI_RING_FULL k 0

/-- A FENCE or MARK is placed in a lane's list (R250). -/
def laneControl (s : State) (k : Nat) (it : LaneItem) : State :=
  let l := lane s k
  if l.state = 1 ∧ l.gap = none then laneWait (setLane s k { l with list := l.list ++ [it] }) k
  else laneMiss s k it

/-- A control descriptor is placed for all three lanes (R242, R250). -/
def placeControl (s : State) (it : LaneItem) : State := laneControl (laneControl (laneControl s 0 it) 1 it) 2 it

/-- A MARK for the lanes (R253). -/
def placeMark (s : State) (code a b : Nat) : State := placeControl s (.mark code (now s) a b)

/-- The code of a lane's state (Lane states). -/
def voteCode : LaneVote → Nat
  | .member => 0
  | .suspect => 1
  | .out => 2
  | .returning => 3

/-- The three states as VOT_STATUS and the LANE_STATE mark carry them. -/
def voteBits (s : State) : Nat :=
  voteCode (lane s 0).vote + 4 * voteCode (lane s 1).vote + 16 * voteCode (lane s 2).vote

/-- Whether a lane votes: it is IN or SUSPECT. -/
def votes (s : State) (k : Nat) : Bool := decide ((lane s k).vote = .member ∨ (lane s k).vote = .suspect)

/-- V, the number of voting lanes. -/
def votingCount (s : State) : Nat := b2n (votes s 0) + b2n (votes s 1) + b2n (votes s 2)

/-- A lane changes state (R269): its event, the LANE_STATE mark and the vectors. The open windows are judged again by the
caller. -/
def setVote (s : State) (k : Nat) (v : LaneVote) : State :=
  let l := lane s k
  if l.vote = v then s
  else
    let s := setLane s k { l with vote := v, clean := 0, cleanFrom := none }
    let s := match v with
      | .suspect => report s Ev.VOT_LANE_SUSPECT k 0
      | .out => report s Ev.VOT_LANE_OUT k 0
      | _ => s
    let s := placeMark s 4 0 (voteBits s)
    raiseAll (raiseAll s false 4) true 1

/-- Field [hi:lo] of word `w` of a voter-stream record (R260). -/
def vsF (s : State) (v w hi lo : Nat) : Nat := cf s 8 (4 * v + w) hi lo

/-- The output stream of a voter stream. -/
def vsOut (s : State) (v : Nat) : Nat := vsF s v 0 15 0

/-- The mode of a voter stream: 0 EXACT, 1 MASKED, 2 TOLERANT, 3 FIRST. -/
def vsMode (s : State) (v : Nat) : Nat := vsF s v 0 17 16

/-- Bytes of region 8 from a byte offset. -/
def votBytes (s : State) (off n : Nat) : Bytes := cBytes s s.tag 8 off n

/-- One listed field of a tolerance record, extracted from a copy (R153, R154, R262). (DEDUCED: log 19) -/
def tolField (load : Nat) (p : Bytes) : Option Int :=
  let op := nbits load 63 58
  if op = 0x06 then binField p (nbits load 47 34) (nbits load 33 31) (nbits load 30 24) (load.testBit 51) (load.testBit 50)
  else
    let i := iecStart p 0
    (textField (slice p i (iecEnd p i - i)) (nbits load 47 40)).bind
      (fun f => if op = 0x07 then textDecimal f (nbits load 39 36) else textTime f)

/-- Whether byte `i` holds a bit of a listed binary field. -/
def inTolField (load i : Nat) : Bool :=
  decide (nbits load 63 58 = 0x06) &&
  (let b0 := 8 * nbits load 47 34 + nbits load 33 31
   let off := nbits load 47 34
   let last := off + (nbits load 33 31 + nbits load 30 24 - 1) / 8
   decide (nbits load 30 24 > 0 ∧ b0 / 8 ≤ i ∧ i ≤ last))

/-- Whether two copies agree under a TOLERANT record (R262). -/
def agreeTol (s : State) (rcd : Nat) (a b : Bytes) : Bool :=
  let r := votBytes s (131072 + 144 * rcd) 144
  let fieldsOnly := (byteAt r 1).testBit 0
  let idx := List.range (byteAt r 0 % 16)
  let load (i : Nat) := leAt r (16 + 16 * i) 8
  let rest := decide (a.length = b.length) && (List.range a.length).all (fun i =>
    decide (byteAt a i = byteAt b i) || idx.any (fun j => inTolField (load j) i))
  (fieldsOnly || rest) && idx.all (fun i =>
    match tolField (load i) a, tolField (load i) b with
    | none, none => true
    | some x, some y => decide ((x - y).natAbs ≤ leAt r (24 + 16 * i) 8)
    | _, _ => false)

/-- Whether two copies of a voter stream agree (R262). -/
def agree (s : State) (v : Nat) (a b : Bytes) : Bool :=
  match vsMode s v with
  | 0 => decide (a = b)
  | 1 =>
    let m := votBytes s (65536 + 64 * vsF s v 1 25 16) 64
    decide (a.length = b.length) && (List.range a.length).all (fun i =>
      decide (byteAt a i = byteAt b i) || (decide (i < 512) && !(byteAt m (i / 8)).testBit (i % 8)))
  | 2 => agreeTol s (vsF s v 1 25 16) a b
  | _ => true

/-- The first copy that agrees with an earlier one, and the lower lane of the two (R263). -/
def agreeing (f : Bytes → Bytes → Bool) : List VCopy → List VCopy → Option VCopy
  | _, [] => none
  | seen, c :: t =>
    match seen.find? (fun e => f e.payload c.payload) with
    | some e => some (if e.lane < c.lane then e else c)
    | none => agreeing f (seen ++ [c]) t

/-- The copy a window can release now, if any (R263); none while the unit is not ACTIVE (R371). -/
def releasable (s : State) (w : Window) : Option VCopy :=
  if w.released.isSome ∨ s.dev ≠ .active then none
  else
    let cs := w.copies.filter (fun c => votes s c.lane)
    if vsMode s w.vs = 3 then cs.head?
    else if votingCount s ≤ 1 then none else agreeing (agree s w.vs) [] cs

/-- A release (R265): the copy becomes a sentence of the output stream at the voter's output. -/
def releaseCopy (s : State) (w : Window) (c : VCopy) : State :=
  let out := vsOut s w.vs
  let g := strmCfg s s.tag out
  let x : Sent := { (default : Sent) with
    payload := c.payload, stamp := now s, endT := now s, src := 105 + c.lane, srcKind := 6, stream := out
    cls := g.cls, node := g.node, dset := g.dset, tag := s.tag, buf := c.payload.length, blk := g.node
    mirror := c.mirror }
  let s := cnt s Reg.VOT_CNT_RELEASED
  let vt := tget s.vot.streams w.vs
  let vs := tset s.vot.streams w.vs { vt with released := satAdd 0xFFFFFFFF vt.released 1 }
  voterFlush { s with vot := { s.vot with streams := vs, outQ := s.vot.outQ ++ [x] } }

/-- The cycle of the last FENCE placed. -/
def fenceCycle (s : State) : Nat := twos 64 s.lni.lastCycle

/-- A minority event is charged to a lane (R264, R269). (DEDUCED: log 39) -/
def chargeLane (s : State) (w : Window) (k : Nat) (missing : Bool) : State :=
  let s := cnt (cnt s Reg.VOT_CNT_DISAGREE) (Reg.VOT_CNT_MINORITY k)
  let s := if missing then cnt s (Reg.VOT_CNT_MISSED k) else s
  let s := wr s Reg.VOT_LAST_DISAGREE (BitVec.ofNat 32 (w.vs + k * 2 ^ 12 + b2n missing * 2 ^ 14 + w.index * 2 ^ 16))
  let s := report { s with vot := { s.vot with lastCycle := w.cycle } } Ev.VOT_DISAGREE k 0
  let s := raiseAll s false 4
  let l := lane s k
  let f := fenceCycle s
  let recent := (f :: l.minority).filter (fun c => decide (c + 63 ≥ f))
  let s := setLane s k { l with minority := recent, charged := w.cycle :: l.charged }
  if recent.length ≥ max 1 (fld s Reg.VOT_CTRL 11 8) then setVote s k .out
  else if l.vote = .member then setVote s k .suspect else s

/-- A closing window judges one lane against the released copy (R264). -/
def judgeLane (w : Window) (rel : VCopy) (s : State) (k : Nat) : State :=
  let own := w.copies.find? (fun c => decide (c.lane = k))
  let bad : Bool := match own with
    | some c => !agree s w.vs c.payload rel.payload
    | none => true
  if ¬ bad then s
  else match (lane s k).vote with
    | .member | .suspect => chargeLane s w k own.isNone
    | .returning => setVote s k .out
    | .out => s

/-- A window closes (R264): `quiet` where a drain limit closes it (R268). The copies that were not released return their
bytes. -/
def closeWindow (s : State) (w : Window) (quiet : Bool) : State :=
  let leaf := (strmCfg s s.tag (vsOut s w.vs)).node
  let freed := w.copies.filter (fun c => !decide (w.released = some c))
  let s := freed.foldl (fun s c => bufSub s leaf c.payload.length) s
  let s := { s with vot := { s.vot with
    windows := s.vot.windows.filter (fun v => !decide (v.vs = w.vs ∧ v.cycle = w.cycle ∧ v.index = w.index))
    closed := (w.vs, w.cycle, w.index) :: s.vot.closed } }
  if quiet then cnt s Reg.VOT_CNT_DRAIN
  else if vsMode s w.vs = 3 then s
  else match w.released with
    | some rel => [0, 1, 2].foldl (judgeLane w rel) s
    | none =>
      let vt := tget s.vot.streams w.vs
      let vs := tset s.vot.streams w.vs { vt with nomaj := satAdd 0xFFFFFFFF vt.nomaj 1 }
      let s := report (cnt { s with vot := { s.vot with streams := vs } } Reg.VOT_CNT_NO_MAJORITY) Ev.VOT_NO_MAJORITY noInst 0
      raiseAll (raiseAll s false 4) true 2

/-- Whether every lane that is IN, SUSPECT or RETURNING has a copy in a window. -/
def allIn (s : State) (w : Window) : Bool :=
  (votes s 0 || votes s 1 || votes s 2) &&
  [0, 1, 2].all (fun k => decide ((lane s k).vote = .out) || w.copies.any (fun c => decide (c.lane = k)))

/-- The open windows are judged again (R263, R269) until none can release or close; each round releases or closes one. -/
def voteLoop : Nat → State → State
  | 0, s => s
  | n + 1, s =>
    match s.vot.windows.find? (fun w => (releasable s w).isSome || allIn s w) with
    | none => s
    | some w =>
      match releasable s w with
      | some c =>
        let upd (v : Window) := if v = w then { v with released := some c } else v
        voteLoop n (releaseCopy { s with vot := { s.vot with windows := s.vot.windows.map upd } } w c)
      | none => voteLoop n (closeWindow s w false)

/-- The vote settles. -/
def settleVote (s : State) : State := voteLoop (2 * s.vot.windows.length + 1) s

/-- A gap episode begins for a lane (R254): its list is discarded, LNI_LANE_GAP is reported, the lane goes OUT. (DEDUCED: log 38) -/
def gapBegin (s : State) (k : Nat) : State :=
  let l := lane s k
  let g := l.list.foldl gapAdd (l.missed.getD (gapNone (now s)))
  let s := l.list.foldl (fun s it => laneLose s k true it) s
  let s := setLane s k { lane s k with list := [], wait := none, missed := none, gap := some g, fenceSinceGap := false }
  let s := report (cnt s (Reg.LNI_CNT_GAP k)) Ev.LNI_LANE_GAP k 0
  settleVote (setVote (raise s k false 2) k .out)

/-- A DATA copy is due to a lane; the caller has taken its buffer reference (R211, R248, R254). -/
def laneData (s : State) (k : Nat) (x : Sent) : State :=
  let l := lane s k
  if l.state = 1 ∧ l.gap = none then
    if l.list.length < 8192 then laneWait (setLane s k { l with list := l.list ++ [.data x] }) k
    else laneMiss (gapBegin s k) k (.data x)
  else laneMiss s k (.data x)

/-- A lane's cycle is judged (R269): clean where no window of it charged the lane. -/
def judgeCycle (cy : Nat) (s : State) (k : Nat) : State :=
  let l := lane s k
  let isClean := !l.charged.contains cy
  let l' := { l with charged := l.charged.filter (fun c => decide (c > cy)) }
  match l.vote with
  | .suspect =>
    let n := if isClean then l.clean + 1 else 0
    let s := setLane s k { l' with clean := n }
    if n ≥ max 1 (fld s Reg.VOT_CTRL 7 0) then setVote s k .member else s
  | .returning =>
    let counted : Bool := match l.cleanFrom with
      | some f => decide (f ≤ cy)
      | none => false
    let n := if counted then l.clean + 1 else 0
    let s := setLane s k { l' with clean := n }
    if n ≥ max 1 (fld s Reg.VOT_CTRL 23 16) then setVote s k .member else s
  | _ => setLane s k l'

/-- A FENCE is placed (R251, R263, R269): windows of cycles up to c − lag − 1 close, cycle c − lag − 1 is judged, and a
RETURNING lane starts to count. `stamp` is the boundary's. -/
def placeFence (s : State) (stamp n : Nat) (c : Int) : State :=
  let cy := twos 64 c
  let s := placeControl s (.fence stamp (lastIndexOr0 s) n cy)
  let s := { s with lni := { s.lni with lastCycle := c, lastN := n, fenced := true } }
  let lag := fld s Reg.VOT_CTRL 25 24
  let s := s.vot.windows.foldl (fun s w =>
    match s.vot.windows.find? (fun v => decide (v.vs = w.vs ∧ v.cycle = w.cycle ∧ v.index = w.index)) with
    | some v => if v.cycle + lag + 1 ≤ cy then closeWindow s v false else s
    | none => s) s
  let s := { s with vot := { s.vot with closed := s.vot.closed.filter (fun t => decide (t.2.1 + lag ≥ cy)) } }
  let s := if lag + 1 ≤ cy then [0, 1, 2].foldl (judgeCycle (cy - lag - 1)) s else s
  let start (s : State) (k : Nat) : State :=
    let l := lane s k
    if l.vote = .returning ∧ l.cleanFrom = none then setLane s k { l with cleanFrom := some cy } else s
  settleVote ([0, 1, 2].foldl start s)

end Sys2Proof.Machine
end

