-- ==== Sys2Proof/Machine/Lanes.lean ====
section
/-! DEFINITION. Lane delivery (chapter 8): rings, gaps, links, transmit rings. -/

namespace Sys2Proof.Machine

/-- A 64-bit address in a pair of registers. -/
def addr64 (s : State) (lo hi : Nat) : Nat := (rd s lo).toNat + (rd s hi).toNat * 2 ^ 32

/-- A delivery descriptor (R19). -/
def dataDesc (x : Sent) (addr : Nat) : Bytes :=
  toLE 8 x.stamp ++ toLE 8 x.index ++ toLE 2 x.stream ++
  toLE 1 (x.cls % 8 + 8 * b2n x.mapped + 16 * b2n x.sealOk + 32 * b2n x.stranger + 64 * b2n x.late + 128 * b2n x.both) ++
  toLE 1 (x.srcKind % 16 + 16 * (x.path % 4)) ++ toLE 2 (x.payload.length % 16384) ++ toLE 2 x.src ++ toLE 8 addr

/-- A FENCE descriptor (R250). -/
def fenceDesc (stamp index n cycle : Nat) : Bytes :=
  toLE 8 stamp ++ toLE 8 index ++ toLE 2 n ++ toLE 2 0 ++ toLE 2 0x4000 ++ toLE 2 0 ++ toLE 8 cycle

/-- A GAP descriptor (R250). -/
def gapDesc (g : Gap) : Bytes :=
  toLE 8 g.since ++ toLE 8 g.first ++ toLE 2 g.fences ++ toLE 2 0 ++ toLE 2 0x8000 ++ toLE 2 g.marks ++ toLE 8 g.last

/-- A MARK descriptor (R250, R253). -/
def markDesc (code stamp a b : Nat) : Bytes :=
  toLE 8 stamp ++ toLE 8 a ++ toLE 2 code ++ toLE 2 0 ++ toLE 2 0xC000 ++ toLE 2 0 ++ toLE 8 b

/-- The writeback block (R246). -/
def wbBlock (s : State) (k : Nat) : Bytes :=
  let l := lane s k
  toLE 4 l.head ++ toLE 4 l.tx0Head ++ toLE 4 l.tx1Head ++ toLE 4 0 ++ toLE 8 l.lastFence ++ toLE 8 (now s) ++
  List.replicate 32 0#8

/-- The writeback block is written. -/
def writeWb (s : State) (k : Nat) : State :=
  let s := setLane s k { lane s k with wbDue := false }
  emit s (.lane k (addr64 s (Reg.LNI_WB_LO k) (Reg.LNI_WB_HI k)) (wbBlock s k))

/-- The receive moderation interval of a lane in µs. -/
def rxMod (s : State) (k : Nat) : Nat := fld s (Reg.LNI_CTRL k) 15 8

/-- The transmit moderation interval of a lane in µs. -/
def txMod (s : State) (k : Nat) : Nat := fld s (Reg.LNI_CTRL k) 23 16

/-- A descriptor of 32 bytes is written to a lane's ring, and the head advances; `used` data-ring bytes belong to it. -/
def writeDesc (s : State) (k : Nat) (d : Bytes) (used : Nat) : State :=
  let l := lane s k
  let base := addr64 s (Reg.LNI_RX_RING_LO k) (Reg.LNI_RX_RING_HI k)
  let s := emit s (.lane k (base + 32 * (l.head % ringEntries s k)) d)
  setLane s k { l with head := (l.head + 1) % 2 ^ 32, used := l.used ++ [used] }

/-- After a batch of descriptors: the writeback block, at once where `force` or no interval runs, and the RX vector
(R246, R272). -/
def afterBatch (s : State) (k : Nat) (force : Bool) : State :=
  let running := (tget s.moder (vecKey k false 0)).running
  let s := if force ∨ rxMod s k = 0 ∨ running = false then writeWb s k else setLane s k { lane s k with wbDue := true }
  raiseMod s k false 0 (rxMod s k)

/-- The GAP is written and the episode ends (R247, R255). -/
def writeGap (s : State) (k : Nat) (g : Gap) : State :=
  let s := writeDesc s k (gapDesc g) 0
  let s := setLane s k { lane s k with gap := none, missed := none, fenceSinceGap := false }
  raise (afterBatch s k true) k false 2

/-- LANE_COPY_WRITE (R245, R246, R371): in an ACTIVE unit the head of a lane list is written where it has room; where it has none its wait begins. -/
def execLaneCopyWrite (k : Nat) (s : State) : Res :=
  .next (
    let l := lane s k
    match l.list with
    | [] => s
    | it :: rest =>
      if l.state = 0 ∨ l.link = false ∨ l.gap.isSome ∨ s.dev ≠ .active then s
      else if ¬ laneRoom s k it then laneWait s k
      else
        let s := setLane s k { l with list := rest, wait := none }
        let s := match it with
          | .data x =>
            let (off, used) := dataPlace s k x.payload.length
            let addr := addr64 s (Reg.LNI_RX_DATA_LO k) (Reg.LNI_RX_DATA_HI k) + off
            let s := emit s (.lane k addr x.payload)
            let s := setLane s k { lane s k with dataOff := (off + up64 x.payload.length) % dataBytes s k }
            let s := cnt (writeDesc s k (dataDesc x addr) used) (Reg.LNI_CNT_DELIVERED k)
            afterBatch (blkDrop s x.blk) k false
          | .fence stamp index n c =>
            let s := writeDesc s k (fenceDesc stamp index n c) 0
            let s := setLane s k { lane s k with lastFence := c, fenceSinceGap := true }
            raise (afterBatch s k true) k false 1
          | .mark code stamp a b => afterBatch (writeDesc s k (markDesc code stamp a b) 0) k false
        laneWait s k)

/-- LNI_HOLD.hold_us within its limits. -/
def holdUs (s : State) : Nat := clampN 50 10000 (fld s Reg.LNI_HOLD 15 0)

/-- LANE_HOLD_EXPIRY (R254, R255): the head has waited hold_us; where room has returned it is written instead. -/
def execLaneHoldExpiry (k : Nat) (s : State) : Res :=
  .next (
    let l := lane s k
    match l.list, l.wait with
    | it :: _, some t =>
      if l.state ≠ 1 ∨ laneRoom s k it = true ∨ since s t < holdUs s * usUnits then s else gapBegin s k
    | _, _ => s)

/-- Whether a quarter of a lane's ring and of its data ring is free (R255). -/
def quarterFree (s : State) (k : Nat) : Bool :=
  let l := lane s k
  decide (4 * (ringEntries s k - l.used.length) ≥ ringEntries s k ∧ ringEntries s k > 0) &&
  decide (4 * (dataBytes s k - l.used.sum) ≥ dataBytes s k)

/-- GAP_WRITE (R255). -/
def execGapWrite (k : Nat) (s : State) : Res :=
  .next (match (lane s k).gap with
    | some g => if s.dev = .active ∧ (lane s k).state ≠ 0 ∧ (lane s k).link = true ∧ quarterFree s k = true then writeGap s k g else s
    | none => s)

/-- RX_TAIL_WRITE (R244, R245): the tail moves forward up to the head; any other write is discarded and counted. -/
def execRxTailWrite (r : Req) (k : Nat) (value : Word) (s : State) : Res :=
  .next (gated s r (Reg.LNI_RX_TAIL k) (fun s =>
    let l := lane s k
    let moved := (value.toNat + 2 ^ 32 - l.tail) % 2 ^ 32
    if moved ≤ l.used.length then
      laneWait (setLane (wr s (Reg.LNI_RX_TAIL k) value) k { l with tail := value.toNat, used := l.used.drop moved }) k
    else cnt s (Reg.LNI_CNT_TAIL_BAD k)))

/-- LANE_DELIVERY_ENABLE (R247, R257): from DISABLED head and tail restart and the GAP of what was missed is written; from
DRAINING delivery goes on. An out-of-range size, or a link that is down, leaves it DISABLED. (DEDUCED: log 38) -/
def execLaneDeliveryEnable (r : Req) (k : Nat) (s : State) : Res :=
  .next (gatedBit s r (Reg.LNI_CTRL k) 0 (fun s =>
    let l := lane s k
    if l.link = false then s
    else if l.state = 2 then setLane (setFld s (Reg.LNI_CTRL k) 0 0 1) k { l with state := 1 }
    else if l.state = 1 then s
    else if ringEntries s k = 0 ∨ dataBytes s k = 0 then setFld s (Reg.LNI_CTRL k) 0 0 1
    else
      let s := wr (setFld s (Reg.LNI_CTRL k) 0 0 1) (Reg.LNI_RX_TAIL k) 0#32
      let g := match l.gap with
        | some g => some g
        | none => l.missed.bind (fun g => if g.copies = 0 then none else some g)
      let s := setLane s k { l with state := 1, head := 0, tail := 0, dataOff := 0, used := [], wait := none, gap := none, missed := none }
      match g with
      | some g => if s.dev = .active then writeGap s k g else setLane s k { lane s k with gap := some g }
      | none => s))

/-- Delivery to a lane leaves ENABLED: the lane goes OUT (R269). -/
def laneLeaves (s : State) (k : Nat) : State := settleVote (setVote s k .out)

/-- LANE_DELIVERY_DISABLE (R247). -/
def execLaneDeliveryDisable (r : Req) (k : Nat) (s : State) : Res :=
  .next (gatedBit s r (Reg.LNI_CTRL k) 0 (fun s =>
    let s := setFld s (Reg.LNI_CTRL k) 0 0 0
    if (lane s k).state ≠ 1 then s
    else laneLeaves (setLane s k { lane s k with state := 2, drainAt := drainEnd s }) k))

/-- LANE_DRAIN_COMPLETE (R247). -/
def execLaneDrainComplete (k : Nat) (s : State) : Res :=
  .next (let l := lane s k
    if l.state = 2 ∧ l.list = [] then setLane s k { l with state := 0, wait := none } else s)

/-- LANE_DRAIN_LIMIT (R27, R247): what is left is lost. -/
def execLaneDrainLimit (k : Nat) (s : State) : Res :=
  .next (
    let l := lane s k
    if l.state ≠ 2 ∨ s.tim.boundaries < l.drainAt then s
    else
      let m := l.list.foldl gapAdd (l.missed.getD (gapNone (now s)))
      let s := l.list.foldl (fun s it => laneLose s k true it) s
      setLane s k { lane s k with state := 0, list := [], wait := none, missed := some m })

/-- Start or stop fetching from TX0 (R258). -/
def execTx0EnableWrite (r : Req) (k : Nat) (on : Bool) (s : State) : Res :=
  .next (gatedBit s r (Reg.LNI_CTRL k) 1 (fun s =>
    if on ∧ (lane s k).link = false then s
    else setLane (setFld s (Reg.LNI_CTRL k) 1 1 (b2n on)) k { lane s k with tx0 := on }))

/-- Start or stop fetching from TX1 (R258). -/
def execTx1EnableWrite (r : Req) (k : Nat) (on : Bool) (s : State) : Res :=
  .next (gatedBit s r (Reg.LNI_CTRL k) 2 (fun s =>
    if on ∧ (lane s k).link = false then s
    else setLane (setFld s (Reg.LNI_CTRL k) 2 2 (b2n on)) k { lane s k with tx1 := on }))

/-- The tail register of a transmit ring. -/
def txTailReg (k : Nat) (ring1 : Bool) : Nat := if ring1 then Reg.LNI_TX1_TAIL k else Reg.LNI_TX0_TAIL k

/-- Entries of a transmit ring. -/
def txEntries (s : State) (k : Nat) (ring1 : Bool) : Nat :=
  2 ^ (if ring1 then fld s (Reg.LNI_TX1_SIZE k) 4 0 else fld s (Reg.LNI_TX0_SIZE k) 4 0)

/-- The head of a transmit ring. -/
def txHead (s : State) (k : Nat) (ring1 : Bool) : Nat := if ring1 then (lane s k).tx1Head else (lane s k).tx0Head

/-- TX_TAIL_WRITE (R258): a tail beyond head + entries is discarded and counted. -/
def execTxTailWrite (r : Req) (k : Nat) (ring1 : Bool) (value : Word) (s : State) : Res :=
  .next (gated s r (txTailReg k ring1) (fun s =>
    if (value.toNat + 2 ^ 32 - txHead s k ring1) % 2 ^ 32 > txEntries s k ring1 then cnt s (Reg.LNI_CNT_TAIL_BAD k)
    else wr s (txTailReg k ring1) value))

/-- LANE_LINK_DOWN (R254, R257, R269): a gap episode begins, delivery and the transmit rings read disabled. -/
def execLaneLinkDown (k : Nat) (s : State) : Res :=
  .next (
    let l := lane s k
    if l.link = false then s
    else
      let s := report (setLane s k { l with link := false, linkReported := true }) Ev.LNI_LINK_DOWN k 0
      let s := if l.state ≠ 0 ∧ l.gap = none then gapBegin s k else laneLeaves s k
      let s := setLane s k { lane s k with state := 0, tx0 := false, tx1 := false }
      setFld s (Reg.LNI_CTRL k) 2 0 0)

/-- LANE_LINK_UP (R257). -/
def execLaneLinkUp (k : Nat) (s : State) : Res :=
  .next (if k < 3 then setLane s k { lane s k with link := true, linkReported := false } else s)

/-- LNI_CNT_CLEAR (R273): bit k clears the counters of lane block k. -/
def execLniCntClear (r : Req) (value : Word) (s : State) : Res :=
  .next (gated s r Reg.LNI_CNT_CLEAR (fun s =>
    [0, 1, 2].foldl (fun s k => if bit value k then clearRegs s (Reg.LNI_CNT_DELIVERED k) (Reg.LNI_CNT_TAIL_BAD k) else s) s))

end Sys2Proof.Machine
end

