-- ==== Sys2Proof/Machine/Time.lean ====
section
/-! DEFINITION. The time unit (chapter 10): who steers device time, steps and slews, leap seconds, triggers' arming,
captures, the departure log, holdover, and the tick. -/

namespace Sys2Proof.Machine

/-- A register of world M acts only for the discipline master of R313; the other master's write is counted. -/
def masterGate (s : State) (r : Req) (off : Nat) (k : State → State) : State :=
  gated s r off (fun s =>
    if (fld s Reg.TIM_CTRL 0 0 = 1) ↔ (r = .steward) then k s else cnt s Reg.TIM_CNT_FOREIGN)

/-- INC_STAGE (R314): the fraction is held in staging. -/
def execIncStage (r : Req) (value : Word) (s : State) : Res :=
  .next (masterGate s r Reg.TIM_INC_LO (fun s => { s with tim := { s.tim with staged := value.toNat } }))

/-- inc_bound in ppm, within 1 to 1,000. -/
def incBound (s : State) : Nat := clampN 1 1000 (fld s Reg.TIM_CTRL 25 16)

/-- The increment 2.0 ns in 2^-32 ns. -/
def nominalInc : Nat := 2 ^ 33

/-- INC_COMMIT (R314, R315): integer and staged fraction are committed, clamped to the bound. -/
def execIncCommit (r : Req) (value : Word) (s : State) : Res :=
  .next (masterGate s r Reg.TIM_INC_HI (fun s =>
    let want := bits value 7 0 * 2 ^ 32 + s.tim.staged
    let dev := nominalInc * incBound s / 1000000
    let inc := clampN (nominalInc - dev) (nominalInc + dev) want
    let s := wr (wr s Reg.TIM_INC_HI (BitVec.ofNat 32 (inc / 2 ^ 32))) Reg.TIM_INC_LO (BitVec.ofNat 32 inc)
    if inc ≠ want then report (cnt s Reg.TIM_CNT_INC_LIMIT) Ev.TIM_INC_LIMIT noInst 0 else s))

/-- A mark enters the journal's queue (R234), where the journal of an ACTIVE unit records (R371). -/
def journalMark (s : State) (code a b : Nat) : State :=
  if s.jrn.state = 0 ∨ s.dev ≠ .active then s else { s with jrn := { s.jrn with queue := s.jrn.queue ++ [.mark code a b (now s)] } }

/-- A stamp moved by a step of device time. (DEDUCED: log 44) -/
def moveStamp (step : Int) (t : Nat) : Nat := (Int.ofNat t + step).toNat

/-- Device time takes a new value in one tick (R316, R317): reported, counted, marked for the lanes and the journal with
the step in 250 ps units; any slew is cancelled and time is valid. Cadence time runs on (R336), so the stamps of its cycle
start and of its listen timeout move with the step. (DEDUCED: log 44, 45) -/
def stepTime (s : State) (dt : Nat) (step : Int) : State :=
  let s := { s with tim := { s.tim with dt := dt, slew := 0, timeValid := true } }
  let s := { s with cdb := { s.cdb with start := moveStamp step s.cdb.start, listenFrom := moveStamp step s.cdb.listenFrom
                                        txFrom := moveStamp step s.cdb.txFrom } }
  let s := report (cnt s Reg.TIM_CNT_STEP) Ev.TIM_STEP noInst 0
  journalMark (placeMark s 3 0 (twos 64 step)) 3 0 (twos 64 step)

/-- The signed adjustment in TIM_ADJ. -/
def timAdj (s : State) : Int := sext 32 (rd s Reg.TIM_ADJ).toNat

/-- TIME_STEP (R316). -/
def execTimeStep (r : Req) (s : State) : Res :=
  .next (masterGate s r Reg.TIM_ADJ_CMD (fun s =>
    stepTime s (Int.ofNat s.tim.dt + timAdj s * 2 ^ 30).toNat (timAdj s)))

/-- TIME_SLEW (R316): the adjustment joins the remainder. -/
def execTimeSlew (r : Req) (s : State) : Res :=
  .next (masterGate s r Reg.TIM_ADJ_CMD (fun s =>
    { s with tim := { s.tim with slew := s.tim.slew + timAdj s * 2 ^ 30 } }))

/-- TIME_SET (R316): the stamp in TIM_SET with fraction 0. -/
def execTimeSet (r : Req) (s : State) : Res :=
  .next (masterGate s r Reg.TIM_ADJ_CMD (fun s =>
    let t := addr64 s Reg.TIM_SET_LO Reg.TIM_SET_HI
    stepTime s (t * 2 ^ 30) (Int.ofNat t - Int.ofNat (now s))))

/-- SLEW_COMPLETE (R316): what is left of the slew has been taken. -/
def execSlewComplete (s : State) : Res :=
  .next { s with tim := { s.tim with dt := (Int.ofNat s.tim.dt + s.tim.slew).toNat, slew := 0 } }

/-- The offset a leap of the given kind leads to. -/
def leapOffset (s : State) (kind : Nat) : Int := if kind = 1 then utcOffset s + 1 else utcOffset s - 1

/-- LEAP_ARM (R320). -/
def execLeapArm (r : Req) (value : Word) (s : State) : Res :=
  .next (gated s r Reg.TIM_LEAP_CTRL (fun s =>
    let kind := bits value 1 0
    let tl := (rd s Reg.TIM_LEAP_AT).toNat
    let ok := decide ((Int.ofNat tl - leapOffset s kind) % 86400 = 0 ∧ tl * secUnits ≥ now s + 2 * secUnits)
    if kind = 0 ∨ kind = 3 ∨ ok = true then setFld s Reg.TIM_LEAP_CTRL 1 0 kind else setFld s Reg.TIM_LEAP_CTRL 1 0 0))

/-- LEAP_APPLY (R319). -/
def execLeapApply (s : State) : Res :=
  .next (if leapKind s = 0 ∨ now s < (rd s Reg.TIM_LEAP_AT).toNat * secUnits then s
    else
      let o := leapOffset s (leapKind s)
      setFld (setFld s Reg.TIM_UTC_OFFSET 15 0 (twos 16 o)) Reg.TIM_LEAP_CTRL 1 0 0)

/-- A trigger. -/
def trig (s : State) (t : Nat) : Trig := tget s.tim.trig t

/-- Store a trigger. -/
def setTrig (s : State) (t : Nat) (x : Trig) : State := { s with tim := { s.tim with trig := tset s.tim.trig t x } }

/-- Firings of a trigger are missed (R325, R327). (DEDUCED: log 44) -/
def missTrig (s : State) (t n : Nat) : State :=
  if n = 0 then s else
    cntAdd (setTrig s t { trig s t with missed := satAdd 65535 (trig s t).missed n }) Reg.TIM_CNT_TRG_MISSED n

/-- A trigger's configuration word. -/
def trigCfg (s : State) (t : Nat) : Word := rd s (Reg.TIM_TRG_CFG t)

/-- Whether a trigger is in PERIOD mode. (DEDUCED: log 45) -/
def trigPeriod (s : State) (t : Nat) : Bool := bit (trigCfg s t) 0

/-- The step between firings in TIME mode, in stamp units. -/
def trigStep (s : State) (t : Nat) : Nat := 4 * (rd s (Reg.TIM_TRG_INTERVAL t)).toNat

/-- Whether a period number is one a PERIOD trigger fires in (R324). (DEDUCED: log 45) -/
def trigPhase (s : State) (t q : Nat) : Bool :=
  let every := upTo64 (bits (trigCfg s t) 21 16)
  decide (q % every = bits (trigCfg s t) 27 22)

/-- Whether a trigger starts a cyclic slot of class 0 (R45). -/
def firesClass0 (s : State) (t : Nat) : Bool :=
  (List.range 256).any (fun i =>
    let w := 591872 + 4 * i
    decide (cf s 4 w 21 16 = t) && decide (cf s 4 w 11 0 ≠ 0) && decide (ndClass s (cf s 4 (w + 1) 12 0) = 0))

/-- Arm a trigger at the present moment (R325). -/
def armTrig (s : State) (t : Nat) : State :=
  let first := now s + 800
  let x : Trig := { armed := true, armedAt := now s, due := none, pulseEnd := (trig s t).pulseEnd
                    missed := (trig s t).missed, fired := 0 }
  if trigPeriod s t then
    let at_ := s.tim.bound + 4 * (rd s (Reg.TIM_TRG_OFFSET t)).toNat
    if trigPhase s t s.tim.q = false ∨ at_ < now s then setTrig s t x
    else if at_ < first then missTrig (setTrig s t x) t 1 else setTrig s t { x with due := some at_ }
  else
    let start := addr64 s (Reg.TIM_TRG_START_LO t) (Reg.TIM_TRG_START_HI t)
    let d := trigStep s t
    if start ≥ first then setTrig s t { x with due := some start }
    else if d = 0 then missTrig (setTrig s t { x with armed := false }) t 1
    else
      let n := (first - start + d - 1) / d
      missTrig (setTrig s t { x with due := some (start + n * d) }) t n

/-- TRIGGER_ARM (R325). -/
def execTriggerArm (r : Req) (t : Nat) (s : State) : Res :=
  .next (gated s r Reg.TIM_TRG_CMD (fun s =>
    if t > 63 then s
    else if r = .steward ∧ firesClass0 s t = true then report s Ev.CFG_SWAP_REJECT noInst 0 else armTrig s t))

/-- TRIGGER_DISARM (R325). -/
def execTriggerDisarm (r : Req) (t : Nat) (s : State) : Res :=
  .next (gated s r Reg.TIM_TRG_CMD (fun s =>
    if t > 63 then s
    else if r = .steward ∧ firesClass0 s t = true then report s Ev.CFG_SWAP_REJECT noInst 0
    else setTrig s t { trig s t with armed := false, due := none }))

/-- TRIGGER_PULSE_END (R326): the pin returns to its inactive level. -/
def execTriggerPulseEnd (t : Nat) (s : State) : Res :=
  .next (match (trig s t).pulseEnd with
    | none => s
    | some e =>
      if now s < e then s
      else emit (setTrig s t { trig s t with pulseEnd := none }) (.pin 0 (bits (trigCfg s t) 4 2) (bit (trigCfg s t) 5)))

/-- An edge is lost (R328, R329). -/
def loseEdge (s : State) (c : Nat) : State :=
  let x := tget s.tim.capt c
  cnt { s with tim := { s.tim with capt := tset s.tim.capt c { x with lost := satAdd 65535 x.lost 1 } } } Reg.TIM_CNT_CAP_LOST

/-- CAPTURE_EDGE (R328 to R330): the edge of input `c` reached the ball at stamp `t` and its new level held for the filter time. -/
def execCaptureEdge (c : Nat) (level : Bool) (t : Nat) (s : State) : Res :=
  .next (if c > 7 then s else
    let w := rd s (Reg.TIM_CAP_CFG c)
    let x0 := tget s.tim.capt c
    let x := { x0 with level := level }
    let s := { s with tim := { s.tim with capt := tset s.tim.capt c x } }
    let e := bits w 1 0
    let wanted := if level then e = 1 ∨ e = 3 else e = 2 ∨ e = 3
    let stamp := (Int.ofNat t - 14 - sext 16 (bits w 31 16)).toNat
    let close : Bool := match x.last with
      | some p => decide (t < p + 64)
      | none => false
    if ¬ wanted then s
    else if close then loseEdge s c
    else
      let pps := fld s Reg.TIM_CTRL 2 2 = 1 ∧ fld s Reg.TIM_CTRL 0 0 = 1 ∧ fld s Reg.TIM_CTRL 5 3 = c
      if pps then
        { s with tim := { s.tim with capt := tset s.tim.capt c { x with last := some t }, servoCaps := s.tim.servoCaps ++ [stamp] } }
      else if x.queue.length ≥ 16 then loseEdge s c
      else
        let s := { s with tim := { s.tim with capt := tset s.tim.capt c { x with last := some t, queue := x.queue ++ [stamp] } } }
        if bit w 2 then raiseAll s false 12 else s)

/-- Latch a half for a requester (R10, R546). -/
def latchHalf (s : State) (r : Req) (off v : Nat) : State :=
  { s with latch := tset s.latch (reqKey r * 2 ^ 24 + off) (BitVec.ofNat 32 v) }

/-- CAPTURE_READ (R329). -/
def execCaptureRead (r : Req) (c : Nat) (s : State) : Res :=
  .next (
    let off := Reg.TIM_CAP_LO c
    if c > 7 ∨ domainOn s 3 = false then emit s (.readData r off 0#32)
    else
      let x := tget s.tim.capt c
      let v := x.queue.headD 0
      let s := { s with tim := { s.tim with capt := tset s.tim.capt c { x with queue := x.queue.tail } } }
      emit (latchHalf s r (Reg.TIM_CAP_HI c) (v / 2 ^ 32)) (.readData r off (BitVec.ofNat 32 v)))

/-- DEPARTURE_LOG_READ (R331). -/
def execDepartureLogRead (r : Req) (s : State) : Res :=
  .next (
    if domainOn s 3 = false then emit s (.readData r Reg.TIM_DEP_INFO 0#32)
    else match s.tim.depLog with
      | [] => emit (latchHalf (latchHalf s r Reg.TIM_DEP_LO 0) r Reg.TIM_DEP_HI 0) (.readData r Reg.TIM_DEP_INFO 0#32)
      | e :: rest =>
        let s := { s with tim := { s.tim with depLog := rest } }
        let s := latchHalf (latchHalf s r Reg.TIM_DEP_LO e.stamp) r Reg.TIM_DEP_HI (e.stamp / 2 ^ 32)
        emit s (.readData r Reg.TIM_DEP_INFO (BitVec.ofNat 32 (e.sel % 4 + e.port * 4 + e.tag * 2 ^ 16))))

/-- REFCLK_RETURNED (R333): valid edges for 10 ms; holdover lasts until lock. -/
def execRefclkReturned (s : State) : Res := .next { s with tim := { s.tim with refLost := false } }

/-- HOLDOVER_END (R333): lock is reached while the reference is present. -/
def execHoldoverEnd (s : State) : Res :=
  .next (if s.tim.refLost then s else { s with tim := { s.tim with holdover := false, holdoverLong := false } })

/-- HOLDOVER_LONG (R334): after holdover_s seconds of one episode; the steward's reaction follows its region. -/
def execHoldoverLong (s : State) : Res :=
  .next (if s.tim.holdover = false ∨ s.tim.holdoverLong = true ∨
      since s s.tim.holdSince < max 1 (fld s Reg.TIM_CTRL 31 26) * secUnits then s
    else
      let s := { s with tim := { s.tim with holdoverLong := true } }
      let running := decide (s.stw.state = 1 ∨ s.stw.state = 2)
      if running ∧ cf s 15 6 7 0 = 1 ∧ s.dev = .active then relinquish s false else s)

/-- TIM_CNT_CLEAR bit 0 (R335). -/
def execTimCntClearGlobal (r : Req) (s : State) : Res :=
  .next (gated s r Reg.TIM_CNT_CLEAR (fun s =>
    clearRegs (clearRegs s Reg.TIM_CNT_FOREIGN Reg.TIM_CNT_FOREIGN) Reg.TIM_CNT_STEP Reg.TIM_CNT_DEP_LOST))

/-- TIM_CNT_CLEAR bit 1 (R327). -/
def execTimCntClearTriggers (r : Req) (s : State) : Res :=
  .next (gated s r Reg.TIM_CNT_CLEAR (fun s =>
    { s with tim := { s.tim with trig := tmap (fun _ x => { x with missed := 0, fired := 0 }) s.tim.trig } }))

/-- TIM_CNT_CLEAR bit 2 (R329). -/
def execTimCntClearCaptures (r : Req) (s : State) : Res :=
  .next (gated s r Reg.TIM_CNT_CLEAR (fun s =>
    { s with tim := { s.tim with capt := tmap (fun _ x => { x with lost := 0 }) s.tim.capt } }))

/-- The committed increment in 2^-32 ns. (DESIGN CHOICE: log 2) -/
def increment (s : State) : Nat := fld s Reg.TIM_INC_HI 7 0 * 2 ^ 32 + (rd s Reg.TIM_INC_LO).toNat

/-- What one tick takes of the slew (R316). (DESIGN CHOICE: log 2) -/
def slewPart (s : State) : Int :=
  let p := Int.ofNat (increment s * max 1 (fld s Reg.TIM_CTRL 15 8) / 1000000)
  if s.tim.slew ≥ 0 then min p s.tim.slew else max (-p) s.tim.slew

/-- One tick of 2 ns (R310, R316, R374): device time, the lease timer, and the 32.768 kHz count of the real-time clock. (DESIGN CHOICE: log 2; DEDUCED: log 46) -/
def tick (s : State) : State :=
  let l := s.red.leaseTimer
  let s := { s with red := { s.red with leaseTimer := l + 1 } }
  let s := if (l + 1) * 32768 / 500000000 = l * 32768 / 500000000 then s
    else { s with tim := { s.tim with rtc := s.tim.rtc + 1 } }
  if s.tim.running then
    let p := slewPart s
    { s with tim := { s.tim with dt := (Int.ofNat (s.tim.dt + increment s) + p).toNat, slew := s.tim.slew - p } }
  else s

end Sys2Proof.Machine
end

