-- ==== Sys2Proof/Machine/Ingress.lean ====
section
/-! DEFINITION. Ingress ports other than Ethernet (chapter 2): stamps, reception buffers, port staging, sentence ports,
CAN FD, MVB, enabling and draining. -/

namespace Sys2Proof.Machine

/-- A port's runtime state. -/
def port (s : State) (n : Nat) : Port := tget s.prt.ports n

/-- Store a port's runtime state. -/
def setPort (s : State) (n : Nat) (p : Port) : State := { s with prt := { s.prt with ports := tset s.prt.ports n p } }

/-- The kinds of port by global index. -/
inductive PKind where
  | sp | cf | mv | e | x | cb | lane | iu | jn | st | bg | none
deriving DecidableEq, Repr

/-- The kind of a global index (R6). -/
def pkind (n : Nat) : PKind :=
  if n < 64 then .sp else if n < 80 then .cf else if n < 84 then .mv else if n < 100 then .e else if n < 104 then .x
  else if n = 104 then .cb else if n < 108 then .lane else if n = 108 then .iu else if n = 109 then .jn
  else if n = 110 then .st else if n = 111 then .bg else .none

/-- The source port kind code of a global index (R68). -/
def srcKindOf (n : Nat) : Nat :=
  match pkind n with
  | .sp => 0 | .cf => 1 | .mv => 2 | .e => 3 | .x => 4 | .cb => 5 | .lane => 6 | .iu => 7 | .st => 8 | .bg => 9
  | _ => 0

/-- Port staging credits of a port and how many of them are oasis credits (Path queues and credits). -/
def stagingDepth (n : Nat) : Nat × Nat :=
  match pkind n with
  | .sp | .cf | .mv => (16, 4)
  | .e => (64, 8)
  | .x => (256, 32)
  | .cb => (64, 16)
  | _ => (32, 4)

/-- The compensation before the writes that fell after `t`. -/
def compBefore (t : Nat) : Nat → List (Nat × Nat) → Nat
  | v, [] => v
  | v, (w, old) :: rest => if t < w then compBefore t old rest else v

/-- The compensation of a port in force at a start event at `t`, signed 250 ps units (R50, R52). -/
def stampComp (s : State) (n t : Nat) : Int :=
  sext 16 (compBefore t (fld s (Reg.PRT_STAMP_COMP n) 15 0) (port s n).compPast)

/-- The fixed receive latency in hundredths of a stamp unit (R50): pin-to-stamp, and on E and X the interface's. -/
def rxLatency (s : State) (n : Nat) : Nat :=
  let m := rd s (Reg.PRT_MODE n)
  let eth := match bits m 9 8, bits m 11 10 with
    | 0, 2 => 17920 | 0, 1 => 49920 | 0, _ => 369920
    | 1, 2 => 20480 | 1, 1 => 52480 | 1, _ => 372480
    | 2, _ => 26880
    | _, 3 => 28800 | _, 2 => 41600 | _, 1 => 156800 | _, _ => 1308800
  match pkind n with
  | .e | .x => 1400 + eth
  | _ => 1400

/-- A raw capture corrected by the fixed latency and a compensation (R50, R52). (DEDUCED: log 20) -/
def stampAt (s : State) (n : Nat) (raw : Nat) (comp : Int) : Nat :=
  (Int.fdiv (Int.ofNat raw * 100 - Int.ofNat (rxLatency s n) - comp * 100) 100).toNat

/-- The end-of-sentence time (R51): as a stamp, resolved to 2 ns. -/
def endAt (s : State) (n : Nat) (raw : Nat) (comp : Int) : Nat := stampAt s n raw comp / 8 * 8

/-- A framing error (R54): reported and counted. -/
def framing (s : State) (n : Nat) : State := report (cnt s (Reg.PRT_CNT_FRAMING n)) Ev.PRT_FRAMING n 0

/-- A checksum error (R57). -/
def checksum (s : State) (n : Nat) : State := report (cnt s (Reg.PRT_CNT_CHECKSUM n)) Ev.PRT_CHECKSUM n 0

/-- What a reception buffer holds: bytes, or frames on a CAN port (R77). -/
def bufUse (n : Nat) (q : List Sent) : Nat :=
  match pkind n with
  | .cf => q.length
  | .mv => 0
  | _ => (q.map (fun x => x.payload.length)).sum

/-- The size of a reception buffer (Reception buffers). -/
def bufSize (n : Nat) : Nat :=
  match pkind n with
  | .sp => 1024
  | .cf => 32
  | .e => 32768
  | .x => 131072
  | _ => 65536

/-- Whether another sentence fits a reception buffer. -/
def bufFits (n : Nat) (q : List Sent) (x : Sent) : Bool := decide (bufUse n (q ++ [x]) ≤ bufSize n)

/-- Sentences are lost to an overrun (R77): each is counted, PRT_OVERRUN is reported once per episode. -/
def overrun (s : State) (n lost : Nat) : State :=
  let s := cntAdd s (Reg.PRT_CNT_OVERRUN n) lost
  if (port s n).overrun then s
  else report (setPort s n { port s n with overrun := true }) Ev.PRT_OVERRUN n 0

/-- Discard unhinted sentences, oldest first, until one more fits. -/
def evict (n : Nat) (x : Sent) : Nat → List Sent → List Sent × Nat
  | 0, q => (q, 0)
  | f + 1, q =>
    if bufFits n q x then (q, 0)
    else match takeFirst (fun y => !y.hint) q with
      | some (_, r) => let e := evict n x f r
                       (e.1, e.2 + 1)
      | none => (q, 0)

/-- A pause frame where the buffer crosses 75 % or 50 % (R79). -/
def pauseGen (s : State) (n : Nat) : State :=
  let p := port s n
  let isEth := decide (pkind n = .e ∨ pkind n = .x)
  let u := bufUse n p.buf
  if isEth = false ∨ bit (rd s (Reg.PRT_MODE n)) 5 = false then s
  else if p.pauseSent = false ∧ 4 * u ≥ 3 * bufSize n then
    emit (setPort s n { p with pauseSent := true }) (.pause n 0xFFFF)
  else if p.pauseSent = true ∧ 2 * u ≤ bufSize n then emit (setPort s n { p with pauseSent := false }) (.pause n 0)
  else s

/-- A checked sentence enters the reception buffer, or is an overrun (R77). -/
def bufferIn (s : State) (n : Nat) (x : Sent) : State :=
  let p := port s n
  let s :=
    if pkind n = .mv then
      if p.buf.any (fun y => decide (y.key = x.key)) then
        let s := setPort s n { p with buf := p.buf.map (fun y => if y.key = x.key then x else y) }
        overrun s n 1
      else setPort s n { p with buf := p.buf ++ [x] }
    else if bufFits n p.buf x then setPort s n { p with buf := p.buf ++ [x] }
    else if x.hint ∧ bufFits n (p.buf.filter (·.hint)) x = true then
      let (q, k) := evict n x p.buf.length p.buf
      overrun (setPort s n { p with buf := q ++ [x] }) n k
    else overrun s n 1
  pauseGen s n

/-- A port has received a checked sentence. A shadow takes the records the active mirrors and not its own (R380, R381). -/
def receive (s : State) (n : Nat) (x : Sent) : State := if isStandby s then s else bufferIn s n x

/-- The record of a sentence that enters port staging (R381). -/
def ingressRec (n : Nat) (x : Sent) : MirrorRec :=
  .ingress { port := n, src := x.src, stamp := x.stamp, endT := x.endT, path := x.path, both := x.both, hint := x.hint
             key := x.key, count := x.seq, payload := x.payload }

/-- PORT_STAGING_ENTRY (R28, R77 to R79): the next sentence of the buffer takes a credit. Hinted ones go first and may use oasis
credits. -/
def execPortStagingEntry (n : Nat) (s : State) : Res :=
  .next (
    let p := port s n
    let (total, oasis) := stagingDepth n
    let try_ (hinted : Bool) : Option State :=
      match takeFirst (fun y => decide (y.hint = hinted)) p.buf with
      | some (x, rest) =>
        (credit p.staging total oasis hinted).map (fun o =>
          let (m, s) := mirrorRec s (ingressRec n x)
          let x := { x with oasis := o, mirror := if shadowing s then x.mirror else m }
          cnt (setPort s n { p with buf := rest, staging := p.staging ++ [x] }) (Reg.PRT_CNT_GOOD n))
      | none => none
    match (try_ true).orElse (fun _ => try_ false) with
    | none => s
    | some s =>
      let p := port s n
      let s := if p.overrun = true ∧ 2 * bufUse n p.buf < bufSize n then setPort s n { p with overrun := false } else s
      pauseGen s n)

/-- A new sentence of a port with its stamps, key and hint. -/
def newSent (n stamp endT : Nat) (key payload : Bytes) : Sent :=
  { (default : Sent) with payload := payload, stamp := stamp, endT := endT, src := n, srcKind := srcKindOf n, key := key }

/-- A match key of 24 bytes: kind, port, and what follows (R86). -/
def mkKey (kind n : Nat) (rest : Bytes) : Bytes := padTo 24 0#8 ((toLE 1 kind ++ toLE 1 n ++ rest).take 24)

/-- Whether a port takes a sentence whose start event lay at `t` (R80). -/
def admits (s : State) (n t : Nat) : Bool :=
  let p := port s n
  decide (p.state = 1) || (decide (p.state = 2) && (match p.stopAt with
    | some u => decide (t ≤ u)
    | none => false))

/-- The framing mode of a sentence port. -/
def spMode (s : State) (n : Nat) : Nat := fld s (Reg.PRT_MODE n) 2 0

/-- The check setting of a sentence port. -/
def spCheck (s : State) (n : Nat) : Nat := fld s (Reg.PRT_MODE n) 10 8

/-- Bit times of a character: start, data, parity, and one or two stop bits. (DEDUCED: log 20) -/
def charBits (s : State) (n : Nat) : Nat :=
  let m := rd s (Reg.PRT_MODE n)
  1 + (if bit m 3 then 7 else 8) + (if bits m 5 4 = 0 then 0 else 1) + (if bit m 6 then 2 else 1)

/-- `k` half bit times of a sentence port in stamp units: D is 16.8 fixed point, a bit lasts 16 D ticks of 5 ns. (DEDUCED: log 20) -/
def halfBits (s : State) (n k : Nat) : Nat := fld s (Reg.PRT_TIMING n) 23 0 * 5 * k / 8

/-- The end of the first stop bit of a character that began at `t`. (DEDUCED: log 20) -/
def charEnd (s : State) (n t : Nat) : Nat :=
  let extra := if bit (rd s (Reg.PRT_MODE n)) 6 then 1 else 0
  t + halfBits s n (2 * (charBits s n - extra))

/-- The largest sentence of a sentence port (R55): the mode's limit and PRT_LIMITS. -/
def spMax (s : State) (n : Nat) : Nat := min (if spMode s n = 0 then 82 else 256) (fld s (Reg.PRT_LIMITS n) 15 0)

/-- The smallest sentence of a sentence port. -/
def spMin (s : State) (n : Nat) : Nat := max 8 (fld s (Reg.PRT_LIMITS n) 31 16)

/-- A sentence port forgets the partial sentence; the time of the last character stays for the gap. -/
def rxClear (s : State) (n : Nat) : State :=
  let p := port s n
  setPort s n { p with rx := { (default : Rx) with lastEnd := p.rx.lastEnd } }

/-- The partial sentence is a framing error (R54). -/
def rxFail (s : State) (n : Nat) : State :=
  let bad := (port s n).rx.taking
  let s := rxClear s n
  if bad then framing s n else s

/-- Whether two characters are a hexadecimal pair; `upper` accepts uppercase only. -/
def hexPair (upper : Bool) (h : Bytes) : Option Nat :=
  let d (b : Byte) : Option Nat :=
    let v := b.toNat
    if 0x30 ≤ v ∧ v ≤ 0x39 then some (v - 0x30)
    else if 0x41 ≤ v ∧ v ≤ 0x46 then some (v - 0x37)
    else if 0x61 ≤ v ∧ v ≤ 0x66 ∧ upper = false then some (v - 0x57) else none
  match h with
  | [a, b] => match d a, d b with
    | some x, some y => some (16 * x + y)
    | _, _ => none
  | _ => none

/-- The judgement of a star check (R56): framing error none; otherwise whether the check holds under the check setting. -/
def starCheck (upper : Bool) (ck : Nat) (text : Bytes) : Option Bool :=
  let i := scanFrom (fun b => decide (b = 0x2A#8)) text 0
  if i ≥ text.length then some (!decide (ck = 1))
  else match hexPair upper (text.drop (i + 1)) with
    | none => none
    | some v => some (decide (ck = 0) || decide (v = xorBytes (text.take i)))

/-- The address field of an IEC sentence body (after the start character) (R56). -/
def iecAddress (body : Bytes) : Bytes := body.take (scanFrom (fun b => decide (b = 0x2C#8 ∨ b = 0x2A#8)) body 0)

/-- What follows the first comma, up to the next comma or *. (DEDUCED: log 19) -/
def iecField1 (body : Bytes) : Bytes :=
  let i := scanFrom (fun b => decide (b = 0x2C#8)) body 0
  let t := body.drop (i + 1)
  t.take (scanFrom (fun b => decide (b = 0x2C#8 ∨ b = 0x2A#8)) t 0)

/-- An IEC sentence judged whole (R55, R56): none for a framing error, some false for a checksum error. -/
def judgeIec (strict upper : Bool) (ck minLen maxLen : Nat) (chars : Bytes) : Option Bool :=
  let i := iecStart chars 0
  let sent := chars.drop i
  let tag := chars.take i
  let body := (sent.drop 1).filter (fun b => !decide (b = 0x0D#8 ∨ b = 0x0A#8))
  let a := iecAddress body
  let okAddr := if strict then (if byteAt a 0 = 0x50 then decide (4 ≤ a.length ∧ a.length ≤ 8) else decide (a.length = 5))
    else decide (1 ≤ a.length ∧ a.length ≤ 8)
  let tagText := (tag.drop 1).take (tag.length - 2)
  let okTag : Option Bool := if tag = [] then some true else starCheck upper ck tagText
  if sent.length < minLen ∨ sent.length > maxLen ∨ tag.length > 80 ∨ okAddr = false then none
  else match okTag, starCheck upper ck body with
    | some x, some y => some (x && y)
    | _, _ => none

/-- The 16-bit frame check of HDLC (CRC-16/X.25). -/
def fcs16 (bs : Bytes) : Nat := (crcR 0x8408 0xFFFF bs) ^^^ 0xFFFF

/-- CRC16 of R57: polynomial 0x8005 reflected, initial value 0xFFFF. -/
def crc16 (bs : Bytes) : Nat := crcR 0xA001 0xFFFF bs

/-- Whether the check code of a binary sentence holds (R57). -/
def binCheck (ck : Nat) (body : Bytes) (n : Nat) : Bool :=
  let cov := body.take (body.length - n)
  let code := leAt body (body.length - n) n
  match ck with
  | 3 => decide (code = sumBytes 8 cov)
  | 4 => decide (code = xorBytes cov)
  | 5 => decide (code = crc16 cov)
  | 6 => decide (code = fcs16 cov)
  | 7 => decide (code = crc32 cov)
  | _ => true

/-- Bytes of the check code of a setting. -/
def checkLen (ck : Nat) : Nat := if ck = 3 ∨ ck = 4 then 1 else if ck = 5 ∨ ck = 6 then 2 else if ck = 7 then 4 else 0

/-- The hint rule of a port (R78): `v` is the value its mode compares, none where the sentence has none. -/
def hinted (s : State) (n : Nat) (pcp canId mvAddr : Option Nat) : Bool :=
  let w := rd s (Reg.PRT_HINT n)
  match bits w 18 16 with
  | 1 => true
  | 2 => match pcp with
    | some v => decide (v ≥ bits w 2 0)
    | none => false
  | 3 => match canId with
    | some v => decide (v ≤ bits w 10 0)
    | none => false
  | 4 => match mvAddr with
    | some v => decide (v ≤ bits w 11 0)
    | none => false
  | _ => false

/-- A sentence port completes the sentence in reception at end event `e` (R55 to R57, R86). (DEDUCED: log 19) -/
def spFinish (s : State) (n e : Nat) : State :=
  let rx := (port s n).rx
  let s := rxClear s n
  if ¬ rx.taking then s
  else
    let mode := spMode s n
    let ck := spCheck s n
    let cs := rx.chars
    let stamp := stampAt s n rx.start rx.comp
    let done (key : Bytes) : State :=
      receive s n { newSent n stamp (endAt s n e rx.comp) key cs with hint := hinted s n none none none }
    if mode ≤ 1 then
      match judgeIec (decide (mode = 0)) (bit (rd s (Reg.PRT_MODE n)) 7) ck (spMin s n) (spMax s n) cs with
      | none => framing s n
      | some false => checksum s n
      | some true =>
        let body := (cs.drop (iecStart cs 0 + 1)).filter (fun b => !decide (b = 0x0D#8 ∨ b = 0x0A#8))
        let f1 := if bit (rd s (Reg.STB_KEYOPT n)) 0 then (iecField1 body).take 8 else []
        done (mkKey 1 n (padTo 8 0#8 (iecAddress body) ++ f1))
    else
      let sync := rd s (Reg.PRT_SYNC n)
      let lead := if mode = 2 then 1 else if mode = 3 then bits sync 17 16 else 0
      let body := if mode = 2 then (cs.drop 1).take (cs.length - 2) else cs.drop lead
      if cs.length < spMin s n ∨ cs.length > spMax s n then framing s n
      else if ¬ binCheck ck body (checkLen ck) then checksum s n
      else done (mkKey 2 n (slice body (bits sync 23 18) (bits sync 27 24)))

/-- A character opens a sentence. -/
def rxStart (s : State) (n : Nat) (first : Bytes) (t e : Nat) : State :=
  let p := port s n
  setPort s n { p with rx := { (default : Rx) with active := true, chars := first, start := t, comp := stampComp s n t
                                                   lastEnd := some e, taking := admits s n t } }

/-- Outside a sentence, a character is judged as a possible start (R54, R55). -/
def rxIdle (s : State) (n : Nat) (ch : Byte) (t e : Nat) : State :=
  let p := port s n
  let sync := rd s (Reg.PRT_SYNC n)
  let s0 := BitVec.ofNat 8 (bits sync 7 0)
  let s1 := BitVec.ofNat 8 (bits sync 15 8)
  let note (s : State) : State := setPort s n { port s n with rx := { (port s n).rx with lastEnd := some e } }
  match spMode s n with
  | 0 | 1 => if ch = 0x24#8 ∨ ch = 0x21#8 ∨ ch = 0x5C#8 then rxStart s n [ch] t e else note s
  | 2 => if ch = 0x7E#8 then rxStart s n [ch] t e else note s
  | 3 =>
    match bits sync 17 16 with
    | 0 => rxStart s n [ch] t e
    | 1 => if ch = s0 then rxStart s n [ch] t e else note s
    | _ =>
      if p.rx.sync = [s0] ∧ ch = s1 then rxStart s n [s0, s1] p.rx.syncStart e
      else if ch = s0 then
        note (setPort s n { p with rx := { p.rx with sync := [s0], syncStart := t } })
      else note (setPort s n { p with rx := { p.rx with sync := [] } })
  | _ =>
    let gapUnits := fld s (Reg.PRT_TIMING2 n) 23 16 * halfBits s n (charBits s n)
    match p.rx.lastEnd with
    | none => rxStart s n [ch] t e
    | some l => if t ≥ l + gapUnits then rxStart s n [ch] t e else note s

/-- Inside a sentence, a good character (R55, R56). -/
def rxMore (s : State) (n : Nat) (ch : Byte) (t e : Nat) : State :=
  let p := port s n
  let rx := p.rx
  let put (c : Byte) : State := setPort s n { p with rx := { rx with chars := rx.chars ++ [c], lastEnd := some e } }
  let tooLong (c : Byte) (lim from_ : Nat) : Bool := decide ((rx.chars ++ [c]).length - from_ > lim)
  match spMode s n with
  | 0 | 1 =>
    let strict := decide (spMode s n = 0)
    let cs := rx.chars
    let tagLen := if byteAt cs 0 = 0x5C then scanFrom (fun b => decide (b = 0x5C#8)) cs 1 + 1 else 0
    let inTag := decide (byteAt cs 0 = 0x5C ∧ tagLen > cs.length)
    let printable := decide (0x20 ≤ ch.toNat ∧ ch.toNat ≤ 0x7E)
    if inTag then
      if printable = false ∨ cs.length + 1 > 80 then rxFail s n else put ch
    else if cs.length = tagLen ∧ tagLen > 0 then
      if ch = 0x24#8 ∨ ch = 0x21#8 then put ch
      else rxIdle (rxFail s n) n ch t e
    else if ch = 0x24#8 ∨ ch = 0x21#8 then rxStart (rxFail s n) n [ch] t e
    else if tooLong ch (spMax s n) tagLen then rxFail s n
    else if cs.getLast? = some 0x0D#8 then
      (if ch = 0x0A#8 then
        let p' := put ch
        setPort p' n { port p' n with rx := { (port p' n).rx with ended := some e } }
      else rxIdle (rxFail s n) n ch t e)
    else if ch = 0x0D#8 then
      let s := put ch
      if strict then s else setPort s n { port s n with rx := { (port s n).rx with crEnd := some e } }
    else if ch = 0x0A#8 then
      if strict then rxFail s n
      else
        let s := put ch
        setPort s n { port s n with rx := { (port s n).rx with ended := some e } }
    else if printable = false then rxFail s n else put ch
  | 2 =>
    if ch = 0x7E#8 then
      if rx.escaped then rxFail s n
      else
        let s := put ch
        setPort s n { port s n with rx := { (port s n).rx with ended := some e } }
    else if ch = 0x7D#8 ∧ rx.escaped = false then setPort s n { p with rx := { rx with escaped := true, lastEnd := some e } }
    else
      let c := if rx.escaped then ch ^^^ 0x20#8 else ch
      if tooLong c (spMax s n) 0 then rxFail s n
      else
        let s := put c
        setPort s n { port s n with rx := { (port s n).rx with escaped := false } }
  | 3 =>
    let s := put ch
    if (port s n).rx.chars.length ≥ fld s (Reg.PRT_LIMITS n) 15 0 then
      setPort s n { port s n with rx := { (port s n).rx with ended := some e } }
    else s
  | _ => if tooLong ch (spMax s n) 0 then rxFail s n else put ch

/-- What is due before a character that begins at `t` is judged: a sentence that has ended, or in tolerant mode a CR whose wait
the character does not continue (R55). -/
def rxSettle (s : State) (n : Nat) (ch : Byte) (t : Nat) : State :=
  let rx := (port s n).rx
  match rx.ended, rx.crEnd with
  | some e, _ => spFinish s n e
  | none, some e =>
    if ch = 0x0A#8 ∧ t ≤ e + halfBits s n (2 * charBits s n) then s else spFinish s n e
  | none, none => s

/-- SENTENCE_PORT_CHARACTER (R54 to R56): a character whose start bit fell at raw stamp `t`; `good` says that parity and stop bit
are right. -/
def execSentencePortCharacter (n : Nat) (ch : Byte) (t : Nat) (good : Bool) (s : State) : Res :=
  .next (if pkind n ≠ .sp ∨ ((port s n).state ≠ 1 ∧ (port s n).state ≠ 2) then s
    else
      let s := rxSettle s n ch t
      let e := charEnd s n t
      if (port s n).rx.active then (if good then rxMore s n ch t e else rxFail s n)
      else if good then rxIdle s n ch t e else s)

/-- SP_SENTENCE_END (R55): the end event of a sentence. -/
def execSpSentenceEnd (n : Nat) (s : State) : Res :=
  .next (match (port s n).rx.ended with
    | some e => spFinish s n e
    | none => s)

/-- SP_GAP_END (R55): the idle line has reached the gap. -/
def execSpGapEnd (n : Nat) (s : State) : Res :=
  .next (let rx := (port s n).rx
    match rx.lastEnd with
    | some e => if spMode s n = 4 ∧ rx.active = true then spFinish s n e else s
    | none => s)

/-- CHAR_TIMEOUT (R54): the inter-character timeout expires inside a sentence. -/
def execCharTimeout (n : Nat) (s : State) : Res :=
  .next (let rx := (port s n).rx
    if rx.active ∧ rx.ended.isNone ∧ rx.crEnd.isNone ∧ fld s (Reg.PRT_TIMING2 n) 15 0 ≠ 0 then rxFail s n else s)

/-- CR_WAIT_EXPIRY (R55): the sentence ends at the CR. -/
def execCrWaitExpiry (n : Nat) (s : State) : Res :=
  .next (match (port s n).rx.crEnd, (port s n).rx.ended with
    | some e, none => spFinish s n e
    | _, _ => s)

/-- BREAK_OUTSIDE_SENTENCE (R54): counted and nothing else. -/
def execBreakOutsideSentence (n : Nat) (s : State) : Res :=
  .next (if (port s n).rx.active then s else cnt s (Reg.PRT_CNT_FRAMING n))

/-- CAN_FRAME_END (R59): `err` is 0 for a correct frame, 1 for a CRC error, 2 for any other error; `t` and `e` are the raw stamps of
start and end. (PRESUMED: log 16) -/
def execCanFrameEnd (n id : Nat) (ide rtr fd : Bool) (data : Bytes) (err t e : Nat) (s : State) : Res :=
  .next (
    let p := port s n
    if pkind n ≠ .cf ∨ p.busOff = true ∨ admits s n t = false then s
    else
      let m := rd s (Reg.PRT_MODE n)
      let bad := setPort s n { p with rxErr := satAdd 255 p.rxErr 1 }
      if err = 1 then checksum bad n
      else if err ≠ 0 ∨ (fd = true ∧ bit m 0 = false) then framing bad n
      else
        let s := setPort s n { p with rxErr := if p.rxErr > 127 then 127 else p.rxErr - 1 }
        if rtr = true ∧ bit m 1 = false then s
        else
          let comp := stampComp s n t
          let base := if ide then id / 2 ^ 18 else id
          let key := mkKey 3 n (toBE 4 id ++ toLE 1 (b2n ide + 2 * b2n rtr))
          receive s n { newSent n (stampAt s n t comp) (endAt s n e comp) key data with
            hint := hinted s n none (some (base % 2048)) none })

/-- CAN_BUS_OFF (R60): `inFrame` says that a frame was being received. (PRESUMED: log 16) -/
def execCanBusOff (n : Nat) (inFrame : Bool) (s : State) : Res :=
  .next (if pkind n ≠ .cf ∨ (port s n).busOff = true then s
    else
      let s := if inFrame then framing s n else s
      let p := port s n
      let st := if bit (rd s (Reg.PRT_MODE n)) 2 then p.state else 3
      report (setPort s n { p with busOff := true, state := st, txErr := 255 }) Ev.PRT_LINK_DOWN n 0)

/-- CAN_BUS_OFF_RECOVERY (R60). (PRESUMED: log 16) -/
def execCanBusOffRecovery (n : Nat) (s : State) : Res :=
  .next (let p := port s n
    if p.busOff = true ∧ bit (rd s (Reg.PRT_MODE n)) 2 = true then
      setPort s n { p with busOff := false, txErr := 0, rxErr := 0 }
    else s)

/-- A word of an MVB port table of the ports region: use and F-code of a port address (R61, R473). -/
def mvSink (s : State) (n addr : Nat) : Nat := cw s 0 ((n - 80) * 4096 + addr)

/-- Bytes of an MVB frame of an F-code (IEC 61375-3-1). (PRESUMED: log 17) -/
def fcodeSize (f : Nat) : Option Nat := if f ≤ 4 then some (2 * 2 ^ f) else none

/-- What one MVB line carried: 0 nothing, 1 a valid frame, 2 a coding failure or a late reply, 3 a wrong check sequence. (PRESUMED: log 17) -/
def mvJudge (lines a b : Nat) : Nat × Nat :=
  let pick (v path : Nat) : Nat × Nat := (v, path)
  if lines = 0 then pick a 1 else if lines = 1 then pick b 2
  else if a = 1 then pick 1 1 else if b = 1 then pick 1 2
  else if a = 3 ∨ b = 3 then pick 3 0 else if a = 2 ∨ b = 2 then pick 2 0 else pick 0 0

/-- MVB_SLAVE_FRAME_END (R61, R62): `a` and `b` say what each line carried. The reply to a device-status frame answers the bridge
(R277). -/
def execMvbSlaveFrameEnd (n a b : Nat) (data : Bytes) (t e : Nat) (s : State) : Res :=
  .next (
    let p := port s n
    match p.mvMaster with
    | none => s
    | some (addr, code) =>
      let w := mvSink s n addr
      let s := setPort s n { p with mvMaster := none }
      let (v, path) := mvJudge (fld s (Reg.PRT_MODE n) 5 4) a b
      if code = 15 then (if v = 1 ∧ data.length = 2 then mvStatus s n addr data else s)
      else if pkind n ≠ .mv ∨ admits s n t = false ∨ nbits w 1 0 ≠ 1 then s
      else
        if v = 0 then s
        else if v = 3 then checksum s n
        else if v = 2 ∨ fcodeSize code ≠ some data.length ∨ nbits w 5 2 ≠ code then framing s n
        else
          let comp := stampComp s n t
          let s := setPort s n { port s n with mvSeen := s.tim.boundaries + 1 }
          let s := { s with prt := { s.prt with mvSink := tset s.prt.mvSink (n * 4096 + addr) (some data) } }
          receive s n { newSent n (stampAt s n t comp) (endAt s n e comp) (mkKey 4 n (toBE 2 addr ++ toLE 1 code)) data with
            path := path, hint := hinted s n none none (some addr) })

/-- A source port answers a master frame with its buffer (R61, R370); a buffer no copy has filled holds a free value. (PRESUMED: log 17) -/
def mvAnswer (s : State) (n addr code : Nat) : State :=
  let w := mvSink s n addr
  if nbits w 1 0 ≠ 2 ∨ gateOpen s = false then s
  else match tget s.prt.mvSource (n * 4096 + addr) with
    | some b => mvSent (emit s (.mvb n code addr b)) n addr
    | none =>
      let (v, s) := freeVal s
      mvSent (emit s (.mvb n code addr (toLE ((fcodeSize code).getD 2) v))) n addr

/-- MVB_MASTER_FRAME (R61). -/
def execMvbMasterFrame (n addr code : Nat) (s : State) : Res :=
  .next (if pkind n ≠ .mv then s
    else mvAnswer (setPort s n { port s n with mvMaster := some (addr, code) }) n addr code)

/-- MVB_POLL (R61): the administrator sends the next master frame of its list; a word of 0 ends the list. -/
def execMvbPoll (n : Nat) (s : State) : Res :=
  .next (if pkind n ≠ .mv ∨ bit (rd s (Reg.PRT_MODE n)) 6 = false ∨ gateOpen s = false then s
    else
      let p := port s n
      let at_ (i : Nat) := cw s 0 (16384 + (n - 80) * 1024 + i)
      let i := if p.pollAt ≥ 1024 ∨ at_ p.pollAt = 0 then 0 else p.pollAt
      let w := at_ i
      if w = 0 then s
      else
        let addr := nbits w 11 0
        let code := nbits w 15 12
        let s := setPort s n { p with mvMaster := some (addr, code), pollAt := i + 1 }
        mvAnswer (emit s (.mvb n (16 + code) addr [])) n addr code)

/-- Whether a port is unconfigured (R554). -/
def unconfigured (s : State) (n : Nat) : Bool :=
  decide (n ≠ 104) &&
  [Reg.PRT_MODE n, Reg.PRT_TIMING n, Reg.PRT_TIMING2 n, Reg.PRT_LIMITS n, Reg.PRT_SYNC n, Reg.PRT_HINT n].all
    (fun o => decide (rd s o = 0#32))

/-- PRT_CTRL.enable of a port is 1 from now on (R80, R554): a port that is neither FAULTED nor unconfigured is ENABLED. -/
def portOn (s : State) (n : Nat) : State :=
  let s := setFld s (Reg.PRT_CTRL n) 0 0 1
  let p := port s n
  if unconfigured s n = true ∨ p.state = 3 ∨ p.state = 1 then s else setPort s n { p with state := 1, stopAt := none }

/-- PRT_CTRL.enable of a port is 0 from now on (R60, R80): it drains; a port FAULTED by bus-off is DISABLED. -/
def portOff (s : State) (n : Nat) : State :=
  let s := setFld s (Reg.PRT_CTRL n) 0 0 0
  let p := port s n
  if p.state = 3 ∧ ¬ s.cfgs.portsOut.contains n then setPort s n { p with state := 0, busOff := false }
  else if p.state = 1 then setPort s n { p with state := 2, stopAt := some (now s), drainAt := drainEnd s }
  else s

/-- PORT_ENABLE (R80, R554). -/
def execPortEnable (r : Req) (n : Nat) (s : State) : Res := .next (gated s r (Reg.PRT_CTRL n) (fun s => portOn s n))

/-- PORT_DISABLE (R60, R80). -/
def execPortDisable (r : Req) (n : Nat) (s : State) : Res := .next (gated s r (Reg.PRT_CTRL n) (fun s => portOff s n))

/-- PORT_DRAIN_COMPLETE (R80). -/
def execPortDrainComplete (n : Nat) (s : State) : Res :=
  .next (let p := port s n
    if p.state = 2 ∧ p.buf = [] ∧ p.staging = [] ∧ p.rx.active = false then setPort s n { p with state := 0 } else s)

/-- PORT_DRAIN_LIMIT (R27, R80): leftovers are discarded into PRT_CNT_DRAIN. (DEDUCED: log 21) -/
def execPortDrainLimit (n : Nat) (s : State) : Res :=
  .next (let p := port s n
    if p.state ≠ 2 ∨ s.tim.boundaries < p.drainAt then s
    else
      let k := p.buf.length + p.staging.length + b2n p.rx.active
      let s := cntAdd s (Reg.PRT_CNT_DRAIN n) k
      setPort s n { p with state := 0, buf := [], staging := [], rx := default, overrun := false })

/-- PRT_CNT_CLEAR with all = 0 (R83). -/
def execPrtCntClearPort (r : Req) (n : Nat) (s : State) : Res :=
  .next (gated s r Reg.PRT_CNT_CLEAR (fun s =>
    if n < 105 then clearRegs s (Reg.PRT_CNT_GOOD n) (Reg.PRT_CNT_HINT n) else s))

/-- PRT_CNT_CLEAR with all = 1 (R83). -/
def execPrtCntClearAll (r : Req) (s : State) : Res :=
  .next (gated s r Reg.PRT_CNT_CLEAR (fun s =>
    (List.range 105).foldl (fun s n => clearRegs s (Reg.PRT_CNT_GOOD n) (Reg.PRT_CNT_HINT n)) s))

/-- STEWARD_SENTENCE (R12, R86): the steward hands over a sentence with a talker tag while ST's staging has a credit. (DEDUCED: log 67) -/
def execStewardSentence (tag : Nat) (payload : Bytes) (s : State) : Res :=
  .next (if ¬ (s.stw.state = 1 ∨ s.stw.state = 2) ∨ isStandby s = true then s
    else
      let p := port s 110
      match credit p.staging 32 4 false with
      | none => s
      | some o =>
        let x := { newSent 110 (now s) (now s / 8 * 8) (mkKey 0x0B 110 (toBE 4 tag)) payload with oasis := o }
        let (m, s) := mirrorRec s (ingressRec 110 x)
        setPort s 110 { p with staging := p.staging ++ [{ x with mirror := m }] })

end Sys2Proof.Machine
end

