-- ==== Sys2Proof/Machine/Ethernet.lean ====
section
/-! DEFINITION. Ethernet and 10G ingress (chapter 2): frame checks, the PRP node table, upper-layer recognition. -/

namespace Sys2Proof.Machine

/-- Whether a port is an Ethernet or 10G port. -/
def isEth (n : Nat) : Bool := decide (84 ≤ n ∧ n < 104)

/-- The PRP pair of an Ethernet port, and the index of the pair's A port. -/
def pairOf (n : Nat) : Nat := (n - 84) / 2

/-- The A port of a pair. -/
def pairA (k : Nat) : Nat := 84 + 2 * k

/-- The path a port is: 1 A, 2 B. -/
def pathOf (n : Nat) : Nat := 1 + n % 2

/-- The key of a node entry (R71): pair and source MAC address. -/
def nodeKey (pair mac : Nat) : Nat := pair * 2 ^ 48 + mac

/-- Window forget time. -/
def entryForget (s : State) : Nat := fld s Reg.PRT_PRP_CTRL 9 0 * msUnits

/-- A window that holds one number (R72). -/
def startWindow (e : PrpNode) (seq : Nat) : PrpNode := { e with used := true, top := seq, window := 1 }

/-- When a node was last heard on either path. -/
def heardAt (e : PrpNode) : Nat := max (e.seenA.getD 0) (e.seenB.getD 0)

/-- The entry that has been silent longest. -/
def longestSilent : Tab PrpNode → Option (Nat × PrpNode)
  | [] => none
  | (k, e) :: t => match longestSilent t with
    | none => some (k, e)
    | some (k', e') => if heardAt e' < heardAt e then some (k', e') else some (k, e)

/-- The judgement of R72 on an entry: whether the frame is accepted, whether it counts as out of window, the entry. (DEDUCED: log 15) -/
def prpJudge (s : State) (e : PrpNode) (seq : Nat) : Bool × Bool × PrpNode :=
  if since s e.lastAccept ≥ entryForget s then (true, false, startWindow e seq)
  else
    let d := (seq + 65536 - e.top) % 65536
    if 1 ≤ d ∧ d ≤ 32767 then
      (true, false, { e with top := seq, window := (e.window <<< d ||| 1) % 2 ^ 128 })
    else if d = 0 ∨ d ≥ 65409 then
      let i := if d = 0 then 0 else 65536 - d
      if e.window.testBit i then (false, false, e) else (true, false, { e with window := e.window ||| 1 <<< i })
    else (true, true, startWindow e seq)

/-- A frame on a path is heard: the episode of a lost path ends (R75). -/
def heard (s : State) (path : Nat) (e : PrpNode) : PrpNode :=
  if path = 1 then { e with seenA := some (now s), lostA := false } else { e with seenB := some (now s), lostB := false }

/-- PRP_DUPLICATE_DISCARD (R72, R73): whether the frame is accepted. -/
def prpDiscard (s : State) (n mac seq : Nat) : Bool × State :=
  let key := nodeKey (pairOf n) mac
  let e := tget s.prt.prp key
  let put (s : State) (e : PrpNode) : State := { s with prt := { s.prt with prp := tset s.prt.prp key e } }
  let accepted (e : PrpNode) : PrpNode := heard s (pathOf n) { e with lastAccept := now s }
  if e.used then
    let (ok, far, e') := prpJudge s e seq
    let s := if far then { s with prt := { s.prt with prpOutOfWindow := s.prt.prpOutOfWindow + 1 } } else s
    (ok, put s (if ok then accepted e' else heard s (pathOf n) e'))
  else
    let fresh := accepted (startWindow default seq)
    if s.prt.prp.length < 4096 then (true, put s fresh)
    else match longestSilent s.prt.prp with
      | some (k, o) =>
        if since s (heardAt o) ≥ entryForget s then
          (true, put { s with prt := { s.prt with prp := tset s.prt.prp k default } } fresh)
        else (true, { s with prt := { s.prt with prpFull := satAdd 0x7FFFF s.prt.prpFull 1 } })
      | none => (true, s)

/-- Whether a frame body (FCS removed) on a PRP pair ends in a valid trailer (R69). (DEDUCED: log 15) -/
def prpTrailer (body : Bytes) : Bool :=
  let l := body.length
  decide (beAt body (l - 2) 2 = 0x88FB ∧ beAt body (l - 4) 2 % 4096 = l - (etOff body + 2) ∧ l ≥ etOff body + 8)

/-- What recognition finds (R64 to R66): an error, or a match key with a sequence counter. -/
inductive Recog where
  | framing | checksum
  | key (k : Bytes) (seq : Option Nat)
deriving DecidableEq, Repr

/-- The key of a raw frame (R86). -/
def rawKey (s : State) (src : Nat) (f : Bytes) : Bytes :=
  let tagged := decide (beAt f 12 2 = 0x8100)
  let vid := if tagged then beAt f 14 2 % 4096 else 0xFFFF
  let pcp := if tagged ∧ bit (rd s (Reg.STB_KEYOPT src)) 1 = true then beAt f 14 2 / 8192 else 0
  mkKey 5 src (toBE 2 (etherType f) ++ f.take 12 ++ toBE 2 vid ++ toLE 1 pcp)

/-- A PTP message of 34 bytes or more, versionPTP 2, a defined messageType (R65). (DEDUCED: log 15) -/
def ptpRecog (src : Nat) (m : Bytes) (udp : Bool) : Recog :=
  let mt := byteAt m 0 % 16
  if m.length < 34 ∨ byteAt m 1 % 16 ≠ 2 ∨ (4 ≤ mt ∧ mt ≤ 7) ∨ mt ≥ 14 then .framing
  else .key (mkKey 6 src (toLE 1 mt ++ slice m 4 1 ++ slice m 20 10 ++ toLE 1 (b2n udp))) none

/-- A topology counter a telegram carries differs from the one in force (R66). -/
def topoDiffers (s : State) (m : Bytes) : Bool :=
  let etb := beAt m 12 4
  let op := beAt m 16 4
  bit (rd s Reg.PRT_TOPO_CTRL) 0 &&
  (decide (etb ≠ 0 ∧ etb ≠ (rd s Reg.PRT_TOPO_ETB).toNat) || decide (op ≠ 0 ∧ op ≠ (rd s Reg.PRT_TOPO_OPTRN).toNat))

/-- A TRDP telegram (R66): `md` for message data; `ips` are the source and destination addresses. (DEDUCED: log 15; PRESUMED: log 18) -/
def trdpRecog (s : State) (src : Nat) (m ips : Bytes) (md : Bool) : Recog :=
  let h := if md then 116 else 40
  let mt := beAt m 6 2
  let ds := beAt m 20 4
  let types := if md then [0x4D6E, 0x4D72, 0x4D70, 0x4D71, 0x4D63, 0x4D65] else [0x5064, 0x5070, 0x5072, 0x5065]
  if m.length < h then .framing
  else if leAt m (h - 4) 4 ≠ crc32 (m.take (h - 4)) then .checksum
  else if byteAt m 4 ≠ 1 ∨ ¬ types.contains mt ∨ ds > m.length - h ∨ (md = false ∧ ds > 1432) ∨ topoDiffers s m = true then
    .framing
  else .key (mkKey (if md then 8 else 7) src (slice m 8 4 ++ ips ++ (if md then slice m 6 2 else []))) (some (beAt m 0 4))

/-- An IEC 61162-450 datagram (R65): the header `UdPbC` and 0, then a sentence by the rules of R56 in tolerant mode. (DEDUCED: log 19) -/
def iec450Recog (src : Nat) (m ips : Bytes) : Recog :=
  let p := m.drop 6
  let i := iecStart p 0
  let isEnd (b : Byte) : Bool := decide (b = 0x0D#8 ∨ b = 0x0A#8)
  let j := scanFrom isEnd p i
  let text := p.take j
  let endLen := if byteAt p j = 0x0D ∧ byteAt p (j + 1) = 0x0A then 2 else 1
  let clean := text.all (fun b => decide (0x20 ≤ b.toNat ∧ b.toNat ≤ 0x7E)) &&
    (text.drop (i + 1)).all (fun b => !decide (b = 0x24#8 ∨ b = 0x21#8))
  if m.take 6 ≠ ascii "UdPbC" ++ [0#8] ∨ j ≥ p.length ∨ clean = false ∨ (i ≠ 0 ∧ byteAt p 0 ≠ 0x5C) then .framing
  else match judgeIec false false 2 8 256 (p.take (j + endLen)) with
    | none => .framing
    | some false => .checksum
    | some true => .key (mkKey 9 src (padTo 8 0#8 (iecAddress (text.drop (i + 1))) ++ ips)) none

/-- UPPER_LAYER_RECOGNITION (R64, R65) of a frame without FCS and trailer, on port `n` under source index `src`. -/
def recognise (s : State) (n src : Nat) (f : Bytes) : Recog :=
  let m := rd s (Reg.PRT_MODE n)
  let raw : Recog := .key (rawKey s src f) none
  let ip := etOff f + 2
  let ihl := byteAt f ip % 16
  let u := udpOff f
  if bit m 3 = true ∧ etherType f = 0x88F7 then ptpRecog src (f.drop ip) false
  else if etherType f ≠ 0x0800 ∨ ihl < 5 ∨ ip + 4 * ihl > f.length ∨ beAt f (ip + 6) 2 % 0x4000 ≠ 0 then raw
  else if byteAt f (ip + 9) ≠ 17 ∨ u + 8 > f.length then raw
  else
    let dst := beAt f (u + 2) 2
    let ptp := bit m 3 && decide (dst = 319 ∨ dst = 320)
    let pd := bit m 1 && decide (dst = fld s Reg.PRT_UDP_TRDP 15 0)
    let md := bit m 1 && decide (dst = fld s Reg.PRT_UDP_TRDP 31 16)
    let base := fld s Reg.PRT_UDP_450 15 0
    let i450 := bit m 2 && decide (base ≤ dst ∧ dst < base + fld s Reg.PRT_UDP_450 23 16)
    let total := beAt f (ip + 2) 2
    let ulen := beAt f (u + 4) 2
    let ips := slice f (ip + 12) 8
    if (ptp || pd || md || i450) = false then raw
    else if fold16 (sum16 (slice f ip (4 * ihl))) ≠ 0xFFFF then .checksum
    else if total < 4 * ihl + 8 ∨ total > f.length - ip then .framing
    else if ulen < 8 ∨ ulen ≠ total - 4 * ihl then .framing
    else if beAt f (u + 6) 2 ≠ 0 ∧
        fold16 (sum16 (ips ++ [0#8, 17#8] ++ toBE 2 ulen ++ slice f u ulen)) ≠ 0xFFFF then .checksum
    else
      let d := slice f (u + 8) (ulen - 8)
      if ptp then ptpRecog src d true
      else if pd then trdpRecog s src d ips false
      else if md then trdpRecog s src d ips true
      else iec450Recog src d ips

/-- A frame body that has passed the frame checks and the duplicate discard becomes a sentence (R68, R70, R76, R555). -/
def ethSentence (s : State) (n : Nat) (body : Bytes) (t e : Nat) : State :=
  let prp := bit (rd s (Reg.PRT_MODE n)) 0
  let src := if prp then pairA (pairOf n) else n
  match recognise s n src body with
  | .framing => framing s n
  | .checksum => checksum s n
  | .key k seq =>
    let nd := tget s.prt.prp (nodeKey (pairOf n) (beAt body 6 6))
    let comp := stampComp s n t
    let pcp := if beAt body 12 2 = 0x8100 then some (beAt body 14 2 / 8192) else none
    receive s n { newSent n (stampAt s n t comp) (endAt s n e comp) k body with
      src := src, path := if prp then pathOf n else 0, seq := seq, hint := hinted s n pcp none none
      both := prp && nd.used && nd.seenA.isSome && nd.seenB.isSome && !nd.lostA && !nd.lostB }

/-- Whether a frame on a port of a pair passes the frame checks before the duplicate discard (R63, R64, R69): its source address and its
sequence number. (DEDUCED: log 14) -/
def prpCopy (s : State) (n : Nat) (frame : Bytes) (t : Nat) : Option (Nat × Nat) :=
  let body := frame.take (frame.length - 4)
  let m := rd s (Reg.PRT_MODE n)
  if isEth n = true ∧ admits s n t = true ∧ 64 ≤ frame.length ∧ frame.length ≤ fld s (Reg.PRT_LIMITS n) 15 0 ∧
      leAt frame (frame.length - 4) 4 = crc32 body ∧ ¬ (beAt body 12 2 = 0x8808 ∧ beAt body 14 2 = 1) ∧
      ¬ (beAt body 12 2 = 0x8100 ∧ beAt body 16 2 = 0x8100) ∧ (beAt body 12 2 = 0x8100 ∨ bit m 4 = false) ∧
      bit m 0 = true ∧ prpTrailer body = true then
    some (beAt body 6 6, beAt body (body.length - 6) 2)
  else none

/-- Whether the path-A copy of a frame that ends on port `n` of path B at the stamp `e` waits in the queue with the same end (R74). (DEDUCED: log 14) -/
def twinWaits (s : State) (n mac seq e : Nat) : Bool :=
  decide (pathOf n = 2) && s.pending.any (fun c => match c with
    | .ethFrameEnd n' f t' e' => decide (n' + 1 = n ∧ e' = e) && decide (prpCopy s n' f t' = some (mac, seq))
    | _ => false)

/-- The path-B copy gives way to the path-A copy of the same moment (R74): the node is heard on path B, its window is as it was. (DEDUCED: log 14) -/
def prpYield (s : State) (n mac seq : Nat) : State :=
  let key := nodeKey (pairOf n) mac
  let o := tget s.prt.prp key
  let e : PrpNode := if o.used then o else { (startWindow default seq) with window := 0, lastAccept := now s }
  if o.used = true ∨ s.prt.prp.length < 4096 then
    { s with prt := { s.prt with prp := tset s.prt.prp key (heard s 2 e) } }
  else s

/-- ETH_FRAME_END (R63 to R76): a frame with its FCS; `t` and `e` are the raw stamps of start and end. (DEDUCED: log 15) -/
def execEthFrameEnd (n : Nat) (frame : Bytes) (t e : Nat) (s : State) : Res :=
  .next (
    let body := frame.take (frame.length - 4)
    let m := rd s (Reg.PRT_MODE n)
    let tagged := decide (beAt body 12 2 = 0x8100)
    if isEth n = false ∨ admits s n t = false then s
    else if frame.length < 64 ∨ frame.length > fld s (Reg.PRT_LIMITS n) 15 0 then framing s n
    else if leAt frame (frame.length - 4) 4 ≠ crc32 body then checksum s n
    else if beAt body 12 2 = 0x8808 ∧ beAt body 14 2 = 1 then s
    else if tagged = true ∧ beAt body 16 2 = 0x8100 then framing s n
    else if tagged = false ∧ bit m 4 = true then framing s n
    else if bit m 0 = true ∧ prpTrailer body = true then
      let l := body.length
      let lan := byteAt body (l - 4) / 16
      let s := if lan = (if pathOf n = 1 then 0xB else 0xA) then
          { s with prt := { s.prt with prpWrongLan := tmod s.prt.prpWrongLan (pairOf n) (· + 1) } } else s
      let mac := beAt body 6 6
      let seq := beAt body (l - 6) 2
      let (ok, s) := if twinWaits s n mac seq e then (false, prpYield s n mac seq) else prpDiscard s n mac seq
      if ok then ethSentence s n (body.take (l - 6)) t e
      else report (cnt s (Reg.PRT_CNT_MIRAGE n)) Ev.PRT_MIRAGE n 0
    else ethSentence s n body t e)

/-- PRP_NODE_FORGET (R73): an entry silent on both paths for node_forget is removed. -/
def execPrpNodeForget (pair mac : Nat) (s : State) : Res :=
  .next (
    let e := tget s.prt.prp (nodeKey pair mac)
    if e.used = true ∧ since s (heardAt e) ≥ fld s Reg.PRT_PRP_CTRL 19 10 * secUnits then
      { s with prt := { s.prt with prp := tset s.prt.prp (nodeKey pair mac) default } }
    else s)

/-- PRP_PATH_LOST (R75): `path` is 1 for A and 2 for B. -/
def execPrpPathLost (pair mac path : Nat) (s : State) : Res :=
  .next (
    let e := tget s.prt.prp (nodeKey pair mac)
    let limit := fld s Reg.PRT_PRP_CTRL 31 20 * msUnits
    let put (e : PrpNode) : State := { s with prt := { s.prt with prp := tset s.prt.prp (nodeKey pair mac) e } }
    match e.seenA, e.seenB with
    | some a, some b =>
      if path = 1 ∧ e.lostA = false ∧ since s a ≥ limit ∧ since s b < limit then
        report (put { e with lostA := true }) Ev.PRT_PATH_LOST (pairA pair) 0
      else if path = 2 ∧ e.lostB = false ∧ since s b ≥ limit ∧ since s a < limit then
        report (put { e with lostB := true }) Ev.PRT_PATH_LOST (pairA pair + 1) 0
      else s
    | _, _ => s)

end Sys2Proof.Machine
end

