-- ==== Sys2Proof/Machine/Streams.lean ====
section
/-! DEFINITION. The stream table (chapter 3): digest and bucket index, classification, admission, the wildcard search, strangers,
streams, the last-value cache. -/

namespace Sys2Proof.Machine

/-- The digest of a key under a seed (R87). -/
def digestOf (seed : Nat) (key : Bytes) : Nat := crcL 64 0x42F0E1EBA9EA3693 seed key

/-- The seed in force. -/
def hashSeed (s : State) : Nat := (rd s Reg.STB_HASH_SEED_HI).toNat * 2 ^ 32 + (rd s Reg.STB_HASH_SEED_LO).toNat

/-- First bucket of a digest (R89). -/
def bucket1 (d : Nat) : Nat := d % 32768

/-- Second bucket of a digest. -/
def bucket2 (d : Nat) : Nat := if nbits d 29 15 = bucket1 d then bucket1 d ^^^ 1 else nbits d 29 15

/-- Tag of a digest. -/
def digestTag (d : Nat) : Nat := nbits d 44 30

/-- A slot: valid bit, tag, stream id. -/
def slotWord (d id : Nat) : Word := BitVec.ofNat 32 (2 ^ 31 + digestTag d * 65536 + id)

/-- The bucket index: its slots and its stash of digests and ids. -/
abbrev BIndex := Tab Word × List (Nat × Nat)

/-- The ids a lookup examines, in the order of R90. -/
def candidates (ix : BIndex) (d : Nat) : List Nat :=
  let way (b : Nat) : List Nat := (List.range 4).filterMap (fun w =>
    let v := tget ix.1 (4 * b + w)
    if bit v 31 ∧ bits v 30 16 = digestTag d then some (bits v 15 0) else none)
  way (bucket1 d) ++ way (bucket2 d) ++ (ix.2.filter (fun e => decide (e.1 = d))).map (·.2)

/-- The key of an entry in use. -/
def entryKey (s : State) (id : Nat) : Option Bytes :=
  let k := (strmCfg s s.tag id).key
  if byteAt k 0 = 0 then none else some k

/-- The bucket index in force. -/
def bIndex (s : State) : BIndex := (s.stb.slots, s.stb.stash)

/-- The exact lookup (R90). -/
def findStream (s : State) (key : Bytes) : Option Nat :=
  (candidates (bIndex s) (digestOf (hashSeed s) key)).find? (fun id => decide (entryKey s id = some key))

/-- A free way of a bucket. -/
def freeWay (t : Tab Word) (b : Nat) : Option Nat := (List.range 4).find? (fun w => !bit (tget t (4 * b + w)) 31)

/-- The moves of R91: the key in hand takes way `w` of bucket `b`, and the occupant goes to its other bucket; none where all
found room, else the key left without a slot. `kd` gives the digest of an id. (DEDUCED: log 23) -/
def cuckoo (kd : Nat → Nat) : Nat → Tab Word → Nat → Nat → Nat × Nat → Tab Word × Option (Nat × Nat)
  | 0, t, _, _, c => (t, some c)
  | f + 1, t, b, w, c =>
    let oid := bits (tget t (4 * b + w)) 15 0
    let od := kd oid
    let t := tset t (4 * b + w) (slotWord c.1 c.2)
    let b' := if bucket1 od = b then bucket2 od else bucket1 od
    match freeWay t b' with
    | some v => (tset t (4 * b' + v) (slotWord od oid), none)
    | none => cuckoo kd f t b' ((w + 1) % 4) (od, oid)

/-- An insertion (R91); none where neither the buckets nor the stash take the key, and then nothing has changed. (DEDUCED: log 23) -/
def insertKey (kd : Nat → Nat) (ix : BIndex) (d id : Nat) : Option BIndex :=
  match freeWay ix.1 (bucket1 d), freeWay ix.1 (bucket2 d) with
  | some w, _ => some (tset ix.1 (4 * bucket1 d + w) (slotWord d id), ix.2)
  | none, some w => some (tset ix.1 (4 * bucket2 d + w) (slotWord d id), ix.2)
  | none, none => match cuckoo kd 32 ix.1 (bucket1 d) (nbits d 47 46) (d, id) with
    | (t, none) => some (t, ix.2)
    | (t, some c) => if ix.2.length < 32 then some (t, ix.2 ++ [c]) else none

/-- Insertions in the order given; none where one fails (R95). -/
def insertAll (kd : Nat → Nat) : List Nat → BIndex → Option BIndex
  | [], ix => some ix
  | id :: t, ix => (insertKey kd ix (kd id) id).bind (insertAll kd t)

/-- The digest of an id's key. -/
def idDigest (s : State) (id : Nat) : Nat := digestOf (hashSeed s) ((entryKey s id).getD [])

/-- An id leaves the bucket index. -/
def removeKey (s : State) (id : Nat) : State :=
  { s with stb := { s.stb with
    slots := tfilter (fun _ w => !decide (bits w 15 0 = id)) s.stb.slots
    stash := s.stb.stash.filter (fun e => !decide (e.2 = id)) } }

/-- Word `i` of a program descriptor (R175) under a tag. -/
def progWord (s : State) (tag p i : Nat) : Nat := cwT s tag 4 (524288 + 8 * p + i)

/-- Output stream `o` of a program, 0 for none. -/
def progOut (s : State) (tag p o : Nat) : Nat :=
  nbits (progWord s tag p (3 + o / 2)) (16 * (o % 2) + 15) (16 * (o % 2))

/-- The bytes reserved for a program's outputs (R147). -/
def outReserve (s : State) (tag p : Nat) : Nat :=
  if p = 0 then 0
  else ((List.range 4).map (fun o => if progOut s tag p o = 0 then 0 else (strmCfg s tag (progOut s tag p o)).maxLen)).sum

/-- A sentence is refused admission (R96, R107, R197): its stream and its leaf count it; `buf` says whether BGT_CNT_REFUSED_BUF
does. (DEDUCED: log 22) -/
def refuse (s : State) (id leaf : Nat) (buf : Bool) : State :=
  let st := strm s id
  let s := setStrm s id { st with refused := satAdd 0xFFFFFFFF st.refused 1 }
  let s := setNode s leaf { nodeRt s leaf with refused := satAdd 0xFFFFFFFF (nodeRt s leaf).refused 1 }
  if buf then cnt s Reg.BGT_CNT_REFUSED_BUF else s

/-- BGT_CONTRACT at most once per stream and period (R96). -/
def contractAtStream (s : State) (id leaf : Nat) : State :=
  if (strm s id).contractAt = some s.tim.boundaries then s
  else report (setStrm s id { strm s id with contractAt := some s.tim.boundaries }) Ev.BGT_CONTRACT leaf 0

/-- SEQUENCE_VERDICT (R97): 0 none, 1 NEW, 2 REPEAT, 3 BACKWARD, with the stream after it. -/
def seqVerdict (g : StreamCfg) (st : Stream) (x : Sent) : Nat × Stream :=
  match x.seq with
  | none => (0, st)
  | some q =>
    if g.seqCheck = false ∨ ¬ (byteAt x.key 0 = 7 ∨ byteAt x.key 0 = 8) then (0, st)
    else
      let d := (q + 2 ^ 32 - st.seqLast) % 2 ^ 32
      if st.seqValid = false ∨ (q = 0 ∧ st.seqLast ≠ 0) ∨ (1 ≤ d ∧ d ≤ 0x7FFFFFFF) then
        (1, { st with seqLast := q, seqValid := true })
      else ((if d = 0 then 2 else 3), { st with seqAnomaly := satAdd 0xFFFFFFFF st.seqAnomaly 1 })

/-- Whether the partition of an id serves (R109). -/
def partServes (s : State) (id : Nat) : Bool := decide (s.stb.parts.getD (id / 4096) 0 = 1)

/-- Whether a class-0 sentence comes too soon after the last one admitted under its leaf (R197). -/
def tooSoon (s : State) (leaf endT : Nat) : Bool :=
  match (nodeRt s leaf).lastEnd with
  | some l => decide (endT < l + 4 * ndGap s leaf)
  | none => false

/-- ADMISSION (R96, R97, R107, R147, R197): a sentence of port staging queue `n` decided for stream `id` is admitted or refused;
none where the classified queue has no credit for it (R29). (DEDUCED: log 22) -/
def admitSent (s : State) (n : Nat) (x : Sent) (id : Nat) : Option State :=
  let g := strmCfg s s.tag id
  let st := strm s id
  let s := setStrm s id { st with matched := satAdd 0xFFFFFFFF st.matched 1, lastSeen := now s / secUnits % 65536 }
  let len := x.payload.length
  let bytes := len + outReserve s s.tag g.prog
  if partServes s id = false ∨ st.state ≠ 1 ∨ nodeOpen s g.node = false then some (refuse s id g.node true)
  else if x.oasis = true ∧ g.cls ≠ 0 then some (refuse (cnt s (Reg.PRT_CNT_HINT n)) id g.node true)
  else if len > g.maxLen then
    let s := refuse s id g.node true
    let s := if g.cls = 0 then cnt s Reg.BGT_CNT_CONTRACT else s
    some (contractAtStream s id g.node)
  else if g.cls = 0 ∧ tooSoon s g.node x.endT = true then
    some (contractAtNode (cnt (refuse s id g.node false) Reg.BGT_CNT_CONTRACT) g.node)
  else if (nodeRt s g.node).buf + bytes > ndQuota s g.node then some (refuse s id g.node true)
  else (credit s.stb.classified 1024 128 (decide (g.cls = 0))).map (fun o =>
    let s := bufAdd s g.node bytes
    let s := if g.cls = 0 then setNode s g.node { nodeRt s g.node with lastEnd := some x.endT } else s
    let (v, st) := seqVerdict g (strm s id) x
    let x := { x with stream := id, cls := g.cls, node := g.node, fset := g.fset, prog := g.prog, dset := g.dset
                      tag := s.tag, verdict := v, stranger := decide (61440 ≤ id), oasis := o, buf := bytes, blk := g.node }
    let s := setStrm s id st
    { s with stb := { s.stb with classified := s.stb.classified ++ [x] } })

/-- The serving engine of a port staging queue (R556). -/
def engineOf (s : State) (i : Nat) : Option Nat :=
  let serving := (List.range 5).filter (fun e => decide (s.stb.engines.getD e 0 = 1))
  if serving.length = 4 then s.stb.positions[i % 4]?
  else if serving = [] then none else serving[i % serving.length]?

/-- The key is built with the options in force at classification (R86, STB_KEYOPT). (DEDUCED: log 22) -/
def rekey (s : State) (x : Sent) : Sent :=
  match byteAt x.key 0 with
  | 1 =>
    let body := (x.payload.drop (iecStart x.payload 0 + 1)).filter (fun b => !decide (b = 0x0D#8 ∨ b = 0x0A#8))
    let f1 := if bit (rd s (Reg.STB_KEYOPT x.src)) 0 then (iecField1 body).take 8 else []
    { x with key := mkKey 1 x.src (padTo 8 0#8 (iecAddress body) ++ f1) }
  | 5 => { x with key := rawKey s x.src x.payload }
  | _ => x

/-- A request of the bridge that the classifier has discarded fails (R282). -/
def classifierLose (s : State) (x : Sent) : State :=
  let here (y : Sent) : Bool := decide (y.ex = x.ex)
  if x.ex = 0 ∨ s.stb.classified.any here = true ∨ s.stb.misses.any (fun m => here m.sent) = true then s else brgLose s x 1

/-- CLASSIFY (R90, R100, R113): the engine that serves a port staging queue takes its next sentence. (DEDUCED: log 22) -/
def execClassify (n : Nat) (s : State) : Res :=
  .next (
    let p := port s n
    match engineOf s n, serveNext (·.hint) p.staging with
    | some e, some (x, rest) =>
      let x := rekey s x
      let s1 := setPort s n { p with staging := rest }
      match findStream s x.key with
      | some id => ((admitSent s1 n x id).map (fun s => classifierLose s x)).getD s
      | none =>
        let s1 := report (cnt s1 Reg.STB_CNT_MISS) Ev.STB_MISS noInst 0
        if (s1.stb.misses.filter (fun m => decide (m.engine = e))).length ≥ 64 then classifierLose (cnt s1 Reg.STB_CNT_SHED) x
        else
          let m : Miss := { sent := x, port := n, engine := e, serial := s1.stb.missSerial }
          { s1 with stb := { s1.stb with misses := s1.stb.misses ++ [m], missSerial := s1.stb.missSerial + 1 } }
    | _, _ => s)

/-- Bytes of a wildcard rule (R98). -/
def ruleBytes (s : State) (i off n : Nat) : Bytes := cBytes s s.tag 2 (64 * i + off) n

/-- Whether an enabled rule matches a key. -/
def ruleMatches (s : State) (key : Bytes) (i : Nat) : Bool :=
  (cw s 2 (16 * i + 12)).testBit 2 &&
  (List.range 24).all (fun j =>
    decide ((byteAt key j ^^^ byteAt (ruleBytes s i 0 24) j) &&& byteAt (ruleBytes s i 24 24) j = 0))

/-- Keys whose insertion is complete and whose misses have all been decided leave the pending table (R102). (DEDUCED: log 22) -/
def settlePending (s : State) : State :=
  let keep (p : PendKey) : Bool := match p.doneAt with
    | none => true
    | some d => s.stb.misses.any (fun m => decide (m.serial < d))
  { s with stb := { s.stb with pending := s.stb.pending.filter keep } }

/-- The learned id a key has been given since its miss began (R102). -/
def learnedId (s : State) (key : Bytes) : Option Nat :=
  match s.stb.pending.find? (fun p => decide (p.key = key)) with
  | some p => some p.id
  | none => (findStream s key).filter (fun id => decide (61440 ≤ id))

/-- The lowest free id of the learning partition. -/
def freeLearned (s : State) : Option Nat :=
  if s.stb.parts.getD 15 0 ≠ 1 then none
  else ((List.range 4096).map (· + 61440)).find? (fun id => (tget s.stb.learned id).isNone)

/-- Whether the inserter can place a key, behind the insertions still under way (R101). -/
def canPlace (s : State) (key : Bytes) : Bool :=
  let kd (id : Nat) : Nat := idDigest s id
  let d := digestOf (hashSeed s) key
  match insertAll kd ((s.stb.pending.filter (·.doneAt.isNone)).map (·.id)) (bIndex s) with
  | none => false
  | some ix => (insertKey kd ix d 0).isSome

/-- STB_STRANGER (R101): a learned entry is created from a template and a probation destination set. -/
def createLearned (s : State) (key : Bytes) (id template probation : Nat) : State :=
  let t := strmCfg s s.tag template
  let g : StreamCfg := { t with key := key, state := 1, lvcDram := false, cls := 7, dset := probation, ovfSlot := 0
                                template := template }
  let s := { s with stb := { s.stb with
    learned := tset s.stb.learned id (some g)
    streams := tset s.stb.streams id { (default : Stream) with state := 1 }
    pending := s.stb.pending ++ [{ key := key, id := id, doneAt := none }]
    newThisPeriod := s.stb.newThisPeriod + 1 } }
  report (cnt (clearFilterState s id) Reg.STB_CNT_STRANGER) Ev.STB_STRANGER id 0

/-- A rule of action LEARN decides (R99, R101, R102); none where the sentence must wait for a credit. -/
def learn (s : State) (m : Miss) (template probation : Nat) : Option State :=
  if bit (rd s Reg.STB_LEARN_CTRL) 0 = false then some s
  else if s.stb.pending.length ≥ 32 then some (cnt s Reg.STB_CNT_SHED)
  else
    let full := some (report (cnt s Reg.STB_CNT_LEARN_FULL) Ev.STB_LEARN_FULL noInst 0)
    match freeLearned s with
    | none => full
    | some id =>
      if s.stb.newThisPeriod ≥ max 1 (fld s Reg.STB_LEARN_CTRL 23 16) ∨ canPlace s m.sent.key = false then full
      else admitSent (createLearned s m.sent.key id template probation) m.port m.sent id

/-- WILDCARD_SEARCH (R98 to R102): the oldest miss is decided by the rule with the lowest index that matches, or takes the learned
id its key has been given. -/
def execWildcardSearch (s : State) : Res :=
  .next (
    match s.stb.misses with
    | [] => s
    | m :: rest =>
      let s1 := { s with stb := { s.stb with misses := rest } }
      let out : Option State :=
        match learnedId s1 m.sent.key with
        | some id => admitSent s1 m.port m.sent id
        | none => match (List.range 512).find? (ruleMatches s1 m.sent.key) with
          | none => some s1
          | some i =>
            let w := cw s1 2 (16 * i + 12)
            let s1 := { s1 with stb := { s1.stb with ruleHits := tmod s1.stb.ruleHits i (fun h => satAdd 0xFFFFFFFF h 1) } }
            match nbits w 1 0 with
            | 0 => admitSent s1 m.port m.sent (nbits w 31 16)
            | 1 => learn s1 m (nbits w 31 16) (cf s1 2 (16 * i + 13) 11 0)
            | _ => some s1
      match out with
      | some s => settlePending (classifierLose s m.sent)
      | none => s)

/-- Whether a sentence of a stream lies before mapper dispatch. -/
def beforeDispatch (s : State) (id : Nat) : Bool :=
  let is (x : Sent) : Bool := decide (x.stream = id)
  s.stb.classified.any is || s.flt.filtered.any is || s.flt.verifying.any (fun v => is v.2) || s.map.holds.any is

/-- Whether a run works for an input of a stream. -/
def runOf (id : Nat) (r : Option Run) : Bool :=
  match r with
  | some r => decide (r.input.stream = id)
  | none => false

/-- Whether a sentence of a stream lies before the commit point. -/
def beforeCommit (s : State) (id : Nat) : Bool :=
  let is (x : Sent) : Bool := decide (x.stream = id)
  beforeDispatch s id || s.com.intake.any is ||
  s.map.engines.any (fun e => e.2.queue.any is || runOf id e.2.c0 || runOf id e.2.sh)

/-- A learned entry becomes EMPTY (R105): its id is free. -/
def emptyLearned (s : State) (id : Nat) : State :=
  { s with stb := { s.stb with learned := tset s.stb.learned id none, streams := tset s.stb.streams id default
                               pending := s.stb.pending.filter (fun p => !decide (p.id = id)) } }

/-- A last value is cleared. -/
def clearLast (st : Stream) : Stream :=
  { st with lvState := 0, lvHalf := false, lvStamp := 0, lvIndex := 0, lvLen := 0, line := [], ovf0 := [], ovf1 := [] }

/-- A learned entry leaves the index and drains (R105). (DEDUCED: log 23) -/
def retireLearned (s : State) (id : Nat) : State :=
  let s := removeKey s id
  let s := setStrm s id { clearLast (strm s id) with state := 2, aging := true, drainAt := drainEnd s }
  if beforeCommit s id then s else emptyLearned s id

/-- A learned entry ages or is released (R104, R105). -/
def ageLearned (s : State) (id : Nat) : State :=
  retireLearned (report (cnt s Reg.STB_CNT_AGED) Ev.STB_AGED id 0) id

/-- INSERTION_COMPLETE (R91, R102): the oldest key under insertion is placed; a key that finds no room after all is not learned. (DEDUCED: log 23) -/
def execInsertionComplete (s : State) : Res :=
  .next (
    match s.stb.pending.find? (·.doneAt.isNone) with
    | none => s
    | some p =>
      match insertKey (idDigest s) (bIndex s) (digestOf (hashSeed s) p.key) p.id with
      | some ix =>
        let fin (q : PendKey) : PendKey := if q.id = p.id then { q with doneAt := some s.stb.missSerial } else q
        settlePending { s with stb := { s.stb with slots := ix.1, stash := ix.2, pending := s.stb.pending.map fin } }
      | none =>
        let s := report (cnt s Reg.STB_CNT_LEARN_FULL) Ev.STB_LEARN_FULL noInst 0
        retireLearned { s with stb := { s.stb with pending := s.stb.pending.filter (fun q => !decide (q.id = p.id)) } } p.id)

/-- A verdict for an id (R104): it acts on a learned entry that is not aging, else admit_miss counts it. -/
def verdictGate (s : State) (r : Req) (id : Nat) (f : State → State) : State :=
  gated s r Reg.STB_ADMIT (fun s =>
    if (tget s.stb.learned id).isSome ∧ (strm s id).aging = false then f s
    else { s with stb := { s.stb with admitMiss := satAdd 0xFFFFF s.stb.admitMiss 1 } })

/-- STREAM_ADMIT (R104). -/
def execStreamAdmit (r : Req) (id : Nat) (s : State) : Res :=
  .next (verdictGate s r id (fun s =>
    let g := (tget s.stb.learned id).getD default
    let g := { g with dset := (strmCfg s s.tag g.template).dset }
    setStrm { s with stb := { s.stb with learned := tset s.stb.learned id (some g) } } id
      { strm s id with admitted := true }))

/-- STREAM_REJECT (R104). -/
def execStreamReject (r : Req) (id : Nat) (s : State) : Res :=
  .next (verdictGate s r id (fun s => setStrm s id { strm s id with state := 0 }))

/-- STREAM_RELEASE (R104). (DEDUCED: log 23) -/
def execStreamRelease (r : Req) (id : Nat) (s : State) : Res :=
  .next (verdictGate s r id (fun s => ageLearned s id))

/-- LEARNED_ENTRY_EMPTY (R105). -/
def execLearnedEntryEmpty (id : Nat) (s : State) : Res :=
  .next (if (strm s id).aging = true ∧ beforeCommit s id = false then emptyLearned s id else s)

/-- AGING_SWEEP (R105). -/
def agingSweep (s : State) : State :=
  let sec := now s / secUnits
  (tkeys s.stb.learned).foldl (fun s id =>
    let st := strm s id
    if st.aging = false ∧ (sec + 65536 - st.lastSeen % 65536) % 65536 > max 1 (fld s Reg.STB_LEARN_CTRL 15 1) then
      ageLearned s id
    else s) s

/-- FILTER_SWEEP (R137): `t` in µs and `u` in 64 µs units. -/
def sweepState (t u : Nat) (f : FState) : FState :=
  { f with passValid := f.passValid && decide ((t + 2 ^ 31 - f.lastPass % 2 ^ 31) % 2 ^ 31 < 2 ^ 30)
           bucketValid := f.bucketValid && decide ((u + 2 ^ 23 - f.bucketTime % 2 ^ 23) % 2 ^ 23 < 2 ^ 22) }

/-- WHOLE_SECOND (R105, R137, R312). (DESIGN CHOICE: log 9) -/
def execWholeSecond (s : State) : Res :=
  .next (
    let sec := now s / secUnits
    if sec ≤ s.tim.lastSec then s
    else
      let t := now s / 4000
      let s := agingSweep { s with tim := { s.tim with lastSec := sec } }
      let s := { s with flt := { s.flt with fstate := tmap (fun _ f => sweepState (t % 2 ^ 31) (t / 64 % 2 ^ 23) f) s.flt.fstate } }
      if s.tim.timeValid then { s with tim := { s.tim with rtc := sec * 32768 } } else s)

/-- A stream command reaches its stream: it is no internal stream and no empty entry, its partition serves, and the steward gives it
on no class-0 one (R45, R108, R109). (DEDUCED: log 68) -/
def streamGate (s : State) (r : Req) (id : Nat) (f : State → State) : State :=
  gated s r Reg.STB_STREAM_CMD (fun s =>
    let g := strmCfg s s.tag id
    if r = .steward ∧ g.cls = 0 ∧ byteAt g.key 0 ≠ 0 then report s Ev.CFG_SWAP_REJECT noInst 0
    else if byteAt g.key 0 = 0 ∨ id = 0 ∨ id > 65535 then s else f s)

/-- STREAM_ENABLE (R97, R108, R137). -/
def execStreamEnable (r : Req) (id : Nat) (s : State) : Res :=
  .next (streamGate s r id (fun s =>
    let st := strm s id
    if byteAt (strmCfg s s.tag id).key 0 = 0xFE ∨ partServes s id = false ∨ st.aging = true then s
    else if st.state = 0 then clearFilterState (setStrm s id { st with state := 1, seqValid := false }) id
    else setStrm s id { st with state := 1 }))

/-- STREAM_DISABLE (R108). -/
def execStreamDisable (r : Req) (id : Nat) (s : State) : Res :=
  .next (streamGate s r id (fun s =>
    let st := strm s id
    if byteAt (strmCfg s s.tag id).key 0 = 0xFE ∨ partServes s id = false ∨ st.state ≠ 1 then s
    else setStrm s id { st with state := 2, drainAt := drainEnd s }))

/-- STREAM_CLEAR_COUNTERS (R94). -/
def execStreamClearCounters (r : Req) (id : Nat) (s : State) : Res :=
  .next (streamGate s r id (fun s => setStrm s id { strm s id with matched := 0, refused := 0, seqAnomaly := 0 }))

/-- STREAM_CLEAR_LAST_VALUE (R114). -/
def execStreamClearLastValue (r : Req) (id : Nat) (s : State) : Res :=
  .next (streamGate s r id (fun s => setStrm s id (clearLast (strm s id))))

/-- STREAM_DRAIN_COMPLETE (R108). -/
def execStreamDrainComplete (id : Nat) (s : State) : Res :=
  .next (let st := strm s id
    if st.state = 2 ∧ st.aging = false ∧ beforeDispatch s id = false then setStrm s id { st with state := 0 } else s)

/-- STREAM_DRAIN_LIMIT (R105, R108): sentences held at mapper dispatch are drain loss. -/
def execStreamDrainLimit (id : Nat) (s : State) : Res :=
  .next (
    let st := strm s id
    if st.state ≠ 2 ∨ s.tim.boundaries < st.drainAt then s
    else
      let lost := s.map.holds.filter (fun x => decide (x.stream = id))
      let s := { s with map := { s.map with holds := s.map.holds.filter (fun x => !decide (x.stream = id)) } }
      let s := lost.foldl sentFree s
      let k := lost.length
      let st := { st with refused := satAdd 0xFFFFFFFF st.refused k, drainLoss := satAdd 0xFFFFFFFF st.drainLoss k }
      if st.aging then
        let s := setStrm s id st
        if beforeCommit s id then s else emptyLearned s id
      else setStrm s id { st with state := 0 })

/-- A committed sentence becomes the stream's last value (R114). -/
def writeLast (g : StreamCfg) (st : Stream) (x : Sent) : Stream :=
  let deep := decide (g.lvcDram = true ∧ x.payload.length > 64)
  let st := { st with line := padTo 64 0#8 (x.payload.take 64), lvLen := x.payload.length, lvStamp := x.stamp
                      lvIndex := x.index, lvState := if deep then 2 else 1 }
  if deep = false then st
  else if st.lvHalf then { st with ovf0 := x.payload.take 2048, lvHalf := false }
  else { st with ovf1 := x.payload.take 2048, lvHalf := true }

/-- LVC_WRITE (R114, R115): the cache writer takes the next waiting commit. -/
def execLvcWrite (s : State) : Res :=
  .next (
    match s.stb.lvcQueue with
    | [] => s
    | x :: rest =>
      let s := { s with stb := { s.stb with lvcQueue := rest } }
      setStrm s x.stream (writeLast (strmCfg s s.tag x.stream) (strm s x.stream) x))

/-- STB_CNT_CLEAR bit 0. -/
def execStbCntClearGlobal (r : Req) (s : State) : Res :=
  .next (gated s r Reg.STB_CNT_CLEAR (fun s => clearRegs s Reg.STB_CNT_MISS Reg.STB_CNT_LVC_STALE))

/-- STB_CNT_CLEAR bit 1 (R98). -/
def execStbCntClearRules (r : Req) (s : State) : Res :=
  .next (gated s r Reg.STB_CNT_CLEAR (fun s => { s with stb := { s.stb with ruleHits := [] } }))

/-- STB_CNT_CLEAR bit 2 (R94). -/
def execStbCntClearStreams (r : Req) (s : State) : Res :=
  .next (gated s r Reg.STB_CNT_CLEAR (fun s =>
    { s with stb := { s.stb with
      streams := tmap (fun _ st => { st with matched := 0, refused := 0, seqAnomaly := 0 }) s.stb.streams } }))

end Sys2Proof.Machine
end

