-- ==== Sys2Proof/Machine/Filter.lean ====
section
/-! DEFINITION. The filter stage (chapter 4): seal verification, the tests in their order, source groups, the bog. -/

namespace Sys2Proof.Machine

/-- The little-endian number in bytes `off` to `off + n − 1` of a sentence's filter set (R141). -/
def fsN (s : State) (x : Sent) (off n : Nat) : Nat := leNat (cBytes s x.tag 3 (256 * x.fset + off) n)

/-- Bit `i` of the first word of a sentence's filter set. -/
def fsBit (s : State) (x : Sent) (i : Nat) : Bool := (fsN s x 0 4).testBit i

/-- Why a sentence fails (Bog reasons): reason, number of the range check, detail. -/
structure Fail where
  reason : Nat
  check : Nat
  detail : Int
deriving DecidableEq, Repr

/-- Field F_k of a sentence (R123, R124). -/
def fieldK (s : State) (x : Sent) (k : Nat) : Option Int := descField x.key (sentArea s x) (fsN s x (64 + 8 * k) 8)

/-- The stamp in µs, and in 64 µs units (R135). -/
def stampUs (x : Sent) : Nat := x.stamp / 4000

/-- Time since the last pass, modulo 2^31 µs. -/
def sincePass (f : FState) (t : Nat) : Nat := (t + 2 ^ 31 - f.lastPass % 2 ^ 31) % 2 ^ 31

/-- Test 2, the sequence verdict (R132). -/
def testSeq (s : State) (x : Sent) : Option Fail :=
  let a := nbits (fsN s x 0 4) 4 3
  let q := Int.ofNat (x.seq.getD 0)
  if x.verdict = 2 ∧ a ≥ 1 then some ⟨7, 0, q⟩ else if x.verdict = 3 ∧ a ≥ 2 then some ⟨8, 0, q⟩ else none

/-- Test 3, age (R133). -/
def testAge (s : State) (x : Sent) : Option Fail :=
  if fsBit s x 5 = false then none
  else
    let utc := fsBit s x 6
    let maxAge := Int.ofNat (fsN s x 8 4)
    let maxFut := Int.ofNat (fsN s x 12 4)
    if utc = true ∧ inLeapSecond s x.stamp = true then none
    else match fieldK s x 5 with
      | none => if fsBit s x 7 then none else some ⟨0x0B, 0, 5⟩
      | some v =>
        if utc then
          let d := (Int.ofNat (utcMillis s x.stamp) - v) % 86400000
          let age := if d ≥ 43200000 then d - 86400000 else d
          if age * 1000 > maxAge then some ⟨9, 0, age * 4000000⟩
          else if age * 1000 < -maxFut then some ⟨0x0A, 0, age * 4000000⟩ else none
        else
          let age := sext 64 (twos 64 (Int.ofNat x.stamp - v))
          if age > maxAge * 4000 then some ⟨9, 0, age⟩ else if age < -(maxFut * 4000) then some ⟨0x0A, 0, age⟩ else none

/-- Range check k of test 4 (R134). -/
def testRange1 (s : State) (x : Sent) (k : Nat) : Option Fail :=
  if fsBit s x (8 + k) = false then none
  else match fieldK s x k with
    | none => if fsBit s x (12 + k) then none else some ⟨0x0B, k, Int.ofNat k⟩
    | some v =>
      let lo := sext 64 (fsN s x (128 + 16 * k) 8)
      let hi := sext 64 (fsN s x (136 + 16 * k) 8)
      if lo ≤ v ∧ v ≤ hi then none else some ⟨0x0C, k, v⟩

/-- Test 4, range checks 0 to 3. -/
def testRange (s : State) (x : Sent) : Option Fail :=
  (testRange1 s x 0).orElse (fun _ => (testRange1 s x 1).orElse (fun _ =>
    (testRange1 s x 2).orElse (fun _ => testRange1 s x 3)))

/-- Test 5, step plausibility (R134). -/
def testStep (s : State) (x : Sent) (f : FState) : Option Fail :=
  if fsBit s x 16 = false ∨ f.refValid = false then none
  else match fieldK s x 4 with
    | none => none
    | some v =>
      let lim := min (2 ^ 64 - 1) (fsN s x 36 4 + fsN s x 40 4 * (sincePass f (stampUs x) / 1000))
      if (v - f.ref).natAbs ≤ lim then none else some ⟨0x0D, 0, v⟩

/-- Change mode: 0 off, 1 value, 2 bytes. -/
def changeMode (s : State) (x : Sent) : Nat := nbits (fsN s x 0 4) 18 17

/-- The CRC-32 of the data area with the excluded bytes left out (R135). -/
def areaCrc (s : State) (x : Sent) : Nat :=
  let da := sentArea s x
  let o := fsN s x 24 2
  crc32 (da.take o ++ da.drop (o + fsN s x 26 2))

/-- What the change and step tests compare: F4, or the CRC-32 in bytes mode. -/
def watch (s : State) (x : Sent) : Option Int :=
  if changeMode s x = 2 then some (Int.ofNat (areaCrc s x)) else fieldK s x 4

/-- Test 7, change (R135). -/
def testChange (s : State) (x : Sent) (f : FState) : Option Fail :=
  let refresh := fsN s x 22 2
  let due := decide (refresh ≠ 0 ∧ sincePass f (stampUs x) ≥ 1000 * refresh)
  if changeMode s x = 0 ∨ f.refValid = false ∨ due = true then none
  else match watch s x with
    | none => none
    | some v =>
      let same : Bool :=
        if changeMode s x = 2 then decide (v.toNat = twos 32 f.ref)
        else decide ((v - f.ref).natAbs ≤ max (fsN s x 16 4) (f.ref.natAbs * fsN s x 20 2 / 65536))
      if same then some ⟨0x12, 0, v⟩ else none

/-- Test 8, minimum interval (R135). -/
def testInterval (s : State) (x : Sent) (f : FState) : Option Fail :=
  let d := sincePass f (stampUs x)
  if fsBit s x 19 = false ∨ f.passValid = false then none
  else if fsN s x 28 4 ≤ d ∧ d < 2 ^ 30 then none else some ⟨0x0E, 0, Int.ofNat d⟩

/-- The bucket's accrual at test 9 (R135). -/
def accrue (s : State) (x : Sent) (f : FState) : FState :=
  let u := x.stamp / 256000 % 2 ^ 23
  let burst := nbits (fsN s x 35 1) 6 0
  let ti := max 1 (nbits (fsN s x 32 3) 22 0)
  if f.bucketValid = false then { f with bucketValid := true, tokens := burst, bucketTime := u }
  else
    let e0 := (u + 2 ^ 23 - f.bucketTime % 2 ^ 23) % 2 ^ 23
    let k := (if e0 ≥ 2 ^ 22 then 0 else e0) / ti
    let tok := min burst (f.tokens + k)
    { f with tokens := tok, bucketTime := if tok = burst then u else (f.bucketTime + k * ti) % 2 ^ 23 }

/-- What a sentence that passes every test leaves in its stream's state (R136). -/
def passState (s : State) (x : Sent) (f : FState) : FState :=
  let f := { f with lastPass := stampUs x % 2 ^ 31, passValid := true }
  if changeMode s x = 0 ∧ fsBit s x 16 = false then f
  else match watch s x with
    | some v => { f with ref := v, refValid := true }
    | none => { f with refValid := false }

/-- Byte `i` of a source group record under a tag (R138). -/
def grpN (s : State) (tag g off n : Nat) : Nat := leNat (cBytes s tag 3 (262144 + 16 * g + off) n)

/-- Member `m` of a group's state. -/
def member (x : SrcGroup) (m : Nat) : Member := if m = 0 then x.m0 else if m = 1 then x.m1 else if m = 2 then x.m2 else x.m3

/-- Store a member. -/
def setMember (x : SrcGroup) (m : Nat) (v : Member) : SrcGroup :=
  if m = 0 then { x with m0 := v } else if m = 1 then { x with m1 := v } else if m = 2 then { x with m2 := v }
  else { x with m3 := v }

/-- Whether a member is live (R138). -/
def isLive (s : State) (tag g : Nat) (v : Member) : Bool :=
  match v.lastHealthy with
  | some h => !v.dead && decide (since s h < grpN s tag g 0 2 * msUnits)
  | none => false

/-- Whether a member is settled. -/
def isSettled (s : State) (tag g : Nat) (v : Member) : Bool :=
  isLive s tag g v && decide (since s v.liveSince ≥ grpN s tag g 2 2 * msUnits)

/-- Store a group; a change of its selection is reported (R139). -/
def setGroup (s : State) (g : Nat) (old new : SrcGroup) : State :=
  let s := { s with flt := { s.flt with groups := tset s.flt.groups g new } }
  if old.selected = new.selected then s else report (cnt s Reg.FLT_CNT_SWITCH) Ev.FLT_SOURCE_SWITCH g 0

/-- SOURCE_RESELECT (R139) on a group's state. -/
def reselect (s : State) (tag g : Nat) (x : SrcGroup) : SrcGroup :=
  let conf (m : Nat) : Bool := (grpN s tag g 5 1).testBit m
  let live (m : Nat) : Bool := conf m && isLive s tag g (member x m)
  let settled (m : Nat) : Bool := conf m && isSettled s tag g (member x m)
  match x.forced with
  | some m => { x with selected := some m }
  | none =>
    let up : Bool := match x.selected with
      | some m => live m
      | none => false
    if up = false then match (List.range 4).find? live with
      | some m => { x with selected := some m }
      | none => x
    else if (grpN s tag g 4 1).testBit 0 then match (List.range 4).find? settled with
      | some m => if m < x.selected.getD 0 then { x with selected := some m } else x
      | none => x
    else x

/-- Every source group re-selects at a period boundary (R139). -/
def reselectAll (s : State) : State :=
  (tkeys s.flt.groups).foldl (fun s g =>
    let x := tget s.flt.groups g
    setGroup s g x (reselect s s.tag g x)) s

/-- Test 6 (R138, R139): a healthy member sentence, and the member selected after it. -/
def sourceTest (s : State) (x : Sent) : Option Fail × State :=
  let g := fsN s x 6 1
  let m := fsN s x 7 1 % 4
  if g = 0 then (none, s)
  else
    let old := tget s.flt.groups g
    let v := member old m
    let since_ := if isLive s x.tag g v then v.liveSince else x.stamp
    let mid := setMember old m { lastHealthy := some x.stamp, liveSince := since_, dead := false }
    let new := reselect s x.tag g mid
    let s := setGroup s g old new
    if new.selected = some m then (none, s) else (some ⟨0x13, 0, Int.ofNat (new.selected.getD 0)⟩, s)

/-- A sentence that fails one of tests 1 to 5 ends its member's liveness under on_fail (R138). -/
def memberFails (s : State) (x : Sent) : State :=
  let g := fsN s x 6 1
  let m := fsN s x 7 1 % 4
  if g = 0 ∨ (grpN s x.tag g 4 1).testBit 1 = false then s
  else
    let old := tget s.flt.groups g
    { s with flt := { s.flt with groups := tset s.flt.groups g (setMember old m { member old m with dead := true }) } }

/-- The counter and the event of a reason (Filter order, FLT counters). -/
def reasonOf (f : Fail) : Nat × Option Nat :=
  if f.reason ≤ 6 then (Reg.FLT_CNT_SEAL, some Ev.FLT_SEAL_FAIL)
  else if f.reason ≤ 8 then (Reg.FLT_CNT_SEQ, none)
  else if f.reason ≤ 0x0A ∨ (f.reason = 0x0B ∧ f.detail = 5) then (Reg.FLT_CNT_AGE, some Ev.FLT_AGE)
  else if f.reason ≤ 0x0D then (Reg.FLT_CNT_RANGE, some Ev.FLT_RANGE)
  else if f.reason = 0x0E then (Reg.FLT_CNT_INTERVAL, some Ev.FLT_RATE)
  else if f.reason = 0x0F then (Reg.FLT_CNT_RATE, some Ev.FLT_RATE)
  else if f.reason = 0x12 then (Reg.FLT_CNT_SUPPRESSED, none) else (Reg.FLT_CNT_UNSELECTED, none)

/-- BOG_ENTRY (R143): an entry enters the intake where recording applies and there is room. -/
def bogEntry (s : State) (x : Sent) (egress recording : Bool) (f : Fail) : State :=
  let w := rd s Reg.FLT_BOG_CTRL
  let wanted := recording && !(decide (f.reason = 0x12) && !bit w 2) && !(decide (f.reason = 0x13) && !bit w 3)
  if wanted = false ∨ bit w 0 = true then s
  else if s.flt.bogIntake.length ≥ 64 then cnt s Reg.FLT_CNT_BOG_SHED
  else
    let e : BogRec := { stamp := x.stamp, number := 0, stream := x.stream, port := x.src, egress := egress
                        reason := f.reason, length := x.payload.length, stored := 0, lost := false, rangeCheck := f.check
                        offset := 0, fset := x.fset, detail := twos 64 f.detail, payload := x.payload }
    { s with flt := { s.flt with bogIntake := s.flt.bogIntake ++ [e] } }

/-- A sentence is turned away (R25, R119, R143). -/
def turnAway (s : State) (x : Sent) (f : Fail) : State :=
  let (c, ev) := reasonOf f
  let s := cnt (sentFree (brgLose s x 2) x) c
  let s := match ev with
    | some e => report s e x.stream 0
    | none => s
  let s := if f.reason ≤ 0x0D then memberFails s x else s
  bogEntry s x false (fsBit s x 21) f

/-- Tests 2 to 9 (R119, R120, R132 to R139): the sentence enters the filtered queue, whose credit it holds, or the bog. -/
def filterTests (s : State) (x : Sent) : State :=
  let f := tget s.flt.fstate x.stream
  let put (s : State) (f : FState) : State := { s with flt := { s.flt with fstate := tset s.flt.fstate x.stream f } }
  match (testSeq s x).orElse (fun _ => (testAge s x).orElse (fun _ =>
      (testRange s x).orElse (fun _ => testStep s x f))) with
  | some w => turnAway s x w
  | none => match sourceTest s x with
    | (some w, s) => turnAway s x w
    | (none, s) => match (testChange s x f).orElse (fun _ => testInterval s x f) with
      | some w => turnAway s x w
      | none =>
        let f := if fsBit s x 20 then accrue s x f else f
        if fsBit s x 20 = true ∧ f.tokens = 0 then turnAway (put s f) x ⟨0x0F, 0, 0⟩
        else
          let f := if fsBit s x 20 then { f with tokens := f.tokens - 1 } else f
          let s := put s (passState s x f)
          { s with flt := { s.flt with filtered := s.flt.filtered ++ [x] } }

/-- The seal trailer of a sentence (R430). -/
def trailer (s : State) (x : Sent) : Bytes := let da := sentArea s x
  da.drop (da.length - 24)

/-- Whether a trailer's tag verifies under a key (R430). -/
def tagVerifies (key da : Bytes) : Bool :=
  let body := da.take (da.length - 24)
  let tr := da.drop (da.length - 24)
  let cover := body ++ tr.take 8
  let tag := tr.drop 8
  match byteAt tr 1 with
  | 0 => decide (Config.cmac key cover = tag)
  | 1 => decide (Config.gmac key (List.replicate 4 0#8 ++ tr.take 8) cover = tag)
  | _ => false

/-- The freshness test of R130: the record after it where `f` is fresh. -/
def freshAfter (r : Fresh) (f : Nat) : Option Fresh :=
  match r.top with
  | none => some { top := some f, window := 1 }
  | some t =>
    if f > t then some { top := some f, window := (r.window <<< (f - t) ||| 1) % 2 ^ 64 }
    else if f + 63 ≥ t ∧ r.window.testBit (t - f) = false then some { r with window := r.window ||| 1 <<< (t - f) }
    else none

/-- The code of a slot's state. -/
def slotStateCode : SlotState → Nat
  | .empty => 0
  | .pending => 1
  | .valid => 2
  | .orphaned => 3
  | .zeroized => 4

/-- A SEAL_KEY failure: the slot and its state. -/
def sealKeyFail (s : State) (slot : Nat) : Fail :=
  ⟨3, 0, Int.ofNat (slot + 256 * slotStateCode (tget s.vault.slots slot).state)⟩

/-- A verified, fresh seal (R131): the flag, and the trailer removed where seal_strip says so. -/
def sealed (s : State) (x : Sent) : Sent :=
  if fsBit s x 1 then
    let e := (sentSpan s x).1 + (sentSpan s x).2
    { x with sealOk := true, stripped := true, payload := x.payload.take (e - 24) ++ x.payload.drop e }
  else { x with sealOk := true }

/-- SEAL_VERIFY ends with the key the operation began with (R126, R128, R130). -/
def sealJudge (s : State) (x : Sent) (slot : Nat) (key : Bytes) : State :=
  let da := sentArea s x
  let fr := beAt (trailer s x) 2 6
  let slotDetail := Int.ofNat (slot + 65536 * fr)
  let retry := fsBit s x 2 && decide ((tget s.vault.slots slot).pend = 2)
  let first := tagVerifies key da
  let s := if first = false ∧ retry = true then cnt s Reg.KVT_CNT_OPS else s
  if ¬ (first || (retry && tagVerifies (slotPend s.vault slot) da)) then turnAway s x ⟨4, 0, slotDetail⟩
  else match freshAfter (tget s.flt.fresh slot) fr with
    | none => turnAway s x ⟨5, 0, slotDetail⟩
    | some r => filterTests { s with flt := { s.flt with fresh := tset s.flt.fresh slot r } } (sealed s x)

/-- SEAL_VERIFY begins (R126): the vault is asked for the slot as the filter-verify master. (DEDUCED: log 25) -/
def sealBegin (s : State) (x : Sent) : State :=
  let tr := trailer s x
  let slot := byteAt tr 0
  if (sentArea s x).length < 25 then turnAway s x ⟨1, 0, 0⟩
  else if slot < fsN s x 4 1 ∨ slot > fsN s x 5 1 then turnAway s x ⟨2, 0, Int.ofNat slot⟩
  else
    let fail := sealKeyFail s slot
    match takeKey s slot 8 useMacVer with
    | (none, s) => turnAway s x fail
    | (some key, s) =>
      let op : VOp := { user := 8, ident := s.flt.nextOp, slot := slot, key := key, out := [] }
      { s with
        vault := { s.vault with ops := s.vault.ops ++ [op] }
        flt := { s.flt with verifying := s.flt.verifying ++ [(s.flt.nextOp, x)], nextOp := s.flt.nextOp + 1 } }

/-- A seal verification ends (R126, R129, R415, R417): an operation that has been aborted fails its sentence with SEAL_KEY. (DEDUCED: log 25) -/
def sealComplete (s : State) (ident : Nat) : State :=
  match takeFirst (fun v : Nat × Sent => decide (v.1 = ident)) s.flt.verifying with
  | none => s
  | some ((_, x), rest) =>
    let s := { s with flt := { s.flt with verifying := rest } }
    let slot := byteAt (trailer s x) 0
    match s.vault.ops.find? (fun o => decide (o.user = 8 ∧ o.ident = ident)) with
    | none => turnAway s x (sealKeyFail s slot)
    | some o => match opComplete s 8 ident with
      | (true, s) => sealJudge s x slot o.key
      | (false, s) => turnAway s x ⟨6, 0, Int.ofNat slot⟩

/-- KVT_OP_COMPLETE (R415): the command in progress for user 255, the filter stage's verification for user 8, else the operation a
block has in progress. -/
def execKvtOpComplete (user ident : Nat) (s : State) : Res :=
  .next (
    if user = 255 then match s.vault.cmd with
      | none => s
      | some c => kvtCmdComplete s c
    else if user = 8 then sealComplete s ident
    else (opComplete s user ident).2)

/-- FILTER_EVALUATE (R119, R121, R28): the next sentence of the classified queue, behind no verification of its own stream. A credit of
the filtered queue is held before work on it starts. -/
def execFilterEvaluate (s : State) : Res :=
  .next (
    let free (x : Sent) : Bool := !s.flt.verifying.any (fun v => decide (v.2.stream = x.stream))
    let inOrder (x : Sent) : Bool := free x
    let next := match takeFirst (fun x => c0 x && inOrder x) s.stb.classified with
      | some r => some r
      | none => takeFirst inOrder s.stb.classified
    match next with
    | none => s
    | some (x, rest) =>
      match credit (s.flt.filtered ++ s.flt.verifying.map (·.2)) 1024 128 (c0 x) with
      | none => s
      | some o =>
        let s := { s with stb := { s.stb with classified := rest } }
        let x := { x with oasis := o }
        if fsBit s x 0 then sealBegin s x else filterTests s x)

/-- Bytes written into the bog's payload store. -/
def bogPut (t : Tab Byte) : Nat → Bytes → Tab Byte
  | _, [] => t
  | o, b :: bs => bogPut (tset t o b) (o + 1) bs

/-- Whether two stretches of the payload store meet. -/
def meets (o n o' n' : Nat) : Bool := decide (o < o' + n' ∧ o' < o + n)

/-- BOG_WRITE (R143, R144): the oldest intake entry becomes a record, or is not written where the bog is frozen. (DEDUCED: log 25) -/
def execBogWrite (s : State) : Res :=
  .next (
    match s.flt.bogIntake with
    | [] => s
    | e :: rest =>
      let s := { s with flt := { s.flt with bogIntake := rest } }
      if bit (rd s Reg.FLT_BOG_CTRL) 0 then s
      else
        let n := min e.length (fld s Reg.FLT_BOG_CTRL 27 16)
        let o := if s.flt.bogPtr + n > 65536 then 0 else s.flt.bogPtr
        let place := s.flt.bogNext % 1024
        let lose (r : Option BogRec) : Option BogRec := r.map (fun r =>
          if meets r.offset r.stored o n then { r with lost := true } else r)
        let recd : BogRec := { e with number := s.flt.bogNext, stored := n, offset := o, payload := [] }
        let recs := tset (tmap (fun _ r => lose r) (tset s.flt.bog place none)) place (some recd)
        { s with flt := { s.flt with bog := recs, bogStore := bogPut s.flt.bogStore o (e.payload.take n), bogPtr := o + n
                                     bogNext := (s.flt.bogNext + 1) % 2 ^ 32 } })

/-- SOURCE_FORCE (R140). (DEDUCED: log 25) -/
def execSourceForce (r : Req) (g m : Nat) (s : State) : Res :=
  .next (gated s r Reg.FLT_SRC_FORCE (fun s =>
    if g = 0 ∨ g > 255 ∨ m > 3 then s
    else
      let old := tget s.flt.groups g
      setGroup s g old { old with forced := some m, selected := some m }))

/-- SOURCE_RELEASE (R140): automatic selection from the next re-selection on. -/
def execSourceRelease (r : Req) (g : Nat) (s : State) : Res :=
  .next (gated s r Reg.FLT_SRC_FORCE (fun s =>
    if g = 0 ∨ g > 255 then s
    else { s with flt := { s.flt with groups := tmod s.flt.groups g (fun x => { x with forced := none }) } }))

/-- FLT_CNT_CLEAR bit 0. -/
def execFltCntClearCounters (r : Req) (s : State) : Res :=
  .next (gated s r Reg.FLT_CNT_CLEAR (fun s => clearRegs s Reg.FLT_CNT_SEAL Reg.FLT_CNT_BOG_SHED))

/-- FLT_CNT_CLEAR bit 1 (R144): accepted from the guard world only. -/
def execFltCntClearBog (r : Req) (s : State) : Res :=
  .next (gated s r Reg.FLT_CNT_CLEAR (fun s =>
    if reqGuard r then
      { s with flt := { s.flt with bogIntake := [], bog := [], bogStore := [], bogPtr := 0, bogNext := 0 } }
    else s))

end Sys2Proof.Machine
end

