-- ==== Sys2Proof/Machine/Dispatching.lean ====
section
/-! DEFINITION. Mapper dispatch (chapter 5): programs and what they cost, engines, the fabric-time charge, holding, cyclic firings. -/

namespace Sys2Proof.Machine

/-- The ids of the image's entries in use under a tag. -/
def imageIds (t : Tab Word) : List Nat :=
  t.filterMap (fun e =>
    let i := e.1 % 2 ^ 20
    if e.1 / 2 ^ 20 = 1 ∧ i % 16 = 0 ∧ i / 16 < 61440 ∧ e.2.toNat % 256 ≠ 0 then some (i / 16) else none)

/-- Micro-op `i` of a program (R151, R175). -/
def microOp (s : State) (tag p i : Nat) : Nat :=
  let w := 2 * (nbits (progWord s tag p 0) 17 0 + i)
  cwT s tag 4 w + cwT s tag 4 (w + 1) * 2 ^ 32

/-- Micro-ops of a program, 0 where it is not defined. -/
def progLen (s : State) (tag p : Nat) : Nat := if p = 0 then 0 else nbits (progWord s tag p 0) 28 18

/-- Bit `i` of word 1 of a program's descriptor: 2 fwd_input, 3 fwd_on_fault, 4 cyclic. -/
def progBit (s : State) (tag p i : Nat) : Bool := (progWord s tag p 1).testBit i

/-- The max_len of an output of a program. -/
def outMax (s : State) (tag p o : Nat) : Nat := (strmCfg s tag (progOut s tag p o)).maxLen

/-- A quotient rounded up. -/
def ceilDiv (a b : Nat) : Nat := (a + b - 1) / b

/-- The largest cost of a micro-op in steps (R149, R152, R175), where output `cur` is current (4 for none). (DEDUCED: log 27) -/
def opCost (lens : List Nat) (cur w : Nat) : Nat :=
  let m := lens.getD cur 0
  match nbits w 63 58 with
  | 0x07 | 0x08 | 0x09 | 0x14 | 0x16 | 0x2C | 0x2D | 0x2F => 2
  | 0x0A | 0x0B => 4
  | 0x0C => 10
  | 0x15 => 8
  | 0x22 => 3
  | 0x28 => 1 + ceilDiv (nbits w 45 34) 64
  | 0x2A => 1 + ceilDiv (nbits w 21 10) 16
  | 0x30 =>
    let e := if nbits w 31 20 = 0 then m else min m (nbits w 31 20)
    1 + (if nbits w 47 44 = 0 then ceilDiv (m - 1) 16 else ceilDiv (e - nbits w 43 32) 16)
  | _ => 1

/-- The largest cost of what follows, for each set of opened outputs and current output (place 5 × mask + cur), given the tables of
the micro-ops behind. (DEDUCED: log 27) -/
def worstRow (lens : List Nat) (w : Nat) (rest : List (List Nat)) : List Nat :=
  (List.range 80).map (fun i =>
    let mask := i / 5
    let cur := i % 5
    let o := nbits w 47 46
    let c := opCost lens cur w
    let next (k mask cur : Nat) : Nat := (rest.getD k []).getD (5 * mask + cur) 0
    match nbits w 63 58 with
    | 0x01 => c + b2n (mask.testBit 0) + b2n (mask.testBit 1) + b2n (mask.testBit 2) + b2n (mask.testBit 3)
    | 0x02 => c
    | 0x03 => c + (if nbits w 51 48 = 0 then next (nbits w 7 0) mask cur else max (next 0 mask cur) (next (nbits w 7 0) mask cur))
    | 0x28 => c + next 0 (mask ||| 1 <<< o) o
    | 0x29 => c + next 0 mask o
    | _ => c + next 0 mask cur)

/-- The tables of a program's micro-ops, the first micro-op's first. -/
def worstRows (lens : List Nat) : List Nat → List (List Nat)
  | [] => []
  | w :: ws => let r := worstRows lens ws
               worstRow lens w r :: r

/-- The largest text index cost: the largest max_len of a stream of key kind 0x01, 0x09 or 0xFF that names the program (R149, R175). -/
def indexCost (s : State) (tag p : Nat) : Nat :=
  ((imageIds (cfgOf s tag)).map (fun id =>
    let g := imageStream s tag id
    let k := byteAt g.key 0
    if g.prog = p ∧ (k = 1 ∨ k = 9 ∨ k = 0xFF) then ceilDiv g.maxLen 16 else 0)).foldl max 0

/-- worst_steps of a program, as the loader computes it (R175). (DEDUCED: log 27) -/
def worstSteps (s : State) (tag p : Nat) : Nat :=
  let lens := (List.range 4).map (outMax s tag p)
  let rows := worstRows lens ((List.range (progLen s tag p)).map (microOp s tag p))
  4 + indexCost s tag p + (rows.headD []).getD 4 0

/-- The runtime state of a program. -/
def prog (s : State) (p : Nat) : Prog := tget s.map.progs p

/-- Store a program's runtime state. -/
def setProg (s : State) (p : Nat) (x : Prog) : State := { s with map := { s.map with progs := tset s.map.progs p x } }

/-- An engine. -/
def engine (s : State) (e : Nat) : Engine := tget s.map.engines e

/-- Store an engine. -/
def setEngine (s : State) (e : Nat) (x : Engine) : State :=
  { s with map := { s.map with engines := tset s.map.engines e x } }

/-- Whether an engine takes new runs (R146, R181). -/
def engServes (s : State) (e : Nat) : Bool := decide ((engine s e).state = 1) && !(engine s e).emptying

/-- The number of engines serving (R188). -/
def enginesServing (s : State) : Nat := ((List.range 16).filter (engServes s)).length

/-- Whether a stream has work in flight in an engine (R20); cyclic runs belong to no stream. -/
def inEngine (en : Engine) (id : Nat) : Bool :=
  en.queue.any (fun x => decide (x.stream = id ∧ x.slot = none)) ||
  [en.c0, en.sh].any (fun r => match r with
    | some r => decide (r.input.stream = id ∧ r.input.slot = none)
    | none => false)

/-- Free credits of an engine's queue: oasis, shared. -/
def engFree (en : Engine) : Nat × Nat :=
  let o := (en.queue.filter (·.oasis)).length
  (4 - o, 28 - (en.queue.length - o))

/-- The serving engine with the most free credits, the lowest number first. -/
def bestEngine (s : State) (f : Engine → Nat) : Option Nat :=
  let best := ((List.range 16).map (fun e => if engServes s e then f (engine s e) else 0)).foldl max 0
  if best = 0 then none else (List.range 16).find? (fun e => engServes s e && decide (f (engine s e) = best))

/-- The engine a run goes to (R146) and the kind of credit it takes; none where it has to wait. -/
def pickEngine (s : State) (x : Sent) : Option (Nat × Bool) :=
  let home : Option Nat := if x.slot.isSome then none else (List.range 16).find? (fun e => inEngine (engine s e) x.stream)
  match home with
  | some e => if engServes s e then (credit (engine s e).queue 32 4 (c0 x)).map (fun o => (e, o)) else none
  | none =>
    if c0 x then match bestEngine s (fun en => (engFree en).1) with
      | some e => some (e, true)
      | none => (bestEngine s (fun en => (engFree en).2)).map (fun e => (e, false))
    else (bestEngine s (fun en => (engFree en).2)).map (fun e => (e, false))

/-- A run enters an engine's queue. -/
def sendRun (s : State) (e : Nat) (o : Bool) (x : Sent) : State :=
  let en := engine s e
  setEngine s e { en with queue := en.queue ++ [{ x with oasis := o, held := none }] }

/-- The fabric-time charge of a program in ns (R146). -/
def fabCharge (s : State) (x : Sent) : Nat := 4 * worstSteps s x.tag x.prog

/-- A sentence is refused at dispatch for fabric time (R146, R192, R194). -/
def dispatchDrop (s : State) (x : Sent) : State := sentFree (cnt (policyDrop s x.node) Reg.MAP_CNT_REFUSED) x

/-- A sentence is parked in the hold store (R192), or dropped where the store is full. -/
def park (s : State) (x : Sent) : State :=
  if s.map.holds.length ≥ 4096 then dispatchDrop (cnt s Reg.BGT_CNT_HOLD_FULL) x
  else
    let s := { s with map := { s.map with holds := s.map.holds ++ [{ x with held := some (now s) }] } }
    cnt s Reg.BGT_CNT_HELD

/-- The first node at or above `n` that is DISABLED or taken out (R195). -/
def closedNode (s : State) (n : Nat) : Option Nat :=
  (chainOf s n).find? (fun k => decide ((nodeRt s k).state = 0) || (nodeRt s k).out)

/-- A sentence or copy is drain loss of a node (R195). -/
def nodeDrainLoss (s : State) (n : Nat) : State :=
  setNode s n { nodeRt s n with drain := satAdd 0xFFFFFFFF (nodeRt s n).drain 1 }

/-- Mapper dispatch of one sentence taken out of its queue (R30, R146, R179, R180, R192, R195): none where it has to wait there.
`held` says that it comes from the hold store. -/
def tryDispatch (s : State) (x : Sent) (held : Bool) : Option State :=
  if held = false ∧ s.map.holds.any (fun y => decide (y.stream = x.stream)) = true then some (park s x)
  else if x.prog = 0 then
    if (List.range 16).any (fun e => inEngine (engine s e) x.stream) then none
    else (credit s.com.intake 256 64 (c0 x)).map (fun o =>
      { s with com := { s.com with intake := s.com.intake ++ [{ x with oasis := o, held := none }] } })
  else if (prog s x.prog).state = 2 then
    let p := prog s x.prog
    some (sentFree (setProg s x.prog { p with drain := satAdd 0xFFFFFFFF p.drain 1 }) x)
  else if (prog s x.prog).state ≠ 1 then some (sentFree (cnt s Reg.MAP_CNT_NOPROG) x)
  else match closedNode s x.node with
    | some n => some (sentFree (nodeDrainLoss s n) x)
    | none =>
      match pickEngine s x with
      | none => none
      | some (e, o) =>
        let c := fabCharge s x
        if (nodeRt s x.node).fCredit ≥ c then some (sendRun (charge s true x.node c) e o x)
        else if held then none
        else
          let s := shortfall s true x.node
          some (if ndPolicy s x.node = 1 then dispatchDrop s x else park s x)

/-- The first cyclic run waiting that finds an engine. (DEDUCED: log 69) -/
def tryCyc (s : State) (first : Bool) : Option State :=
  match takeFirst (fun x => decide (c0 x = first) && (pickEngine s x).isSome) s.map.cycWait with
  | none => none
  | some (x, rest) =>
    (pickEngine s x).map (fun r => sendRun { s with map := { s.map with cycWait := rest } } r.1 r.2 x)

/-- Held sentences, in the order they were parked, none ahead of an earlier one of its stream (R192). -/
def tryHolds (s : State) : List Sent → List Sent → Option State
  | _, [] => none
  | done, x :: rest =>
    if done.any (fun y => decide (y.stream = x.stream)) then tryHolds s (done ++ [x]) rest
    else match tryDispatch { s with map := { s.map with holds := done ++ rest } } x true with
      | some s' => some s'
      | none => tryHolds s (done ++ [x]) rest

/-- The oldest sentence of the filtered queue of class 0, or of the other classes. -/
def tryFiltered (s : State) (first : Bool) : Option State :=
  match takeFirst (fun x => decide (c0 x = first)) s.flt.filtered with
  | none => none
  | some (x, rest) => tryDispatch { s with flt := { s.flt with filtered := rest } } x false

/-- MAPPER_DISPATCH (R28, R146, R192): the next sentence that can leave dispatch. -/
def execMapperDispatch (s : State) : Res :=
  .next (
    let zero := (tryCyc s true).orElse (fun _ => tryFiltered s true)
    let blocked := s.flt.filtered.any c0
    let other : Option State := if blocked then none
      else (tryCyc s false).orElse (fun _ => (tryHolds s [] s.map.holds).orElse (fun _ => tryFiltered s false))
    (zero.orElse (fun _ => other)).getD s)

/-- Word `w` of cyclic slot `i` (R174). (DEDUCED: log 69) -/
def cycWord (s : State) (i w : Nat) : Nat := cw s 4 (591872 + 4 * i + w)

/-- Whether a run of a slot is queued or running (R174). -/
def slotBusy (s : State) (i : Nat) : Bool :=
  let is (x : Sent) : Bool := decide (x.slot = some i)
  s.map.cycWait.any is ||
  s.map.engines.any (fun e => e.2.queue.any is || [e.2.c0, e.2.sh].any (fun r => match r with
    | some r => is r.input && r.ended.isNone
    | none => false))

/-- A cyclic slot fires at time `t` (R173, R174). (DEDUCED: log 69) -/
def fireSlot (s : State) (t i mirror : Nat) : State :=
  let c := tget s.map.cyc i
  let p := nbits (cycWord s i 0) 11 0
  let leaf := nbits (cycWord s i 1) 12 0
  let put (s : State) (c : CycSlot) : State := { s with map := { s.map with cyc := tset s.map.cyc i c } }
  let skip (s : State) : State := cnt s Reg.MAP_CNT_CYC_SKIP
  if c.enabled = false ∨ (prog s p).state ≠ 1 then skip s
  else
    let c := { c with fired := c.fired + 1 }
    let s := put s c
    let src := nbits (cycWord s i 0) 30 24
    let bytes := outReserve s s.tag p
    let x : Sent := { (default : Sent) with
      stamp := t, endT := t, src := src, srcKind := srcKindOf src, cls := ndClass s leaf, node := leaf, prog := p
      tag := s.tag, index := c.fired, buf := bytes, blk := leaf, slot := some i, mirror := mirror }
    if slotBusy s i then skip (put s { c with overlap := satAdd 65535 c.overlap 1 })
    else if nodeOpen s leaf = false ∨ (nodeRt s leaf).buf + bytes > ndQuota s leaf then skip s
    else if (nodeRt s leaf).fCredit < fabCharge s x then skip (shortfall s true leaf)
    else
      let s := charge (bufAdd s leaf bytes) true leaf (fabCharge s x)
      match pickEngine s x with
      | some (e, o) => sendRun s e o x
      | none => { s with map := { s.map with cycWait := s.map.cycWait ++ [x] } }

/-- The slots a trigger fires, each once (R173); every firing is mirrored (R381). -/
def fireSlots (s : State) (trigger t : Nat) : State :=
  (List.range 256).foldl (fun s i =>
    if nbits (cycWord s i 0) 21 16 = trigger ∧ nbits (cycWord s i 0) 11 0 ≠ 0 then
      let (m, s) := mirrorRec s (.cyclic i t)
      fireSlot s t i m
    else s) s

end Sys2Proof.Machine
end

