-- ==== Sys2Proof/Machine/Runs.lean ====
section
/-! DEFINITION. Runs of mapping programs (chapter 5): starts, preemption, ends, faults, snapshots, output buffers, check codes; what the
micro-ops of Mapper.lean share. -/

namespace Sys2Proof.Machine

/-- A context of an engine: the class-0 one for `true`. -/
def ctx (s : State) (e : Nat) (first : Bool) : Option Run := if first then (engine s e).c0 else (engine s e).sh

/-- Store a context. -/
def setCtx (s : State) (e : Nat) (first : Bool) (r : Option Run) : State :=
  let en := engine s e
  setEngine s e (if first then { en with c0 := r } else { en with sh := r })

/-- Whether a context holds a run that has not ended. -/
def going (r : Option Run) : Bool :=
  match r with
  | some r => r.ended.isNone
  | none => false

/-- The context whose run executes now: class 0 first, then a shared run that neither waits nor is preempted (R148). -/
def activeCtx (s : State) (e : Nat) : Option (Bool × Run) :=
  let en := engine s e
  match en.c0 with
  | some r => if r.ended.isNone then some (true, r) else
      (en.sh.filter (fun r => r.ended.isNone && r.waiting.isNone && r.since.isSome)).map (fun r => (false, r))
  | none => (en.sh.filter (fun r => r.ended.isNone && r.waiting.isNone && r.since.isSome)).map (fun r => (false, r))

/-- The shared run stops being metered: class 0 runs (R148, R178). -/
def pauseShared (s : State) (e : Nat) : State :=
  match (engine s e).sh with
  | some r => match r.since with
    | some t => setCtx s e false (some { r with metered := r.metered + since s t, since := none })
    | none => s
  | none => s

/-- The shared run resumes when no class-0 run is ready in the engine (R148). -/
def resumeShared (s : State) (e : Nat) : State :=
  let en := engine s e
  let zeroReady := going en.c0 || (en.c0.isNone && en.queue.any c0)
  match en.sh with
  | some r => if zeroReady = true ∨ r.ended.isSome ∨ r.since.isSome then s else setCtx s e false (some { r with since := some (now s) })
  | none => s

/-- The run time limit in stamp units (R175, R178). -/
def runLimit (s : State) (x : Sent) : Nat :=
  let t := nbits (progWord s x.tag x.prog 2) 15 0
  if t = 0 then worstSteps s x.tag x.prog * 32 + 8000 else t * 40

/-- A run begins (R150): registers and flags clear, no output open, no stream snapshotted. -/
def newRun (s : State) (x : Sent) : Run :=
  { prog := x.prog, input := x, pc := 0, w := [0, 0, 0, 0, 0, 0, 0, 0], abs := false, rng := false, sat := false
    outs := [none, none, none, none], cur := none, snaps := [], metered := 0, since := some (now s), waiting := none
    tMax := runLimit s x, ended := none }

/-- A run of the sub-queue's head begins in a free context. -/
def startRun (s : State) (e : Nat) (first : Bool) : State :=
  match takeFirst (fun x => decide (c0 x = first)) (engine s e).queue with
  | some (x, rest) => setCtx (setEngine s e { engine s e with queue := rest }) e first (some (newRun s x))
  | none => s

/-- MAP_RUN_START (R148, R150): a shared run starts while no class-0 run executes or is ready; a class-0 run starts here where no shared
run executes. -/
def execMapRunStart (e : Nat) (first : Bool) (s : State) : Res :=
  .next (
    let en := engine s e
    let zeroReady := going en.c0 || (en.c0.isNone && en.queue.any c0)
    let sharedRuns : Bool := match en.sh with
      | some r => r.ended.isNone && r.waiting.isNone && r.since.isSome
      | none => false
    if en.state ≠ 1 ∨ e > 15 then s
    else if first then
      if en.c0.isSome ∨ sharedRuns = true ∨ en.queue.any c0 = false then s else startRun (pauseShared s e) e true
    else if en.sh.isSome ∨ zeroReady = true then s else startRun s e false)

/-- CLASS0_PREEMPT (R148): the shared run stops at the step boundary and the class-0 run begins. -/
def execClass0Preempt (e : Nat) (s : State) : Res :=
  .next (
    let en := engine s e
    let sharedRuns : Bool := match en.sh with
      | some r => r.ended.isNone && r.waiting.isNone && r.since.isSome
      | none => false
    if en.state ≠ 1 ∨ e > 15 ∨ en.c0.isSome ∨ sharedRuns = false ∨ en.queue.any c0 = false then s
    else startRun (pauseShared s e) e true)

/-- The buffer bytes of a run's input without what was reserved for outputs. -/
def inputBytes (s : State) (x : Sent) : Nat := x.buf - outReserve s x.tag x.prog

/-- A run ends with a commit group (R147, R148, R191): what the group does not use returns to the leaf; the context is free at once
where the group is empty. -/
def endRun (s : State) (e : Nat) (first : Bool) (r : Run) (group : List Sent) : State :=
  let g := s.map.nextGroup
  let group := group.map (fun x => { x with group := g })
  let unused := r.input.buf - (group.map (·.buf)).sum
  let s := bufSub { s with map := { s.map with nextGroup := g + 1 } } r.input.blk unused
  let s := if group = [] then setCtx s e first none
    else setCtx s e first (some { r with since := none, ended := some { group := group } })
  resumeShared s e

/-- The input as it is forwarded (R172). -/
def forwarded (s : State) (x : Sent) : List Sent :=
  if x.slot.isSome then [] else [{ x with buf := inputBytes s x, mapped := false }]

/-- A run is aborted (R172, R177, R178): cause 7 is RANGE, 8 OVERTIME. -/
def abortRun (s : State) (e : Nat) (first : Bool) (r : Run) (cause : Nat) : State :=
  let s := { s with map := { s.map with faultProg := r.prog, faultIndex := r.pc, faultCause := cause } }
  let s := if cause = 7 then report (cnt s Reg.MAP_CNT_RANGE) Ev.MAP_RANGE r.prog 0
    else if cause = 8 then report (cnt s Reg.MAP_CNT_OVERTIME) Ev.MAP_OVERTIME r.prog 0
    else report (cnt s Reg.MAP_CNT_TRAP) Ev.MAP_TRAP r.prog 0
  let p := prog s r.prog
  let k := if cause = 7 then 0 else satAdd 255 p.consecutive 1
  let limit := nbits (progWord s s.tag r.prog 1) 15 8
  let p := { p with aborts := satAdd 0xFFFFFFFF p.aborts 1, consecutive := k
                    state := if limit ≠ 0 ∧ k ≥ limit then 3 else p.state }
  let s := setProg s r.prog p
  if progBit s r.input.tag r.prog 3 then endRun s e first r (forwarded s r.input)
  else endRun (brgLose s r.input 3) e first r []

/-- What a micro-op does to its run: it goes on (`sat` where a result saturated), waits for DRAM, is aborted, or ends. -/
inductive OpRes where
  | go (r : Run) (sat : Bool)
  | wait (r : Run)
  | abort (cause : Nat)
  | fin (emit : Bool)
deriving DecidableEq, Repr

/-- Two stretches of bytes meet. -/
def overlaps (a n b m : Nat) : Bool := decide (a < b + m ∧ b < a + n)

/-- Bytes of a marker format (R170). -/
def markLen (f : Nat) : Nat := if f = 2 then 10 else if f = 3 then 4 else 8

/-- The deferred codes of an output (R170): those whose covered range meets a marker. A code of kind 0 to 5 stands with its start, end
and position. -/
def deferredOf (b : OutBuf) : List (Nat × Nat × Nat × Nat) :=
  b.csums.filter (fun c => b.marks.any (fun m => overlaps c.2.1 (c.2.2.1 - c.2.1) m.2 (markLen m.1)))

/-- The outputs a run emits (R165, R171). -/
def emitted (s : State) (r : Run) : List Sent :=
  (List.range 4).filterMap (fun o =>
    match r.outs.getD o none with
    | none => none
    | some b =>
      let id := progOut s r.input.tag r.prog o
      let g := strmCfg s r.input.tag id
      if b.bytes = [] then none
      else some { r.input with
        payload := b.bytes, key := g.key, seq := none, stream := id, cls := g.cls, node := g.node, fset := g.fset, prog := 0
        dset := g.dset, mapped := true, index := 0, buf := b.bytes.length, marks := b.marks, defer := (deferredOf b).head?
        stripped := false, held := none, outNo := some o })

/-- A run ends with END or DROP (R164, R165, R172). -/
def finishRun (s : State) (e : Nat) (first : Bool) (r : Run) (emit : Bool) : State :=
  if emit = true ∧ r.outs.any (fun b => match b with
      | some b => decide ((deferredOf b).length > 1)
      | none => false) = true then abortRun s e first r 6
  else
    let p := prog s r.prog
    let s := setProg s r.prog { p with runs := satAdd 0xFFFFFFFF p.runs 1, consecutive := 0 }
    let s := if emit then s else cnt s Reg.MAP_CNT_DROP
    let fwd := if progBit s r.input.tag r.prog 2 then forwarded s r.input else []
    endRun s e first r (fwd ++ (if emit then emitted s r else []))

/-- What a micro-op has done takes effect (R160, R177). -/
def applyOp (s : State) (e : Nat) (first : Bool) (r : Run) (res : OpRes) : State :=
  match res with
  | .go r' sat =>
    let s := if sat = true ∧ r.sat = false then report (cnt s Reg.MAP_CNT_SATURATE) Ev.MAP_SATURATE r.prog 0 else s
    setCtx s e first (some { r' with pc := r'.pc + 1, sat := r'.sat || sat })
  | .wait r' => setCtx s e first (some r')
  | .abort c => abortRun s e first r c
  | .fin emit => finishRun s e first r emit

/-- The active run of an engine executes a micro-op of opcode `code` (R151, R152); nothing happens where its next one is another. -/
def stepOp (s : State) (e code : Nat) (f : Run → Nat → OpRes) : State :=
  match activeCtx s e with
  | none => s
  | some (first, r) =>
    let w := microOp s r.input.tag r.prog r.pc
    if r.pc ≥ progLen s r.input.tag r.prog ∨ nbits w 63 58 ≠ code then s else applyOp s e first r (f r w)

/-- Register rd of a micro-op, as a number. -/
def opRd (w : Nat) : Nat := nbits w 57 55
/-- Register rs. -/
def opRs (w : Nat) : Nat := nbits w 54 52
/-- Bit `i` of the word (mod bits are 48 to 51). -/
def opBit (w i : Nat) : Bool := w.testBit i
/-- A working register. -/
def reg (r : Run) (i : Nat) : Int := r.w.getD i 0
/-- Write a working register. -/
def setReg (r : Run) (i : Nat) (v : Int) : Run := { r with w := r.w.set i v }

/-- A result that saturates to 64 bits (R160). -/
def sat64 (r : Run) (i : Nat) (v : Int) : OpRes :=
  .go (setReg r i (clampZ (-(2 : Int) ^ 63) ((2 : Int) ^ 63 - 1) v)) (!fits64 v)

/-- A result that never saturates. -/
def put64 (r : Run) (w : Nat) (v : Int) : OpRes := .go (setReg r (opRd w) v) false

/-- A load (R155): an absent field sets rd to 0 and ABS, or aborts where `trap` says so. -/
def load (r : Run) (w : Nat) (trap : Bool) (v : Option Int) : OpRes :=
  match v with
  | some v => .go { setReg r (opRd w) v with abs := false } false
  | none => if trap then .abort 7 else .go { setReg r (opRd w) 0 with abs := true } false

/-- The input's data area; empty in a cyclic run. -/
def runArea (s : State) (r : Run) : Bytes := if r.input.slot.isSome then [] else sentArea s r.input

/-- A text field of the input (R154): absent outside key kinds 0x01 and 0x09. -/
def runText (s : State) (r : Run) (k : Nat) : Option Bytes :=
  if r.input.slot.isNone ∧ (byteAt r.input.key 0 = 1 ∨ byteAt r.input.key 0 = 9) then textField (runArea s r) k else none

/-- A quotient of integers rounded by a mode (R161). -/
def roundQ (mode : Nat) (n d : Int) : Int := if d < 0 then roundDiv mode (-n) (-d).toNat else roundDiv mode n d.toNat

/-- The snapshot of a stream in a run, taken where there is none yet (R157); none where it would be the fifth. -/
def snap (s : State) (r : Run) (id : Nat) : Option (Snap × Run) :=
  match r.snaps.find? (fun p => decide (p.stream = id)) with
  | some p => some (p, r)
  | none =>
    let st := strm s id
    let p : Snap := { stream := id, lvState := st.lvState, lvLen := st.lvLen, lvStamp := st.lvStamp, lvIndex := st.lvIndex
                      lvHalf := st.lvHalf, line := st.line, commits := tget s.map.commits id, deep := none }
    if r.snaps.length ≥ 4 then none else some (p, { r with snaps := r.snaps ++ [p] })

/-- Whether a snapshot holds a value. -/
def present (p : Snap) : Bool := decide (p.lvState = 1 ∨ p.lvState = 2)

/-- The age of a snapshotted value in µs (R158). -/
def snapAge (s : State) (p : Snap) : Nat := since s p.lvStamp / 4000

/-- Member `m` of a source list and the list's max_age (R159). -/
def listMember (s : State) (tag l m : Nat) : Nat := leNat (cBytes s tag 4 (2363392 + 16 * l + 2 * m) 2)

/-- The stream an LDV or LVA names (R159): 0 for none. -/
def lvStream (s : State) (r : Run) (w : Nat) : Nat :=
  if opBit w 48 then
    let m := reg r (opRs w)
    if 0 ≤ m ∧ m ≤ 3 then listMember s r.input.tag (nbits w 47 40) m.toNat else 0
  else nbits w 47 32

/-- LDV (R158) on a run whose snapshot is at hand. -/
def ldvField (s : State) (r : Run) (w : Nat) (p : Snap) : OpRes :=
  let off := nbits w 31 21
  let bits_ := nbits w 20 18 + nbits w 17 11
  let last := off + (bits_ + 7) / 8
  let trap := opBit w 49
  let field (bs : Bytes) : Option Int :=
    binField (bs.take p.lvLen) off (nbits w 20 18) (nbits w 17 11) (opBit w 51) (opBit w 50)
  if present p = false ∨ last > p.lvLen then load r w trap none
  else if last ≤ 64 then load r w trap (field p.line)
  else if (strmCfg s r.input.tag p.stream).lvcDram = false then load r w trap none
  else match p.deep with
    | some bs => load r w trap (field bs)
    | none => .wait { r with waiting := some p.stream }

/-- The current output. -/
def curOut (r : Run) : Option (Nat × OutBuf) := r.cur.bind (fun o => (r.outs.getD o none).map (fun b => (o, b)))

/-- Store an output. -/
def setOut (r : Run) (o : Nat) (b : OutBuf) : Run := { r with outs := r.outs.set o (some b) }

/-- A micro-op that writes to the current output: NO_OUTPUT where none is open. -/
def onOut (r : Run) (f : Nat → OutBuf → OpRes) : OpRes :=
  match curOut r with
  | some (o, b) => f o b
  | none => .abort 3

/-- Bytes are written at the cursor (R168): OUT_OVERFLOW where the output grows too long. -/
def append (s : State) (r : Run) (o : Nat) (b : OutBuf) (bs : Bytes) : OpRes :=
  let n := b.bytes.length + bs.length
  if n > 2048 ∨ n > outMax s r.input.tag r.prog o then .abort 4 else .go (setOut r o { b with bytes := b.bytes ++ bs }) false

/-- A field of `width` bits is put into bytes by the bit rules of R124. -/
def putField (bs : Bytes) (off bitNo width : Nat) (le : Bool) (v : Nat) : Bytes :=
  let n := (bitNo + width + 7) / 8
  let sh := if le then bitNo else 8 * n - bitNo - width
  let old := if le then leAt bs off n else beAt bs off n
  let cleared := old - ((old >>> sh) % 2 ^ width) * 2 ^ sh
  let new := cleared + (v % 2 ^ width) * 2 ^ sh
  overlay bs off (if le then toLE n new else toBE n new)

/-- `n` in decimal digits, least significant last; `fuel` bounds their number. -/
def digitsOf : Nat → Nat → Bytes
  | 0, _ => []
  | f + 1, n => (if n < 10 then [] else digitsOf f (n / 10)) ++ [BitVec.ofNat 8 (0x30 + n % 10)]

/-- `n` in decimal, at least `w` digits. -/
def decimal (w n : Nat) : Bytes := let d := digitsOf 20 n
  List.replicate (w - d.length) 0x30#8 ++ d

/-- An uppercase hexadecimal digit. -/
def hexDigit (n : Nat) : Byte := BitVec.ofNat 8 (if n < 10 then 0x30 + n else 0x37 + n)

/-- The check code of kinds 1 to 5 over bytes, as it is written (R169). -/
def checkCode (kind : Nat) (bs : Bytes) : Bytes :=
  match kind with
  | 1 => toLE 1 (sumBytes 8 bs)
  | 2 => toLE 1 (xorBytes bs)
  | 3 => toLE 2 (crc16 bs)
  | 4 => toLE 2 (fcs16 bs)
  | _ => toLE 4 (crc32 bs)

end Sys2Proof.Machine
end

