-- ==== Sys2Proof/Machine/Mapper.lean ====
section
/-! DEFINITION. The mapper's commands (chapter 5): the micro-ops, overtime, hand-over, engines, programs, cyclic slots. -/

namespace Sys2Proof.Machine

/-- END (R165). -/
def execOpEnd (e : Nat) (s : State) : Res := .next (stepOp s e 0x01 (fun _ _ => .fin true))

/-- DROP (R165). -/
def execOpDrop (e : Nat) (s : State) : Res := .next (stepOp s e 0x02 (fun _ _ => .fin false))

/-- The skip conditions of R164. -/
def skips (r : Run) (w : Nat) : Bool :=
  let v := reg r (opRd w)
  match nbits w 51 48 with
  | 0 => true
  | 1 => r.abs
  | 2 => !r.abs
  | 3 => decide (v = 0)
  | 4 => decide (v ≠ 0)
  | 5 => decide (v < 0)
  | 6 => decide (v > 0)
  | 7 => r.rng
  | 8 => r.sat
  | _ => false

/-- SKIP (R164). -/
def execOpSkip (e : Nat) (s : State) : Res :=
  .next (stepOp s e 0x03 (fun r w => .go (if skips r w then { r with pc := r.pc + nbits w 7 0 } else r) false))

/-- LDC (R152). -/
def execOpLdc (e : Nat) (s : State) : Res := .next (stepOp s e 0x04 (fun r w => put64 r w (sext 48 (nbits w 47 0))))

/-- Run values (R156). (DEDUCED: log 26) -/
def runValue (s : State) (r : Run) (sel : Nat) : Option Int :=
  let x := r.input
  let cyc := x.slot.isSome
  match sel with
  | 0 => some (Int.ofNat x.stamp)
  | 1 => some (Int.ofNat x.endT)
  | 2 => some (if cyc then 0 else Int.ofNat x.stream)
  | 3 => some (Int.ofNat x.src)
  | 4 => some (Int.ofNat x.payload.length)
  | 5 => if cyc = false ∧ (byteAt x.key 0 = 7 ∨ byteAt x.key 0 = 8) then x.seq.map Int.ofNat else none
  | 6 => some (Int.ofNat (now s))
  | 7 => some (if cyc then Int.ofNat x.index else 0)
  | 8 => some (Int.ofNat (utcMillis s x.stamp))
  | _ => some (Int.ofNat (runArea s r).length)

/-- LDS (R156): stamps are read as signed 64-bit numbers. (DEDUCED: log 26) -/
def execOpLds (e : Nat) (s : State) : Res :=
  .next (stepOp s e 0x05 (fun r w => load r w false ((runValue s r (nbits w 3 0)).map (fun v => sext 64 (twos 64 v)))))

/-- LDB (R153). -/
def execOpLdb (e : Nat) (s : State) : Res :=
  .next (stepOp s e 0x06 (fun r w =>
    load r w (opBit w 49) (binField (runArea s r) (nbits w 47 34) (nbits w 33 31) (nbits w 30 24) (opBit w 51) (opBit w 50))))

/-- LDT (R154). -/
def execOpLdt (e : Nat) (s : State) : Res :=
  .next (stepOp s e 0x07 (fun r w =>
    load r w (opBit w 49) ((runText s r (nbits w 47 40)).bind (fun f => textDecimal f (nbits w 39 36)))))

/-- LDTM (R154). -/
def execOpLdtm (e : Nat) (s : State) : Res :=
  .next (stepOp s e 0x08 (fun r w => load r w (opBit w 49) ((runText s r (nbits w 47 40)).bind textTime)))

/-- LDCH (R154): an empty field has no first character. -/
def execOpLdch (e : Nat) (s : State) : Res :=
  .next (stepOp s e 0x09 (fun r w =>
    load r w (opBit w 49) ((runText s r (nbits w 47 40)).bind (fun f => f.head?.map (fun b => Int.ofNat b.toNat)))))

/-- LDV (R157 to R159). -/
def execOpLdv (e : Nat) (s : State) : Res :=
  .next (stepOp s e 0x0A (fun r w =>
    let id := lvStream s r w
    if id = 0 then load r w (opBit w 49) none
    else match snap s r id with
      | none => .abort 5
      | some (p, r) => ldvField s r w p))

/-- LDV_DRAM_READ_COMPLETE (R158): the half named in the snapshot arrives, absent where the stream has committed twice; the LDV completes. -/
def execLdvDramReadComplete (e : Nat) (s : State) : Res :=
  .next (
    let done (first : Bool) : Option State :=
      match ctx s e first with
      | none => none
      | some r => r.waiting.map (fun id =>
          let st := strm s id
          let fill (p : Snap) : Snap :=
            if p.stream ≠ id then p
            else { p with deep := some (if tget s.map.commits id ≥ p.commits + 2 then [] else if p.lvHalf then st.ovf1 else st.ovf0) }
          let r := { r with waiting := none, snaps := r.snaps.map fill }
          let w := microOp s r.input.tag r.prog r.pc
          match r.snaps.find? (fun p => decide (p.stream = id)) with
          | some p => resumeShared (applyOp (setCtx s e first (some r)) e first r (ldvField s r w p)) e
          | none => s)
    (done false).getD s)

/-- LVA (R158, R159). -/
def execOpLva (e : Nat) (s : State) : Res :=
  .next (stepOp s e 0x0B (fun r w =>
    let id := lvStream s r w
    if id = 0 then load r w false none
    else match snap s r id with
      | none => .abort 5
      | some (p, r) => load r w false (if present p then some (Int.ofNat (snapAge s p)) else none)))

/-- The first fresh member from `m` on (R159): none where a fifth snapshot would be taken. -/
def freshMember (s : State) (l maxAge : Nat) : Nat → Nat → Run → Option (Option Nat × Run)
  | 0, _, r => some (none, r)
  | f + 1, m, r =>
    let id := listMember s r.input.tag l m
    if id = 0 then some (none, r)
    else match snap s r id with
      | none => none
      | some (p, r) =>
        if present p = true ∧ snapAge s p ≤ maxAge then some (some m, r) else freshMember s l maxAge f (m + 1) r

/-- SRCL (R159). -/
def execOpSrcl (e : Nat) (s : State) : Res :=
  .next (stepOp s e 0x0C (fun r w =>
    let l := nbits w 47 40
    match freshMember s l (leNat (cBytes s r.input.tag 4 (2363392 + 16 * l + 8) 4)) 4 0 r with
    | none => .abort 5
    | some (some m, r) => .go { setReg r (opRd w) (Int.ofNat m) with abs := false } false
    | some (none, r) => .go { setReg r (opRd w) (-1) with abs := true } false))

/-- MOV (R152). -/
def execOpMov (e : Nat) (s : State) : Res := .next (stepOp s e 0x10 (fun r w => put64 r w (reg r (opRs w))))

/-- ADD (R160). -/
def execOpAdd (e : Nat) (s : State) : Res :=
  .next (stepOp s e 0x11 (fun r w => sat64 r (opRd w) (reg r (opRd w) + reg r (opRs w))))

/-- SUB (R160). -/
def execOpSub (e : Nat) (s : State) : Res :=
  .next (stepOp s e 0x12 (fun r w => sat64 r (opRd w) (reg r (opRd w) - reg r (opRs w))))

/-- ADDI (R160). -/
def execOpAddi (e : Nat) (s : State) : Res :=
  .next (stepOp s e 0x13 (fun r w => sat64 r (opRd w) (reg r (opRd w) + sext 48 (nbits w 47 0))))

/-- MUL (R161). -/
def execOpMul (e : Nat) (s : State) : Res :=
  .next (stepOp s e 0x14 (fun r w =>
    sat64 r (opRd w) (roundDiv (nbits w 49 48) (reg r (opRd w) * reg r (opRs w)) (2 ^ nbits w 15 10))))

/-- DIV (R161): DIV_ZERO where rs is 0. -/
def execOpDiv (e : Nat) (s : State) : Res :=
  .next (stepOp s e 0x15 (fun r w =>
    if reg r (opRs w) = 0 then .abort 1
    else sat64 r (opRd w) (roundQ (nbits w 49 48) (reg r (opRd w) * 2 ^ nbits w 15 10) (reg r (opRs w)))))

/-- SCALE (R161). -/
def execOpScale (e : Nat) (s : State) : Res :=
  .next (stepOp s e 0x16 (fun r w =>
    sat64 r (opRd w) (roundDiv (nbits w 49 48) (reg r (opRs w) * sext 32 (nbits w 47 16)) (2 ^ nbits w 15 10))))

/-- MIN (R160). -/
def execOpMin (e : Nat) (s : State) : Res :=
  .next (stepOp s e 0x17 (fun r w => put64 r w (min (reg r (opRd w)) (reg r (opRs w)))))

/-- MAX (R160). -/
def execOpMax (e : Nat) (s : State) : Res :=
  .next (stepOp s e 0x18 (fun r w => put64 r w (max (reg r (opRd w)) (reg r (opRs w)))))

/-- ABS (R160). -/
def execOpAbs (e : Nat) (s : State) : Res :=
  .next (stepOp s e 0x19 (fun r w => sat64 r (opRd w) (Int.ofNat (reg r (opRs w)).natAbs)))

/-- NEG (R160). -/
def execOpNeg (e : Nat) (s : State) : Res := .next (stepOp s e 0x1A (fun r w => sat64 r (opRd w) (-(reg r (opRs w)))))

/-- AND (R152). -/
def execOpAnd (e : Nat) (s : State) : Res :=
  .next (stepOp s e 0x1B (fun r w => put64 r w (sext 64 (twos 64 (reg r (opRd w)) &&& twos 64 (reg r (opRs w))))))

/-- OR (R152). -/
def execOpOr (e : Nat) (s : State) : Res :=
  .next (stepOp s e 0x1C (fun r w => put64 r w (sext 64 (twos 64 (reg r (opRd w)) ||| twos 64 (reg r (opRs w))))))

/-- XOR (R152). -/
def execOpXor (e : Nat) (s : State) : Res :=
  .next (stepOp s e 0x1D (fun r w => put64 r w (sext 64 (twos 64 (reg r (opRd w)) ^^^ twos 64 (reg r (opRs w))))))

/-- ANDI (R152): the operand is zero-extended. -/
def execOpAndi (e : Nat) (s : State) : Res :=
  .next (stepOp s e 0x1E (fun r w => put64 r w (sext 64 (twos 64 (reg r (opRd w)) &&& nbits w 47 0))))

/-- ORI (R152). -/
def execOpOri (e : Nat) (s : State) : Res :=
  .next (stepOp s e 0x1F (fun r w => put64 r w (sext 64 (twos 64 (reg r (opRd w)) ||| nbits w 47 0))))

/-- EQI (R152). -/
def execOpEqi (e : Nat) (s : State) : Res :=
  .next (stepOp s e 0x20 (fun r w => put64 r w (if reg r (opRd w) = sext 48 (nbits w 47 0) then 1 else 0)))

/-- RCHK (R162). -/
def execOpRchk (e : Nat) (s : State) : Res :=
  .next (stepOp s e 0x21 (fun r w =>
    let v := reg r (opRd w)
    if sext 24 (nbits w 47 24) ≤ v ∧ v ≤ sext 24 (nbits w 23 0) then .go r false
    else if opBit w 48 then .abort 7 else .go { r with rng := true } false))

/-- A point of an interpolation table (R163). -/
def interpPoint (s : State) (tag t i : Nat) : Int × Int :=
  let b := cBytes s tag 4 (2228224 + 264 * t + 8 + 8 * i) 8
  (sext 32 (leAt b 0 4), sext 32 (leAt b 4 4))

/-- The line through points i and i + 1 at x (R163). -/
def interpLine (s : State) (tag t i : Nat) (x : Int) : Int :=
  let a := interpPoint s tag t i
  let b := interpPoint s tag t (i + 1)
  a.2 + roundQ 0 ((x - a.1) * (b.2 - a.2)) (b.1 - a.1)

/-- INTERP (R163). -/
def execOpInterp (e : Nat) (s : State) : Res :=
  .next (stepOp s e 0x22 (fun r w =>
    let tag := r.input.tag
    let t := nbits w 47 39
    let x := reg r (opRs w)
    let n := leNat (cBytes s tag 4 (2228224 + 264 * t) 1)
    let last := n - 1
    let below := decide (x < (interpPoint s tag t 0).1)
    let above := decide (x > (interpPoint s tag t last).1)
    if below || above then
      match nbits w 49 48 with
      | 0 => sat64 r (opRd w) (interpPoint s tag t (if below then 0 else last)).2
      | 1 => sat64 r (opRd w) (interpLine s tag t (if below then 0 else n - 2) x)
      | _ => .abort 7
    else if x = (interpPoint s tag t last).1 then sat64 r (opRd w) (interpPoint s tag t last).2
    else
      let i := ((List.range last).filter (fun i => decide ((interpPoint s tag t i).1 ≤ x))).length - 1
      sat64 r (opRd w) (interpLine s tag t i x)))

/-- NEWO (R166). -/
def execOpNewo (e : Nat) (s : State) : Res :=
  .next (stepOp s e 0x28 (fun r w =>
    let o := nbits w 47 46
    let b : OutBuf := { bytes := List.replicate (nbits w 45 34) (BitVec.ofNat 8 (nbits w 33 26)), marks := [], csums := [] }
    .go { setOut r o b with cur := some o } false))

/-- SELO (R166). -/
def execOpSelo (e : Nat) (s : State) : Res :=
  .next (stepOp s e 0x29 (fun r w => .go { r with cur := some (nbits w 47 46) } false))

/-- CPY (R167): bytes beyond the data area are 0 and set ABS. -/
def execOpCpy (e : Nat) (s : State) : Res :=
  .next (stepOp s e 0x2A (fun r w => onOut r (fun o b =>
    let n := nbits w 21 10
    let src := slice (runArea s r) (nbits w 47 34) n
    if nbits w 33 22 + n > b.bytes.length then .abort 2
    else
      let b := { b with bytes := overlay b.bytes (nbits w 33 22) (padTo n 0#8 src) }
      .go { setOut r o b with abs := r.abs || decide (src.length < n) } false)))

/-- STB (R167). -/
def execOpStb (e : Nat) (s : State) : Res :=
  .next (stepOp s e 0x2B (fun r w => onOut r (fun o b =>
    let off := nbits w 47 34
    let bitNo := nbits w 33 31
    let width := nbits w 30 24
    let v := reg r (opRs w)
    let lo : Int := if opBit w 51 then -(2 : Int) ^ (width - 1) else 0
    let hi : Int := if opBit w 51 then (2 : Int) ^ (width - 1) - 1 else if width = 64 then (2 : Int) ^ 63 - 1 else (2 : Int) ^ width - 1
    let v' := if opBit w 49 then v else clampZ lo hi v
    if 8 * off + bitNo + width > 8 * b.bytes.length then .abort 2
    else .go (setOut r o { b with bytes := putField b.bytes off bitNo width (opBit w 50) (twos 64 v') }) (decide (v' ≠ v)))))

/-- STT (R168). -/
def execOpStt (e : Nat) (s : State) : Res :=
  .next (stepOp s e 0x2C (fun r w => onOut r (fun o b =>
    let v := reg r (opRs w)
    let d := nbits w 47 44
    let sign : Bytes := if v < 0 then [0x2D#8] else if v > 0 ∧ opBit w 51 then [0x2B#8] else []
    let frac : Bytes := if d > 0 then [0x2E#8] ++ decimal d (v.natAbs % 10 ^ d) else []
    if opBit w 50 ∧ r.abs then .go r false
    else append s r o b (sign ++ decimal (max 1 (nbits w 43 40)) (v.natAbs / 10 ^ d) ++ frac))))

/-- STM (R168): the leap second is 235960. -/
def execOpStm (e : Nat) (s : State) : Res :=
  .next (stepOp s e 0x2D (fun r w => onOut r (fun o b =>
    let v := reg r (opRs w)
    let n := v.toNat
    let f := nbits w 47 44
    let hms : Bytes := if n ≥ 86400000 then ascii "235960"
      else decimal 2 (n / 3600000) ++ decimal 2 (n / 60000 % 60) ++ decimal 2 (n / 1000 % 60)
    let frac : Bytes := if f > 0 then [0x2E#8] ++ (decimal 3 (n % 1000)).take f else []
    if v < 0 ∨ v > 86400999 then .abort 7 else append s r o b (hms ++ frac))))

/-- APC (R168). -/
def execOpApc (e : Nat) (s : State) : Res :=
  .next (stepOp s e 0x2E (fun r w => onOut r (fun o b =>
    append s r o b ((toBE 6 (nbits w 47 0)).filter (fun c => !decide (c = 0#8))))))

/-- APF (R168). -/
def execOpApf (e : Nat) (s : State) : Res :=
  .next (stepOp s e 0x2F (fun r w => onOut r (fun o b =>
    match runText s r (nbits w 47 40) with
    | some f => append s r o b f
    | none => .go { r with abs := true } false)))

/-- CSUM of kind 0 (R169): the IEC checksum and its terminator. -/
def csumIec (s : State) (r : Run) (o : Nat) (b : OutBuf) : OpRes :=
  let i := scanFrom (fun c => decide (c = 0x24#8 ∨ c = 0x21#8)) b.bytes 0
  if i ≥ b.bytes.length then .abort 2
  else
    let v := xorBytes (b.bytes.drop (i + 1))
    let n := b.bytes.length
    append s r o { b with csums := b.csums ++ [(0, i + 1, n, n + 1)] }
      [0x2A#8, hexDigit (v / 16), hexDigit (v % 16), 0x0D#8, 0x0A#8]

/-- CSUM (R169). (DEDUCED: log 26) -/
def execOpCsum (e : Nat) (s : State) : Res :=
  .next (stepOp s e 0x30 (fun r w => onOut r (fun o b =>
    let kind := nbits w 47 44
    let start := nbits w 43 32
    let fin := if nbits w 31 20 = 0 then b.bytes.length else nbits w 31 20
    let pos := nbits w 19 8
    if kind = 0 then csumIec s r o b
    else
      let code := checkCode kind (slice b.bytes start (fin - start))
      if fin > b.bytes.length ∨ pos + code.length > b.bytes.length ∨ overlaps start (fin - start) pos code.length = true then .abort 2
      else .go (setOut r o { b with bytes := overlay b.bytes pos code, csums := b.csums ++ [(kind, start, fin, pos)] }) false)))

/-- STMK (R170). -/
def execOpStmk (e : Nat) (s : State) : Res :=
  .next (stepOp s e 0x31 (fun r w => onOut r (fun o b =>
    let f := nbits w 47 44
    let off := nbits w 43 32
    if b.marks.length ≥ 2 ∨ off + markLen f > b.bytes.length then .abort 6
    else .go (setOut r o { b with bytes := overlay b.bytes off (List.replicate (markLen f) 0#8), marks := b.marks ++ [(f, off)] }) false)))

/-- A run's metered time (R178). -/
def meteredTime (s : State) (r : Run) : Nat :=
  r.metered + (match r.since with
    | some t => since s t
    | none => 0)

/-- MAP_OVERTIME (R178): the run that executes, or waits for DRAM, has passed its limit. -/
def execMapOvertime (e : Nat) (s : State) : Res :=
  .next (
    let late (first : Bool) : Option State :=
      match ctx s e first with
      | some r => if r.ended.isNone ∧ r.since.isSome ∧ meteredTime s r > r.tMax then some (abortRun s e first r 8) else none
      | none => none
    ((late true).orElse (fun _ => late false)).getD s)

/-- A group enters the commit intake sentence by sentence; none where a credit is missing (R22). -/
def intakeGroup (first : Bool) : List Sent → List Sent → Option (List Sent)
  | q, [] => some q
  | q, x :: t => match credit q 256 64 first with
    | some o => intakeGroup first (q ++ [{ x with oasis := o }]) t
    | none => none

/-- COMMIT_GROUP_HANDOVER (R22, R148): a group that holds a class-0 sentence may use the class-0 sub-queue. -/
def execCommitGroupHandover (e : Nat) (first : Bool) (s : State) : Res :=
  .next (
    match (ctx s e first).bind (·.ended) with
    | none => s
    | some g => match intakeGroup (g.group.any c0) s.com.intake g.group with
      | none => s
      | some q => resumeShared (setCtx { s with com := { s.com with intake := q } } e first none) e)

/-- An engine is taken out (R181); the last serving engine is not. -/
def engineOut (s : State) (e : Nat) : State :=
  if e > 15 ∨ engServes s e = false ∨ enginesServing s ≤ 1 then s else setEngine s e { engine s e with emptying := true }

/-- An engine's return is asked for (R181): one still emptying serves again at once, one taken out is tested first. -/
def engineBack (s : State) (e : Nat) : State :=
  let en := engine s e
  if e > 15 then s
  else if en.state = 1 ∧ en.emptying = true then setEngine s e { en with emptying := false }
  else if en.state = 2 then setEngine s e { en with testing := true } else s

/-- MAP_ENGINE_TAKE_OUT (R181). -/
def execMapEngineTakeOut (r : Req) (e : Nat) (s : State) : Res :=
  .next (gated s r Reg.MAP_ENGINE_CMD (fun s => engineOut s e))

/-- MAP_ENGINE_RETURN (R181). -/
def execMapEngineReturn (r : Req) (e : Nat) (s : State) : Res :=
  .next (gated s r Reg.MAP_ENGINE_CMD (fun s => engineBack s e))

/-- MAP_ENGINE_EMPTIED (R181). -/
def execMapEngineEmptied (e : Nat) (s : State) : Res :=
  .next (
    let en := engine s e
    if en.emptying = true ∧ en.queue = [] ∧ en.c0 = none ∧ en.sh = none then
      setEngine s e { en with state := 2, emptying := false, testing := false }
    else s)

/-- Whether a program is a class-0 program (R176). -/
def progC0 (s : State) (p : Nat) : Bool :=
  (imageIds s.cfg).any (fun id => decide ((imageStream s s.tag id).prog = p ∧ (imageStream s s.tag id).cls = 0)) ||
  (List.range 4).any (fun o => decide (progOut s s.tag p o ≠ 0 ∧ (strmCfg s s.tag (progOut s s.tag p o)).cls = 0)) ||
  (List.range 256).any (fun i => decide (nbits (cycWord s i 0) 11 0 = p ∧ ndClass s (nbits (cycWord s i 1) 12 0) = 0))

/-- A program command reaches its program; the steward's on a class-0 program is refused (R45). (DEDUCED: log 68) -/
def progGate (s : State) (r : Req) (p : Nat) (f : State → State) : State :=
  gated s r Reg.MAP_PROG_CMD (fun s =>
    if p = 0 ∨ p > 4095 ∨ progLen s s.tag p = 0 then s
    else if r = .steward ∧ progC0 s p = true then report s Ev.CFG_SWAP_REJECT noInst 0 else f s)

/-- Whether a run of a program is queued or running (R180). -/
def progBusy (s : State) (p : Nat) : Bool :=
  s.map.cycWait.any (fun x => decide (x.prog = p)) ||
  s.map.engines.any (fun e => e.2.queue.any (fun x => decide (x.prog = p)) || [e.2.c0, e.2.sh].any (fun r => match r with
    | some r => decide (r.prog = p) && r.ended.isNone
    | none => false))

/-- PROG_ENABLE (R179, R180). -/
def execProgEnable (r : Req) (p : Nat) (s : State) : Res :=
  .next (progGate s r p (fun s =>
    let x := prog s p
    setProg s p (if x.state = 3 then { x with state := 1, consecutive := 0 } else { x with state := 1 })))

/-- PROG_DISABLE (R180). -/
def execProgDisable (r : Req) (p : Nat) (s : State) : Res :=
  .next (progGate s r p (fun s =>
    let x := prog s p
    if x.state = 3 then setProg s p { x with state := 0, consecutive := 0 }
    else if x.state ≠ 1 then s
    else if progBusy s p then setProg s p { x with state := 2, drainAt := drainEnd s }
    else setProg s p { x with state := 0 }))

/-- PROG_CLEAR_COUNTERS. (DEDUCED: log 26) -/
def execProgClearCounters (r : Req) (p : Nat) (s : State) : Res :=
  .next (progGate s r p (fun s => setProg s p { prog s p with runs := 0, aborts := 0, drain := 0 }))

/-- PROG_DRAIN_COMPLETE (R180). -/
def execProgDrainComplete (p : Nat) (s : State) : Res :=
  .next (if (prog s p).state = 2 ∧ progBusy s p = false then setProg s p { prog s p with state := 0 } else s)

/-- Queued runs of a program leave an engine's queue. -/
def dropQueued (p : Nat) (s : State) (e : Nat) : State :=
  let en := engine s e
  let lost := en.queue.filter (fun x => decide (x.prog = p))
  let pr := prog s p
  let s := setEngine s e { en with queue := en.queue.filter (fun x => !decide (x.prog = p)) }
  lost.foldl sentFree (setProg s p { pr with drain := satAdd 0xFFFFFFFF pr.drain lost.length })

/-- PROG_DRAIN_LIMIT (R180): queued runs that have not started are drain loss. -/
def execProgDrainLimit (p : Nat) (s : State) : Res :=
  .next (
    if (prog s p).state ≠ 2 ∨ s.tim.boundaries < (prog s p).drainAt then s
    else
      let s := (List.range 16).foldl (dropQueued p) s
      let lost := s.map.cycWait.filter (fun x => decide (x.prog = p))
      let s := lost.foldl sentFree { s with map := { s.map with cycWait := s.map.cycWait.filter (fun x => !decide (x.prog = p)) } }
      let pr := prog s p
      setProg s p { pr with state := 0, drain := satAdd 0xFFFFFFFF pr.drain lost.length })

/-- A cyclic-slot command reaches its slot; the steward's on a slot under a class-0 leaf is refused (R45). (DEDUCED: log 68) -/
def cycGate (s : State) (r : Req) (i : Nat) (f : CycSlot → CycSlot) : State :=
  gated s r Reg.MAP_CYC_CMD (fun s =>
    if i > 255 then s
    else if r = .steward ∧ nbits (cycWord s i 0) 11 0 ≠ 0 ∧ ndClass s (nbits (cycWord s i 1) 12 0) = 0 then
      report s Ev.CFG_SWAP_REJECT noInst 0
    else { s with map := { s.map with cyc := tmod s.map.cyc i f } })

/-- CYC_ENABLE (R173). -/
def execCycEnable (r : Req) (i : Nat) (s : State) : Res := .next (cycGate s r i (fun c => { c with enabled := true }))

/-- CYC_DISABLE (R173). -/
def execCycDisable (r : Req) (i : Nat) (s : State) : Res := .next (cycGate s r i (fun c => { c with enabled := false }))

/-- CYC_CLEAR_OVERLAP (R174). -/
def execCycClearOverlap (r : Req) (i : Nat) (s : State) : Res := .next (cycGate s r i (fun c => { c with overlap := 0 }))

/-- MAP_CNT_CLEAR bit 0. -/
def execMapCntClearGlobal (r : Req) (s : State) : Res :=
  .next (gated s r Reg.MAP_CNT_CLEAR (fun s => clearRegs s Reg.MAP_CNT_SATURATE Reg.MAP_CNT_CYC_SKIP))

/-- MAP_CNT_CLEAR bit 1. -/
def execMapCntClearPrograms (r : Req) (s : State) : Res :=
  .next (gated s r Reg.MAP_CNT_CLEAR (fun s =>
    { s with map := { s.map with progs := tmap (fun _ x => { x with runs := 0, aborts := 0, drain := 0 }) s.map.progs } }))

end Sys2Proof.Machine
end

