-- ==== Sys2Proof/Machine/Triggers.lean ====
section
/-! DEFINITION. The firing of a time trigger (chapter 10): its pin, its cyclic slots, its vector. -/

namespace Sys2Proof.Machine

/-- TRIGGER_FIRE (R318, R324 to R327, R173): of several firings that a forward step passed one is made, at the present moment, and the
others are missed. (DEDUCED: log 45) -/
def execTriggerFire (t : Nat) (s : State) : Res :=
  .next (
    let x := trig s t
    match x.due with
    | none => s
    | some d =>
      if x.armed = false ∨ now s < d then s
      else
        let cfg := trigCfg s t
        let step := if trigPeriod s t then 0 else trigStep s t
        let passed := if step = 0 then 0 else (now s - d) / step
        let at_ := if passed = 0 then d else now s
        let again := s.tim.bound + 4 * (rd s (Reg.TIM_TRG_OFFSET t)).toNat
        let next := if trigPeriod s t then (if trigPhase s t s.tim.q = true ∧ again > at_ then some again else none)
          else if step = 0 then none else some (d + (passed + 1) * step)
        let pin := bit cfg 1
        let x := { x with due := next, armed := trigPeriod s t || decide (step ≠ 0), fired := (x.fired + 1) % 2 ^ 32
                          pulseEnd := if pin then some (at_ + 40 * bits cfg 15 8) else x.pulseEnd }
        let s := missTrig (setTrig s t x) t passed
        let s := if pin then emit s (.pin 0 (bits cfg 4 2) (!bit cfg 5)) else s
        let s := if isStandby s then s else fireSlots s t at_
        if bit cfg 6 then raiseAll s false 11 else s)

end Sys2Proof.Machine
end

