-- ==== Sys2Proof/Machine/Commit.lean ====
section
/-! DEFINITION. The commit point (chapter 1): generations, delivery indices, what a commit charges, counts, logs and hands on. -/

namespace Sys2Proof.Machine

/-- The generation after `g` (R16). -/
def genAfter (g : Nat) : Nat := if g ≥ 255 then 1 else g + 1

/-- A new commit generation begins (R16, R253): the count restarts, AON records it, the lanes receive the GENERATION mark. -/
def startGeneration (s : State) (g : Nat) : State :=
  let s := { s with com := { s.com with gen := g, count := 0 }, aon := { s.aon with lastGen := g } }
  placeMark s 2 (g * 2 ^ 56) 0

/-- The largest count of a generation (R16). -/
def maxCount : Nat := 0x00FFFFFFFFFFFFFF

/-- Whether the commit point serves a sentence ahead of classes 1 to 7 (R22, R23): it is class 0, or its group holds one that is. -/
def commitFirst (q : List Sent) (x : Sent) : Bool :=
  c0 x || (decide (x.group ≠ 0) && q.any (fun y => decide (y.group = x.group) && c0 y))

/-- The sentence the commit point takes next (R22, R23): the rest of an open group, else the oldest of class 0, else the oldest. -/
def nextCommit (s : State) : Option (Sent × List Sent) :=
  match s.com.openGroup with
  | some g => takeFirst (fun x => decide (x.group = g)) s.com.intake
  | none => serveNext (commitFirst s.com.intake) s.com.intake

/-- The cache writer learns of a commit (R114, R115): a later commit of a stream takes the place of one that waits; a full queue leaves
the stream stale. -/
def queueLast (s : State) (x : Sent) : State :=
  if (strmCfg s s.tag x.stream).lvcEnable = false then s
  else if s.stb.lvcQueue.any (fun y => decide (y.stream = x.stream)) then
    { s with stb := { s.stb with lvcQueue := s.stb.lvcQueue.map (fun y => if y.stream = x.stream then x else y) } }
  else if s.stb.lvcQueue.length < 256 then { s with stb := { s.stb with lvcQueue := s.stb.lvcQueue ++ [x] } }
  else cnt (setStrm s x.stream { strm s x.stream with lvState := 3 }) Reg.STB_CNT_LVC_STALE

/-- Whether the redundancy region compares a stream (R383). -/
def compared (s : State) (id : Nat) : Bool := (cw s 12 (8192 + id / 32)).testBit (id % 32)

/-- The digest of a period takes in a commit (R383). -/
def digestCommit (s : State) (x : Sent) : State :=
  if fld s Reg.RED_CONFIG 0 0 = 0 ∨ compared s x.stream = false then s
  else
    let bs := toLE 8 x.index ++ slice (dataDesc x 0) 16 6 ++ x.payload
    { s with red := { s.red with digest := digestOf s.red.digest bs } }

/-- The commit log's entry of a commit goes to the standby (R382). -/
def logCommit (s : State) (x : Sent) : State :=
  if s.red.mirroring = false ∨ s.dev ≠ .active then s
  else sendIu s (.log { index := x.index, mirror := x.mirror, outNo := x.outNo.getD 0xFF })

/-- A sentence is committed under a delivery index (R15, R191): its bytes move to the leaf of its stream, which counts it; the sentence
goes to the replicator in one block of the shared buffer. -/
def commitAs (s : State) (x : Sent) (index : Nat) : State :=
  let s := bufAdd (bufSub s x.blk x.buf) x.node x.buf
  let s := setNode s x.node { nodeRt s x.node with sentences := satAdd 0xFFFFFFFF (nodeRt s x.node).sentences 1 }
  let (b, s) := blkNew s x.node x.buf 1
  let x := { x with index := index, blk := b }
  let s := { s with com := { s.com with gen := index / 2 ^ 56, count := index % 2 ^ 56 }
                    map := { s.map with commits := tmod s.map.commits x.stream (· + 1) }
                    egr := { s.egr with replicate := s.egr.replicate ++ [x] } }
  logCommit (digestCommit (queueLast s x) x) x

/-- The active's commit point takes its next sentence. -/
def commitNext (s : State) : State :=
  match nextCommit s with
  | none => s
  | some (x, q) =>
    let more := decide (x.group ≠ 0) && q.any (fun y => decide (y.group = x.group))
    let s := { s with com := { s.com with intake := q, openGroup := if more then some x.group else none } }
    let s := commitAs s x (s.com.gen * 2 ^ 56 + s.com.count + 1)
    let s := if s.com.count ≥ maxCount then startGeneration s (genAfter s.com.gen) else s
    voterFlush s

/-- The voter copy a log entry names, made a sentence with its record's time (R382). -/
def loggedRelease (s : State) (e : LogEnt) : Option (Sent × State) :=
  match s.vot.windows.find? (fun w => w.released.isNone && w.copies.any (fun c => decide (c.mirror = e.mirror))) with
  | none => none
  | some w => (w.copies.find? (fun c => decide (c.mirror = e.mirror))).map (fun c =>
      let upd (v : Window) := if v = w then { v with released := some c } else v
      let out := vsOut s w.vs
      let g := strmCfg s s.tag out
      let x : Sent := { (default : Sent) with
        payload := c.payload, stamp := w.opened, endT := w.opened, src := 105 + c.lane, srcKind := 6, stream := out
        cls := g.cls, node := g.node, dset := g.dset, tag := s.tag, buf := c.payload.length, blk := g.node
        mirror := c.mirror }
      (x, { s with vot := { s.vot with windows := s.vot.windows.map upd } }))

/-- A shadow's commit point follows the active's log (R382); an entry whose sentence is not there yet waits. -/
def commitLogged (s : State) : State :=
  match s.red.logIn with
  | [] => s
  | e :: rest =>
    let s0 := { s with red := { s.red with logIn := rest } }
    let named (x : Sent) : Bool := decide (x.mirror = e.mirror ∧ x.outNo.getD 0xFF = e.outNo)
    match takeFirst named s.com.intake with
    | some (x, q) =>
      let s := { s0 with com := { s0.com with intake := q } }
      let s := if e.index / 2 ^ 56 = s.com.gen then s else startGeneration s (e.index / 2 ^ 56)
      commitAs s x e.index
    | none => match loggedRelease s0 e with
      | some (x, s) => commitAs s x e.index
      | none => s

/-- COMMIT (R15, R16, R21 to R23, R191). -/
def execCommit (s : State) : Res := .next (if shadowing s then commitLogged s else commitNext s)

end Sys2Proof.Machine
end

