-- ==== Sys2Proof/Machine/Encode.lean ====
section
/-! DEFINITION. The egress encoders (chapter 7): what a template makes of a payload at a departure stamp. -/

namespace Sys2Proof.Machine

/-- The 64 bytes of a template in force (R217). -/
def template (s : State) (t : Nat) : Bytes := cBytes s s.tag 6 (524288 + 64 * t) 64

/-- The kind of a template. -/
def tKind (t : Bytes) : Nat := byteAt t 0 % 16

/-- Bit `i` of a template's flags byte. -/
def tFlag (t : Bytes) (i : Nat) : Bool := (byteAt t 1).testBit i

/-- seq_mode of a template. -/
def tSeq (t : Bytes) : Nat := nbits (byteAt t 1) 5 4

/-- Word `w` of a listener's record (R208). -/
def lsWord (s : State) (l w : Nat) : Nat := cw s 6 (32768 + 4 * l + w)

/-- The port of a listener. -/
def lsPort (s : State) (l : Nat) : Nat := nbits (lsWord s l 0) 6 0

/-- The template of a listener. -/
def lsTemplate (s : State) (l : Nat) : Nat := nbits (lsWord s l 0) 26 16

/-- The destination MAC of a copy: its listener's, or the template's where that is all zero. -/
def dstMac (s : State) (l : Option Nat) (t : Bytes) : Bytes :=
  let own : Bytes := match l with
    | some l => (cBytes s s.tag 6 (131072 + 16 * l + 4) 6)
    | none => []
  if own.all (fun b => decide (b = 0#8)) then slice t 6 6 else own

/-- The destination IPv4 address of a copy. -/
def dstIp (s : State) (l : Option Nat) (t : Bytes) : Bytes :=
  let own : Bytes := match l with
    | some l => (cBytes s s.tag 6 (131072 + 16 * l + 10) 4)
    | none => []
  if own.all (fun b => decide (b = 0#8)) then slice t 22 4 else own

/-- The data area an encoder places (R218): that of R122 for key kinds 0x05 to 0x09, else the whole payload. -/
def copyArea (s : State) (x : Sent) : Bytes :=
  let k := byteAt x.key 0
  if 5 ≤ k ∧ k ≤ 9 then sentArea s x else x.payload

/-- A departure stamp in a marker format (R222). -/
def stampFmt (s : State) (f d : Nat) : Bytes :=
  match f with
  | 0 => toBE 8 d
  | 1 => toLE 8 d
  | 2 => toBE 6 (d / secUnits) ++ toBE 4 (d % secUnits / 4)
  | _ => toBE 4 (utcMillis s d)

/-- The marker fields receive the departure stamp (R222). -/
def fillMarks (s : State) (marks : List (Nat × Nat)) (d : Nat) (bs : Bytes) : Bytes :=
  marks.foldl (fun bs m => overlay bs m.2 (stampFmt s m.1 d)) bs

/-- The deferred check code is computed again over the stamped bytes (R170, R224); none where its position does not follow the end of
its range. -/
def fixDeferred (x : Sent) (bs : Bytes) : Option Bytes :=
  match x.defer with
  | none => some bs
  | some (kind, start, fin, pos) =>
    let cover := slice bs start (fin - start)
    if pos < fin then none
    else if kind = 0 then
      let v := xorBytes cover
      some (overlay bs pos [hexDigit (v / 16), hexDigit (v % 16)])
    else some (overlay bs pos (checkCode kind cover))

/-- The sequence field of modes 2 and 3 in a data area (R227); none where it does not lie in it. -/
def putSeq (t : Bytes) (seq : Nat) (bs : Bytes) : Option Bytes :=
  let off := beAt t 34 2
  let n := if tSeq t = 2 then 2 else 4
  if tSeq t < 2 then some bs
  else if off + n > bs.length then none else some (overlay bs off (toBE n seq))

/-- A correctionField that gains an amount; the sum saturates (R223). -/
def addCorrection (m : Bytes) (gain : Int) : Bytes :=
  overlay m 8 (toBE 8 (twos 64 (min (sext 64 (beAt m 8 8) + gain) ((2 : Int) ^ 63 - 1))))

/-- PTP one-step insertion into a message (R223); none where the message is not changed. -/
def oneStep (s : State) (transparent : Bool) (start d : Nat) (m : Bytes) : Option Bytes :=
  let mt := byteAt m 0 % 16
  if transparent then
    if mt ≤ 3 then some (addCorrection m ((Int.ofNat d - Int.ofNat start) * 16384)) else none
  else if mt = 0 ∧ (byteAt m 6).testBit 1 = false then
    some (addCorrection (overlay m 34 (stampFmt s 2 d)) (Int.ofNat (d % 4 * 16384)))
  else none

/-- The eight bytes of a seal trailer before its tag (R430). -/
def sealHead (s : State) (t : Bytes) (fresh : Nat) : Bytes :=
  toLE 1 (byteAt t 2) ++ toLE 1 (b2n ((slotAttr s (byteAt t 2)).testBit useEncrypt)) ++ toBE 6 fresh

/-- The tag of a seal under a key (R430): GMAC or CMAC, as the trailer's flags say. -/
def sealTag (key cover head : Bytes) : Bytes :=
  if byteAt head 1 = 1 then Config.gmac key (List.replicate 4 0#8 ++ head) cover else Config.cmac key cover

/-- An 802.1Q tag. -/
def vlanTag (t : Bytes) : Bytes := toBE 2 0x8100 ++ toBE 2 (byteAt t 3 % 8 * 8192 + beAt t 4 2 % 4096)

/-- Addresses, optional tag and EtherType of a frame that a template builds. -/
def ethHead (s : State) (l : Option Nat) (t : Bytes) (et : Nat) : Bytes :=
  dstMac s l t ++ slice t 12 6 ++ (if tFlag t 2 then vlanTag t else []) ++ toBE 2 et

/-- An IPv4 header with its checksum (R219); `n` is the length of what follows. -/
def ipHead (s : State) (l : Option Nat) (t : Bytes) (ident n : Nat) : Bytes :=
  let ttl := if byteAt t 36 = 0 then 64 else byteAt t 36
  let a := toBE 1 0x45 ++ toBE 1 (byteAt t 37 % 64 * 4) ++ toBE 2 (20 + n) ++ toBE 2 ident ++ toBE 2 0x4000 ++ toBE 1 ttl ++ toBE 1 17
  let b := slice t 18 4 ++ dstIp s l t
  a ++ toBE 2 (inetSum (a ++ [0#8, 0#8] ++ b)) ++ b

/-- The ones' complement sum of a UDP datagram with its pseudo header, folded; `ips` are the two addresses. -/
def udpSum (ips udp : Bytes) : Nat := fold16 (sum16 (ips ++ [0#8, 17#8] ++ toBE 2 udp.length ++ udp))

/-- A UDP checksum computed in full: 0 is sent as 0xFFFF (R224). (DEDUCED: log 33) -/
def udpCheck (ips udp : Bytes) : Nat :=
  let c := 0xFFFF - udpSum ips udp
  if c = 0 then 0xFFFF else c

/-- The two bytes that keep a checksum correct (R224): `old` and `new` are the sums before and after; they stand at an even or odd
offset. -/
def adjustBytes (old new : Nat) (odd : Bool) : Bytes :=
  let a := (old + 65535 * 2 - new) % 65535
  if odd then [BitVec.ofNat 8 a, BitVec.ofNat 8 (a / 256)] else toBE 2 a

/-- A UDP datagram from its ports, its payload as sent and its payload before insertion (R224). -/
def udpBuild (ips ports new old : Bytes) (changed adjust isSealed : Bool) : Bytes :=
  let head (n c : Nat) : Bytes := ports ++ toBE 2 (8 + n) ++ toBE 2 c
  let full (p : Bytes) : Nat := udpCheck ips (head p.length 0 ++ p)
  if isSealed then head new.length 0 ++ new
  else if changed = false then head new.length (full new) ++ new
  else if adjust = false then head new.length 0 ++ new
  else
    let zero : Bytes := [0#8, 0#8]
    let n := new.length + 2
    let s0 := udpSum ips (head n 0 ++ old ++ zero)
    let s1 := udpSum ips (head n 0 ++ new ++ zero)
    head n (full (old ++ zero)) ++ new ++ adjustBytes s0 s1 (decide (new.length % 2 = 1))

/-- A TRDP process-data header (R218): sequence number, ComId, topology counters, dataset length, header FCS. (PRESUMED: log 18) -/
def trdpHead (s : State) (t : Bytes) (seq n : Nat) : Bytes :=
  let h := toBE 4 seq ++ toBE 2 0x0100 ++ toBE 2 0x5064 ++ slice t 30 4 ++ toBE 4 (rd s Reg.PRT_TOPO_ETB).toNat ++
    toBE 4 (rd s Reg.PRT_TOPO_OPTRN).toNat ++ toBE 4 n ++ List.replicate 12 0#8
  h ++ toLE 4 (crc32 h)

/-- What an encoder builds: bytes, and for a sealed copy where its data area begins and where its tag stands. -/
abbrev Body := Bytes × Option (Nat × Nat)

/-- What an encoder works from: template, listener, sequence number, IPv4 identification, freshness, departure stamp. -/
structure EncIn where
  t : Bytes
  listener : Option Nat
  seq : Nat
  ident : Nat
  fresh : Nat
  dep : Nat
deriving DecidableEq, Repr

/-- The data area of a copy as it is sent, without its trailer, and as it was before stamps and times were put in (R218, R222 to
R224, R227). -/
def buildArea (s : State) (x : Sent) (e : EncIn) : Option (Bytes × Bytes × Bool) :=
  match putSeq e.t e.seq (copyArea s x) with
  | none => none
  | some a =>
    let b := fillMarks s x.marks e.dep a
    let ptp := if tKind e.t = 8 ∨ tKind e.t = 9 then oneStep s (tFlag e.t 6) x.stamp e.dep b else none
    (fixDeferred x (ptp.getD b)).map (fun c => (c, a, !decide (x.marks = []) || ptp.isSome))

/-- A frame that a template builds on an E or X port (R218): its bytes before padding, and the place of its tag. -/
def buildEth (s : State) (x : Sent) (e : EncIn) : Option Body :=
  (buildArea s x e).bind (fun (area, old, changed) =>
    let t := e.t
    let isSealed := tFlag t 0
    let trailer := if isSealed then sealHead s t e.fresh ++ List.replicate 16 0#8 else []
    let raw (et : Nat) : Body :=
      let h := ethHead s e.listener t et
      (h ++ area ++ trailer, if isSealed then some (h.length, h.length + area.length + 8) else none)
    let udp (pre : Bytes) : Body :=
      let ips := slice t 18 4 ++ dstIp s e.listener t
      let d := udpBuild ips (slice t 26 4) (pre ++ area ++ trailer) (pre ++ old ++ trailer) changed (tFlag t 3) isSealed
      let h := ethHead s e.listener t 0x0800 ++ ipHead s e.listener t e.ident d.length
      let a := h.length + 8 + pre.length
      (h ++ d, if isSealed then some (a, a + area.length + 8) else none)
    match tKind t with
    | 5 => some (raw (beAt t 30 2))
    | 6 => some (udp (trdpHead s t (if tSeq t = 1 then e.seq else 0) (area.length + trailer.length)))
    | 7 => some (udp (ascii "UdPbC" ++ [0#8]))
    | 8 => some (raw 0x88F7)
    | 9 => some (udp [])
    | _ => none)

/-- Whether a frame holds an IPv4 header. -/
def hasIp (f : Bytes) : Bool :=
  let ip := etOff f + 2
  decide (etherType f = 0x0800 ∧ byteAt f ip / 16 = 4 ∧ byteAt f ip % 16 ≥ 5 ∧ ip + 4 * (byteAt f ip % 16) ≤ f.length)

/-- The IPv4 header checksum of a frame is computed anew (R218). (DEDUCED: log 33) -/
def fixIp (f : Bytes) : Bytes :=
  let ip := etOff f + 2
  let n := 4 * (byteAt f ip % 16)
  if hasIp f then
    let h := overlay (slice f ip n) 10 [0#8, 0#8]
    overlay f (ip + 10) (toBE 2 (inetSum h))
  else f

/-- The header FCS of a TRDP telegram at `u` is computed anew; `h` is the length of its header (R224). -/
def fixTrdp (f : Bytes) (u h : Nat) : Bytes := overlay f (u + h - 4) (toLE 4 (crc32 (slice f u (h - 4))))

/-- A received frame's sequence field (R227); none where the field does not lie in the data area. -/
def passSeq (x : Sent) (e : EncIn) (o n : Nat) : Option Bytes :=
  let f := x.payload
  let k := byteAt x.key 0
  if tSeq e.t = 1 then
    some (if k = 7 ∨ k = 8 then fixTrdp (overlay f (udpData f) (toBE 4 e.seq)) (udpData f) (if k = 7 then 40 else 116) else f)
  else (putSeq e.t e.seq (slice f o n)).map (overlay f o)

/-- A number in a frame grows by `d`. -/
def growBE (f : Bytes) (off n d : Nat) : Bytes := overlay f off (toBE n (beAt f off n + d))

/-- A frame sent as received (PASS): its bytes before padding and the place of its tag (R218, R223 to R225). -/
def passEth (s : State) (x : Sent) (e : EncIn) : Option Body :=
  let (o, n) := sentSpan s x
  let k := byteAt x.key 0
  let t := e.t
  (passSeq x e o n).map (fun f1 =>
    let msg := if etherType f1 = 0x88F7 then etOff f1 + 2 else udpData f1
    let step := if k = 6 then (oneStep s (tFlag t 6) x.stamp e.dep (f1.drop msg)).map (fun m => f1.take msg ++ m) else none
    let f2 := step.getD f1
    let udp := hasIp f2 && decide (6 ≤ k ∧ k ≤ 9)
    let ip := etOff f2 + 2
    let u := udpOff f2
    let isSealed := tFlag t 0
    let grow (f : Bytes) (d : Nat) : Bytes := if udp then growBE (growBE f (ip + 2) 2 d) (u + 4) 2 d else f
    let f3 := if isSealed then
        let g := f2.take (o + n) ++ sealHead s t e.fresh ++ List.replicate 16 0#8 ++ f2.drop (o + n)
        let g := grow g 24
        if k = 7 ∨ k = 8 then fixTrdp (growBE g (udpData f2 + 20) 4 24) (udpData f2) (if k = 7 then 40 else 116) else g
      else f2
    let ips := slice f3 (ip + 12) 8
    let ulen := beAt f3 (u + 4) 2
    let zeroed (f : Bytes) (m : Nat) : Bytes := overlay (slice f u m) 6 [0#8, 0#8]
    let f4 :=
      if udp = false ∨ beAt f3 (u + 6) 2 = 0 then f3
      else if isSealed = true ∨ (step.isSome = true ∧ tFlag t 3 = false) then overlay f3 (u + 6) [0#8, 0#8]
      else if step.isSome then
        let at_ := u + ulen
        let put (f : Bytes) (z : Bytes) : Bytes := grow (f.take at_ ++ z ++ f.drop at_) 2
        let a := put f1 [0#8, 0#8]
        let b := put f3 [0#8, 0#8]
        let adj := adjustBytes (udpSum ips (zeroed a (ulen + 2))) (udpSum ips (zeroed b (ulen + 2))) (decide (ulen % 2 = 1))
        overlay (put f3 adj) (u + 6) (toBE 2 (udpCheck ips (zeroed a (ulen + 2))))
      else if f3 = x.payload then f3
      else overlay f3 (u + 6) (toBE 2 (udpCheck ips (zeroed f3 ulen)))
    let f5 := fixIp f4
    let tagged := decide (beAt f5 12 2 = 0x8100)
    let f6 := if tFlag t 2 then f5.take 12 ++ vlanTag t ++ f5.drop (if tagged then 16 else 12) else f5
    let a := o + (if tFlag t 2 ∧ tagged = false then 4 else 0)
    (f6, if isSealed then some (a, a + n + 8) else none))

/-- The check code a sentence port sends after bytes (R57). -/
def portCheck (s : State) (q : Nat) (bs : Bytes) : Bytes :=
  match spCheck s q with
  | 3 => toLE 1 (sumBytes 8 bs)
  | 4 => toLE 1 (xorBytes bs)
  | 5 => toLE 2 (crc16 bs)
  | 6 => toLE 2 (fcs16 bs)
  | 7 => toLE 4 (crc32 bs)
  | _ => []

/-- HDLC stuffing (R57). -/
def stuff (bs : Bytes) : Bytes :=
  bs.flatMap (fun b => if b = 0x7E#8 ∨ b = 0x7D#8 then [0x7D#8, b ^^^ 0x20#8] else [b])

/-- The c: TAG block of a departure stamp (R219). -/
def tagBlock (s : State) (d : Nat) : Bytes :=
  let text := ascii "c:" ++ decimal 1 (utcSecond s d).toNat
  let v := xorBytes text
  [0x5C#8] ++ text ++ [0x2A#8, hexDigit (v / 16), hexDigit (v % 16), 0x5C#8]

/-- What a sentence-port copy holds before framing, and the place of its tag (R218, R219). -/
def buildSp (s : State) (q : Nat) (x : Sent) (e : EncIn) : Option Body :=
  let k := byteAt x.key 0
  match tKind e.t with
  | 0 => if k = 1 ∨ k = 2 then (putSeq e.t e.seq x.payload).map (fun p => (p, none)) else none
  | 1 => (buildArea s x e).map (fun (a, _, _) =>
      (if tFlag e.t 1 ∧ byteAt a 0 ≠ 0x5C then tagBlock s e.dep ++ a else a, none))
  | 2 => if spMode s q < 2 then none
    else (buildArea s x e).map (fun (a, _, _) =>
      if tFlag e.t 0 ∧ spMode s q = 2 then (a ++ sealHead s e.t e.fresh ++ List.replicate 16 0#8, some (0, a.length + 8)) else (a, none))
  | _ => none

/-- The sync bytes of a fixed-length port. -/
def syncBytes (s : State) (q : Nat) : Bytes :=
  let w := rd s (Reg.PRT_SYNC q)
  (toLE 2 (bits w 15 0)).take (bits w 17 16)

/-- The sentence of a sentence-port copy before stuffing: flags, sync bytes and check codes (R218). -/
def frameSp (s : State) (q kind : Nat) (body : Bytes) : Bytes :=
  if kind = 2 then
    match spMode s q with
    | 2 => [0x7E#8] ++ body ++ portCheck s q body ++ [0x7E#8]
    | 3 => syncBytes s q ++ body ++ portCheck s q body
    | _ => body ++ (if spCheck s q = 5 then portCheck s q body else [])
  else body

/-- The characters sent for a sentence: between the flags of an HDLC sentence octets are stuffed. -/
def spChars (s : State) (q : Nat) (p : Bytes) : Bytes :=
  if spMode s q = 2 ∧ byteAt p 0 = 0x7E ∧ p.length ≥ 2 ∧ byteAt p (p.length - 1) = 0x7E then
    [0x7E#8] ++ stuff (slice p 1 (p.length - 2)) ++ [0x7E#8]
  else p

/-- Data lengths of CAN FD frames. -/
def fdLengths : List Nat := [0, 1, 2, 3, 4, 5, 6, 7, 8, 12, 16, 20, 24, 32, 48, 64]

/-- A CAN copy (R218): identifier, flags (0 IDE, 1 RTR, 2 FD, 3 BRS) and data, as the model writes a CAN frame out. (PRESUMED: log 16) -/
def buildCan (s : State) (x : Sent) (e : EncIn) : Option Body :=
  let t := e.t
  let frame (id : Bytes) (ide rtr : Bool) (d : Bytes) : Option Body :=
    let fd := tFlag t 7 || decide (d.length > 8)
    match fdLengths.find? (fun n => decide (d.length ≤ n)) with
    | none => none
    | some n => some (id ++ toLE 1 (b2n ide + 2 * b2n rtr + 4 * b2n fd + 8 * b2n (fd && (byteAt t 3).testBit 3)) ++
        (if fd then padTo n (BitVec.ofNat 8 (byteAt t 38)) d else d), none)
  match tKind t with
  | 0 => if byteAt x.key 0 = 3 then
      (putSeq t e.seq x.payload).bind (frame (slice x.key 2 4) ((byteAt x.key 6).testBit 0) ((byteAt x.key 6).testBit 1)) else none
  | 3 => (buildArea s x e).bind (fun (a, _, _) =>
      if tFlag t 7 = false ∧ a.length > 8 then none else frame (slice t 30 4) ((byteAt t 3).testBit 4) false a)
  | _ => none

/-- The MVB address a copy is placed at and its value (R218): none where the port table has no source there of that size. (DEDUCED: log 36) -/
def buildMvb (s : State) (q : Nat) (x : Sent) (e : EncIn) : Option (Nat × Bytes) :=
  let val : Option (Nat × Bytes) := match tKind e.t with
    | 0 => if byteAt x.key 0 = 4 then (putSeq e.t e.seq x.payload).map (fun p => (beAt x.key 2 2 % 4096, p)) else none
    | 4 => (buildArea s x e).map (fun (a, _, _) => (beAt e.t 32 2 % 4096, a))
    | _ => none
  val.filter (fun v => let w := mvSink s q v.1
                       decide (nbits w 1 0 = 2) && decide (fcodeSize (nbits w 5 2) = some v.2.length))

/-- A cadence copy: slot, value, and the place of its tag (R346). -/
def buildCb (s : State) (x : Sent) (e : EncIn) : Option Body :=
  if tKind e.t ≠ 10 then none
  else (buildArea s x e).map (fun (a, _, _) =>
    if tFlag e.t 0 then (a ++ sealHead s e.t e.fresh ++ List.replicate 16 0#8, some (0, a.length + 8)) else (a, none))

/-- What the encoder of port `q` builds of a copy before the frame's own padding, trailer and check (R218, R220); none where the copy
cannot be sent. On MVB the port address stands in front. -/
def encodeBody (s : State) (q : Nat) (x : Sent) (e : EncIn) : Option Body :=
  match pkind q with
  | .e | .x =>
    let k := byteAt x.key 0
    if tKind e.t = 0 then (if 5 ≤ k ∧ k ≤ 9 then passEth s x e else none) else buildEth s x e
  | .sp => buildSp s q x e
  | .cf => buildCan s x e
  | .mv => (buildMvb s q x e).map (fun v => (toBE 2 v.1 ++ v.2, none))
  | .cb => buildCb s x e
  | _ => none

/-- Whether a port belongs to a PRP pair (R69, R228). -/
def isPrp (s : State) (q : Nat) : Bool := isEth q && bit (rd s (Reg.PRT_MODE (pairA (pairOf q)))) 0

/-- The bytes on the wire of a body (R190, R218, R224, R228): padding, PRP trailer and FCS on E and X, framing on SP. -/
def onWire (s : State) (q kind : Nat) (body : Bytes) (prpSeq : Nat) : Bytes :=
  match pkind q with
  | .e | .x =>
    let f := if isPrp s q then
        let p := padTo 54 0#8 body
        let lsdu := p.length + 6 - (etOff p + 2)
        p ++ toBE 2 prpSeq ++ toBE 2 ((if pathOf q = 1 then 0xA000 else 0xB000) + lsdu % 4096) ++ toBE 2 0x88FB
      else padTo 60 0#8 body
    f ++ toLE 4 (crc32 f)
  | .sp => spChars s q (frameSp s q kind body)
  | _ => body

/-- The egress bytes of a body (R190). -/
def egressBytes (s : State) (q kind : Nat) (body : Bytes) : Nat :=
  match pkind q with
  | .cf => body.length - 5 + 8
  | .mv => body.length - 2
  | .cb => body.length + 12
  | _ => (onWire s q kind body 0).length

/-- The length of a body that R220 holds against max_len: none where the port has no such limit. -/
def limitLen (s : State) (q kind : Nat) (body : Bytes) : Option Nat :=
  match pkind q with
  | .sp => let p := frameSp s q kind body
           let i := iecStart p 0
           some (if spMode s q < 2 ∧ i < p.length then p.length - i else p.length)
  | .cf => some (body.length - 5)
  | .e | .x => some (onWire s q kind body 0).length
  | _ => none

/-- Whether a body may be sent on its port (R220). (DEDUCED: log 36) -/
def lenOk (s : State) (q kind : Nat) (body : Bytes) : Bool :=
  match limitLen s q kind body with
  | some n => decide (n ≤ fld s (Reg.PRT_LIMITS q) 15 0)
  | none => true

/-- The line rate of a port in bits per second (R188, R196), where `q` is a port of the egress pool. -/
def lineRate (s : State) (q : Nat) : Nat :=
  match pkind q with
  | .e | .x => match fld s (Reg.PRT_MODE q) 11 10 with
    | 0 => 10000000
    | 1 => 100000000
    | 2 => 1000000000
    | _ => 10000000000
  | .sp => let d := fld s (Reg.PRT_TIMING q) 23 0
           if d = 0 then 0 else 200000000 * 256 / (16 * d)
  | .cf => 200000000 / ((fld s (Reg.PRT_TIMING q) 9 0 + 1) * (3 + fld s (Reg.PRT_TIMING q) 17 10 + fld s (Reg.PRT_TIMING q) 24 18))
  | .mv => 1500000
  | .cb => match fld s Reg.CDB_CONFIG 9 8 with
    | 0 => 2500000
    | 1 => 5000000
    | _ => 10000000
  | _ => 0

/-- The bytes of a period at a port's line rate (R188): ⌊line rate × P ÷ 8⌋. -/
def portBytes (s : State) (q : Nat) : Nat := lineRate s q * periodUs s / 8000000

/-- The oasis share of a port (R196, R198). -/
def oasisShare (s : State) (q : Nat) : Nat := fld s (Reg.BGT_OASIS_SHARE q) 27 0

end Sys2Proof.Machine
end

