-- ==== Sys2Proof/Machine/Egress.lean ====
section
/-! DEFINITION. Replication and egress as shared operations (chapter 7): handles, class lists, starting, sealing and ending copies. -/

namespace Sys2Proof.Machine

/-- The egress side of a port. -/
def eg (s : State) (q : Nat) : EgPort := tget s.egr.ports q

/-- Store the egress side of a port. -/
def setEg (s : State) (q : Nat) (p : EgPort) : State := { s with egr := { s.egr with ports := tset s.egr.ports q p } }

/-- The other port of a pair. -/
def mateOf (q : Nat) : Nat := pairA (pairOf q) + (1 - (q - 84) % 2)

/-- The class a copy travels in (R215): a replay copy travels in class 7. -/
def copyCls (c : Copy) : Nat := if c.replay then 7 else c.sent.cls

/-- The leaf a copy is charged to. -/
def copyLeaf (s : State) (c : Copy) : Nat := if c.replay then fld s Reg.EGR_REPLAY_CTRL 12 0 else c.sent.node

/-- Every copy at a port. -/
def copiesAt (p : EgPort) : List Copy := p.waiting ++ p.queue ++ p.cur.toList ++ p.preempted.toList

/-- Whether the other half of a pair's copy is still there (R228). -/
def mateHas (s : State) (c : Copy) : Bool :=
  decide (c.twin ≠ 0) && (copiesAt (eg s (mateOf c.port))).any (fun d => decide (d.twin = c.twin))

/-- A copy that has left its port's lists gives up its handle and its reference (R210), where no other half holds them. -/
def freeCopy (s : State) (c : Copy) : State :=
  if mateHas s c then s
  else
    let e := s.egr
    let s := { s with egr := { e with sharedUsed := if c.reserved then e.sharedUsed else e.sharedUsed - 1
                                      reservedUsed := if c.reserved then e.reservedUsed - 1 else e.reservedUsed } }
    blkDrop s c.sent.blk

/-- A copy is dropped at a port (R220): EGR_DROP, the port's count, the count of all causes. (DEDUCED: log 35) -/
def dropEgress (s : State) (q : Nat) (c : Copy) : State :=
  freeCopy (report (cnt (cnt s (Reg.EGR_PORT_DROP q)) Reg.EGR_CNT_DROP) Ev.EGR_DROP q 0) c

/-- A copy discarded because its link is down is counted, and reported once per episode where no other path carries it (R229). (DEDUCED: log 32) -/
def downCount (s : State) (q : Nat) (quiet : Bool) : State :=
  let s := cnt (cnt s (Reg.EGR_PORT_DROP q)) Reg.EGR_CNT_DROP
  if quiet = true ∨ (eg s q).downReported = true then s else report (setEg s q { eg s q with downReported := true }) Ev.EGR_DROP q 0

/-- A copy is discarded because its link is down (R229); `quiet` where the other path carries the frame: the copy is not lost then. (DEDUCED: log 70) -/
def downDrop (s : State) (q : Nat) (quiet : Bool) (c : Copy) : State :=
  let s := if quiet then s else downCount s q false
  freeCopy s c

/-- A free handle of the copy store (R212): reserved or shared. -/
def takeHandle (s : State) (first : Bool) : Option (Bool × State) :=
  let e := s.egr
  if first ∧ e.reservedUsed < 16384 then some (true, { s with egr := { e with reservedUsed := e.reservedUsed + 1 } })
  else if e.sharedUsed < 114688 then some (false, { s with egr := { e with sharedUsed := e.sharedUsed + 1 } }) else none

/-- The ports a copy addressed to `q` goes out by (R228). -/
def pathsOf (s : State) (q : Nat) : List Nat := if isPrp s q then [pairA (pairOf q), pairA (pairOf q) + 1] else [q]

/-- Whether a port can carry a frame: links matter on E and X. -/
def carries (s : State) (q : Nat) : Bool := !isEth q || (port s q).link

/-- A copy enters the class lists of its port or ports (R211, R228, R229); it holds its handle and its reference. -/
def placeCopy (s : State) (c : Copy) (ok : EgPort → Bool) : State :=
  let open_ := (pathsOf s c.port).filter (fun q => ok (eg s q))
  let up := open_.filter (carries s)
  let dead := fun q => if up = [] ∨ isPrp s c.port = false then (!carries s q && (eg s q).downHeld) else !carries s q
  let gone := open_.filter dead
  let stay := open_.filter (fun q => !dead q)
  let twin := if stay.length > 1 then s.egr.nextTwin else 0
  let s := if stay.length > 1 then { s with egr := { s.egr with nextTwin := s.egr.nextTwin + 1 } } else s
  let s := stay.foldl (fun s q => setEg s q { eg s q with waiting := (eg s q).waiting ++ [{ c with port := q, twin := twin }] }) s
  let s := if up = [] then gone.foldl (fun s q => downCount s q false) s else s
  if stay = [] then freeCopy s c else s

/-- A copy of a sentence, with its handle and its reference; none where the store has no handle (R212). -/
def makeCopy (s : State) (x : Sent) (q : Nat) (l : Option Nat) (t : Nat) (replay : Bool) : Option Copy × State :=
  match takeHandle s (c0 x && !replay) with
  | none => (none, report (cnt s Reg.EGR_CNT_STORE_FULL) Ev.EGR_DROP q 0)
  | some (kept, s) =>
    (some { (default : Copy) with sent := x, port := q, listener := l, template := t, replay := replay, reserved := kept },
     blkRef s x.blk)

/-- Whether the replicator makes copies for a port (R231). -/
def portTakes (s : State) (q : Nat) : Bool := (pathsOf s q).any (fun p => decide ((eg s p).state = 1))

/-- A listener. -/
def lst (s : State) (l : Nat) : Listener := tget s.egr.listeners l

/-- Store a listener. -/
def setLst (s : State) (l : Nat) (x : Listener) : State := { s with egr := { s.egr with listeners := tset s.egr.listeners l x } }

/-- The copy for one listener of a list (R208, R214, R215): live copies of classes 1 to 7 wait while its replay runs. -/
def listenerCopy (s : State) (x : Sent) (l : Nat) : State :=
  let q := lsPort s l
  if (lst s l).state ≠ 1 ∨ q > 104 ∨ portTakes s q = false then s
  else match makeCopy s x q (some l) (lsTemplate s l) false with
    | (none, s) => s
    | (some c, s) =>
      if (lst s l).replaying = false then placeCopy s c (fun p => decide (p.state = 1))
      else if c0 x then
        let skip (r : Replay) : Replay := if r.listener = l then { r with skip := x.stream :: r.skip } else r
        placeCopy { s with egr := { s.egr with replays := s.egr.replays.map skip } } c (fun p => decide (p.state = 1))
      else setLst s l { lst s l with joinQ := (lst s l).joinQ ++ [c] }

/-- Items of the journal queue that hold a credit. -/
def jnData (q : List JItem) : List Sent := q.filterMap (fun i => match i with
  | .data x => some x
  | _ => none)

/-- A copy for the journal is missed (R233, R237, R238). -/
def jnMiss (s : State) (x : Sent) : State :=
  let j := s.jrn
  { s with jrn := { j with missFirst := if j.missCount = 0 then x.index else j.missFirst, missCount := j.missCount + 1 } }

/-- The copy for the journal (R233, R237, R238, R371). -/
def jnCopy (s : State) (x : Sent) : State :=
  let j := s.jrn
  if s.dev ≠ .active ∨ j.state ≠ 1 then s
  else if j.scanning then jnMiss s x
  else if j.full then cnt s Reg.JRN_CNT_LOST
  else match credit (jnData j.queue) 256 64 (c0 x) with
    | some o => { blkRef s x.blk with jrn := { j with queue := j.queue ++ [.data { x with oasis := o }] } }
    | none =>
      let s := if j.backlog then s else report { s with jrn := { j with backlog := true } } Ev.JRN_BACKLOG noInst 0
      jnMiss s x

/-- The copy for the steward's intake (R549); without a running steward nothing takes it. -/
def stCopy (s : State) (x : Sent) : State :=
  if s.stw.intake.length < 256 then { s with stw := { s.stw with intake := s.stw.intake ++ [x] } }
  else { s with stw := { s.stw with dropped := s.stw.dropped + 1 } }

/-- The copy a set bit of the port bitmap makes (R208). -/
def bitmapCopy (t : Nat) (x : Sent) (s : State) (q : Nat) : State :=
  if q ≤ 104 then
    if portTakes s q = false then s
    else match makeCopy s x q none t false with
      | (none, s) => s
      | (some c, s) => placeCopy s c (fun p => decide (p.state = 1))
  else if q ≤ 107 then laneData (blkRef s x.blk) (q - 105) x
  else if q = 108 then (if s.dev = .active ∧ s.red.linkUp = true then sendIu s (.copy x.stamp x.payload) else s)
  else if q = 109 then jnCopy s x
  else if q = 110 then stCopy s x
  else { s with brg := { s.brg with intake := s.brg.intake ++ [x] } }

/-- The ports a destination set names (R208). -/
def dsPorts (s : State) (d : Nat) : List Nat := (List.range 112).filter (fun i => (cw s 6 (8 * d + i / 32)).testBit (i % 32))

/-- The listeners on a destination set's list. -/
def dsList (s : State) (d : Nat) : List Nat :=
  let start := cf s 6 (8 * d + 4) 15 0
  (List.range (cf s 6 (8 * d + 4) 26 16)).map (fun i =>
    let k := start + i
    nbits (cw s 6 (98304 + k / 2)) (if k % 2 = 1 then 31 else 15) (if k % 2 = 1 then 16 else 0) % 16384)

/-- REPLICATE (R210, R213): the next committed sentence is expanded: ports in ascending order, then the list. -/
def execReplicate (s : State) : Res :=
  .next (
    match s.egr.replicate with
    | [] => s
    | x :: rest =>
      let s := { s with egr := { s.egr with replicate := rest } }
      let s := (dsPorts s x.dset).foldl (bitmapCopy (cf s 6 (8 * x.dset + 5) 10 0) x) s
      let s := (dsList s x.dset).foldl (fun s l => listenerCopy s x l) s
      blkDrop s x.blk)

/-- The device time from the start of an E or X transmission to the first bit after the start-frame delimiter. -/
def preamble (s : State) (q : Nat) : Nat := if isEth q then 64 * secUnits / lineRate s q else 0

/-- The departure stamp of a copy that starts now (R221). -/
def depStamp (s : State) (q : Nat) : Nat :=
  (Int.ofNat (now s + preamble s q) + sext 16 (fld s (Reg.EGR_TX_COMP q) 15 0)).toNat

/-- The key of a sequence counter (R227): stream and target, a port, the A port of a pair, or a listener. (DEDUCED: log 32) -/
def seqKey (s : State) (c : Copy) : Nat :=
  c.sent.stream * 2 ^ 16 + (match c.listener with
    | some l => 256 + l
    | none => (pathsOf s c.port).headD c.port)

/-- What the encoder would be given for a copy that starts at `d`. -/
def encIn (s : State) (q : Nat) (c : Copy) (d : Nat) : EncIn :=
  let t := template s c.template
  { t := t, listener := c.listener, seq := c.seqNo.getD (tget s.egr.seqs (seqKey s c)), ident := (eg s q).ipId
    fresh := (tget s.vault.slots (byteAt t 2)).send, dep := d }

/-- The egress bytes of a copy (R190); a copy that cannot be encoded counts its payload. -/
def copyBytes (s : State) (q : Nat) (c : Copy) : Nat :=
  let e := encIn s q c (now s)
  match encodeBody s q c.sent e with
  | some (b, _) => egressBytes s q (tKind e.t) b
  | none => c.sent.payload.length

/-- A place in a port egress queue (R28): 32, of them 8 for class 0. -/
def egCredit (p : EgPort) (first : Bool) : Option Bool :=
  let o := (p.queue.filter (·.oasis)).length
  if first ∧ o < 8 then some true else if p.queue.length - o < 24 then some false else none

/-- The first copy of a list that passes `f`, in place. -/
def takeCopy (p : EgPort) (f : Copy → Bool) : Option (Copy × EgPort) :=
  (takeFirst f p.waiting).map (fun r => (r.1, { p with waiting := r.2 }))

/-- A copy moves into the port egress queue (R190, R196, R198): its bytes are counted; the other half of a pair's copy counts as
charged. -/
def moveCopy (s : State) (q : Nat) (p : EgPort) (c : Copy) (o : Bool) (n : Nat) : State :=
  let p := { p with queue := p.queue ++ [{ c with oasis := o, held := none, charged := true, deferred := 0 }] }
  let p := if copyCls c = 0 then { p with sentC0 := p.sentC0 + n } else { p with sentLow := p.sentLow + n }
  let s := setEg s q p
  if c.twin = 0 then s
  else
    let m := eg s (mateOf q)
    let paid (d : Copy) : Copy := if d.twin = c.twin then { d with charged := true, held := none } else d
    setEg s (mateOf q) { m with waiting := m.waiting.map paid }

/-- The other half of a pair's copy goes with it (R228). -/
def dropMate (s : State) (c : Copy) : State :=
  if c.twin = 0 then s
  else
    let q := mateOf c.port
    let p := eg s q
    let keep (d : Copy) : Bool := !decide (d.twin = c.twin)
    setEg s q { p with waiting := p.waiting.filter keep, queue := p.queue.filter keep }

/-- A copy is dropped by its node's policy (R193, R194). -/
def budgetDrop (s : State) (c : Copy) (leaf : Nat) : State :=
  freeCopy (cnt (policyDrop (dropMate s c) leaf) Reg.EGR_CNT_DROP) c

/-- A copy under a node that is DISABLED or taken out is the node's drain loss (R195). (DEDUCED: log 35) -/
def nodeLose (s : State) (n : Nat) (c : Copy) : State :=
  freeCopy (cnt (nodeDrainLoss (dropMate s c) n) Reg.EGR_CNT_DROP) c

/-- The budget test of a copy taken out of the lists (R190, R193, R194): it is moved, dropped, or held where it stood (`s0` holds it
there); none where it has been held already and still waits. -/
def budgetCopy (s0 s : State) (q : Nat) (p : EgPort) (c : Copy) (o : Bool) : Option State :=
  let leaf := copyLeaf s c
  let n := copyBytes s q c
  if c.charged then some (moveCopy s q p c o n)
  else match closedNode s leaf with
    | some k => some (nodeLose (setEg s q p) k c)
    | none =>
      if (nodeRt s leaf).eCredit ≥ n then some (moveCopy (charge s false leaf n) q p c o n)
      else if copyCls c = 0 ∨ ndPolicy s leaf = 1 then some (budgetDrop (shortfall (setEg s q p) false leaf) c leaf)
      else if c.held.isSome then none
      else
        let mark (d : Copy) : Copy := if d = c then { d with held := some (now s) } else d
        let e := eg s0 q
        some (cnt (shortfall (setEg s0 q { e with waiting := modFirst (fun d => decide (d = c)) mark e.waiting }) false leaf)
          Reg.BGT_CNT_HELD)

/-- A class-0 copy is deferred to the next period (R198). -/
def deferCopy (s : State) (q : Nat) (c : Copy) : State :=
  let e := eg s q
  let k := s.tim.boundaries + 1
  let s := setEg s q { e with waiting := modFirst (fun d => decide (d = c)) (fun d => { d with deferred := k }) e.waiting }
  let s := cnt s Reg.BGT_CNT_CONTRACT
  if e.contractAt = some s.tim.boundaries then s
  else report (setEg s q { eg s q with contractAt := some s.tim.boundaries }) Ev.BGT_CONTRACT (copyLeaf s c) 0

/-- The next class-0 copy of a port (R190, R193, R198). (DEDUCED: log 35) -/
def tryZero (s : State) (q : Nat) : Option State :=
  let p := eg s q
  match takeCopy p (fun c => decide (copyCls c = 0 ∧ c.deferred = 0)) with
  | none => none
  | some (c, p') =>
    if p.waiting.any (fun d => decide (copyCls d = 0 ∧ d.deferred ≠ 0)) = true ∨
        p.sentC0 + copyBytes s q c > oasisShare s q ∨ oasisShare s q = 0 then some (deferCopy s q c)
    else (egCredit p true).bind (fun o => budgetCopy s s q p' c o)

/-- The next copy of class `k` from 1 to 7 (R184, R193, R196). -/
def tryClass (s : State) (q : Nat) (k : Nat) : Option State :=
  let p := eg s q
  if p.sentLow ≥ portBytes s q - oasisShare s q then none
  else match takeCopy p (fun c => decide (copyCls c = k)) with
    | none => none
    | some (c, p') => (egCredit p false).bind (fun o => budgetCopy s s q p' c o)

/-- The first class from `k` on whose head can move. -/
def tryClasses (s : State) (q : Nat) : List Nat → Option State
  | [] => none
  | k :: t => (tryClass s q k).orElse (fun _ => tryClasses s q t)

/-- One round of the egress scheduler at a port (R184, R190, R193, R196, R198): deferred copies whose period has come go before all
others, in index order. -/
def scheduleOne (s : State) (q : Nat) : State :=
  let p := eg s q
  let due (c : Copy) : Bool := decide (c.deferred ≠ 0 ∧ c.deferred ≤ s.tim.boundaries)
  match takeCopy p due with
  | some (c, p') => ((egCredit p true).bind (fun o => budgetCopy s s q p' c o)).getD s
  | none => ((tryZero s q).orElse (fun _ => tryClasses s q [1, 2, 3, 4, 5, 6, 7])).getD s

/-- EGRESS_SCHEDULE (R190). -/
def execEgressSchedule (q : Nat) (s : State) : Res := .next (if q > 104 then s else scheduleOne s q)

/-- HOLD_LIMIT_EXPIRY at mapper dispatch (R192): a held sentence whose limit has passed and whose credit has not come is dropped. -/
def holdExpiry (s : State) : State :=
  let late (x : Sent) : Bool := decide (ndPolicy s x.node = 2) && decide ((nodeRt s x.node).fCredit < fabCharge s x) &&
    (match x.held with
      | some t => decide (since s t ≥ ndGap s x.node * usUnits)
      | none => false)
  match takeFirst late s.map.holds with
  | none => s
  | some (x, rest) => dispatchDrop { s with map := { s.map with holds := rest } } x

/-- HOLD_LIMIT_EXPIRY at an egress port (R193). -/
def copyExpiry (s : State) (q : Nat) : State :=
  let late (c : Copy) : Bool :=
    let leaf := copyLeaf s c
    decide (ndPolicy s leaf = 2 ∧ (nodeRt s leaf).eCredit < copyBytes s q c) &&
    (match c.held with
      | some t => decide (since s t ≥ ndGap s leaf * usUnits)
      | none => false)
  match takeCopy (eg s q) late with
  | none => s
  | some (c, p) => budgetDrop (setEg s q p) c (copyLeaf s c)

/-- HOLD_LIMIT_EXPIRY (R192, R193): in the hold store, or in the class lists of a port. (DEDUCED: log 30) -/
def execHoldLimitExpiry (place : Option Nat) (s : State) : Res :=
  .next (match place with
    | none => holdExpiry s
    | some q => copyExpiry s q)

/-- A copy of a named stream that starts on E or X enters the departure log (R331). -/
def logDeparture (s : State) (q : Nat) (c : Copy) (d : Nat) : State :=
  if isEth q = false then s
  else [0, 1, 2, 3].foldl (fun s i =>
    let w := rd s (Reg.TIM_DEP_STREAM i)
    if bits w 15 0 = 0 ∨ bits w 15 0 ≠ c.sent.stream then s
    else if s.tim.depLog.length ≥ 32 then cnt s Reg.TIM_CNT_DEP_LOST
    else
      let e : DepEntry := { stamp := d, sel := i, port := q, tag := beAt (copyArea s c.sent) (bits w 29 16) 2 }
      { s with tim := { s.tim with depLog := s.tim.depLog ++ [e] } }) s

/-- A copy has been sent (R214): its listener and the replay count know it, where no other half is still to go. -/
def finishCopy (s : State) (c : Copy) : State :=
  if mateHas s c then s
  else
    let s := match c.listener with
      | some l => setLst s l { lst s l with sent := satAdd 0x3FFFFF (lst s l).sent 1 }
      | none => s
    freeCopy (if c.replay then cnt s Reg.EGR_CNT_REPLAY else s) c

/-- The copy in transmission ends; a preempted one goes on (R230). -/
def endCur (s : State) (q : Nat) : State := setEg s q { eg s q with cur := (eg s q).preempted, preempted := none }

/-- Word of a slot record of the schedule (R338). -/
def schedWord (s : State) (k : Nat) : Nat := cw s 10 k

/-- Whether a copy may be placed in a cadence slot (R346): an own slot, or a spare slot this node holds. -/
def slotTakes (s : State) (k : Nat) : Bool :=
  decide (1 ≤ k ∧ k ≤ 1023) &&
  (decide (nbits (schedWord s k) 1 0 = 1) ||
   (decide (nbits (schedWord s k) 1 0 = 2) && decide ((tget s.cdb.spares k).state = .held)))

/-- A value is placed in a slot buffer or queued as a service record (R346); none where the slot does not take it. (DEDUCED: log 47) -/
def placeCb (s : State) (c : Copy) (k : Nat) (v : Bytes) : Option State :=
  let w := schedWord s k
  if slotTakes s k = false then none
  else if w.testBit 3 then
    if v.length ≠ 8 ∨ s.cdb.service.length ≥ 32 then none
    else
      let target := if byteAt c.sent.key 0 = 0x0C then cw s 9 (8 * beAt c.sent.key 2 2 + 1) % 256 else 0
      some { s with cdb := { s.cdb with service := s.cdb.service ++ [(k, toLE 1 target ++ [0#8] ++ v)] } }
  else if v.length > nbits w 17 10 then none
  else some { s with cdb := { s.cdb with slotBuf := tset s.cdb.slotBuf k (some v) } }

/-- The value of a copy with all its checks in place goes to a source-port buffer, a slot buffer, or stands as the bytes on the wire. -/
def putOut (s : State) (q : Nat) (c : Copy) (body : Bytes) : State :=
  let t := template s c.template
  match pkind q with
  | .mv =>
    let src := tset s.prt.mvSource (q * 4096 + beAt body 0 2) (some (body.drop 2))
    finishCopy { s with prt := { s.prt with mvSource := src } } c
  | .cb => match placeCb s c (beAt t 32 2 % 1024) body with
    | some s => finishCopy s c
    | none => cnt (dropEgress s q c) Reg.CDB_CNT_SLOT_DROP
  | _ => setEg s q { eg s q with cur := some { c with wire := onWire s q (tKind t) body c.prpSeq } }

/-- The other half of a pair's copy learns what the first start has fixed (R228). -/
def tellMate (s : State) (c : Copy) : State :=
  if c.twin = 0 then s
  else
    let q := mateOf c.port
    let p := eg s q
    let f (d : Copy) : Copy := if d.twin = c.twin then
      { d with body := c.body, prpSeq := c.prpSeq, seqNo := c.seqNo, sealOp := c.sealOp } else d
    setEg s q { p with waiting := p.waiting.map f, queue := p.queue.map f }

/-- A copy that requires a seal finds no key (R226): it goes to the bog and is not sent. -/
def noKey (s : State) (q : Nat) (c : Copy) : State :=
  let k := byteAt (template s c.template) 2
  let s := report (cnt (cnt s Reg.EGR_CNT_SEAL_FAIL) Reg.EGR_CNT_DROP) Ev.EGR_DROP q 0
  freeCopy (bogEntry s c.sent true true ⟨0x11, 0, Int.ofNat k⟩) c

/-- What starts as a copy starts is counted up (R219, R225, R227, R228): the sequence counter, the identification, the send counter of
its slot, the pair's send counter. -/
def consume (s : State) (q : Nat) (c : Copy) (t : Bytes) (isSealed : Bool) : State :=
  let e := s.egr
  let w := if tSeq t = 2 then 16 else 32
  let seqs := if tSeq t ≠ 0 ∧ c.seqNo.isNone then tmod e.seqs (seqKey s c) (fun n => (n + 1) % 2 ^ w) else e.seqs
  let prp := if isPrp s q then tmod e.prpSend (pairOf q) (fun n => (n + 1) % 65536) else e.prpSend
  let s := { s with egr := { e with seqs := seqs, prpSend := prp } }
  let ip := tKind t = 6 ∨ tKind t = 7 ∨ tKind t = 9
  let s := if ip then setEg s q { eg s q with ipId := ((eg s q).ipId + 1) % 65536 } else s
  if isSealed then modSlot s (byteAt t 2) (fun x => { x with send := (x.send + 1) % 2 ^ 48 }) else s

/-- A copy starts that nothing of has been built (R218 to R228): it stands as the port's current copy already taken off the queue. (DEDUCED: log 32) -/
def firstStart (s : State) (q : Nat) (c : Copy) (d : Nat) : State :=
  let e := encIn s q c d
  match encodeBody s q c.sent e with
  | none => if q = 104 then cnt (dropEgress s q c) Reg.CDB_CNT_SLOT_DROP else dropEgress s q c
  | some (body, place) =>
    if lenOk s q (tKind e.t) body = false then dropEgress s q c
    else
      let k := byteAt e.t 2
      let key : Option Bytes × State := match place with
        | some _ => takeKey s k 7 useMacGen
        | none => (some [], s)
      match key with
      | (none, s) => noKey s q c
      | (some key, s) =>
        let prpNo := tget s.egr.prpSend (pairOf q)
        let s := consume s q c e.t place.isSome
        let s := logDeparture s q c d
        let c := { c with dep := d, seqNo := some e.seq, body := some body, prpSeq := if isPrp s q then prpNo else 0
                          firstTry := some (c.firstTry.getD (now s)) }
        match place with
        | none => putOut (tellMate s c) q c body
        | some (a, tag) =>
          let id := s.egr.nextSeal
          let op : VOp := { user := 7, ident := id, slot := k, key := key
                            out := sealTag key (slice body a (tag - a)) (slice body (tag - 8) 8) }
          let c := { c with sealOp := some (id, tag) }
          let s := { s with egr := { s.egr with nextSeal := id + 1 }, vault := { s.vault with ops := s.vault.ops ++ [op] } }
          let s := tellMate s c
          setEg s q { eg s q with cur := some c }

/-- A copy starts (R221): the second half of a pair's copy sends what the first has fixed; a CAN copy is built anew at each attempt. (DEDUCED: log 32) -/
def startCopy (s : State) (q : Nat) (c : Copy) : State :=
  let d := depStamp s q
  match c.body with
  | some b =>
    if pkind q = .cf then firstStart s q c d
    else
      let s := logDeparture s q c d
      let c := { c with dep := d }
      if c.sealOp.isSome then setEg s q { eg s q with cur := some c } else putOut s q c b
  | none => firstStart s q c d

/-- Whether a port may start a frame (R229, R232, R370): the gate is open, the link is up, the bus is on, no pause is in force. -/
def mayStart (s : State) (q : Nat) : Bool :=
  gateOpen s && carries s q && !(port s q).busOff && !(eg s q).paused &&
  !(decide (pkind q = .cf) && bit (rd s (Reg.PRT_MODE q)) 3)

/-- Whether an express copy may interrupt the frame in transmission (R230). -/
def mayPreempt (s : State) (q : Nat) : Bool :=
  let p := eg s q
  bit (rd s (Reg.EGR_PORT_CTRL q)) 1 && decide (p.verify = 2) && p.preempted.isNone &&
  (match p.cur with
    | some c => decide (copyCls c ≠ 0)
    | none => false) && p.queue.any (fun c => decide (copyCls c = 0))

/-- COPY_START (R28, R184, R218 to R228, R230). -/
def execCopyStart (q : Nat) (s : State) : Res :=
  .next (
    let p := eg s q
    let zero (c : Copy) : Bool := decide (copyCls c = 0)
    if q > 104 ∨ mayStart s q = false ∨ (p.cur.isSome ∧ mayPreempt s q = false) then s
    else
      let next := match takeFirst zero p.queue with
        | some r => some r
        | none => takeFirst (fun _ => true) p.queue
      match next with
      | none => s
      | some (c, rest) => startCopy (setEg s q { p with queue := rest, preempted := p.cur.orElse (fun _ => p.preempted), cur := none }) q c)

/-- The frame of a seal that failed ends invalid (R226): without its tag, an inverted FCS on E and X, the abort sequence on HDLC. -/
def endInvalid (s : State) (q : Nat) (c : Copy) (tag : Nat) : State :=
  let sent := (c.body.getD []).take tag
  match pkind q with
  | .e | .x => emit s (.wire q c.dep sent false)
  | .sp => emit s (.wire q c.dep ([0x7E#8] ++ stuff sent ++ [0x7D#8, 0x7E#8]) false)
  | _ => s

/-- The halves of a copy with seal operation `id` leave a port; one in transmission ends invalid. -/
def removeSealed (s : State) (q id tag : Nat) : State :=
  let p := eg s q
  let other (c : Copy) : Bool := match c.sealOp with
    | some (i, _) => !decide (i = id)
    | none => true
  let s := setEg s q { p with waiting := p.waiting.filter other, queue := p.queue.filter other }
  match p.cur with
  | some c => if other c then s else endCur (endInvalid s q c tag) q
  | none => s

/-- SEAL_TAG_COMPLETE fails (R226): nothing is sent under an orphaned key. -/
def sealFails (s : State) (q : Nat) (c : Copy) (id tag : Nat) : State :=
  let s := removeSealed s q id tag
  let s := if c.twin = 0 then s else removeSealed s (mateOf q) id tag
  let s := report (cnt (cnt s Reg.EGR_CNT_SEAL_FAIL) Reg.EGR_CNT_DROP) Ev.EGR_DROP q 0
  let k := byteAt (template s c.template) 2
  freeCopy (bogEntry s c.sent true true ⟨0x10, 0, Int.ofNat k⟩) c

/-- The tag stands in the copies of a port that carry seal operation `id`. -/
def putTag (s : State) (q id : Nat) (body : Bytes) : State :=
  let p := eg s q
  let is (c : Copy) : Bool := match c.sealOp with
    | some (i, _) => decide (i = id)
    | none => false
  let f (c : Copy) : Copy := if is c then { c with body := some body, sealOp := none } else c
  let s := setEg s q { p with waiting := p.waiting.map f, queue := p.queue.map f }
  match p.cur with
  | some c => if is c then putOut (endCur s q) q (f c) body else s
  | none => s

/-- SEAL_TAG_COMPLETE (R225, R226): the vault looks at the slot again before the tag leaves. -/
def execSealTagComplete (q : Nat) (s : State) : Res :=
  .next (
    match (eg s q).cur with
    | none => s
    | some c => match c.sealOp with
      | none => s
      | some (id, tag) =>
        match s.vault.ops.find? (fun o => decide (o.user = 7 ∧ o.ident = id)) with
        | none =>
          let k := byteAt (template s c.template) 2
          sealFails (cnt (report s Ev.KVT_ORPHANED_IN_USE k 0) Reg.KVT_CNT_ORPHANED_IN_USE) q c id tag
        | some o =>
          let (ok, s) := opComplete s 7 id
          if ok = false then sealFails s q c id tag
          else
            let body := overlay (c.body.getD []) tag (o.out.take 16)
            let s := if c.twin = 0 then s else putTag s (mateOf q) id body
            putTag s q id body)

/-- COPY_TRANSMISSION_END (R210). -/
def execCopyTransmissionEnd (q : Nat) (s : State) : Res :=
  .next (
    match (eg s q).cur with
    | none => s
    | some c => if c.sealOp.isSome then s else finishCopy (emit (endCur s q) (.wire q c.dep c.wire true)) c)

/-- CAN_ARBITRATION_LOST (R221): the copy waits for its next attempt. -/
def execCanArbitrationLost (q : Nat) (s : State) : Res :=
  .next (
    let p := eg s q
    match p.cur with
    | none => s
    | some c => if pkind q = .cf then setEg s q { p with cur := none, queue := c :: p.queue } else s)

/-- CAN_ARBITRATION_TIMEOUT (R220): 2 periods after its first attempt. -/
def execCanArbitrationTimeout (q : Nat) (s : State) : Res :=
  .next (
    let p := eg s q
    match p.queue with
    | [] => s
    | c :: rest => match c.firstTry with
      | some t => if pkind q = .cf ∧ since s t ≥ 2 * periodUnits s then dropEgress (setEg s q { p with queue := rest }) q c else s
      | none => s)

end Sys2Proof.Machine
end

