-- ==== Sys2Proof/Machine/Cadence.lean ====
section
/-! DEFINITION. The cadence bus (chapter 11): cycles, frames, windows, corrections, the engine's states, the guardian and the spare
slots. -/

namespace Sys2Proof.Machine

/-- Store the cadence block. -/
def setCdb (s : State) (c : Cdb) : State := { s with cdb := c }

/-- A stamp's units in a microtick (R336). -/
abbrev utUnits : Nat := 20

/-- This node's index. -/
def cdbNode (s : State) : Nat := fld s Reg.CDB_CONFIG 5 0

/-- Whether this node is a sync node. -/
def isSyncNode (s : State) : Bool := bit (rd s Reg.CDB_CONFIG) 7

/-- The number of slots. -/
def cdbSlots (s : State) : Nat := fld s Reg.CDB_CONFIG 19 10

/-- Microticks of a macrotick. -/
def mtLen (s : State) : Nat := fld s Reg.CDB_TIMING 9 0

/-- Macroticks of a cycle. -/
def cycleMt (s : State) : Nat := fld s Reg.CDB_TIMING 25 10

/-- The nominal cycle in stamp units. -/
def cycleUnits (s : State) : Nat := mtLen s * cycleMt s * utUnits

/-- Macroticks of a slot. -/
def slotLen (s : State) : Nat := fld s Reg.CDB_SLOT 11 0

/-- The precision Π in microticks; values outside 20 to 2,000 act as the nearer limit. -/
def cdbPi (s : State) : Nat := clampN 20 2000 (fld s Reg.CDB_SYNC_CFG 10 0)

/-- The stamp at which macrotick `m` of the current cycle begins: the rate correction is spread over the cycle (R350). -/
def mtStamp (s : State) (m : Nat) : Int :=
  Int.ofNat s.cdb.start
    + Int.ofNat utUnits * (Int.ofNat (m * mtLen s) + Int.fdiv (s.cdb.rCycle * Int.ofNat m) (Int.ofNat (cycleMt s)))

/-- The stamp at which slot `k` begins (R337). -/
def slotStart (s : State) (k : Nat) : Int := mtStamp s ((k - 1) * slotLen s)

/-- The action point of slot `k` (R337). -/
def actionPoint (s : State) (k : Nat) : Int := mtStamp s ((k - 1) * slotLen s + fld s Reg.CDB_SLOT 23 12)

/-- The slot in which a stamp lies, none outside the static segment. -/
def slotAt (s : State) (t : Nat) : Option Nat :=
  let ut := Int.ofNat ((t - s.cdb.start) / utUnits)
  let m := Int.fdiv (ut * Int.ofNat (cycleMt s)) (Int.ofNat (mtLen s * cycleMt s) + s.cdb.rCycle)
  let k := m.toNat / slotLen s + 1
  if t < s.cdb.start ∨ slotLen s = 0 ∨ k > cdbSlots s then none else some k

/-- The use of a slot: 0 another node's or unused, 1 own, 2 spare (R338). -/
def slotUse (s : State) (k : Nat) : Nat := nbits (schedWord s k) 1 0

/-- A spare slot's runtime state. -/
def spare (s : State) (k : Nat) : Spare := tget s.cdb.spares k

/-- Store a spare slot. -/
def setSpare (s : State) (k : Nat) (x : Spare) : State := { s with cdb := { s.cdb with spares := tset s.cdb.spares k x } }

/-- Whether this node claims or holds a spare slot. -/
def mine (x : Spare) : Bool := decide (x.state = .claiming ∨ x.state = .held)

/-- What waits to be sent in a slot is forgotten (R366). -/
def emptySlot (s : State) (k : Nat) : State :=
  { s with cdb := { s.cdb with slotBuf := tset s.cdb.slotBuf k none
                               service := s.cdb.service.filter (fun e => !decide (e.1 = k)) } }

/-- A spare slot becomes FREE (R366). -/
def freeSpare (s : State) (k : Nat) : State :=
  emptySlot (setSpare s k { (default : Spare) with silent := (spare s k).silent, seen := (spare s k).seen, foul := (spare s k).foul }) k

/-- A spare slot becomes TAKEN by a node (R365, R366). -/
def takeSpare (s : State) (k n : Nat) : State :=
  emptySlot (setSpare s k { (default : Spare) with state := .taken, holder := n, silent := (spare s k).silent, seen := true
                                                   foul := (spare s k).foul }) k

/-- The engine leaves SYNC (R353, R322): reported and counted; boundaries driven by the bus run free from here. (DEDUCED: log 47) -/
def leaveSync (s : State) : State :=
  if s.cdb.state ≠ .sync then s
  else
    let s := report (cnt s Reg.CDB_CNT_SYNC_LOST) Ev.CDB_SYNC_LOST 104 0
    if bit (rd s Reg.TIM_CTRL) 1 then { s with tim := { s.tim with periodFree := true, cycleDue := false } } else s

/-- The engine enters a state. -/
def enter (s : State) (x : CdbState) : State :=
  { s with cdb := { s.cdb with state := x, inState := 0, flagged := 0, clear := 0 } }

/-- The engine enters LISTEN with a fresh timeout (R355). -/
def toListen (s : State) : State :=
  let s := enter (leaveSync s) .listen
  { s with cdb := { s.cdb with listenFrom := now s, idleDone := false } }

/-- The engine enters SYNC: the guardian takes the cycle start announced next as a first one (R353, R361). -/
def toSync (s : State) : State :=
  let miss := if s.cdb.state = .passive then s.cdb.syncMiss else 0
  let s := enter s .sync
  { s with cdb := { s.cdb with guardFirst := true, syncMiss := miss } }

/-- The guardian's episode begins, reported once (R362, R363). -/
def guardReport (s : State) : State :=
  if s.cdb.guardEpisode then s
  else report { s with cdb := { s.cdb with guardEpisode := true } } Ev.CDB_GUARDIAN 104 0

/-- The guardian intervenes (R362): both enables are held to the end of the cycle and the engine enters PASSIVE. -/
def intervene (s : State) : State :=
  let s := guardReport { s with cdb := { s.cdb with guardHold := true, guardHit := true } }
  let s := leaveSync (cnt s Reg.CDB_CNT_GUARDIAN)
  if s.cdb.state = .off ∨ s.cdb.state = .listen ∨ s.cdb.state = .passive then s else enter s .passive

/-- The raw ticks by which an announced cycle start may depart from the expected one. -/
def guardTol (s : State) : Nat := 20 * max 1 (fld s Reg.CDB_GUARD 7 0)

/-- The guardian judges an announced cycle start (R361 to R363). (DEDUCED: log 47) -/
def guardJudge (s : State) : State :=
  let c := s.cdb
  let t := s.red.leaseTimer
  let quiet := decide (c.guardHit = false ∧ c.guardHold = false)
  let ok : Bool := match c.guardStart with
    | none => true
    | some g => decide (g + 500 * periodUs s ≤ t + guardTol s ∧ t ≤ g + 500 * periodUs s + guardTol s)
  if s.tim.refLost then { s with cdb := { c with guardHit := true } }
  else if c.resync then { s with cdb := { c with guardStart := some t, resync := false, guardFirst := false, guardHit := false } }
  else if c.guardFirst = true ∨ ok = true then
    { s with cdb := { c with guardStart := some t, guardFirst := false, guardHold := false, guardHit := false
                             guardEpisode := c.guardEpisode && !quiet } }
  else intervene s

/-- The spare slots the engine reports to the guardian (R361). -/
def reportedSlots (s : State) : List Nat :=
  let f := fun k => decide (slotUse s k = 2) && mine (spare s k)
  (((List.range (cdbSlots s + 1)).filter f).take (fld s Reg.CDB_LIMITS 27 24))

/-- A spare slot at a cycle start (R364 to R366). (DEDUCED: log 48) -/
def rollSpare (x : Spare) : Spare :=
  { x with
    silent := if x.seen then 0 else satAdd 65535 x.silent 1
    clean := if x.state = .claiming ∧ x.okA = true ∧ x.okB = true ∧ x.foul = false then x.clean + 1 else 0
    backoff := x.backoff - 1, seen := false, okA := false, okB := false, foul := false }

/-- How many arrivals of a sync node were wide in the last 64 cycles. -/
def wideCount (a : Arrivals) : Nat := (a.late.filter id).length

/-- A drifting episode ends when fewer than 4 arrivals are wide (R352). -/
def driftEnd (a : Arrivals) : Arrivals := { a with drifting := a.drifting && decide (wideCount a ≥ 4) }

/-- A sync node's history at a cycle start. -/
def rollArrivals (a : Arrivals) : Arrivals := driftEnd { a with late := false :: a.late.take 63, edge := false }

/-- A channel's count of cycles without an accepted frame while the other delivers (R343). -/
def missNext (miss : Nat) (own other : Bool) : Nat := if own = true ∨ other = false then 0 else miss + 1

/-- What a cycle has gathered is put away as the next begins. -/
def rollCycle (s : State) : State :=
  let c := s.cdb
  let spares := (List.range (cdbSlots s + 1)).foldl
    (fun t k => if slotUse s k = 2 then tmod t k rollSpare else t) c.spares
  { s with cdb := { c with
    cycle := (c.cycle + 1) % 65536, start := now s, inState := c.inState + 1, idleDone := false, rCycle := c.r
    prevDevs := c.devs, devs := c.nextDevs, nextDevs := [], seenLast := c.seenNow, seenNow := 0
    syncMiss := if c.seenNow = 0 then c.syncMiss + 1 else 0
    chaMiss := missNext c.chaMiss c.chaSeen c.chbSeen, chbMiss := missNext c.chbMiss c.chbSeen c.chaSeen
    chaSeen := false, chbSeen := false, slotsSeen := [], sent := []
    arrivals := tmap (fun _ a => rollArrivals a) c.arrivals, spares := spares, adoptedSeen := false, syncOk := false } }

/-- The pair of device time and cadence time is captured (R323). -/
def capturePair (s : State) : State :=
  { s with tim := { s.tim with cbPairs := ((now s, s.cdb.cycle * 65536) :: s.tim.cbPairs).take 16 } }

/-- A cycle start in SYNC is a period boundary where the bus is the source (R321, R322): while boundaries run free, one at least half
a period after the last. -/
def cycleBoundary (s : State) : State :=
  if s.cdb.state ≠ .sync ∨ bit (rd s Reg.TIM_CTRL) 1 = false ∨ s.tim.running = false then s
  else if s.tim.periodFree then
    (if now s ≥ s.tim.bound + periodUnits s / 2 then { s with tim := { s.tim with periodFree := false, cycleDue := true } } else s)
  else { s with tim := { s.tim with cycleDue := true } }

/-- How many spare slots this node claims, holds or waits for. -/
def claimCount (s : State) : Nat :=
  (s.cdb.spares.filter (fun e => mine e.2 || decide (e.2.state = .backoff))).length

/-- A claim of a FREE spare slot (R364); other slots and claims beyond claim_max are ignored. (DEDUCED: log 48) -/
def claimSlot (s : State) (k : Nat) : State :=
  if slotUse s k ≠ 2 ∨ k > cdbSlots s ∨ (spare s k).state ≠ .free ∨ claimCount s ≥ fld s Reg.CDB_LIMITS 27 24 then s
  else setSpare s k { spare s k with state := .claiming, holder := cdbNode s, clean := 0, releasing := false }

/-- Spare slots with auto_claim are claimed after the first SYNC cycle following the start of an ACTIVE unit. -/
def autoClaim (s : State) : State :=
  if s.cdb.autoDone = true ∨ s.cdb.state ≠ .sync ∨ s.cdb.inState < 2 ∨ s.dev ≠ .active then s
  else
    let s := { s with cdb := { s.cdb with autoDone := true } }
    (List.range (cdbSlots s + 1)).foldl (fun s k => if (schedWord s k).testBit 19 then claimSlot s k else s) s

/-- CDB_CYCLE_START (R323, R336, R353, R361). -/
def execCdbCycleStart (s : State) : Res :=
  .next (match s.cdb.state with
    | .off | .listen => s
    | .integrate =>
      if s.cdb.adoptedSeen then capturePair (rollCycle s) else toListen s
    | .coldstart | .sync | .passive =>
      let s := guardJudge (capturePair (rollCycle s))
      let s := { s with cdb := { s.cdb with openSlots := reportedSlots s } }
      autoClaim (cycleBoundary s))

/-- Insert into a rising list. -/
def insertZ (x : Int) : List Int → List Int
  | [] => [x]
  | y :: t => if x ≤ y then x :: y :: t else y :: insertZ x t

/-- Sort rising. -/
def sortZ (l : List Int) : List Int := l.foldr insertZ []

/-- The fault-tolerant midpoint (R349). -/
def midpoint (l : List Int) : Option Int :=
  let v := sortZ l
  let m := v.length
  let k := if m ≤ 2 then 0 else if m ≤ 6 then 1 else 2
  if m = 0 then none else some (Int.tdiv (v.getD k 0 + v.getD (m - 1 - k) 0) 2)

/-- A value brought within a limit, and whether it was beyond. -/
def clampTo (lim : Nat) (v : Int) : Int × Bool :=
  (clampZ (-(Int.ofNat lim)) (Int.ofNat lim) v, decide (v.natAbs > lim))

/-- The deviations of a set, this node's own 0 among them where it is a sync node (R348). -/
def devSet (s : State) (t : Tab (Option Int)) : List Int :=
  let own : List Int := if isSyncNode s then [0] else []
  own ++ t.filterMap (fun e => e.2)

/-- The rate terms of the cycle (R348). -/
def rateTerms (s : State) : List Int :=
  let own : List Int := if isSyncNode s then [0] else []
  let term (e : Nat × Option Int) : Option Int :=
    match e.2, tget s.cdb.prevDevs e.1 with
    | some d, some p => some (d - p + s.cdb.o)
    | _, _ => none
  own ++ s.cdb.devs.filterMap term

/-- CDB_IDLE_SEGMENT (R348 to R350, R353). -/
def execCdbIdleSegment (s : State) : Res :=
  .next (if s.cdb.idleDone = true ∨ s.cdb.state = .off ∨ s.cdb.state = .listen then s
    else
      let cfg := rd s Reg.CDB_SYNC_CFG
      let (o, fo) := clampTo (bits cfg 20 11) ((midpoint (devSet s s.cdb.devs)).getD 0)
      let mid := (midpoint (rateTerms s)).getD 0
      let want := if mid.natAbs ≤ bits cfg 31 29 then s.cdb.r else s.cdb.r + mid
      let (r, fr) := clampTo (bits cfg 28 21) want
      let bad := fo || fr
      let s := cntAdd s Reg.CDB_CNT_CLAMP (b2n fo + b2n fr)
      let c := s.cdb
      let whole := decide (c.inState ≥ 1)
      let s := setCdb s { c with o := o, r := r, terms := rateTerms s, idleDone := true
                                 flagged := if bad then c.flagged + 1 else 0
                                 clear := if bad then 0 else if whole then c.clear + 1 else c.clear }
      if s.cdb.state = .sync ∧ s.cdb.flagged ≥ 2 then enter (leaveSync s) .passive else s)

/-- A frame's fields (R340). -/
structure CbFrame where
  flags : Nat
  ident : Nat
  node : Nat
  cycle : Nat
  payload : Bytes
deriving DecidableEq, Repr

/-- The header check of R341. -/
def cbHcrc (h : Bytes) : Nat := (crcL 8 0x2F 0xFF h) ^^^ 0xFF

/-- The bytes of a frame (R340, R341). -/
def cbBytes (f : CbFrame) : Bytes :=
  let h := toLE 1 (f.flags * 4 + 1) ++ toBE 2 f.ident ++ toLE 1 f.payload.length ++ toLE 1 f.node ++ toBE 2 f.cycle
  let b := h ++ toLE 1 (cbHcrc h) ++ f.payload
  b ++ toLE 4 (crc32 b)

/-- Flag bits of a frame, as bits [7:2] of byte 0: sync 5, startup 4, claim 3, null 2, release 1, service 0. -/
def cbFlag (f : CbFrame) (i : Nat) : Bool := f.flags.testBit i

/-- What judging a frame's bytes gives. -/
inductive CbJudged where
  | framing
  | checksum
  | accepted (f : CbFrame)
deriving DecidableEq, Repr

/-- A frame's bytes judged for slot `k` (R342). (DEDUCED: log 47) -/
def cbJudge (s : State) (k : Nat) (bs : Bytes) : CbJudged :=
  let w := schedWord s k
  let f : CbFrame := { flags := byteAt bs 0 / 4, ident := beAt bs 1 2, node := byteAt bs 4, cycle := beAt bs 5 2
                       payload := slice bs 8 (bs.length - 12) }
  let len := byteAt bs 3
  let spareSlot := decide (nbits w 1 0 = 2)
  let flagsOk := decide (byteAt bs 0 % 4 = 1) && (!cbFlag f 4 || cbFlag f 5) && (cbFlag f 3 == spareSlot)
    && (!cbFlag f 2 || decide (len = 0)) && (!cbFlag f 1 || (cbFlag f 3 && cbFlag f 2))
    && (!cbFlag f 0 || decide (len % 10 = 0))
  if bs.length < 12 then .framing
  else if byteAt bs 7 ≠ cbHcrc (bs.take 7) then .checksum
  else if bs.length ≠ 12 + len then .framing
  else if leAt bs (bs.length - 4) 4 ≠ crc32 (bs.take (bs.length - 4)) then .checksum
  else if flagsOk = false ∨ f.ident ≠ k ∨ len > nbits w 17 10 then .framing
  else if spareSlot = false ∧ f.node ≠ nbits w 9 4 then .framing
  else .accepted f

/-- A conflict in a slot this node claims or holds (R365), at most one in a cycle: `other` is the node whose claim frame was accepted. -/
def conflict (s : State) (k : Nat) (other : Option Nat) : State :=
  let x := spare s k
  let s := if x.foul then s else report (cnt s Reg.CDB_CNT_CLAIM_CONFLICT) Ev.CDB_CLAIM_CONFLICT 104 k
  let s := setSpare s k { x with foul := true }
  match other with
  | some n => if n < cdbNode s then takeSpare s k n else s
  | none => if x.seen then s else setSpare s k { x with foul := true, state := .backoff, backoff := cdbNode s, clean := 0 }

/-- A frame that was not accepted lies in slot `k`: a fault of coding, or this node's own frame come back otherwise than it was sent. -/
def spoiled (s : State) (k : Nat) (coding : Bool) : State :=
  if slotUse s k = 2 ∧ mine (spare s k) = true ∧ (coding = true ∨ (tget s.cdb.sent k).isSome) then conflict s k none else s

/-- An accepted frame in a spare slot (R364 to R366). (DEDUCED: log 48) -/
def spareFrame (s : State) (k : Nat) (chB : Bool) (f : CbFrame) (bs : Bytes) : State :=
  let x := spare s k
  if f.node = cdbNode s then
    let back := decide (tget s.cdb.sent k = some bs)
    let x := { x with seen := true, okA := x.okA || (back && !chB), okB := x.okB || (back && chB) }
    let s := setSpare s k x
    if mine x = true ∧ back = false ∧ (tget s.cdb.sent k).isSome then conflict s k none else s
  else
    let s := setSpare s k { x with seen := true }
    if mine x then conflict s k (some f.node)
    else if cbFlag f 1 then (if x.state = .taken then freeSpare s k else s)
    else takeSpare s k f.node

/-- A startup attempt is abandoned (R357). -/
def abandon (s : State) : State :=
  toListen (report (cnt s Reg.CDB_CNT_CONTENTION) Ev.CDB_STARTUP_CONTENTION 104 0)

/-- Whether this node's own frame stands in slot `k` and came back otherwise. (DEDUCED: log 47) -/
def ownSpoiled (s : State) (k : Nat) (bs : Bytes) : Bool :=
  match tget s.cdb.sent k with
  | some b => !decide (b = bs)
  | none => false

/-- A wide or discarded arrival of a sync node (R352). -/
def arrival (s : State) (n : Nat) (edge : Bool) (dev : Option Int) : State :=
  let a := tget s.cdb.arrivals n
  let edge := a.edge || edge
  let d := dev.getD a.dev
  let wide := match dev with
    | some d => decide (4 * d.natAbs > 3 * cdbPi s)
    | none => false
  let a := { a with edge := edge, dev := d, late := (edge || wide) :: a.late.drop 1 }
  let starts := decide (wideCount a ≥ 8) && !a.drifting
  let s := { s with cdb := { s.cdb with arrivals := tset s.cdb.arrivals n { a with drifting := a.drifting || starts } } }
  if starts then report s Ev.CDB_DRIFTING_NEIGHBOUR 104 n else s

/-- A deviation in microticks, to the nearest, halves away from zero (R348). -/
def deviation (t : Nat) (ap : Int) : Int :=
  let x := Int.ofNat t - ap
  let m := Int.ofNat ((2 * x.natAbs + utUnits) / (2 * utUnits))
  if x < 0 then -m else m

/-- An accepted sync frame is used for synchronisation (R348, R351, R352). Channel A's deviation stands before channel B's. -/
def useSync (s : State) (k : Nat) (chB : Bool) (t : Nat) (f : CbFrame) (again : Bool) : State :=
  let c := s.cdb
  let c := { c with syncOk := c.syncOk || !cbFlag f 4, adoptedSeen := c.adoptedSeen || decide (k = c.adopted) }
  if f.node = cdbNode s then setCdb s c
  else
    let d := deviation t (actionPoint s k)
    let late := c.idleDone
    let dv := if late then c.nextDevs else c.devs
    let keep := chB && again && (tget dv f.node).isSome
    let dv := if keep then dv else tset dv f.node (some d)
    let c := { c with devs := if late then c.devs else dv, nextDevs := if late then dv else c.nextDevs
                      seenNow := if again then c.seenNow else c.seenNow + 1 }
    let s := setCdb s c
    if keep then s else arrival s f.node false (some d)

/-- The values of a slot enter the reception buffer (R345, R77): those still waiting are replaced and counted as overruns. -/
def cbDeliver (s : State) (xs : List Sent) : State :=
  match xs with
  | [] => s
  | x :: _ =>
    if isStandby s then s
    else
      let p := port s 104
      let keep := p.buf.filter (fun y => !decide (y.key = x.key))
      let lost := p.buf.length - keep.length
      let s := setPort s 104 { p with buf := keep ++ xs }
      if lost = 0 then s else overrun s 104 lost

/-- The sentences an accepted frame yields (R345). -/
def cbSents (s : State) (k : Nat) (chB : Bool) (t e : Nat) (f : CbFrame) : List Sent :=
  let mk (p : Bytes) : Sent :=
    { newSent 104 t e (mkKey 0x0A 104 (toBE 2 f.ident)) p with
      path := if chB then 2 else 1, both := !s.cdb.chaLost && !s.cdb.chbLost, hint := hinted s 104 none none none }
  if cbFlag f 2 = true ∨ (schedWord s k).testBit 18 = false then []
  else if cbFlag f 0 then
    (List.range (f.payload.length / 10)).filterMap (fun i =>
      if byteAt f.payload (10 * i) = cdbNode s then some (mk (slice f.payload (10 * i + 2) 8)) else none)
  else [mk f.payload]

/-- An accepted frame in a running cycle: the channels, the spare slots, synchronisation, delivery (R343 to R345). -/
def cbAccept (s : State) (k : Nat) (chB : Bool) (raw t e : Nat) (f : CbFrame) (bs : Bytes) : State :=
  let c := s.cdb
  let again := c.slotsSeen.contains k
  let s := setCdb s { c with chaSeen := c.chaSeen || !chB, chbSeen := c.chbSeen || chB, chaLost := c.chaLost && chB
                             chbLost := c.chbLost && !chB, slotsSeen := if again then c.slotsSeen else k :: c.slotsSeen }
  let s := if slotUse s k = 2 then spareFrame s k chB f bs else s
  let s := if cbFlag f 5 then useSync s k chB t f again else s
  if again = true ∨ admits s 104 raw = false then s else cbDeliver s (cbSents s k chB t e f)

/-- The engine adopts a schedule position from a sync frame (R358). (DEDUCED: log 47) -/
def adopt (s : State) (k t : Nat) (f : CbFrame) : State :=
  let m := (k - 1) * slotLen s + fld s Reg.CDB_SLOT 23 12
  let s := enter s .integrate
  setCdb s { s.cdb with start := t - m * mtLen s * utUnits, rCycle := 0, cycle := f.cycle, adopted := k, adoptedSeen := true
                        syncOk := false, idleDone := false, devs := [], prevDevs := [], nextDevs := [], slotsSeen := []
                        sent := [], seenNow := 0, syncMiss := 0 }

/-- A frame while the engine listens (R353, R355, R358): used only to adopt a schedule. -/
def listenFrame (s : State) (t : Nat) (good : Bool) (bs : Bytes) : State :=
  let k := beAt bs 1 2
  if good = false then framing s 104
  else match cbJudge s k bs with
    | .framing => framing s 104
    | .checksum => checksum s 104
    | .accepted f =>
      let s := setCdb s { s.cdb with listenFrom := now s }
      if k = 0 ∨ k > cdbSlots s then framing s 104 else if cbFlag f 5 then adopt s k t f else s

/-- The extra compensation of channel B in force at a lead (R344). -/
def chbComp (s : State) (t : Nat) : Int := sext 16 (compBefore t (fld s Reg.CDB_CHB_COMP 15 0) s.cdb.chbPast)

/-- CB_FRAME_END (R342 to R348, R352, R357, R358, R365): a frame ends on channel A or B. `raw` and `rawEnd` are the captures at the pad
of its lead and of its end; `good` says that the coding of R339 held throughout. -/
def execCbFrameEnd (chB : Bool) (bs : Bytes) (raw rawEnd : Nat) (good : Bool) (s : State) : Res :=
  .next (
    let comp := stampComp s 104 raw + (if chB then chbComp s raw else 0)
    let t := stampAt s 104 raw comp
    let e := endAt s 104 rawEnd comp
    match s.cdb.state with
    | .off => s
    | .listen => listenFrame s t good bs
    | st =>
      let cold := decide (st = .coldstart)
      match slotAt s t with
      | none => if cold = true ∧ good = false then abandon (framing s 104) else framing s 104
      | some k =>
        let ap := actionPoint s k
        let own := ownSpoiled s k bs
        if good = false then
          let s := spoiled (framing s 104) k true
          if cold then abandon s else s
        else if (Int.ofNat t - ap).natAbs > cdbPi s * utUnits then
          let s := report (cnt s Reg.CDB_CNT_EDGE) Ev.CDB_EDGE 104 k
          let w := schedWord s k
          let s := if w.testBit 2 = true ∧ nbits w 1 0 = 0 then arrival s (nbits w 9 4) true none else s
          if cold = true ∧ own = true then abandon s else s
        else
          let j := if Int.ofNat (stampAt s 104 rawEnd comp) > slotStart s (k + 1) then CbJudged.framing else cbJudge s k bs
          match j with
          | .framing => let s := spoiled (framing s 104) k false
                        if cold = true ∧ own = true then abandon s else s
          | .checksum => let s := spoiled (checksum s 104) k false
                         if cold = true ∧ own = true then abandon s else s
          | .accepted f =>
            if cold = true ∧ (own = true ∨ (cbFlag f 5 = true ∧ f.node ≠ cdbNode s)) then abandon s
            else cbAccept s k chB raw t e f bs)

/-- LISTEN_TIMEOUT (R355, R356): a cold-start node of an ACTIVE unit begins its cycle 0; any other restarts the timeout. -/
def execListenTimeout (s : State) : Res :=
  .next (
    let w := rd s Reg.CDB_CONFIG
    let limit := (fld s Reg.CDB_TIMING 31 26 + cdbNode s) * cycleUnits s
    if s.cdb.state ≠ .listen ∨ since s s.cdb.listenFrom < limit then s
    else if bit w 6 = false ∨ s.dev ≠ .active then { s with cdb := { s.cdb with listenFrom := now s } }
    else
      let s := enter s .coldstart
      let s := setCdb s { s.cdb with cycle := 0, start := now s, rCycle := 0, idleDone := false, devs := [], prevDevs := [], nextDevs := []
                                     slotsSeen := [], sent := [], seenNow := 0, syncMiss := 0, guardFirst := true }
      guardJudge (capturePair s))

/-- STARTUP_COMPLETE (R356): cycles 0 to 3 have passed; SYNC begins with cycle 4. (DEDUCED: log 47) -/
def execStartupComplete (s : State) : Res :=
  .next (if s.cdb.state = .coldstart ∧ s.cdb.inState ≥ 3 ∧ s.cdb.idleDone = true then toSync s else s)

/-- INTEGRATION_COMPLETE (R358): at the end of a cycle that follows a whole integrated cycle, with a sync frame in its window. (DEDUCED: log 47) -/
def execIntegrationComplete (s : State) : Res :=
  .next (if s.cdb.state = .integrate ∧ s.cdb.inState ≥ 2 ∧ s.cdb.syncOk = true ∧ s.cdb.adoptedSeen = true ∧ s.cdb.idleDone = true
    then toSync s else s)

/-- PASSIVE_RECOVERY (R353): four consecutive cycles were not flagged. -/
def execPassiveRecovery (s : State) : Res :=
  .next (if s.cdb.state = .passive ∧ s.cdb.clear ≥ 4 then toSync s else s)

/-- PASSIVE_TIMEOUT (R353): 16 cycles have passed in PASSIVE. (DEDUCED: log 47) -/
def execPassiveTimeout (s : State) : Res :=
  .next (if s.cdb.state = .passive ∧ s.cdb.inState ≥ 16 ∧ s.cdb.idleDone = true then toListen s else s)

/-- Cycles without another node's sync frame before LISTEN; 0 acts as 1. -/
def syncLimit (s : State) : Nat := max 1 (fld s Reg.CDB_LIMITS 7 0)

/-- SYNC_LOST_TIMEOUT (R360). -/
def execSyncLostTimeout (s : State) : Res :=
  .next (if (s.cdb.state = .sync ∨ s.cdb.state = .passive) ∧ isSyncNode s = false ∧ s.cdb.syncMiss ≥ syncLimit s
    then toListen s else s)

/-- CHANNEL_LOST (R343). -/
def execChannelLost (chB : Bool) (s : State) : Res :=
  .next (
    let c := s.cdb
    let miss := if chB then c.chbMiss else c.chaMiss
    let lost := if chB then c.chbLost else c.chaLost
    if lost = true ∨ miss < max 1 (fld s Reg.CDB_LIMITS 23 16) then s
    else
      let s := setCdb s { c with chaLost := c.chaLost || !chB, chbLost := c.chbLost || chB }
      report (cnt s Reg.CDB_CNT_CHANNEL) Ev.PRT_PATH_LOST 104 0)

/-- ENGINE_ENABLE (R353). -/
def execEngineEnable (r : Req) (s : State) : Res :=
  .next (gatedBit s r Reg.CDB_CTRL 0 (fun s =>
    let s := setFld s Reg.CDB_CTRL 0 0 1
    if s.cdb.state = .off then toListen s else s))

/-- ENGINE_DISABLE (R353): transmission stops at once. -/
def execEngineDisable (r : Req) (s : State) : Res :=
  .next (gatedBit s r Reg.CDB_CTRL 0 (fun s => enter (leaveSync (setFld s Reg.CDB_CTRL 0 0 0)) .off))

/-- CDB_RESTART (R353). -/
def execCdbRestart (r : Req) (s : State) : Res :=
  .next (gated s r Reg.CDB_CMD (fun s => if s.cdb.state = .off then s else toListen s))

/-- Whether the guardian lets a frame out in slot `k` (R361): its own copy of the schedule names the slot as own, or the engine reported it
at the cycle start. -/
def guardPermits (s : State) (k : Nat) : Bool :=
  let g := (tget s.cdb.guardSched k).toNat
  !s.cdb.guardHold && !s.tim.refLost && s.cdb.guardStart.isSome &&
    (decide (nbits g 1 0 = 1) || (decide (nbits g 1 0 = 2) && s.cdb.openSlots.contains k))

/-- The records of a service slot that one frame takes (R346), and those left. -/
def takeService (k n : Nat) (l : List (Nat × Bytes)) : Bytes × List (Nat × Bytes) :=
  let own := (l.filter (fun e => decide (e.1 = k))).take n
  (own.flatMap (fun e => e.2), (l.foldl (fun (acc : Nat × List (Nat × Bytes)) e =>
    if e.1 = k ∧ acc.1 > 0 then (acc.1 - 1, acc.2) else (acc.1, acc.2 ++ [e])) (n, [])).2)

/-- The frame of this node in slot `k` and the state in which its value has been taken (R346, R356, R364, R366). -/
def buildFrame (s : State) (k : Nat) : CbFrame × State :=
  let w := schedWord s k
  let x := spare s k
  let isSpare := decide (nbits w 1 0 = 2)
  let cold := decide (s.cdb.state = .coldstart)
  let bare := cold || (isSpare && (decide (x.state = .claiming) || x.releasing))
  let max := nbits w 17 10
  let (v, s) : Bytes × State :=
    if bare then ([], s)
    else if w.testBit 3 then
      let (p, rest) := takeService k (max / 10) s.cdb.service
      (p, { s with cdb := { s.cdb with service := rest } })
    else ((tget s.cdb.slotBuf k).getD [], s)
  let has := if bare then false else if w.testBit 3 then decide (v ≠ []) else (tget s.cdb.slotBuf k).isSome
  let s := if bare then s else { s with cdb := { s.cdb with slotBuf := tset s.cdb.slotBuf k none } }
  let sync := w.testBit 2 && !isSpare
  let flags := 32 * b2n sync + 16 * b2n cold + 8 * b2n isSpare + 4 * b2n (!has) + 2 * b2n (isSpare && x.releasing)
    + b2n (w.testBit 3 && !cold)
  ({ flags := flags, ident := k, node := cdbNode s, cycle := s.cdb.cycle, payload := v }, s)

/-- Whether the engine has a frame to send in slot `k` (R353, R354, R364). -/
def engineSends (s : State) (k : Nat) : Bool :=
  let w := schedWord s k
  let own := decide (nbits w 1 0 = 1)
  let held := decide (nbits w 1 0 = 2) && mine (spare s k) && s.cdb.openSlots.contains k
  decide (1 ≤ k ∧ k ≤ cdbSlots s) && gateOpen s && (tget s.cdb.sent k).isNone && decide (Int.ofNat s.cdb.txFrom ≤ slotStart s k) &&
    ((decide (s.cdb.state = .coldstart) && own && w.testBit 2) || (decide (s.cdb.state = .sync) && (own || held)))

/-- CDB_SLOT_TRANSMIT (R340, R346, R354, R361, R362): slot `k` is reached. `outside` says that the engine asks for the line outside
the guardian's window of the slot, or still holds it when the window ends. -/
def execCdbSlotTransmit (k : Nat) (outside : Bool) (s : State) : Res :=
  .next (if engineSends s k = false then s
    else if guardPermits s k = false then s
    else if outside then intervene s
    else
      let (f, s) := buildFrame s k
      let b := cbBytes f
      let s := { s with cdb := { s.cdb with sent := tset s.cdb.sent k (some b) } }
      let s := emit (emit s (.cadence 0 k b)) (.cadence 1 k b)
      if cbFlag f 1 then freeSpare s k else s)

/-- SLOT_CLAIM (R364). -/
def execSlotClaim (r : Req) (k : Nat) (s : State) : Res :=
  .next (gated s r Reg.CDB_CLAIM_CMD (fun s => claimSlot s k))

/-- SLOT_RELEASE (R366): one release frame in the slot's next occurrence; a slot that waits after a conflict is given up at once. (DEDUCED: log 48) -/
def execSlotRelease (r : Req) (k : Nat) (s : State) : Res :=
  .next (gated s r Reg.CDB_CLAIM_CMD (fun s =>
    let x := spare s k
    if slotUse s k ≠ 2 then s
    else if mine x then setSpare s k { x with releasing := true }
    else if x.state = .backoff then freeSpare s k else s))

/-- CLAIM_CONFIRMED (R364). -/
def execClaimConfirmed (k : Nat) (s : State) : Res :=
  .next (let x := spare s k
    if x.state = .claiming ∧ x.clean ≥ 3 then setSpare s k { x with state := .held } else s)

/-- CLAIM_BACKOFF_END (R365). (DEDUCED: log 48) -/
def execClaimBackoffEnd (k : Nat) (s : State) : Res :=
  .next (let x := spare s k
    if x.state = .backoff ∧ x.backoff = 0 then setSpare s k { x with state := .claiming, clean := 0 } else s)

/-- CLAIM_LAPSE (R366); values of claim_lapse below 16 act as 16. -/
def execClaimLapse (k : Nat) (s : State) : Res :=
  .next (let x := spare s k
    if x.state = .taken ∧ x.silent ≥ max 16 (fld s Reg.CDB_LIMITS 15 8) then freeSpare s k else s)

/-- CDB_CNT_CLEAR_GLOBAL (R369). -/
def execCdbCntClearGlobal (r : Req) (s : State) : Res :=
  .next (gated s r Reg.CDB_CNT_CLEAR (fun s => clearRegs s Reg.CDB_CNT_EDGE Reg.CDB_CNT_SLOT_DROP))

/-- CDB_CNT_CLEAR_NODES (R352). -/
def execCdbCntClearNodes (r : Req) (s : State) : Res :=
  .next (gated s r Reg.CDB_CNT_CLEAR (fun s =>
    { s with cdb := { s.cdb with arrivals := tmap (fun _ a => driftEnd { a with late := [], edge := false }) s.cdb.arrivals } }))

/-- REFCLK_LOST (R332, R363): holdover begins, and the guardian holds both enables until the reference is back. A loss in an episode
continues it. -/
def execRefclkLost (s : State) : Res :=
  .next (if s.tim.refLost then s
    else
      let fresh := !s.tim.holdover
      let s := { s with tim := { s.tim with refLost := true } }
      let s := { s with cdb := { s.cdb with guardHold := true, resync := true, guardHit := true } }
      let s := if s.cdb.state = .off then s else guardReport s
      if fresh then
        let s := { s with tim := { s.tim with holdover := true, holdSince := now s } }
        report (cnt s Reg.TIM_CNT_REF_LOST) Ev.TIM_REF_LOST noInst 0
      else s)

end Sys2Proof.Machine
end

