-- ==== Sys2Proof/Machine/Bridge.lean ====
section
/-! DEFINITION. The commands of the field bridge (chapter 9): direct accesses, command rings, exchanges, semaphores, windows. -/

namespace Sys2Proof.Machine

/-- The status a lane's request is refused with (R276, R283, R305, R306), where it is. -/
def reqRefusal (s : State) (guard : Bool) (w : Nat) (write : Bool) : Option Nat :=
  let k := winKind s w
  let right := 2 * b2n guard + b2n write
  if s.dev ≠ .active then some 7
  else if k = 0 ∨ k ≥ 6 ∨ (win s w).state ≠ 1 ∨ (k = 4 ∧ write = true) ∨ (nbits (winW s w 0) 19 16).testBit right = false then some 4
  else none

/-- Whether a range of a window can be accessed (R275, R277, R284). -/
def rangeOk (s : State) (w offset len : Nat) (direct : Bool) : Bool :=
  let fits := decide (1 ≤ len ∧ offset + len ≤ winSize s w) && (!splits s w || decide (offset % narrow s w = 0))
  let kindOk := match winKind s w with
    | 1 => direct || (decide (len % 2 = 0) && decide (len ≤ 256))
    | 2 => decide (offset % 256 = 0) && decide (len ≤ if direct then 4 else 4096)
    | 3 => direct || decide (offset % 32 + len ≤ 32)
    | 4 => direct || decide (len = 2)
    | 5 => decide (offset % 256 + len ≤ 256)
    | _ => false
  fits && kindOk && (if direct then decide (len ≤ 64 ∧ offset % 64 + len ≤ 64) else decide (len ≤ 4096))

/-- A request is accepted: it stands behind those accepted before it. (DEDUCED: log 40) -/
def takeReq (s : State) (r : BReq) : State :=
  let b := s.brg
  { s with brg := { b with nextReq := b.nextReq + 1
                           reqs := b.reqs ++ [{ r with uid := b.nextReq, retries := nbits (winW s r.window 1) 10 8 }] } }

/-- Requests of a function that wait in its request queue, or in its posted-write queue (R300). -/
def queued (s : State) (lane : Nat) (guard : Bool) (posted : Bool) : Nat :=
  (s.brg.reqs.filter (fun r => decide (r.lane = lane ∧ r.guard = guard) && unissued r && (decide (r.kind = .posted) == posted))).length

/-- Whether the bridge's registers and windows can be reached (R517). -/
def brgReached (s : State) (lane w : Nat) : Bool := decide (lane < 3 ∧ w < 256) && domainOn s (domainOf Reg.BRG_STATUS)

/-- A cache entry that holds a read (R293). -/
def cacheHit (s : State) (w offset len : Nat) : Option (CacheEnt × List CacheEnt) :=
  takeFirst (fun e => decide (e.window = w ∧ e.offset ≤ offset ∧ offset + len ≤ e.offset + e.data.length ∧
    since s e.filled < winW s w 4 * usUnits)) s.brg.cache

/-- BRIDGE_DIRECT_READ (R275, R286, R289, R293). -/
def execBridgeDirectRead (lane : Nat) (guard : Bool) (w offset len tag : Nat) (s : State) : Res :=
  .next (
    if brgReached s lane w = false then s
    else
      let refusal := match reqRefusal s guard w false with
        | some c => some c
        | none => if rangeOk s w offset len true then none else some 4
      match refusal with
      | some c => readFails (countStatus s c) lane guard tag w offset c
      | none =>
        let sef := (winW s w 0).testBit 5
        match (if sef then cacheHit s w offset len else none) with
        | some (e, rest) =>
          let s := cnt { s with brg := { s.brg with cache := e :: rest } } Reg.BRG_CNT_CACHE_HIT
          emit s (.completion lane guard tag true (slice e.data (offset - e.offset) len))
        | none =>
          if queued s lane guard false ≥ 64 then s
          else
            let p := if sef ∧ splits s w = true then min 256 (nbits (winW s w 3) 24 16) else 0
            let total := if p = 0 then len else min (len + p) (winSize s w - offset)
            takeReq s { (default : BReq) with kind := .dread, window := w, lane := lane, guard := guard, ident := tag
                                              offset := offset, length := total, want := len })

/-- BRIDGE_DIRECT_WRITE (R275, R288, R291, R300). -/
def execBridgeDirectWrite (lane : Nat) (guard : Bool) (w offset : Nat) (data : Bytes) (s : State) : Res :=
  .next (
    if brgReached s lane w = false then s
    else
      let refusal := match reqRefusal s guard w true with
        | some c => some c
        | none => if rangeOk s w offset data.length true && (winW s w 0).testBit 4 then none else some 4
      match refusal with
      | some c =>
        let (tag, s) := freeVal (countStatus s c)
        lateFault s { stamp := now s, window := w, lane := lane, guard := guard, cause := c, tag := tag % 65536, offset := offset
                      bytes := min data.length (if splits s w then narrow s w else 32), data := data.take 4, detail := 0 }
      | none =>
        if queued s lane guard true ≥ 256 then s
        else
          let kw := kwOf lane guard
          let n := ((ring s kw).post + 1) % 2 ^ 32
          let s := setRing s kw { ring s kw with post := n }
          if (win s w).fenced.contains lane then cnt s Reg.BRG_CNT_FENCED
          else takeReq s { (default : BReq) with kind := .posted, window := w, lane := lane, guard := guard, ident := n
                                                 offset := offset, length := data.length, want := data.length, data := data })

/-- Whether a ring set can fetch its next command (R283, R300). -/
def canFetch (s : State) (lane : Nat) (guard : Bool) : Bool :=
  let kw := kwOf lane guard
  let x := ring s kw
  let mine (r : BReq) : Bool := decide (r.lane = lane ∧ r.guard = guard ∧ (r.kind = .cread ∨ r.kind = .cwrite))
  brgReached s lane 0 && ringOn s kw && decide (x.head ≠ (rd s (Reg.BRG_CR_TAIL kw)).toNat) &&
  decide ((x.cplHead + 2 ^ 32 - (rd s (Reg.BRG_CPL_TAIL kw)).toNat) % 2 ^ 32 + (s.brg.reqs.filter mine).length < 2 ^ ringA s kw) &&
  decide (queued s lane guard false < 64)

/-- A command has been fetched: the head advances. -/
def fetched (s : State) (lane : Nat) (guard : Bool) (act : State → State) : State :=
  if canFetch s lane guard = false then s
  else
    let kw := kwOf lane guard
    act (setRing s kw { ring s kw with head := ((ring s kw).head + 1) % 2 ^ 32 })

/-- A fetched READ or WRITE is accepted, or completes at once with what refuses it. -/
def command (s : State) (r : BReq) (op : Nat) : State :=
  let refusal := match reqRefusal s r.guard r.window (writes r) with
    | some c => some c
    | none => if rangeOk s r.window r.offset r.length false then none else some 4
  match refusal with
  | some c => writeCpl (countStatus s c) r.lane r.guard r.ident c op 0 0
  | none => takeReq s r

/-- BRG_CMD_READ (R283, R284, R285). -/
def execBrgCmdRead (lane : Nat) (guard : Bool) (op w tag offset len buffer : Nat) (s : State) : Res :=
  .next (fetched s lane guard (fun s =>
    if op ≠ 1 ∨ w > 255 then writeCpl (countStatus s 4) lane guard tag 4 op 0 0
    else command s { (default : BReq) with kind := .cread, window := w, lane := lane, guard := guard, ident := tag, offset := offset
                                           length := len, want := len, buffer := buffer } 1))

/-- BRG_CMD_WRITE (R283, R284, R285). -/
def execBrgCmdWrite (lane : Nat) (guard : Bool) (w tag offset len : Nat) (data : Bytes) (s : State) : Res :=
  .next (fetched s lane guard (fun s =>
    if w > 255 ∨ data.length ≠ len then writeCpl (countStatus s 4) lane guard tag 4 2 0 0
    else command s { (default : BReq) with kind := .cwrite, window := w, lane := lane, guard := guard, ident := tag, offset := offset
                                           length := len, want := len, data := data } 2))

/-- A semaphore. -/
def sem (s : State) (n : Nat) : Sem := tget s.brg.sems n

/-- Store a semaphore. -/
def setSem (s : State) (n : Nat) (x : Sem) : State := { s with brg := { s.brg with sems := tset s.brg.sems n x } }

/-- The lease of a semaphore in ms (R297). -/
def semLease (s : State) (n : Nat) : Nat := nbits (cw s 9 (2048 + n / 2)) (if n % 2 = 1 then 31 else 15) (if n % 2 = 1 then 16 else 0)

/-- SEM_ACQUIRE (R296): a free semaphore is taken, one's own is renewed; the status. -/
def acquire (s : State) (lane : Nat) (guard : Bool) (n : Nat) : Nat × State :=
  let x := sem s n
  if x.owner = none ∨ x.owner = some (lane, guard) then
    (0, setSem s n { owner := some (lane, guard), expiry := now s + semLease s n * msUnits })
  else (5, s)

/-- SEM_RELEASE (R296). -/
def release (s : State) (lane : Nat) (guard : Bool) (n : Nat) : Nat × State :=
  if (sem s n).owner = some (lane, guard) then (0, setSem s n default) else (6, s)

/-- A semaphore command completes: not in a unit that is not ACTIVE, nor on a semaphore there is not. -/
def semCommand (s : State) (lane : Nat) (guard : Bool) (n tag op : Nat) (f : State → Nat × State) : State :=
  let (st, s) := if s.dev ≠ .active then (7, s) else if n > 127 then (4, s) else f s
  writeCpl (countStatus s st) lane guard tag st op 0 0

/-- BRG_CMD_SEM_ACQUIRE (R296). -/
def execBrgCmdSemAcquire (lane : Nat) (guard : Bool) (sem tag : Nat) (s : State) : Res :=
  .next (fetched s lane guard (fun s => semCommand s lane guard sem tag 3 (fun s => acquire s lane guard sem)))

/-- BRG_CMD_SEM_RELEASE (R296). -/
def execBrgCmdSemRelease (lane : Nat) (guard : Bool) (sem tag : Nat) (s : State) : Res :=
  .next (fetched s lane guard (fun s => semCommand s lane guard sem tag 4 (fun s => release s lane guard sem)))

/-- BRG_SEM_CMD by register (R296, R306): the owner is the writer's lane and world. -/
def semReg (s : State) (r : Req) (n : Nat) (f : State → Nat → Bool → Nat × State) : State :=
  gated s r Reg.BRG_SEM_CMD (fun s =>
    match r with
    | .fn lane guard => if s.dev ≠ .active ∨ n > 127 then s else (f s lane guard).2
    | .steward => s)

/-- SEM_ACQUIRE_REG (R296). -/
def execSemAcquireReg (r : Req) (n : Nat) (s : State) : Res := .next (semReg s r n (fun s lane guard => acquire s lane guard n))

/-- SEM_RELEASE_REG (R296). -/
def execSemReleaseReg (r : Req) (n : Nat) (s : State) : Res := .next (semReg s r n (fun s lane guard => release s lane guard n))

/-- A lease has passed (R297): the semaphore is freed and reported. -/
def semExpire (s : State) (n : Nat) : State :=
  match (sem s n).owner with
  | none => s
  | some (lane, guard) =>
    if now s < (sem s n).expiry then s
    else raise (report (setSem s n default) Ev.BRG_SEM_EXPIRED n 0) lane guard (if guard then 5 else 7)

/-- SEM_LEASE_EXPIRY (R297). -/
def execSemLeaseExpiry (n : Nat) (s : State) : Res := .next (semExpire s n)

/-- Commands of a ring set that is turned off are forgotten. (DEDUCED: log 40) -/
def dropRing (s : State) (lane : Nat) (guard : Bool) : State :=
  let mine (r : BReq) : Bool := decide (r.lane = lane ∧ r.guard = guard ∧ (r.kind = .cread ∨ r.kind = .cwrite))
  { s with brg := { s.brg with reqs := s.brg.reqs.filter (fun r => !mine r) } }

/-- BRG_RING_ENABLE (R283, ring-set registers): heads and tails restart at 0 when enable is set. -/
def execBrgRingEnable (r : Req) (kw : Nat) (value : Word) (s : State) : Res :=
  .next (if kw > 5 then s
    else gated s r (Reg.BRG_CR_CTRL kw) (fun s =>
      let was := bit (rd s (Reg.BRG_CR_CTRL kw)) 0
      let s := setFld (setFld s (Reg.BRG_CR_CTRL kw) 15 8 (bits value 15 8)) (Reg.BRG_CR_CTRL kw) 0 0 (bits value 0 0)
      if bit value 0 = was then s
      else
        let s := dropRing s (kw / 2) (decide (kw % 2 = 1))
        if bit value 0 then
          wr (wr (setRing s kw { ring s kw with head := 0, cplHead := 0 }) (Reg.BRG_CR_TAIL kw) 0#32) (Reg.BRG_CPL_TAIL kw) 0#32
        else s))

/-- BRG_COMPLETION_TAIL_WRITE (R283). -/
def execBrgCompletionTailWrite (r : Req) (kw : Nat) (cpl : Bool) (value : Word) (s : State) : Res :=
  .next (if kw > 5 then s
    else
      let off := if cpl then Reg.BRG_CPL_TAIL kw else Reg.BRG_CR_TAIL kw
      gated s r off (fun s => wr s off value))

/-- A sentence of the bridge talker (R278). -/
def bgSent (s : State) (w tag ex : Nat) (payload : Bytes) : Sent :=
  { newSent 111 (now s) (now s / 8 * 8) (mkKey 0x0C 111 (toBE 2 w ++ toBE 2 tag)) payload with ex := ex }

/-- The sentences of the bridge talker enter BG port staging while it has credits (R29). -/
def bgFlush : List Sent → State → State
  | [], s => { s with brg := { s.brg with talker := [] } }
  | x :: t, s =>
    let p := port s 111
    match credit p.staging 32 4 false with
    | none => { s with brg := { s.brg with talker := x :: t } }
    | some o =>
      let x := { x with oasis := o }
      let (m, s) := mirrorRec s (ingressRec 111 x)
      bgFlush t (setPort s 111 { p with staging := p.staging ++ [{ x with mirror := m }] })

/-- The bridge hands over a sentence. -/
def bgSend (s : State) (x : Sent) : State := bgFlush (s.brg.talker ++ [x]) s

/-- Whether two requests are of one window, lane and world. -/
def sameOrigin (a b : BReq) : Bool := decide (a.window = b.window ∧ a.lane = b.lane ∧ a.guard = b.guard)

/-- Whether every part of a request has been issued (R289). -/
def allIssued (s : State) (r : BReq) : Bool :=
  r.full || r.segment || (decide (r.ex ≠ 0) && decide (r.done + partLen s r ≥ r.length))

/-- Whether a port's limit holds a request back (R280). -/
def portBusy (s : State) (r : BReq) : Bool :=
  let k := winKind s r.window
  let at_ (o : BReq) : Bool := decide (o.uid ≠ r.uid ∧ winKind s o.window = k ∧ winPort s o.window = winPort s r.window)
  let out := s.brg.reqs.filter (fun o => decide (o.ex ≠ 0))
  if out.length ≥ 512 then true
  else match k with
    | 1 => decide ((out.filter at_).length ≥ 16)
    | 2 => s.brg.reqs.any (fun o => at_ o && (decide (o.ex ≠ 0) || o.segment) &&
        decide (nbits (winW s o.window 2) 6 0 = nbits (winW s r.window 2) 6 0))
    | 5 => out.any at_
    | 4 => out.any at_
    | _ => false

/-- Whether a read lies within a prefetch that is under way (R294). -/
def awaited (before : List BReq) (r : BReq) : Bool :=
  unissued r && before.any (fun o => decide (o.kind = .dread ∧ o.length > o.want ∧ o.window = r.window ∧ o.noKeep = false ∧
    o.offset ≤ r.offset ∧ r.offset + r.want ≤ o.offset + o.length))

/-- Whether a request may be issued, given those accepted before it (R280, R285, R289, R301). (DEDUCED: log 40) -/
def mayIssue (s : State) (before : List BReq) (r : BReq) : Bool :=
  let mine := before.filter (sameOrigin r)
  let order := match r.kind with
    | .posted => mine.all (fun o => decide (o.kind ≠ .posted) || allIssued s o)
    | .dread => mine.all (fun o => if o.kind = .posted then allIssued s o else !unissued o) && !awaited before r
    | _ => mine.all (fun o => match o.kind with
      | .posted => true
      | .dread => !unissued o
      | _ => false)
  decide (r.ex = 0) && !r.full && !portBusy s r && order

/-- The first request of one sort that may be issued. -/
def firstIssue (s : State) (posted : Bool) : List BReq → List BReq → Option BReq
  | _, [] => none
  | before, r :: rest =>
    if decide (r.kind = .posted) = posted ∧ mayIssue s before r = true then some r else firstIssue s posted (before ++ [r]) rest

/-- A write invalidates what the cache and prefetches under way hold of its range (R294). -/
def invalidate (s : State) (w offset len : Nat) : State :=
  let meets (o n : Nat) : Bool := decide (o < offset + len ∧ offset < o + n)
  let spoil (r : BReq) : BReq := if r.window = w ∧ r.kind = .dread ∧ meets r.offset r.length = true then { r with noKeep := true } else r
  { s with brg := { s.brg with cache := s.brg.cache.filter (fun e => !(decide (e.window = w) && meets e.offset e.data.length))
                               reqs := s.brg.reqs.map spoil } }

/-- The subindex and object index of a CAN_SDO request (Window kinds). -/
def sdoObject (s : State) (r : BReq) : Bytes :=
  toLE 2 (nbits (winW s r.window 2) 31 16) ++ toLE 1 (r.offset / 256)

/-- The SDO frame a request sends next (EN 50325-4, R277). (PRESUMED: log 41) -/
def sdoFrame (s : State) (r : BReq) : Bytes :=
  let t := if r.toggle then 16 else 0
  if writes r then
    if r.segment then
      let chunk := (r.data.drop r.done).take 7
      let last := if r.done + chunk.length ≥ r.length then 1 else 0
      toLE 1 (t + 2 * (7 - chunk.length) + last) ++ padTo 7 0#8 chunk
    else if r.length ≤ 4 then toLE 1 (0x23 + 4 * (4 - r.length)) ++ sdoObject s r ++ padTo 4 0#8 r.data
    else toLE 1 0x21 ++ sdoObject s r ++ toLE 4 r.length
  else if r.segment then toLE 1 (0x60 + t) ++ toLE 7 0 else toLE 1 0x40 ++ sdoObject s r ++ toLE 4 0

/-- The register address of the part of a CB_REG request that is due. (DEDUCED: log 42) -/
def cbReg (s : State) (r : BReq) : Nat := (nbits (winW s r.window 2) 31 16 + (r.offset + partAt s r) / 2) % 65536

/-- The two bytes of a CB_REG part's data; a byte the lane did not write is a free value. (DEDUCED: log 42) -/
def cbData (s : State) (r : BReq) : Nat × State :=
  let d := slice r.data (partAt s r) (partLen s r)
  if d.length ≥ 2 then (leNat d, s)
  else
    let (v, s) := freeVal s
    (leNat d + 256 * (v % 256), s)

/-- An exchange begins (R278, R281): the request holds its number and deadline. -/
def startEx (s : State) (r : BReq) : State :=
  let ex := s.brg.nextEx
  let due := now s + nbits (winW s r.window 1) 31 16 * msUnits
  putReq { s with brg := { s.brg with nextEx := ex + 1 } } { r with ex := ex, deadline := due, resp := winResp s r.window }

/-- A far-side exchange is handed to BG port staging (R278). -/
def sendEx (s : State) (r : BReq) (tag : Nat) (payload : Bytes) : State :=
  let ex := s.brg.nextEx
  let x := win s r.window
  let s := setWin (cnt (startEx s r) Reg.BRG_CNT_REQUESTS) r.window { x with count := satAdd 0xFFFFFFFF x.count 1 }
  bgSend s (bgSent s r.window tag ex payload)

/-- The value an MVB port holds: a sink's last, or a source's buffer (Window kinds); none where there is no such port. One that nothing
has filled is a free value. (DEDUCED: log 40) -/
def mvValue (s : State) (n addr : Nat) : Option (Bytes × State) :=
  let w := mvSink s n addr
  let held := if nbits w 1 0 = 1 then some (tget s.prt.mvSink (n * 4096 + addr))
    else if nbits w 1 0 = 2 then some (tget s.prt.mvSource (n * 4096 + addr)) else none
  match held, fcodeSize (nbits w 5 2) with
  | some (some b), _ => some (b, s)
  | some none, some k =>
    let (v, s) := freeVal s
    some (toLE k v, s)
  | _, _ => none

/-- A part of an MVB_PD request (R277, R295): a read is answered at once, a write waits for its slave frame. -/
def issueMv (s : State) (r : BReq) : State :=
  let n := winPort s r.window
  let addr := mvAddr s r
  let at_ := (r.offset + partAt s r) % 32
  let len := partLen s r
  match mvValue s n addr with
  | none => failReq s r 4 0
  | some (b, s) =>
    if at_ + len > b.length ∨ (writes r = true ∧ nbits (mvSink s n addr) 1 0 ≠ 2) then failReq s r 4 0
    else if writes r then
      let new := overlay b at_ (slice r.data (partAt s r) len)
      startEx { s with prt := { s.prt with mvSource := tset s.prt.mvSource (n * 4096 + addr) (some new) } } r
    else partDone s r (slice b at_ len)

/-- A request is issued (R278, R294, R298). -/
def issue (s : State) (r : BReq) : State :=
  let w := r.window
  if writes r = true ∧ (winW s w 0).testBit 10 = true ∧ (sem s (nbits (winW s w 0) 30 24)).owner ≠ some (r.lane, r.guard) then
    failReq s r 6 0
  else
    let s := if writes r then invalidate s w (r.offset + partAt s r) (partLen s r) else s
    match winKind s w with
    | 1 =>
      let num := s.brg.cbNext
      let (v, s) := if writes r then cbData s r else (0, s)
      let s := { s with brg := { s.brg with cbNext := (num + 1) % 256 } }
      let body := toLE 1 (if writes r then 2 else 1) ++ toLE 1 num ++ toBE 2 (cbReg s r) ++ toBE 2 v ++ toLE 2 0
      sendEx s { r with num := num } 0 body
    | 2 => sendEx s r 0 (sdoFrame s r)
    | 3 => issueMv s r
    | 4 =>
      let n := winPort s w
      let device := (r.offset + partAt s r) / 4
      let s := cnt (startEx s r) Reg.BRG_CNT_REQUESTS
      emit (setPort s n { port s n with mvMaster := some (device, 15) }) (.mvb n (16 + 15) device [])
    | _ => sendEx s r (r.offset / 256) (if writes r then r.data else [])

/-- Whether BG port staging can take a sentence at once. -/
def bgRoom (s : State) : Bool := decide (s.brg.talker = []) && (credit (port s 111).staging 32 4 false).isSome

/-- EXCHANGE_ISSUE (R278, R280, R301): posted writes do not wait behind reads. -/
def execExchangeIssue (s : State) : Res :=
  .next (
    let s := bgFlush s.brg.talker s
    if s.dev ≠ .active ∨ bgRoom s = false then s
    else match (firstIssue s true [] s.brg.reqs).orElse (fun _ => firstIssue s false [] s.brg.reqs) with
      | some r => issue s r
      | none => s)

/-- Whether a frame is an SDO response: its specifier is one of those a server sends (EN 50325-4). (PRESUMED: log 41) -/
def sdoResponse (d : Bytes) : Bool := decide (d.length = 8) && decide (byteAt d 0 / 32 ≤ 4)

/-- A segment or an initiation has been confirmed and the transfer goes on. (PRESUMED: log 41) -/
def sdoOn (s : State) (r : BReq) (toggle : Bool) : State := putReq s { r with ex := 0, segment := true, toggle := toggle }

/-- An SDO response to a request (R279, R281): none where it does not match. (PRESUMED: log 41) -/
def sdoAnswer (s : State) (r : BReq) (d : Bytes) : Option State :=
  let c := byteAt d 0
  let cs := c / 32
  let same := decide (slice d 1 3 = sdoObject s r)
  let tog := decide (c.testBit 4 = r.toggle)
  if sdoResponse d = false then none
  else if cs = 4 then (if same then some (failReq s r 2 (leAt d 4 4)) else none)
  else if writes r then
    if r.segment = false then
      if cs ≠ 3 ∨ same = false then none
      else if r.length ≤ 4 then some (finishReq s { r with done := r.length }) else some (sdoOn s r false)
    else if cs ≠ 1 ∨ tog = false then none
    else
      let r := { r with done := min r.length (r.done + 7) }
      if r.done ≥ r.length then some (finishReq s r) else some (sdoOn s r (!r.toggle))
  else if r.segment = false then
    if cs ≠ 2 ∨ same = false then none
    else if c.testBit 1 then
      let b := slice d 4 (4 - (if c.testBit 0 then c / 4 % 4 else 0))
      some (finishReq s { r with got := b, done := b.length })
    else some (sdoOn s r false)
  else if cs ≠ 0 ∨ tog = false then none
  else
    let b := slice d 1 (7 - c / 2 % 8)
    let r := { r with got := r.got ++ b, done := r.done + b.length }
    if c.testBit 0 then some (finishReq s r) else some (sdoOn s r (!r.toggle))

/-- A committed sentence answers an outstanding request (R279, R281): none where it does not match. -/
def answer (s : State) (r : BReq) (x : Sent) : Option State :=
  let d := sentArea s x
  match winKind s r.window with
  | 1 =>
    if byteAt d 0 = (if writes r then 0x82 else 0x81) ∧ byteAt d 1 = r.num ∧ beAt d 2 2 = cbReg s r ∧ d.length = 8 then
      some (if byteAt d 6 ≠ 0 then failReq s r 2 (byteAt d 6)
        else partDone s r (if writes r then [] else (toLE 2 (beAt d 4 2)).take (partLen s r)))
    else none
  | 2 => sdoAnswer s r d
  | 5 => some (partDone s r (if writes r then [] else slice x.payload (r.offset % 256) r.length))
  | _ => none

/-- The first outstanding request that a sentence answers. -/
def firstAnswer (s : State) (x : Sent) (gone : Bool) : List BReq → Option State
  | [] => none
  | r :: rest =>
    if r.ex = 0 ∨ r.resp ≠ x.stream then firstAnswer s x gone rest
    else
      let late := gone && decide (r.kind = .dread) && !r.answered
      let r' := if late then { r with answered := true } else r
      match answer s r' x with
      | some t => some (if late then cnt t Reg.BRG_CNT_LATE_CPL else t)
      | none => firstAnswer s x gone rest

/-- Source stream and size of mirror block `m` (R302, R473). -/
def mirrorRecOf (s : State) (m : Nat) : Nat × Nat := let w := cw s 9 (2112 + m); (nbits w 15 0, nbits w 31 16)

/-- A committed copy of a block's source stream becomes its value (R302). -/
def mirrorUpdate (s : State) (x : Sent) : State :=
  (List.range 64).foldl (fun s m =>
    let (src, size) := mirrorRecOf s m
    if size = 0 ∨ src ≠ x.stream then s
    else { s with brg := { s.brg with mirrors := tset s.brg.mirrors m (some ((padTo size 0#8 x.payload).take size)) } }) s

/-- The windows of a kind sort that a stream answers. -/
def respWindows (s : State) (x : Sent) (mirror : Bool) : List Nat :=
  (List.range 256).filter (fun w => decide (winKind s w ≠ 0) && (decide (winKind s w = 6) == mirror) && decide (winResp s w = x.stream))

/-- MIRROR_REPLY (R303, R306). -/
def mirrorReply (s : State) (w : Nat) : State :=
  if s.dev ≠ .active ∨ (win s w).state ≠ 1 then s
  else match tget s.brg.mirrors (nbits (winW s w 2) 5 0) with
    | none => cnt s Reg.BRG_CNT_MIRROR_EMPTY
    | some v => bgSend s (bgSent s w 0 0 v)

/-- RESPONSE_MATCH (R279, R302, R303). -/
def execResponseMatch (gone : Bool) (s : State) : Res :=
  .next (
    match s.brg.intake with
    | [] => bgFlush s.brg.talker s
    | x :: rest =>
      let s := { s with brg := { s.brg with intake := rest } }
      let source := (List.range 64).any (fun m => decide ((mirrorRecOf s m).2 ≠ 0 ∧ (mirrorRecOf s m).1 = x.stream))
      let s := mirrorUpdate s x
      let queries := respWindows s x true
      let s := queries.foldl mirrorReply s
      match firstAnswer s x gone s.brg.reqs with
      | some s => s
      | none =>
        let ignored := (respWindows s x false).any (fun w => decide (winKind s w = 2)) && !sdoResponse (sentArea s x)
        if source = true ∨ queries ≠ [] ∨ ignored = true then s else cnt s Reg.BRG_CNT_UNMATCHED)

/-- EXCHANGE_TIMEOUT (R281, R286): a read is repeated, a segmented SDO transfer is aborted. -/
def execExchangeTimeout (ex : Nat) (s : State) : Res :=
  .next (
    match s.brg.reqs.find? (fun r => decide (r.ex = ex)) with
    | none => s
    | some r =>
      if ex = 0 ∨ now s < r.deadline then s
      else
        let sdo := decide (winKind s r.window = 2)
        let s := if sdo && r.segment then
            bgSend s (bgSent s r.window 0 0 (toLE 1 0x80 ++ sdoObject s r ++ toLE 4 0x05040000))
          else s
        if writes r = false ∧ r.retries > 0 then
          let r := { r with ex := 0, retries := r.retries - 1 }
          putReq s (if sdo then { r with segment := false, toggle := false, got := [], done := 0 } else r)
        else failReq s r 1 0)

/-- PREFETCH_COMPLETE (R293, R294): the entry is kept, and the reads that waited for it are answered. -/
def execPrefetchComplete (s : State) : Res :=
  .next (
    match s.brg.reqs.find? (·.full) with
    | none => s
    | some p =>
      let s := dropReq s p.uid
      if p.noKeep then s
      else
        let e : CacheEnt := { window := p.window, offset := p.offset, data := p.got, filled := now s }
        let s := { s with brg := { s.brg with cache := (e :: s.brg.cache).take 256 } }
        let served (r : BReq) : Bool := decide (r.kind = .dread ∧ r.window = p.window) && unissued r &&
          decide (p.offset ≤ r.offset ∧ r.offset + r.want ≤ p.offset + p.got.length)
        (s.brg.reqs.filter served).foldl (fun s r =>
          emit (dropReq s r.uid) (.completion r.lane r.guard r.ident true (slice p.got (r.offset - p.offset) r.want))) s)

/-- LATE_LOG_RELEASE (R290, R292): entries are released, oldest first. -/
def execLateLogRelease (r : Req) (k : Nat) (value : Word) (s : State) : Res :=
  .next (if k > 2 then s
    else gated s r (Reg.BRG_LATE_ACK k) (fun s =>
      let log := tget s.brg.late k
      let n := min (bits value 6 0) log.length
      { s with brg := { s.brg with late := tset s.brg.late k (log.drop n)
                                   latePlace := tmod s.brg.latePlace k (fun p => (p + n) % 64) } }))

/-- LATE_UNFENCE (R292). -/
def execLateUnfence (r : Req) (k : Nat) (value : Word) (s : State) : Res :=
  .next (if k > 2 ∨ bit value 16 = false then s
    else gated s r (Reg.BRG_LATE_ACK k) (fun s =>
      let w := bits value 15 8
      setWin s w { win s w with fenced := (win s w).fenced.filter (fun j => !decide (j = k)) }))

/-- A command of BRG_WIN_CMD reaches its window. -/
def winGate (s : State) (r : Req) (w : Nat) (f : State → State) : State :=
  gated s r Reg.BRG_WIN_CMD (fun s => if w < 256 then f s else s)

/-- WINDOW_ENABLE (R305): from DRAINING without loss. -/
def execWindowEnable (r : Req) (w : Nat) (s : State) : Res :=
  .next (winGate s r w (fun s => setWin s w { win s w with state := 1 }))

/-- WINDOW_DISABLE (R294, R305). -/
def execWindowDisable (r : Req) (w : Nat) (s : State) : Res :=
  .next (winGate s r w (fun s =>
    if (win s w).state ≠ 1 then s
    else setWin (invalidate s w 0 65536) w { win s w with state := 2, drainAt := drainEnd s }))

/-- WINDOW_CLEAR_COUNTERS (R305). -/
def execWindowClearCounters (r : Req) (w : Nat) (s : State) : Res :=
  .next (winGate s r w (fun s => setWin s w { win s w with count := 0 }))

/-- WINDOW_DRAIN_LIMIT (R305): what is not confirmed completes with ABORTED. (DEDUCED: log 40) -/
def execWindowDrainLimit (w : Nat) (s : State) : Res :=
  .next (
    if (win s w).state ≠ 2 ∨ s.tim.boundaries < (win s w).drainAt then s
    else
      let left := s.brg.reqs.filter (fun r => decide (r.window = w))
      let s := left.foldl (fun s r => failReq s r 3 0) s
      let s := if left = [] then s else report s Ev.BRG_ABORT w 0
      setWin s w { win s w with state := 0 })

/-- BRG_CNT_CLEAR bit 0. -/
def execBrgCntClearGlobal (r : Req) (s : State) : Res :=
  .next (gated s r Reg.BRG_CNT_CLEAR (fun s => clearRegs s Reg.BRG_CNT_REQUESTS Reg.BRG_CNT_MIRROR_EMPTY))

/-- BRG_CNT_CLEAR bit 1. -/
def execBrgCntClearWindows (r : Req) (s : State) : Res :=
  .next (gated s r Reg.BRG_CNT_CLEAR (fun s => { s with brg := { s.brg with wins := tmap (fun _ w => { w with count := 0 }) s.brg.wins } }))

end Sys2Proof.Machine
end

