-- ==== Sys2Proof/Machine/Safety.lean ====
section
/-! DEFINITION. The safety supervisor: parameters, cross-link, odometry, motion functions, input pairs, outputs, reset, faults
(chapter 14). Times inside a channel are samples of 100 µs of its own clock. -/

namespace Sys2Proof.Machine

/-- q of an odometry input (Safety parameter block). -/
def sbQ (p : Bytes) (i : Nat) : Nat := leAt p (16 + 4 * i) 4
/-- t_gate in ms. -/
def sbGate (p : Bytes) : Nat := leAt p 24 2
/-- v_ss in mm/s. -/
def sbVss (p : Bytes) : Nat := leAt p 26 2
/-- t_ss in ms. -/
def sbTss (p : Bytes) : Nat := leAt p 28 2
/-- v_mm in mm/s. -/
def sbVmm (p : Bytes) : Nat := leAt p 30 2
/-- t_mm in 100 ms units. -/
def sbTmm (p : Bytes) : Nat := leAt p 32 2
/-- Byte `i` of pair record `n`. -/
def sbPair (p : Bytes) (n i : Nat) : Nat := byteAt p (64 + 8 * n + i)
/-- t_disc of pair `n` in ms. -/
def sbDisc (p : Bytes) (n : Nat) : Nat := leAt p (64 + 8 * n + 2) 2
/-- Byte `i` of function record `f`. -/
def sbFunc (p : Bytes) (f i : Nat) : Nat := byteAt p (128 + 16 * f + i)
/-- limit of function `f`. -/
def sbLimit (p : Bytes) (f : Nat) : Nat := leAt p (128 + 16 * f + 4) 4
/-- hyst of function `f`. -/
def sbHyst (p : Bytes) (f : Nat) : Nat := leAt p (128 + 16 * f + 2) 2
/-- t_arm of function `f` in ms. -/
def sbTarm (p : Bytes) (f : Nat) : Nat := leAt p (128 + 16 * f + 8) 2
/-- arm of function `f`. -/
def sbArm (p : Bytes) (f : Nat) : Nat := sbFunc p f 1 % 16
/-- Byte `i` of output record `n`. -/
def sbOut (p : Bytes) (n i : Nat) : Nat := byteAt p (256 + 16 * n + i)
/-- t_test of output `n` in ms. -/
def sbTest (p : Bytes) (n : Nat) : Nat := leAt p (256 + 16 * n + 6) 2
/-- t_rise of output `n` in ms. -/
def sbRise (p : Bytes) (n : Nat) : Nat := leAt p (256 + 16 * n + 8) 2

/-- Whether bytes `a` to `b` are 0. -/
def zeroRange (p : Bytes) (a b : Nat) : Bool := (slice p a (b + 1 - a)).all (fun x => decide (x = 0))

/-- Whether n lies in [a, b]. -/
def inR (a b n : Nat) : Bool := decide (a ≤ n ∧ n ≤ b)

/-- The limits of a pair record (R437). -/
def sbPairOk (p : Bytes) (n : Nat) : Bool :=
  let b0 := sbPair p n 0
  decide (b0 % 4 ≠ 3) && decide (b0 / 16 = 0) && decide (sbPair p n 1 ≤ 50) &&
  (decide (b0 % 4 = 0) || inR 10 2000 (sbDisc p n)) && zeroRange p (64 + 8 * n + 4) (64 + 8 * n + 7)

/-- The limits of a function record (R437). -/
def sbFuncOk (p : Bytes) (f : Nat) : Bool :=
  let t := sbFunc p f 0
  let arm := sbArm p f
  decide (t ≤ 5) && decide (arm ≤ 8) && decide (sbFunc p f 1 / 64 = 0) &&
  (decide (arm = 0) || decide (sbPair p (arm - 1) 0 % 4 ≠ 0)) &&
  (decide (t ≠ 1 ∧ t ≠ 2) || decide (arm = 0)) && (decide (t ≠ 5) || decide (arm ≥ 1)) &&
  (decide (t ≠ 2) || decide (sbHyst p f < sbLimit p f)) &&
  (decide (t ≠ 2 ∧ t ≠ 3) || inR 1 150000 (sbLimit p f)) && (decide (t ≠ 4 ∧ t ≠ 5) || inR 1 1000000 (sbLimit p f)) &&
  decide (sbTarm p f ≤ 60000) && zeroRange p (128 + 16 * f + 10) (128 + 16 * f + 15)

/-- The limits of an output record (R437). -/
def sbOutOk (p : Bytes) (n : Nat) : Bool :=
  let fm := sbOut p n 0
  let pm := sbOut p n 1
  let fl := sbOut p n 2
  (List.range 8).all (fun i => (!fm.testBit i || decide (sbFunc p i 0 ≠ 0)) && (!pm.testBit i || decide (sbPair p i 0 % 4 ≠ 0))) &&
  (!fl.testBit 0 || decide (fm + pm > 0)) && (!fl.testBit 1 || fl.testBit 2) && decide (fl / 8 = 0) && decide (sbOut p n 3 = 0) &&
  (!fl.testBit 0 || (inR 100 1000 (leAt p (256 + 16 * n + 4) 2) && inR 50 1000 (sbTest p n) &&
    decide (2 * leAt p (256 + 16 * n + 4) 2 ≤ 1000 * sbTest p n) && inR 1 50 (sbRise p n))) &&
  zeroRange p (256 + 16 * n + 10) (256 + 16 * n + 15)

/-- The CRC-32 of a block over bytes 0 to 1,019 (R437). -/
def sbCrc (p : Bytes) : Nat := crc32 (p.take 1020)

/-- A valid safety parameter block: its CRC and every limit of R437. -/
def safBlockOk (p : Bytes) : Bool :=
  decide (p.length = 1024) && decide (p.take 4 = [0x53, 0x41, 0x46, 0x42]) && decide (byteAt p 4 = 1) &&
  zeroRange p 5 7 && zeroRange p 12 15 && zeroRange p 35 63 && zeroRange p 384 1019 &&
  inR 1000 1000000 (sbQ p 0) && inR 1000 1000000 (sbQ p 1) && inR 10 500 (sbGate p) && decide (sbGate p % 10 = 0) &&
  inR 1 1000 (sbVss p) && decide (sbTss p ≤ 10000) && inR 100 10000 (sbVmm p) && decide (sbVss p < sbVmm p) &&
  inR 1 600 (sbTmm p) && decide (byteAt p 34 / 4 = 0) &&
  (List.range 8).all (fun i => sbPairOk p i && sbFuncOk p i && sbOutOk p i) && decide (leAt p 1020 4 = sbCrc p)

/-- The parameters a running channel works with; a channel without a block runs nothing. -/
def chBlock (c : Chan) : Bytes := c.block.getD []

/-- The 2.5 ns ticks SAFE_P has counted, from 10 s before its start (R442). -/
def chTicks (c : Chan) : Nat := c.clk * 40000 + 4000000000

/-- A declaration: event number within the SAF block, index, cause (R462). -/
abbrev Decl := Nat × Nat × Nat

/-- An input filter of `t` samples (R449): the level follows once the raw level has held the new value for t. -/
def filtStep (first : Bool) (t : Nat) (raw : Bool) (x : FiltIn) : FiltIn :=
  if first then { level := raw, raw := raw, held := 0 }
  else if raw = x.raw then { x with held := x.held + 1, level := if x.held + 1 ≥ t then raw else x.level }
  else { x with raw := raw, held := 0, level := if t = 0 then raw else x.level }

/-- The state of a pair's inputs (R449): 0 AGREED_OFF, 1 AGREED_ON, 2 DISAGREE. -/
def pairState (p : Bytes) (n : Nat) (x : SafPair) : Nat :=
  let b0 := sbPair p n 0
  let low := b0.testBit 2
  let a := (x.a.level != low)
  let b := (x.b.level != low) != decide (b0 % 4 = 2)
  if a && b then 1 else if a || b then 2 else 0

/-- Whether either input of a pair shows its active level (R448). -/
def pairEither (p : Bytes) (n : Nat) (x : SafPair) : Bool := decide (pairState p n x ≠ 0)

/-- One sample of a pair (R449 to R452): the new record, a declaration, and whether a disagreement ended. -/
def pairSample (p : Bytes) (n clk : Nat) (first : Bool) (i : SafIn) (x : SafPair) : SafPair × Option Decl × Bool :=
  let t := sbPair p n 1
  let x := { x with a := filtStep first t (i.sin.testBit (2 * n)) x.a, b := filtStep first t (i.sin.testBit (2 * n + 1)) x.b }
  if pairState p n x = 2 then
    let from_ := x.dis.getD clk
    let x := { x with dis := some from_ }
    if x.fault = 0 ∧ clk - from_ ≥ 10 * sbDisc p n then ({ x with fault := 1 }, some (1, n, 0), false) else (x, none, false)
  else match x.dis with
    | none => (x, none, false)
    | some _ =>
      let ends := (clk :: x.ends).take 4
      let x := { x with dis := none, ends := ends }
      let chatter := decide (x.fault = 0 ∧ ends.length = 4 ∧ clk - (ends.getLastD clk) ≤ 10000)
      if chatter then ({ x with fault := 2 }, some (2, n, 0), true) else (x, none, true)

/-- One sample of the reset button (R459): the new record, a declaration, an accepted release, a press refused. -/
def buttonSample (clk : Nat) (first : Bool) (i : SafIn) (b : SafButton) : SafButton × Option Decl × Bool × Bool :=
  let no := filtStep first 50 i.no b.no
  let nc := filtStep first 50 i.nc b.nc
  let noAt := if no.level ≠ b.no.level ∨ first then clk else b.noAt
  let ncAt := if nc.level ≠ b.nc.level ∨ first then clk else b.ncAt
  let near := decide (noAt - ncAt ≤ 500 ∧ ncAt - noAt ≤ 500)
  let pressedNow := no.level && !nc.level
  let releasedNow := !no.level && nc.level
  let dis := !pressedNow && !releasedNow
  let was := b.pressed
  let b := { b with no := no, nc := nc, noAt := noAt, ncAt := ncAt, disFrom := if dis then some (b.disFrom.getD clk) else none }
  if first ∧ ¬ releasedNow then ({ b with pressed := pressedNow, faulted := true, clearFrom := none }, some (9, 0, 0), false, false)
  else if b.faulted then
    let from_ := if releasedNow then some (b.clearFrom.getD clk) else none
    let clear := match from_ with
      | some t => decide (clk - t ≥ 10000)
      | none => false
    ({ b with clearFrom := if clear then none else from_, faulted := !clear, pressed := false, pressFrom := none, heldDone := false }
     , none, false, false)
  else if dis ∧ clk - b.disFrom.getD clk > 300000 then ({ b with faulted := true, clearFrom := none }, some (9, 0, 0), false, false)
  else if pressedNow then
    if was then
      let from_ := b.pressFrom.getD clk
      if clk - from_ > 300000 then ({ b with faulted := true, clearFrom := none }, some (9, 0, 0), false, false)
      else if clk - from_ ≥ 30000 ∧ b.heldDone = false then ({ b with heldDone := true, refused := true }, some (8, 0, 0), false, false)
      else (b, none, false, false)
    else if first then ({ b with pressed := true }, none, false, false)
    else ({ b with pressed := true, pressFrom := some clk, refused := !near, heldDone := false }, none, false, false)
  else if releasedNow then
    match b.pressFrom with
    | none => ({ b with pressed := false }, none, false, false)
    | some from_ =>
      let firstAt := min noAt ncAt
      let len := firstAt - from_
      let ok := !b.refused && near && decide (1000 ≤ len ∧ len ≤ 30000)
      ({ b with pressed := false, pressFrom := none, refused := false, heldDone := false }, none, ok, !ok)
  else (b, none, false, false)

/-- Whether an index is new among the latched faults of a channel: a declaration that is already held is no new episode. -/
def declared (c : Chan) (d : Decl) : Bool :=
  match d.1 with
  | 1 | 2 => decide ((tget c.pairs d.2.1).fault ≠ 0)
  | 3 => (tget c.outs d.2.1).testFault
  | 4 | 5 | 6 => (tget c.funcs d.2.1).tripped
  | 7 => c.mismatch.testBit d.2.2
  | 10 => c.paramFault
  | _ => false

/-- Latch a declared fault in a channel (R462). `who` is 1 for SAFE_H, 2 for SAFE_P. -/
def latch (c : Chan) (who : Nat) (d : Decl) : Chan :=
  match d.1 with
  | 1 => { c with pairs := tmod c.pairs d.2.1 (fun x => { x with fault := 1 }) }
  | 2 => { c with pairs := tmod c.pairs d.2.1 (fun x => { x with fault := 2 }) }
  | 3 => { c with outs := tmod c.outs d.2.1 (fun x => { x with testFault := true }) }
  | 4 | 5 | 6 => { c with funcs := tmod c.funcs d.2.1 (fun x => { x with tripped := true }) }
  | 7 => { c with mismatch := c.mismatch ||| 2 ^ d.2.2, mismatchBy := c.mismatchBy ||| who, causeSeen := c.clk }
  | 10 => { c with paramFault := true }
  | _ => c

/-- The counter of a SAF event, where it has one (Counters of R468). -/
def safCounter (ev : Nat) : Option Nat :=
  match ev with
  | 1 => some Reg.SAF_CNT_DISCREPANCY
  | 2 => some Reg.SAF_CNT_CHATTER
  | 3 => some Reg.SAF_CNT_TESTPULSE
  | 4 | 5 | 6 => some Reg.SAF_CNT_TRIP
  | _ => none

/-- The report of a declaration (R463): counted, shown in SAF_LAST_EVENT, and reported with severity S. -/
def safReport (s : State) (who : Nat) (d : Decl) : State :=
  let s := match safCounter d.1 with
    | some o => cnt s o
    | none => s
  let w : Word := BitVec.ofNat 32 (d.1 + (d.2.1 % 8) * 256 + (who % 4) * 2048 + (d.2.2 % 8) * 8192)
  let s := { s with saf := { s.saf with lastEvent := w } }
  report s (0x1000 + d.1) (d.2.1 + (d.2.2 % 8) * 8192) 0

/-- The channel with a number: 1 SAFE_H, 2 SAFE_P. -/
def chan (s : State) (who : Nat) : Chan := if who = 1 then s.saf.h else s.saf.p

/-- Replace a channel. -/
def setChan (s : State) (who : Nat) (c : Chan) : State :=
  if who = 1 then { s with saf := { s.saf with h := c } } else { s with saf := { s.saf with p := c } }

/-- SAFETY_FAULT_DECLARE (R462, R463): latched in the channel; reported unless either channel already holds it. -/
def declare (s : State) (who : Nat) (d : Decl) : State :=
  let held := declared (chan s 1) d || declared (chan s 2) d
  let s := setChan s who (latch (chan s who) who d)
  if held then s else safReport s who d

/-- Declarations one after another. -/
def declareAll (s : State) (who : Nat) (ds : List Decl) : State := ds.foldl (fun s d => declare s who d) s

/-- Whether a channel is working: powered, out of reset, its cores agreeing. -/
def chRuns (c : Chan) : Bool := c.on && !c.reset && !c.lockstep

/-- One sample of a channel (R449 to R451, R459): its inputs, pair timers and button. (DEDUCED: log 54) -/
def sampleChan (s : State) (who : Nat) (i : SafIn) : State :=
  let c := chan s who
  let p := chBlock c
  let first := decide (c.clk = 0)
  let step (acc : State × List Decl) (n : Nat) : State × List Decl :=
    let (s, ds) := acc
    if sbPair p n 0 % 4 = 0 then (s, ds)
    else
      let c := chan s who
      let before := tget c.pairs n
      let (x, d, ended) := pairSample p n c.clk first i before
      let s := setChan s who { c with pairs := tset c.pairs n { x with fault := before.fault } }
      let s := if ended ∧ who = 2 then cnt s Reg.SAF_CNT_DISAGREE else s
      (s, match d with
        | some d => ds ++ [d]
        | none => ds)
  let (s, ds) := (List.range 8).foldl step (s, [])
  let c := chan s who
  let (b, d, ok, refused) := buttonSample c.clk first i c.button
  let c := { c with button := b, accepted := if ok then some c.clk else c.accepted, acceptN := if ok then c.acceptN + 1 else c.acceptN }
  let s := setChan s who c
  let s := if refused then cnt s Reg.SAF_CNT_RESET_REFUSED else s
  let s := declareAll s who (ds ++ d.toList)
  setChan s who { chan s who with clk := (chan s who).clk + 1 }

/-- A speed threshold as a channel applies it (R441): SAFE_H at 0.95 of its value, rounded down. -/
def thr (who v : Nat) : Nat := if who = 1 then v * 95 / 100 else v

/-- The channel's own speed and direction (R441, R442), 0 none, 1 forward, 2 reverse. -/
def ownSpeed (who : Nat) (c : Chan) : Chan :=
  let p := chBlock c
  if who = 1 then
    let gate := sbGate p
    if gate = 0 then c
    else if c.clk % gate = 0 then
      let w := (c.sub :: c.window).take 10
      let n : Int := w.foldl (· + ·) 0
      let dir := if n > 0 then 1 else if n < 0 then 2 else 0
      { c with window := w, sub := 0, speed := n.natAbs * sbQ p 0 / (10 * gate), dir := dir }
    else c
  else
    let m := max 1 (max c.delta (chTicks c - c.edge))
    let v := sbQ p 1 * 80000 / m
    { c with speed := v, dir := if v = 0 then 0 else c.pdir }

/-- The larger of the channel's own speed and the other's (R443). -/
def vMax (c : Chan) : Nat := max c.speed c.peer.speed

/-- Whether standstill holds after this evaluation, and the sample since which both speeds have been low (R443). -/
def standstillStep (who : Nat) (c : Chan) : Chan :=
  let p := chBlock c
  let low := decide (c.speed ≤ thr who (sbVss p)) && decide (c.peer.speed ≤ thr who (sbVss p))
  let from_ := if low then some (c.ssFrom.getD c.clk) else none
  let holds := match from_ with
    | some t => decide (c.clk - t ≥ 10 * sbTss p)
    | none => false
  { c with ssFrom := from_, standstill := holds && !c.peer.stale && c.peer.seq.isSome }

/-- The difference of two wrapping 32-bit counts. -/
def countDiff (a b : Nat) : Nat := (sext 32 ((a + 2 ^ 32 - b % 2 ^ 32) % 2 ^ 32)).natAbs

/-- The odometry comparison of R444: the channel with its timers, and the causes declared. -/
def odoCompare (c : Chan) : Chan × List Decl :=
  let p := chBlock c
  let one := (decide (c.speed > sbVmm p) && decide (c.peer.speed ≤ sbVss p)) ||
             (decide (c.peer.speed > sbVmm p) && decide (c.speed ≤ sbVss p))
  let odoFrom := if one then some (c.odoFrom.getD c.clk) else none
  let two := decide (countDiff c.count0 c.peer.count0 > 4) && c.peer.seq.isSome
  let cntFrom := if two then some (c.cntFrom.getD c.clk) else none
  let late (f : Option Nat) (n : Nat) := match f with
    | some t => decide (c.clk - t ≥ n)
    | none => false
  let enc := decide (c.illegal0.length > 16) || decide (c.illegal1.length > 16)
  let c := { c with odoFrom := odoFrom, cntFrom := cntFrom, causeSeen := if one || two || enc then c.clk else c.causeSeen }
  (c, (if late odoFrom (1000 * sbTmm p) then [(7, 0, 6)] else []) ++ (if late cntFrom 1000 then [(7, 0, 7)] else []))

/-- Whether a function's arm source holds (R448). -/
def armHolds (c : Chan) (f : Nat) : Bool :=
  let p := chBlock c
  let a := sbArm p f
  if a = 0 then true
  else
    let x := tget c.pairs (a - 1)
    pairEither p (a - 1) x || decide (x.fault ≠ 0)

/-- One evaluation of a function (R446 to R448): its record and a trip. -/
def funcStep (who : Nat) (c : Chan) (f : Nat) : SafFunc × Option Decl :=
  let p := chBlock c
  let x := tget c.funcs f
  let t := sbFunc p f 0
  let armed := armHolds c f
  let x := if armed ∧ ¬ x.armed then { x with armed := true, armedAt := c.clk, travel := 0 }
    else if ¬ armed then { x with armed := false, travel := 0 } else x
  let v := vMax c
  let lim := sbLimit p f
  let x := if t = 2 then
      { x with ssm := if x.ssm then decide (v ≤ thr who lim) else decide (v ≤ thr who (lim - sbHyst p f)) } else x
  let trip := x.armed && !x.tripped &&
    ((decide (t = 3) && decide (v > thr who lim) && decide (c.clk - x.armedAt ≥ 10 * sbTarm p f)) ||
     ((decide (t = 4) || decide (t = 5)) && decide (x.travel > lim * 10000)))
  (x, if trip then some (if t = 3 then 4 else if t = 4 then 5 else 6, f, 0) else none)

/-- A function's permissive (R446). -/
def permissive (c : Chan) (f : Nat) : Bool :=
  let t := sbFunc (chBlock c) f 0
  if t = 1 then c.standstill else if t = 2 then (tget c.funcs f).ssm else !(tget c.funcs f).tripped

/-- A pair's permissive (R449, R452). -/
def pairPermits (c : Chan) (n : Nat) : Bool :=
  decide ((tget c.pairs n).fault = 0) && decide (pairState (chBlock c) n (tget c.pairs n) = 1)

/-- Whether a latched fault covers an output (Faults and reactions). -/
def covered (c : Chan) (n : Nat) : Bool :=
  let fm := sbOut (chBlock c) n 0
  (tget c.outs n).testFault || c.paramFault || decide (nbits c.mismatch 4 1 ≠ 0) ||
  (decide (nbits c.mismatch 7 5 ≠ 0) && decide (fm ≠ 0)) ||
  (List.range 8).any (fun i =>
    (fm.testBit i && (tget c.funcs i).tripped) ||
    ((sbOut (chBlock c) n 1).testBit i && decide ((tget c.pairs i).fault ≠ 0)))

/-- Whether a channel's demand for an output is on (R453). -/
def demand (c : Chan) (n : Nat) : Bool :=
  let p := chBlock c
  (sbOut p n 2).testBit 0 && c.ready && !(tget c.outs n).start && !covered c n &&
  (List.range 8).all (fun i => (!(sbOut p n 0).testBit i || permissive c i) && (!(sbOut p n 1).testBit i || pairPermits c i))

/-- Whether an output's pin of the other channel is high. -/
def otherDrive (s : State) (who n : Nat) : Bool := (tget (chan s (3 - who)).outs n).drive

/-- Drive an output's pin: the level, the awaited readback, and the pin itself (R453, R454). -/
def drivePin (s : State) (who n : Nat) (level : Bool) : State :=
  let c := chan s who
  let x := tget c.outs n
  if x.drive = level then s
  else
    let both := level && otherDrive s who n
    let x := { x with drive := level, fellAt := if level then none else some c.clk, roseAt := if both then some c.clk else none }
    emit (setChan s who { c with outs := tset c.outs n x }) (.pin who n level)

/-- Every pin of a channel low. -/
def allLow (s : State) (who : Nat) : State := (List.range 8).foldl (fun s n => drivePin s who n false) s

/-- The readback check of R454 on an output: low within 150 µs (two samples) of a pin going low, high within t_rise. -/
def readback (s : State) (who n fb : Nat) : State :=
  let c := chan s who
  let p := chBlock c
  let x := tget c.outs n
  if (sbOut p n 2).testBit 2 = false then s
  else
    let high := fb.testBit n
    let badLow := match x.fellAt with
      | some t => high && decide (c.clk - t ≥ 2)
      | none => false
    let badHigh := match x.roseAt with
      | some t => !high && decide (c.clk - t > 10 * sbRise p n)
      | none => false
    let x := { x with fellAt := if high then x.fellAt else none, roseAt := if high then none else x.roseAt }
    let s := setChan s who { c with outs := tset c.outs n x }
    if badLow || badHigh then declare s who (3, n, 0) else s

/-- Whether a channel holds a valid block equal to the other's, with a good cross-link (R457, R468). -/
def paramsAgree (c : Chan) : Bool :=
  c.block.isSome && decide (c.peer.crc = some c.blockCrc) && !c.peer.stale && !c.paramFault

/-- What an accepted reset does in a channel (R461, Faults and reactions). -/
def resetChan (who : Nat) (c : Chan) : Chan :=
  let p := chBlock c
  let clrPair (n : Nat) (x : SafPair) : SafPair :=
    let agrees := decide (pairState p n x ≠ 2)
    let quiet : Bool := match x.ends with
      | [] => true
      | t :: _ => decide (c.clk - t ≥ 10000)
    if x.fault = 1 ∧ agrees then { x with fault := 0 } else if x.fault = 2 ∧ agrees ∧ quiet then { x with fault := 0, ends := [] } else x
  let clrFunc (f : Nat) (x : SafFunc) : SafFunc :=
    let above := decide (sbFunc p f 0 = 3) && decide (vMax c > thr who (sbLimit p f))
    { x with tripped := x.tripped && above, travel := 0 }
  let keep := if c.clk - c.causeSeen ≥ 10000 then c.mismatch % 32 else c.mismatch
  { c with
    pairs := tmap clrPair c.pairs, funcs := tmap clrFunc c.funcs
    outs := tmap (fun _ x => { x with start := false, testFault := false }) c.outs
    mismatch := keep, mismatchBy := if keep = 0 then 0 else c.mismatchBy, accepted := none }

/-- SAFETY_RESET_ACCEPT (R460, R461): both channels accept the same release within 20 ms; it takes effect in both at once. A
release the other does not accept in that time does nothing and is counted. -/
def resetStep (s : State) (who : Nat) : State :=
  let c := chan s who
  match c.accepted with
  | none => s
  | some t =>
    match c.peer.fresh with
    | some f =>
      if f - t ≤ 200 ∧ t - f ≤ 200 then
        let s := setChan s 1 (resetChan 1 s.saf.h)
        let s := setChan s 2 (resetChan 2 s.saf.p)
        let clr (s : State) (w : Nat) := setChan s w { chan s w with peer := { (chan s w).peer with fresh := none } }
        let s := clr (clr s 1) 2
        { s with saf := { s.saf with resets := satAdd 65535 s.saf.resets 1 } }
      else if c.clk - t > 200 then cnt (setChan s who { c with accepted := none }) Reg.SAF_CNT_RESET_REFUSED else s
    | none =>
      if c.clk - t > 200 then cnt (setChan s who { c with accepted := none }) Reg.SAF_CNT_RESET_REFUSED else s

/-- One evaluation of a channel after its samples (R443 to R461): reset, speeds, functions, outputs. -/
def evalChan (s : State) (who fb : Nat) : State :=
  let s := resetStep s who
  let c := standstillStep who (ownSpeed who (chan s who))
  let (c, causes) := odoCompare c
  let s := setChan s who { c with ready := c.ready || paramsAgree c }
  let step (s : State) (f : Nat) : State :=
    if sbFunc (chBlock (chan s who)) f 0 = 0 then s
    else
      let c := chan s who
      let (x, d) := funcStep who c f
      let s := setChan s who { c with funcs := tset c.funcs f x }
      declareAll s who d.toList
  let s := (List.range 8).foldl step (declareAll s who causes)
  let out (s : State) (n : Nat) : State :=
    let s := readback s who n fb
    let c := chan s who
    if (tget c.outs n).pulse.isSome ∧ demand c n = true then s else drivePin s who n (demand c n && !s.saf.halt)
  (List.range 8).foldl out s

/-- The samples one after another. -/
def sampleAll (s : State) (who : Nat) (is : List SafIn) : State := is.foldl (fun s i => sampleChan s who i) s

/-- SAFE_H_CYCLE (R441): one sample and one evaluation; a status word goes out and overwrites the oldest of 16 (R43). -/
def execSafeHCycle (i : SafIn) (s : State) : Res :=
  .next (if ¬ chRuns s.saf.h then s else
    let s := evalChan (sampleChan s 1 i) 1 i.fb
    let q := s.saf.status
    let s := { s with saf := { s.saf with status := if q.length < 16 then q ++ [s.saf.h.clk] else q.drop 1 ++ [s.saf.h.clk] } }
    if q.length < 16 then s else cnt s Reg.SAF_CNT_H_OVERWRITE)

/-- SAFE_P_EVALUATE (R443): the samples since the last evaluation and one evaluation; the view takes the status words. -/
def execSafePEvaluate (is : List SafIn) (s : State) : Res :=
  .next (if ¬ chRuns s.saf.p then s else
    let fb := ((is.getLast?).map (·.fb)).getD s.saf.fb
    let s := evalChan (sampleAll s 2 is) 2 fb
    { s with saf := { s.saf with fb := fb, hRun := decide (s.saf.status ≠ []), status := [] } })

/-- The quarter of a quadrature cycle that levels A and B show: forward counts 0, 1, 2, 3. -/
def quarter (a b : Bool) : Nat := if a then (if b then 2 else 1) else (if b then 3 else 0)

/-- A count in a channel's functions (R447): SDI's roll-back r and SLD's travel d, in units of 0.1 µm. -/
def travelStep (p : Bytes) (q : Nat) (fwd : Bool) (f : Nat) (x : SafFunc) : SafFunc :=
  let t := sbFunc p f 0
  if ¬ x.armed then x
  else if t = 4 then
    let permitted := (sbFunc p f 1).testBit 5 != fwd
    { x with travel := if permitted then x.travel - q else x.travel + q }
  else if t = 5 then { x with travel := x.travel + q } else x

/-- A transition on odometry input `odo` seen by a channel (R440, R442, R447): `sub` is its 2.5 ns tick within the sample. -/
def odoChan (s : State) (who odo : Nat) (a b : Bool) (sub : Nat) : State :=
  let c := chan s who
  let p := chBlock c
  if ¬ chRuns c then s
  else
    let old := if odo = 0 then c.lev0 else c.lev1
    let oldA := old.testBit 0
    let new := b2n a + 2 * b2n b
    let c := if odo = 0 then { c with lev0 := new } else { c with lev1 := new }
    let d := (quarter a b + 4 - quarter oldA (old.testBit 1)) % 4
    if d = 0 then setChan s who c
    else if d = 2 then
      let recent (l : List Nat) := (c.clk :: l.filter (fun t => decide (c.clk - t < 10000))).take 17
      let c := if odo = 0 then { c with illegal0 := recent c.illegal0 } else { c with illegal1 := recent c.illegal1 }
      let n := if odo = 0 then c.illegal0.length else c.illegal1.length
      let s := cnt (setChan s who c) Reg.SAF_CNT_ENC_ERR
      if n > 16 then declare s who (7, 0, 5) else s
    else
      let inv := (byteAt p 34).testBit odo
      let fwd := decide (d = 1) != inv
      let delta : Nat := if fwd then 1 else 2 ^ 32 - 1
      let c := if odo = 0 then { c with count0 := (c.count0 + delta) % 2 ^ 32 } else { c with count1 := (c.count1 + delta) % 2 ^ 32 }
      let own := decide (who = 1 ∧ odo = 0) || decide (who = 2 ∧ odo = 1)
      let c := if own then { c with funcs := tmap (travelStep p (sbQ p odo) fwd) c.funcs } else c
      let c := if who = 1 ∧ odo = 0 then { c with sub := if fwd then c.sub + 1 else c.sub - 1 } else c
      let t := chTicks c + sub % 40000
      let c := if who = 2 ∧ odo = 1 ∧ a ≠ oldA then { c with delta := t - c.edge, edge := t } else c
      let c := if who = 2 ∧ odo = 1 ∧ a = true ∧ oldA = false then { c with pdir := if (b == false) != inv then 1 else 2 } else c
      setChan s who c

/-- ODO_EDGE (R440, R442, R445): the levels of an input after a transition that has held for 1 µs; SAFE_H reads ODO0 alone. -/
def execOdoEdge (odo : Nat) (a b : Bool) (sub : Nat) (s : State) : Res :=
  .next (if odo > 1 then s else
    let aChanged := (if odo = 0 then s.saf.p.lev0 else s.saf.p.lev1).testBit 0 != a
    let s := if aChanged ∧ domainOn s 3 then
        (if odo = 0 then { s with saf := { s.saf with odo0Stamp := now s } } else { s with saf := { s.saf with odo1Stamp := now s } })
      else s
    let s := if odo = 0 then odoChan s 1 0 a b sub else s
    odoChan s 2 odo a b sub)

/-- The frame a channel sends (R434). (DEDUCED: log 54) -/
def frameOf (c : Chan) : XFrame :=
  { seq := c.txSeq, speed := c.speed, dir := c.dir, count0 := c.count0, count1 := c.count1
    pairs := (List.range 8).map (fun n => pairState (chBlock c) n (tget c.pairs n))
    pairFaults := (List.range 8).map (fun n => (tget c.pairs n).fault)
    trips := (List.range 8).map (fun f => (tget c.funcs f).tripped)
    tests := (List.range 8).map (fun n => (tget c.outs n).testFault)
    mismatch := c.mismatch, param := c.paramFault, accept := c.acceptN, crc := c.blockCrc }

/-- CROSSLINK_FRAME_SEND (R434): SAFE_H (1) or SAFE_P (2) sends; the last 16 frames stand in the survey space (R469). -/
def execCrosslinkFrameSend (who : Nat) (s : State) : Res :=
  .next (
    let c := chan s who
    if (who ≠ 1 ∧ who ≠ 2) ∨ ¬ chRuns c then s
    else setChan s who { c with txSeq := (c.txSeq + 1) % 65536, frames := (frameOf c :: c.frames).take 16 })

/-- The faults a good frame carries are latched here too (R462). -/
def adoptFaults (c : Chan) (who : Nat) (f : XFrame) : Chan :=
  let idx := List.range 8
  let other := 3 - who
  let c := idx.foldl (fun c n => if (f.pairFaults[n]?).getD 0 ≠ 0 ∧ (tget c.pairs n).fault = 0
    then latch c other ((f.pairFaults[n]?).getD 0, n, 0) else c) c
  let c := idx.foldl (fun c n => if (f.trips[n]?).getD false then latch c other (4, n, 0) else c) c
  let c := idx.foldl (fun c n => if (f.tests[n]?).getD false then latch c other (3, n, 0) else c) c
  let c := { c with mismatch := c.mismatch ||| f.mismatch, mismatchBy := if f.mismatch = 0 then c.mismatchBy else c.mismatchBy ||| other }
  { c with paramFault := c.paramFault || f.param }

/-- CROSSLINK_FRAME_RECEIVED (R434): the channel receives the frame the other sent last; `intact` says that its CRC-16 is right. -/
def execCrosslinkFrameReceived (who : Nat) (intact : Bool) (s : State) : Res :=
  .next (
    let c := chan s who
    if (who ≠ 1 ∧ who ≠ 2) ∨ ¬ chRuns c then s
    else match (chan s (3 - who)).frames with
      | [] => s
      | f :: _ =>
        let inSeq := match c.peer.seq with
          | none => true
          | some q => decide (f.seq = (q + 1) % 65536)
        if ¬ (intact && inSeq) then cnt s Reg.SAF_CNT_LINK_ERR
        else
          let rose := decide (f.accept ≠ c.peer.accept) && c.peer.seq.isSome
          let peer := { c.peer with
            seq := some f.seq, lastGood := c.clk, good := c.peer.good + 1, stale := false, speed := f.speed, dir := f.dir
            count0 := f.count0, count1 := f.count1, pairs := f.pairs, crc := some f.crc, accept := f.accept
            fresh := if rose then some c.clk else c.peer.fresh }
          let s := setChan s who (adoptFaults { c with peer := peer } who f)
          if c.block.isSome ∧ f.crc ≠ c.blockCrc then declare s who (10, 0, 0) else s)

/-- CROSSLINK_STALE (R434): no good frame for 350 µs of the receiver's clock, which counts 100 µs. -/
def execCrosslinkStale (who : Nat) (s : State) : Res :=
  .next (
    let c := chan s who
    if (who ≠ 1 ∧ who ≠ 2) ∨ ¬ chRuns c ∨ c.clk - c.peer.lastGood < 4 ∨ c.peer.stale = true then s
    else declare (setChan s who { c with peer := { c.peer with stale := true } }) who (7, 0, 1))

/-- CLOCK_CHECK (R435): the good frames of 1,000 samples of the counting channel. -/
def execClockCheck (who : Nat) (s : State) : Res :=
  .next (
    let c := chan s who
    if (who ≠ 1 ∧ who ≠ 2) ∨ ¬ chRuns c ∨ c.clk - c.clockFrom < 1000 then s
    else
      let n := c.peer.good
      let s := setChan s who { c with clockFrom := c.clk, clockCount := n, peer := { c.peer with good := 0 } }
      if n < 900 ∨ n > 1100 then declare s who (7, 0, 2) else s)

/-- SAFE_P_LOCKSTEP_FAULT (R436). -/
def execSafePLockstepFault (s : State) : Res :=
  .next (if ¬ chRuns s.saf.p then s else
    let s := declare (allLow s 2) 2 (7, 0, 3)
    setChan s 2 { s.saf.p with lockstep := true })

/-- SAFE_P_WATCHDOG_EXPIRY (R436). -/
def execSafePWatchdogExpiry (s : State) : Res :=
  .next (if ¬ chRuns s.saf.p then s else
    let s := declare (allLow s 2) 2 (7, 0, 4)
    setChan s 2 { s.saf.p with lockstep := true })

/-- PARAM_RECHECK (R438): `held` is what the channel's block reads as; its CRC no longer matches where it has changed. -/
def execParamRecheck (who : Nat) (held : Bytes) (s : State) : Res :=
  .next (
    let c := chan s who
    if (who ≠ 1 ∧ who ≠ 2) ∨ ¬ chRuns c ∨ c.block.isNone then s
    else if sbCrc held = c.blockCrc then s else declare s who (10, 0, 0))

/-- When the next test of an output falls due in a channel (R455): its turns alternate, SAFE_H first. -/
def testDue (p : Bytes) (who n intervals : Nat) : Nat :=
  (2 * intervals + (who - 1)) * (10 * sbTest p n) + n * (10 * sbTest p n) / 8

/-- TEST_PULSE_START (R455, R456). -/
def execTestPulseStart (who n : Nat) (s : State) : Res :=
  .next (
    let c := chan s who
    let p := chBlock c
    let x := tget c.outs n
    let busy := (List.range 8).any (fun m => (tget c.outs m).pulse.isSome)
    if (who ≠ 1 ∧ who ≠ 2) ∨ n > 7 ∨ ¬ chRuns c ∨ ¬ (sbOut p n 2).testBit 0 ∨ ¬ (sbOut p n 2).testBit 1 then s
    else if c.clk < testDue p who n x.intervals ∨ busy = true ∨ c.clk < c.pulseFree then s
    else if ¬ x.drive ∨ ¬ otherDrive s who n then
      setChan s who { c with outs := tset c.outs n { x with intervals := x.intervals + 1 } }
    else
      let s := setChan s who { c with outs := tset c.outs n { x with pulse := some c.clk } }
      drivePin s who n false)

/-- TEST_PULSE_END (R454 to R456): `low` says that readback read low within 150 µs of the pin going low. -/
def execTestPulseEnd (who n : Nat) (low : Bool) (s : State) : Res :=
  .next (
    let c := chan s who
    let x := tget c.outs n
    if (who ≠ 1 ∧ who ≠ 2) ∨ n > 7 ∨ ¬ chRuns c ∨ x.pulse.isNone then s
    else
      let on := demand c n
      let x := { x with pulse := none, intervals := x.intervals + 1, fellAt := none }
      let s := setChan s who { c with outs := tset c.outs n x, pulseFree := c.clk + 1 }
      if ¬ on then s
      else if low then cnt (drivePin s who n (!s.saf.halt)) Reg.SAF_CNT_TESTS
      else declare s who (3, n, 0))

/-- SAF_CNT_CLEAR (R468). -/
def execSafCntClear (r : Req) (s : State) : Res :=
  .next (gated s r Reg.SAF_CNT_CLEAR (fun s => clearRegs s Reg.SAF_CNT_RESET_REFUSED Reg.SAF_CNT_H_OVERWRITE))

/-- Whether an output starts with its start latch clear (R457): every named function and pair has auto_start. -/
def autoStart (p : Bytes) (n : Nat) : Bool :=
  (List.range 8).all (fun i =>
    (!(sbOut p n 0).testBit i || (sbFunc p i 1).testBit 4) && (!(sbOut p n 1).testBit i || (sbPair p i 0).testBit 3))

/-- A channel at a safety start (R438, R457): its copy, its start latches, every fault clear. -/
def startChan (s : State) (c : Chan) : Chan :=
  let okA := s.saf.bufOk && safBlockOk s.saf.bufA
  let okB := s.saf.bufOk && safBlockOk s.saf.bufB
  let blk := if okA then some s.saf.bufA else if okB then some s.saf.bufB else none
  let p := blk.getD []
  { (default : Chan) with
    on := c.on, reset := false, block := blk, usingB := !okA && okB, copies := b2n okA + 2 * b2n okB
    blockCrc := sbCrc p, lev0 := c.lev0, lev1 := c.lev1
    outs := (List.range 8).foldl (fun t n => tset t n { (default : SafOut) with start := !autoStart p n }) []
    funcs := [], peer := { (default : SafPeer) with stale := false } }

/-- The parameter faults a safety start declares (R438). -/
def startFaults (c : Chan) (a b : Bytes) : List Decl :=
  if c.block.isNone ∨ (c.copies = 3 ∧ a ≠ b) then [(10, 0, 0)] else []

/-- A safety start of one channel. -/
def safetyStartChan (s : State) (who : Nat) : State :=
  let s := allLow s who
  let s := setChan s who (startChan s (chan s who))
  declareAll s who (startFaults (chan s who) s.saf.bufA s.saf.bufB)

/-- The view's registers at a safety start (R468). -/
def safViewReset (s : State) : State :=
  let s := clearRegs s Reg.SAF_CNT_RESET_REFUSED Reg.SAF_CNT_H_OVERWRITE
  { s with saf := { s.saf with resets := 0, lastEvent := 0, status := [], hRun := false, odo0Stamp := 0, odo1Stamp := 0 } }

/-- SAFETY_START (R457): SAFE_PORST_N is high and PORST_N has been released. -/
def execSafetyStart (s : State) : Res :=
  .next (if s.pwr.porst then s else
    let s := { s with saf := { s.saf with srst := false, h := { s.saf.h with on := true }, p := { s.saf.p with on := true } } }
    safetyStartChan (safetyStartChan (safViewReset s) 1) 2)

/-- SAFE_PORST_ASSERT (R458): both channels are held in reset with every drive pin low. -/
def execSafePorstAssert (s : State) : Res :=
  .next (
    let s := allLow (allLow s 1) 2
    { s with saf := { s.saf with srst := true, h := { s.saf.h with reset := true }, p := { s.saf.p with reset := true } } })

/-- SAFETY_RAIL_RETURN (R520): that channel passes through a safety start. -/
def execSafetyRailReturn (who : Nat) (s : State) : Res :=
  .next (if (who ≠ 1 ∧ who ≠ 2) ∨ (chan s who).on = true then s
    else
      let s := setChan s who { chan s who with on := true }
      if s.saf.srst ∨ s.pwr.porst then s else safetyStartChan s who)

end Sys2Proof.Machine
end

