-- ==== Sys2Proof/Machine/Power.lean ====
section
/-! DEFINITION. Power domains, sequencing, supply monitors and the PMBus regulator (chapter 17). -/

namespace Sys2Proof.Machine

/-- The registers that survive PORST_N: the PWR latches and counters and CFG_BOOT_PREF (R482, R518, PWR registers). -/
def keepsPorst (off : Nat) : Bool := decide (0x140000 ≤ off ∧ off < 0x150000) || decide (off = Reg.CFG_BOOT_PREF)

/-- PORST_N low (R370, R424, R425, R518, R524): the gate closes, the halt line asserts, every domain but VBAT and AON goes off (the
safety channels are powered and held in reset); a life-cycle move takes effect and debug closes. -/
def porstAssert (s : State) : State :=
  (
    let s := closeGate s
    let s := allLow (allLow s 1) 2
    let v := s.vault
    let lc := v.lcMove.getD v.lc
    let vault : Vault :=
      { root := v.root, rootNew := v.rootNew, lc := lc, anchors := v.anchors, anchorRevoked := v.anchorRevoked
        tamperCfg := v.tamperCfg, tamperStatus := v.tamperStatus, tamperLive := v.tamperLive, tamperLog := v.tamperLog
        tamperCount := v.tamperCount, tamperNext := v.tamperNext, lfsr := v.lfsr, drbgN := v.drbgN }
    let saf := { s.saf with halt := true, h := { s.saf.h with on := true, reset := true }, p := { s.saf.p with on := true, reset := true } }
    { State.reset with
      pending := s.pending, regs := tfilter (fun k _ => keepsPorst k) s.regs, nvm := s.nvm, secver := s.secver
      tim := { rtc := s.tim.rtc }, red := { seen := s.red.seen, leaseTimer := s.red.leaseTimer, sealCounter := s.red.sealCounter }
      vault := vault, saf := saf, aon := s.aon, free := s.free, out := s.out
      pwr := { porst := true, on := [1, 2, 4, 5], out := s.pwr.out, fabLow := s.pwr.fabLow, vbatMv := s.pwr.vbatMv
               vbatLow := s.pwr.vbatLow, vbatOkSince := s.pwr.vbatOkSince, lastStatus := s.pwr.lastStatus } })

/-- PORST_ASSERT (R524). -/
def execPorstAssert (s : State) : Res := .next (porstAssert s)

/-- PORST_RELEASE (R523, R524): the sequence starts from t0; the halt line is released (R433). -/
def execPorstRelease (s : State) : Res :=
  .next (if ¬ s.pwr.porst then s else
    let s := { s with saf := { s.saf with halt := false } }
    let p := { s.pwr with porst := false, sequencing := true, step := 0, on := [1, 2, 4, 5] }
    { s with pwr := p, cfgs := { phase := .powering }, dev := .reset })

/-- The domains that a step of the power-up sequence switches on (Power-up): TIME; LANE; MEMC; FAB, CLS, MAP and BUF in eight
steps, one domain at the end of each two; KEY and STW; NET and FLD. -/
def stepDomains (n : Nat) : List Nat :=
  match n with
  | 0 => [3]
  | 1 => [15]
  | 2 => [12]
  | 4 => [7]
  | 6 => [8]
  | 8 => [9]
  | 10 => [10]
  | 11 => [11, 6]
  | 12 => [13, 14]
  | _ => []

/-- Switch domains on. -/
def switchOn (s : State) (ds : List Nat) : State :=
  let add (l : List Nat) (d : Nat) := if l.contains d then l else l ++ [d]
  let on := ds.foldl add s.pwr.on
  { s with pwr := { s.pwr with on := on, part := s.pwr.part.filter (fun d => !ds.contains d) } }

/-- DOMAIN_POWER_STEP (R523): the next step of the sequence; after the last one DEV_STATE is LOADING in a start. A step after
TIME waits for the PLL. -/
def execDomainPowerStep (s : State) : Res :=
  .next (if ¬ s.pwr.sequencing ∨ s.pwr.porst = true then s
    else if s.pwr.step ≥ 1 ∧ ¬ s.pwr.pllLocked then s
    else if s.pwr.step ≤ 12 then
      let s := switchOn s (stepDomains s.pwr.step)
      { s with pwr := { s.pwr with step := s.pwr.step + 1 } }
    else
      let s := { s with pwr := { s.pwr with sequencing := false } }
      if s.dev = .reset ∨ (s.dev = .loading ∧ s.cfgs.phase = .powering) then
        setRole { powerFor s .loading with cfgs := { s.cfgs with phase := .directory } } .loading
      else s)

/-- PLL_LOCKED (R312, R523): the derived clocks run; device time starts from the real-time clock's seconds and is not valid. -/
def execPllLocked (s : State) : Res :=
  .next (if ¬ domainOn s 3 then s
    else
      let s := { s with pwr := { s.pwr with pllLocked := true } }
      if s.tim.running then s
      else { s with tim := { s.tim with running := true, dt := s.tim.rtc / 32768 * 1000000000 * 2 ^ 32, timeValid := false } })

/-- Report PWR_DOMAIN_FAULT for a domain (R520). -/
def domainFault (s : State) (d : Nat) : State :=
  let s := wr s Reg.PWR_FAULT (putBit (rd s Reg.PWR_FAULT) (d - 1) true)
  report (cnt s Reg.PWR_CNT_DOMAIN_FAULT) Ev.PWR_DOMAIN_FAULT d 0

/-- PLL_LOCK_TIMEOUT (R523): reported for domain 3, and the sequence restarts. (DESIGN CHOICE: log 9) -/
def execPllLockTimeout (s : State) : Res :=
  .next (if ¬ s.pwr.sequencing ∨ s.pwr.pllLocked = true then s
    else
      let s := domainFault s 3
      { s with pwr := { s.pwr with sequencing := true, step := 0 } })

/-- POWER_MONITOR_TRIP (R520, R524): the monitor of a domain trips, on the low or the high side, at `mv` millivolts. -/
def execPowerMonitorTrip (domain : Nat) (low : Bool) (mv : Nat) (s : State) : Res :=
  .next (if domain = 2 then porstAssert s else
    if domain = 1 then
      let s := { s with pwr := { s.pwr with vbatMv := mv } }
      if low then
        let s := { s with pwr := { s.pwr with vbatOkSince := none } }
        if s.pwr.vbatLow then s
        else
          let s := { s with pwr := { s.pwr with vbatLow := true } }
          if s.pwr.porst then s else report (cnt s Reg.PWR_CNT_VBAT_LOW) Ev.PWR_VBAT_LOW noInst mv
      else tamperDetect 3 s
    else if s.pwr.porst ∨ ¬ domainOn s domain ∨ domain > 15 then s
    else if domain = 4 ∨ domain = 5 then
      let who := domain - 3
      setChan (allLow s who) who { chan (allLow s who) who with on := false }
    else if 7 ≤ domain ∧ domain ≤ 10 ∧ low = true then
      let s := wr s Reg.PWR_FAULT (putBit (rd s Reg.PWR_FAULT) 15 true)
      report { s with pwr := { s.pwr with fabLow := true } } Ev.DEV_UNDERVOLT noInst mv
    else domainFault s domain)

/-- VBAT_LOW_END (R520): VBAT has been at 2.5 V or more for 10 s. -/
def execVbatLowEnd (mv : Nat) (s : State) : Res :=
  .next (if mv < 2500 then s else { s with pwr := { s.pwr with vbatLow := false, vbatMv := mv } })

/-- The CRC-8 of PMBus packet error checking: polynomial 0x07, initial value 0 (R525). (DESIGN CHOICE: log 64) -/
def pec (bs : Bytes) : Nat := crcL 8 7 0 bs

/-- The 16-bit code of a setpoint in mV under a VOUT_MODE exponent (R525): halves rounded up. -/
def voutCode (e : Nat) (mv : Nat) : Nat :=
  let x := sext 5 e
  let num := if x < 0 then mv * 2 ^ x.natAbs else mv
  let den := if x < 0 then 1000 else 1000 * 2 ^ x.natAbs
  ((2 * num + den) / (2 * den)) % 65536

/-- A PMBus write with its address byte, PAGE before it and PEC after it where the configuration says so (R525). (DESIGN CHOICE: log 43) -/
def pmbWrite (s : State) (code : Nat) (data : Bytes) : State :=
  let addr := 2 * fld s Reg.PWR_AVS_CFG 6 0
  let withPec (body : Bytes) : Bytes := if bit (rd s Reg.PWR_AVS_CFG) 17 then body ++ [BitVec.ofNat 8 (pec body)] else body
  let frame (c : Nat) (d : Bytes) : Bytes := withPec ([BitVec.ofNat 8 addr, BitVec.ofNat 8 c] ++ d)
  let s := if bit (rd s Reg.PWR_AVS_CFG) 7 then emit s (.pmbus 0x00 (frame 0x00 [BitVec.ofNat 8 (fld s Reg.PWR_AVS_CFG 15 8)])) else s
  emit s (.pmbus code (frame code data))

/-- A VDD_FAB setpoint is sent (R525): one command in progress until READ_VOUT_CHECK. (DESIGN CHOICE: log 43) -/
def avsSend (s : State) (mv : Nat) : State :=
  if ¬ s.pwr.linked ∨ s.pwr.avsFail = true then s
  else
    let s := pmbWrite s 0x21 (toLE 2 (voutCode s.pwr.exponent mv))
    { s with pwr := { s.pwr with command := mv, cmdBusy := true } }

/-- At start, VOUT_MODE is read (R525): linear mode sets the exponent and links. -/
def avsLink (s : State) (mode : Nat) : State :=
  if mode / 32 = 0 then { s with pwr := { s.pwr with linked := true, exponent := mode % 32, avsFail := false, failPeriods := 0 } }
  else { s with pwr := { s.pwr with linked := false } }

/-- PMB_ALERT served (R527): the status word is latched, CLEAR_FAULTS is sent, the alert is counted. -/
def alertServe (s : State) (word : Nat) : State :=
  let s := pmbWrite s 0x03 []
  cnt { s with pwr := { s.pwr with lastStatus := word % 65536, alertPending := none } } Reg.PWR_CNT_PMB_ALERT

/-- READ_VOUT_CHECK (R526): `ok` says that every byte was acknowledged, PEC matched and no transfer passed 35 ms; `mv` is
READ_VOUT. A failed command is repeated up to 3 times; 16 failing periods end the adaptive voltage. -/
def execReadVoutCheck (ok : Bool) (mv : Nat) (s : State) : Res :=
  .next (if ¬ s.pwr.cmdBusy then s
    else
      let c := s.pwr.command
      let good := ok && decide (mv ≤ c + 15 ∧ c ≤ mv + 15)
      let s := { s with pwr := { s.pwr with readback := mv, history := ({ mv := c, back := mv } :: s.pwr.history).take 64 } }
      let s :=
        if good then { s with pwr := { s.pwr with cmdBusy := false, tries := 0, failPeriods := 0 } }
        else
          let s := cnt s Reg.PWR_CNT_PMB_FAIL
          if s.pwr.tries < 3 then avsSend { s with pwr := { s.pwr with tries := s.pwr.tries + 1 } } c
          else
            let n := s.pwr.failPeriods + 1
            { s with pwr := { s.pwr with cmdBusy := false, tries := 0, failPeriods := n, avsFail := s.pwr.avsFail || decide (n ≥ 16) } }
      if s.pwr.cmdBusy then s
      else match s.pwr.alertPending with
        | some w => alertServe s w
        | none => s)

/-- PMB_ALERT (R527): `word` is STATUS_WORD; a command in progress completes first. -/
def execPmbAlert (word : Nat) (s : State) : Res :=
  .next (if ¬ domainOn s 6 then s
    else if s.pwr.cmdBusy then { s with pwr := { s.pwr with alertPending := some word } } else alertServe s word)

/-- PWR_CNT_CLEAR (R541). -/
def execPwrCntClear (r : Req) (s : State) : Res :=
  .next (gated s r Reg.PWR_CNT_CLEAR (fun s => clearRegs s Reg.PWR_CNT_PMB_FAIL Reg.PWR_CNT_VBAT_LOW))

/-- AON_POWER_LOST (R481, PWR registers): start counters, image record, CFG_BOOT_PREF and the PWR latches return to their reset
values, and the unit is where PORST_N leaves it. -/
def execAonPowerLost (s : State) : Res :=
  let s := porstAssert s
  .next { s with aon := {}, regs := [], red := { sealCounter := s.red.sealCounter }, saf := { s.saf with bufOk := false, bufA := [], bufB := [] }
                 pwr := { porst := true, on := [1], vbatMv := s.pwr.vbatMv } }

end Sys2Proof.Machine
end

