-- ==== Sys2Proof/Machine/Pair.lean ====
section
/-! DEFINITION. The unit pair (chapter 12): the lease, roles, relinquish, the inter-unit link, divergence. -/

namespace Sys2Proof.Machine

/-- Store the RED block. -/
def setRed (s : State) (x : Red) : State := { s with red := x }

/-- The grants of lane `k`. -/
def grant (s : State) (k : Nat) : Grant := tget s.red.grants k

/-- Store the grants of lane `k`. -/
def setGrant (s : State) (k : Nat) (g : Grant) : State := { s with red := { s.red with grants := tset s.red.grants k g } }

/-- L × (1 − 200 ppm) in raw ticks of 2 ns; L lies from 5 to 500 ms (R374). (DEDUCED: log 46) -/
def leaseTicks (s : State) : Nat := clampN 5 500 (fld s Reg.RED_CONFIG 10 2) * 499900

/-- Whether lane `k` holds a current grant of an epoch. -/
def grantOf (s : State) (k epoch : Nat) : Bool := (grant s k).current && decide ((grant s k).epoch = epoch)

/-- Whether two lanes hold current grants of an epoch (R374). -/
def majorityOf (s : State) (epoch : Nat) : Bool :=
  decide (((List.range 3).filter (fun k => grantOf s k epoch)).length ≥ 2)

/-- Whether the unit acts on a majority: of the epoch in force. -/
def majority (s : State) : Bool := decide (s.red.epoch ≠ 0) && majorityOf s s.red.epoch

/-- The LEASE vector of lane `k` (R406). -/
def leaseVector (s : State) (k : Nat) : State := raise s k true 6

/-- A grant command is rejected (R375). -/
def rejectGrant (s : State) (k : Nat) : State := leaseVector (cnt s Reg.RED_CNT_GRANT_REJECT) k

/-- An epoch has been seen (R375). -/
def seeEpoch (s : State) (e : Nat) : State := { s with red := { s.red with seen := max s.red.seen e } }

/-- A frame that asks the peer for a full peat (R405), once the link is up. -/
def sendJoin (s : State) : State :=
  if s.red.linkUp then sendIu { s with red := { s.red with joinPending := false } } .join
  else { s with red := { s.red with joinPending := true } }

/-- The registers of domains that are off in STANDBY_COLD are lost (R517). (DEDUCED: log 62) -/
def keepsCold (off : Nat) : Bool := !decide (domainOf off ∈ [7, 8, 9, 10, 11])

/-- The path of a unit in STANDBY_COLD is powered down (R372, R389, R517): path state is cleared, one steward core runs. -/
def powerDown (s : State) : State :=
  let s := clearPath s
  let s := { s with regs := tfilter (fun k _ => keepsCold k) s.regs, latch := [], prev := [], vault := vaultOff s.vault
                    moder := [], stw := { s.stw with state := if s.stw.state = 0 then 0 else 2, intake := [] }
                    cfgs := { s.cfgs with shadows := [], cmdState := 0, run := none, swaps := [], mergeBegun := false } }
  powerFor s .standbyCold

/-- The unit enters STANDBY_COLD (R372, R405): a takeover in progress is abandoned, and the unit joins. (DEDUCED: log 62) -/
def becomeStandby (s : State) : State :=
  let s := powerDown (closeGate s)
  let s := { s with red := { s.red with relinquished := false, relinquishFatal := false, taking := none, mirroring := false } }
  sendJoin (setRole s .standbyCold)

/-- A unit leaves STANDBY_SHADOW for STANDBY_COLD (R396): it seals its state at the next boundary and then powers down. -/
def leaveShadow (s : State) : State :=
  if s.dev ≠ .standbyShadow then s
  else
    let s := { s with red := { s.red with shadowSeal := true, logIn := [], back := [], taking := none } }
    sendJoin (setRole s .standbyCold)

/-- A cold start begins from STANDBY_COLD (R397, R480, R523): the domains that are off are switched on. (DEDUCED: log 51) -/
def startCold (s : State) : State :=
  let s := clearPath s
  let s := { s with
    red := { s.red with taking := some .cold, shadowSeal := false }, cfgs := { phase := .powering, image := s.cfgs.image }
    cdb := {}, stw := {}, vault := vaultOff s.vault, pwr := { s.pwr with sequencing := true, step := 3 }
    tim := { s.tim with fresh := true, cycleDue := false, qNext := none } }
  setRole s .loading

/-- Whether the peat can serve a warm takeover: complete, not stale, and the warm counter below 3 (R397, R481). (DEDUCED: log 57) -/
def warmPossible (s : State) : Bool :=
  s.red.imageQ.isSome && s.red.fullReceived && !s.red.stale && decide (s.aon.warm < 3)

/-- A warm attempt is counted (R481). -/
def countWarm (s : State) : State :=
  { s with aon := { s.aon with warm := min 3 (s.aon.warm + 1), starts := satAdd 65535 s.aon.starts 1, countedKind := 4 } }

/-- A standby acts on a majority of a new epoch: the kind of its takeover is decided (R397). (DEDUCED: log 51) -/
def beginTakeover (s : State) : State :=
  let s := { s with red := { s.red with takeSince := s.red.leaseTimer, takeAt := s.tim.boundaries } }
  match s.dev with
  | .standbyShadow => { s with red := { s.red with taking := some .shadow } }
  | .standbyCold =>
    if warmPossible s then
      let s := countWarm { s with red := { s.red with taking := some .warm } }
      { s with pwr := { s.pwr with sequencing := true, step := 3 } }
    else startCold s
  | _ => s

/-- The unit adopts an epoch where a majority of it is current and it is above the one in force (R375). -/
def adoptEpoch (s : State) (e : Nat) : State :=
  if e > s.red.epoch ∧ majorityOf s e = true then beginTakeover { s with red := { s.red with epoch := e } } else s

/-- A grant is current from now on (R374). -/
def makeCurrent (s : State) (k e : Nat) : State :=
  let g := { grant s k with epoch := e, current := true, lapsed := false, lapse := s.red.leaseTimer + leaseTicks s, pend := none }
  adoptEpoch (setGrant s k g) e

/-- The lease of an ACTIVE unit is lost (R374, R379). -/
def leaseLost (s : State) : State :=
  let s := report (cnt s Reg.RED_CNT_LEASE_LOST) Ev.RED_LEASE_LOST noInst 0
  relinquish (leaseVector (leaseVector (leaseVector s 0) 1) 2) false

/-- A grant has ended: an ACTIVE unit without a majority loses its lease, a takeover without one is abandoned (R374, R397). -/
def grantEnded (s : State) : State :=
  if majority s then s
  else if s.dev = .active then leaseLost s
  else match s.red.taking with
    | some .shadow => leaveShadow s
    | some _ => becomeStandby s
    | none => s

/-- Lane `k`'s grant lapses (R374). -/
def lapseGrant (s : State) (k : Nat) : State :=
  let s := setGrant s k { grant s k with current := false, lapsed := true }
  grantEnded (leaseVector s k)

/-- Whether lane `k`'s grant has reached its end. -/
def grantOver (s : State) (k : Nat) : Bool := (grant s k).current && decide (s.red.leaseTimer ≥ (grant s k).lapse)

/-- Whether an epoch names a new term (R375): it exceeds every epoch seen, or another lane's grant of it has been recorded since. (DEDUCED: log 49) -/
def newTerm (s : State) (e : Nat) : Bool :=
  decide (e > s.red.seen) ||
  (decide (e = s.red.seen ∧ e > s.red.epoch) && (List.range 3).any (fun k =>
    grantOf s k e || (match (grant s k).pend with
      | some (p, _) => decide (p = e)
      | none => false)))

/-- Whether a grant of the epoch in force is a renewal: the unit is ACTIVE or taking over, or starts on that epoch (R375, R397). -/
def renewing (s : State) : Bool := decide (s.dev = .active) || s.red.taking.isSome || decide (s.dev = .loading ∨ s.dev = .starting)

/-- A lane's own command register (R373): any other writer's write is discarded without error. -/
def laneGate (s : State) (r : Req) (k : Nat) (f : State → State) : State :=
  if k < 3 ∧ r = .fn k true then f (setGrant s k { grant s k with heard := some s.red.leaseTimer }) else s

/-- Whether the unit takes no grant: it is RELINQUISHING or in RESET (R375). -/
def refusesGrants (s : State) : Bool := decide (s.dev = .relinquishing ∨ s.dev = .reset)

/-- LEASE_GRANT (R373 to R376). (DEDUCED: log 49) -/
def execLeaseGrant (r : Req) (k : Nat) (s : State) : Res :=
  .next (laneGate s r k (fun s =>
    let e := (rd s (Reg.RED_GRANT_EPOCH k)).toNat
    let nb := addr64 s (Reg.RED_GRANT_NB_LO k) (Reg.RED_GRANT_NB_HI k)
    if refusesGrants s then rejectGrant s k
    else if e ≠ 0 ∧ e = s.red.epoch ∧ renewing s = true then
      (if grantOver s k then lapseGrant s k else makeCurrent s k e)
    else if newTerm s e then
      let s := seeEpoch s e
      if nb ≤ now s then makeCurrent s k e else setGrant s k { grant s k with pend := some (e, nb) }
    else rejectGrant s k))

/-- An epoch reaches an ACTIVE unit that serves under a lower one (R379). -/
def higherEpoch (s : State) (e : Nat) : State :=
  let outbid := decide (s.dev = .active ∧ e > s.red.epoch)
  let s := seeEpoch s e
  if outbid then leaseLost s else s

/-- LEASE_WITNESS (R373, R375, R379, R395): a witness never grants. (DEDUCED: log 49) -/
def execLeaseWitness (r : Req) (k : Nat) (s : State) : Res :=
  .next (laneGate s r k (fun s =>
    let e := (rd s (Reg.RED_GRANT_EPOCH k)).toNat
    if refusesGrants s then rejectGrant (seeEpoch s e) k
    else higherEpoch (setGrant s k { grant s k with witness := some (now s) }) e))

/-- LEASE_REVOKE (R373, R376). -/
def execLeaseRevoke (r : Req) (k : Nat) (s : State) : Res :=
  .next (laneGate s r k (fun s =>
    let g := grant s k
    if g.current = false ∧ g.pend = none then s
    else grantEnded (setGrant s k { g with current := false, lapsed := true, pend := none })))

/-- GRANT_BECOMES_CURRENT (R374, R375). -/
def execGrantBecomesCurrent (k : Nat) (s : State) : Res :=
  .next (match (grant s k).pend with
    | none => s
    | some (e, nb) => if now s < nb ∨ refusesGrants s = true then s else makeCurrent s k e)

/-- GRANT_LAPSE (R374). -/
def execGrantLapse (k : Nat) (s : State) : Res := .next (if grantOver s k then lapseGrant s k else s)

/-- RELINQUISH_CMD (R378, R380): ACTIVE only. -/
def execRelinquishCmd (r : Req) (s : State) : Res :=
  .next (gated s r Reg.RED_CMD (fun s => if s.dev = .active then relinquish s false else s))

/-- JOIN_CMD (R405): a standby only. -/
def execJoinCmd (r : Req) (s : State) : Res := .next (gated s r Reg.RED_CMD (fun s => if isStandby s then sendJoin s else s))

/-- HEARTBEAT_SEND (R386, R387). -/
def execHeartbeatSend (s : State) : Res :=
  .next (sendIu s (.heartbeat (now s) (s.red.beat.map (fun b => (b.tx, b.rx)))))

/-- A frame has come over the inter-unit link (R375, R385, R386): its path lives; the first copy of a number is accepted, a later one
within 1,024 numbers is a mirage. (DEDUCED: log 49) -/
def acceptIu (s : State) (h : IuHead) (f : State → State) : State :=
  let r := s.red
  let up := r.linkUp
  let r := if h.path = 0 then { r with pathA := true, lastA := now s } else { r with pathB := true, lastB := now s }
  let s := setRed s { r with linkUp := true }
  if s.dev = .reset ∨ s.dev = .haltSafe ∨ h.path > 1 then setRed s { s.red with linkUp := up }
  else if s.red.rxSeqs.contains h.seq then cnt s Reg.RED_CNT_IU_MIRAGE
  else
    let s := setRed s { s.red with rxSeqs := (h.seq :: s.red.rxSeqs).take 1024, peerState := h.dev }
    let s := if s.red.joinPending = true ∧ isStandby s = true then sendJoin s else s
    f s

/-- HEARTBEAT_RECEIVED (R375, R379, R387): `tx` is the peer's departure stamp, `rx` the arrival stamp here, `echo` what the peer says of
this unit's last heartbeat: departure stamp, arrival stamp there. -/
def execHeartbeatReceived (h : IuHead) (tx rx : Nat) (echo : Option (Nat × Nat)) (s : State) : Res :=
  .next (acceptIu s h (fun s =>
    let s := setRed s { s.red with beat := some { tx := tx, rx := rx } }
    let s := match echo with
      | none => s
      | some (a, b) =>
        let out := Int.ofNat b - Int.ofNat a
        let back := Int.ofNat tx - Int.ofNat rx
        setRed s { s.red with offset := Int.tdiv (out + back) 2
                              delay := Int.tdiv ((Int.ofNat rx - Int.ofNat a) - (Int.ofNat tx - Int.ofNat b)) 2 }
    higherEpoch s h.epoch))

/-- The inter-unit link is lost (R386, R404): reported, counted; mirroring stops, and a shadow leaves its role. -/
def linkLost (s : State) : State :=
  let s := setRed s { s.red with linkUp := false, mirroring := false, mirrorQ := [] }
  let s := report (cnt s Reg.RED_CNT_LINK_LOST) Ev.RED_LINK_LOST noInst 0
  leaveShadow (raiseAll (raiseAll s true 7) false 8)

/-- IU_PATH_LOST (R386): a path has delivered nothing for 1 ms. -/
def execIuPathLost (b : Bool) (s : State) : Res :=
  .next (
    let r := s.red
    let up := if b then r.pathB else r.pathA
    let last := if b then r.lastB else r.lastA
    if up = false ∨ since s last < msUnits then s
    else
      let s := setRed s (if b then { r with pathB := false } else { r with pathA := false })
      let s := report s Ev.PRT_PATH_LOST 108 (b2n b)
      if s.red.pathA = false ∧ s.red.pathB = false ∧ s.red.linkUp = true then linkLost s else s)

/-- RELINQUISH_RECEIVED (R378, R406). -/
def execRelinquishReceived (h : IuHead) (s : State) : Res :=
  .next (acceptIu s h (fun s =>
    raiseAll (raiseAll (setRed s { s.red with peerRelinquished := true }) true 7) false 8))

/-- JOIN_RECEIVED (R391): a full peat is taken at the next boundary. -/
def execJoinReceived (h : IuHead) (s : State) : Res :=
  .next (acceptIu s h (fun s => if s.dev = .active then setRed s { s.red with fullDue := true } else s))

/-- IU_COPY_RECEIVED (R388): a copy for the steward's intake, with the sender's stamp and source kind 7. -/
def execIuCopyReceived (h : IuHead) (stamp : Nat) (payload : Bytes) (s : State) : Res :=
  .next (acceptIu s h (fun s =>
    if s.stw.intake.length < 256 then
      let x : Sent := { (default : Sent) with payload := payload, stamp := stamp, endT := stamp, src := 108, srcKind := 7 }
      { s with stw := { s.stw with intake := s.stw.intake ++ [x] } }
    else { s with stw := { s.stw with dropped := s.stw.dropped + 1 } }))

/-- RED_CNT_CLEAR (R407). -/
def execRedCntClear (r : Req) (s : State) : Res :=
  .next (gated s r Reg.RED_CNT_CLEAR (fun s => clearRegs s Reg.RED_CNT_TAKEOVER Reg.RED_CNT_IU_MIRAGE))

/-- A divergence procedure begins (R384): a targeted slice runs here and is asked of the peer. -/
def beginDivergence (s : State) (ask : Bool) : State :=
  if s.red.divState = 1 then s
  else
    let s := setRed s { s.red with divState := 1, divSince := now s, ownFail := none, peerFail := none }
    if ask then sendIu s .testRequest else s

/-- A digest mismatch is declared (R383, R384). -/
def mismatch (s : State) : State := beginDivergence (cnt s Reg.RED_CNT_DIGEST_MISMATCH) true

/-- The first test result of a running divergence procedure is this unit's own and goes to the peer (R384, R506). (DEDUCED: log 49) -/
def ownResult (s : State) (failed : Bool) : State :=
  if s.red.divState ≠ 1 ∨ s.red.ownFail.isSome = true then s
  else sendIu (setRed s { s.red with ownFail := some failed }) (.testResult failed)

/-- DIVERGENCE_TEST_REQUEST_RECEIVED (R384): a request starts the targeted slice, a result is recorded. -/
def execDivergenceTestRequestReceived (h : IuHead) (result : Option Bool) (s : State) : Res :=
  .next (acceptIu s h (fun s => match result with
    | none => beginDivergence s false
    | some f => if s.red.divState = 1 then setRed s { s.red with peerFail := some f } else s))

/-- DIVERGENCE_DECIDE (R384): both results are in, or 50 ms have passed; a unit without a result counts as passing. -/
def execDivergenceDecide (s : State) : Res :=
  .next (
    let r := s.red
    if r.divState ≠ 1 ∨ ((r.ownFail.isNone = true ∨ r.peerFail.isNone = true) ∧ since s r.divSince < 50 * msUnits) then s
    else
      let own := r.ownFail.getD false
      let peer := r.peerFail.getD false
      let act := decide (s.dev = .active)
      let s := setRed s { r with divState := 2, ownFail := some own, peerFail := some peer }
      if act ∨ s.dev = .standbyShadow then
        match own, peer with
        | true, true =>
          let s := report s Ev.DGN_SELFTEST_FAIL noInst 0
          if act then s else leaveShadow s
        | true, false => if act then relinquish s false else leaveShadow (report s Ev.DGN_SELFTEST_FAIL noInst 0)
        | false, true => s
        | false, false =>
          let s := raiseAll (raiseAll (report s Ev.RED_DIVERGENCE noInst 0) true 7) false 8
          if bit (rd s Reg.RED_CONFIG) 1 then (if act then relinquish s false else s)
          else if act then s else leaveShadow s
      else s)

/-- The digest of a period closes (R383): remembered with Q for 16 periods, and the next one begins. (DEDUCED: log 49) -/
def closeDigest (s : State) (q : Nat) : State :=
  let d := s.red.digest
  let l := if s.red.digests.any (fun e => decide (e.1 = q)) then
      s.red.digests.map (fun e => if e.1 = q then (q, some d, e.2.2) else e)
    else ((q, some d, none) :: s.red.digests).take 16
  setRed s { s.red with digest := 0xFFFFFFFFFFFFFFFF, digests := l }

/-- The own digest of a period, where it has closed. -/
def ownDigest (s : State) (q : Nat) : Option Nat := (s.red.digests.find? (fun e => decide (e.1 = q))).bind (fun e => e.2.1)

/-- A standby's judgement of a period (R383): logged commits without a sentence, and sentences the log has omitted through a whole
period. -/
def logFaults (s : State) : Bool :=
  let ids := s.com.intake.map (fun x => (x.mirror, x.outNo.getD 0xFF))
  decide (s.red.logIn ≠ []) || ids.any (fun i => s.red.heldOver.contains i)

/-- DIGEST_RECEIVED (R383): the peer's digest `d` of period `q`. The standby closes its own digest of that period here, where the log's
entries of the period have come, and answers with it. -/
def execDigestReceived (h : IuHead) (q d : Nat) (s : State) : Res :=
  .next (acceptIu s h (fun s =>
    let note (s : State) : State :=
      setRed s { s.red with digests := s.red.digests.map (fun e => if e.1 = q then (q, e.2.1, some d) else e) }
    if s.dev = .active then
      match ownDigest s q with
      | some o => let s := note s
                  if o = d then s else mismatch s
      | none => setRed s { s.red with digests := ((q, none, some d) :: s.red.digests).take 16 }
    else if s.dev = .standbyShadow then
      let bad := logFaults s || decide (s.red.digest ≠ d)
      let held := s.com.intake.map (fun x => (x.mirror, x.outNo.getD 0xFF))
      let own := s.red.digest
      let s := note (closeDigest s q)
      let s := sendIu (setRed s { s.red with heldOver := held, logIn := [] }) (.digest q own)
      if bad then mismatch s else s
    else s))

end Sys2Proof.Machine
end

