-- ==== Sys2Proof/Machine/Peat.lean ====
section
/-! DEFINITION. The peat (chapter 12): its blocks, their seals, checkpoints, staging and image, staleness. -/

namespace Sys2Proof.Machine

/-- The pairs of a table whose keys lie in [lo, lo + n). -/
def tpart {α : Type} (t : Tab α) (lo n : Nat) : Tab α := tfilter (fun k _ => decide (lo ≤ k ∧ k < lo + n)) t

/-- A table with the pairs of another written over it. -/
def tover {α : Type} [DecidableEq α] [Inhabited α] (t new : Tab α) : Tab α := new.foldl (fun t e => tset t e.1 e.2) t

/-- What words 6 and 10 to 15 of a stream entry hold of its runtime state (R94, Peat sections). -/
def streamCore (x : Stream) : Stream :=
  { x with line := [], ovf0 := [], ovf1 := [], matched := 0, refused := 0, seqAnomaly := 0, drainLoss := 0, contractAt := none }

/-- What the counter table holds of a stream. -/
def streamCounts (x : Stream) : Stream :=
  { (default : Stream) with matched := x.matched, refused := x.refused, seqAnomaly := x.seqAnomaly, drainLoss := x.drainLoss }

/-- The inline last-value line of a stream (R394): DRAM overflow values are not carried. -/
def streamLine (x : Stream) : Stream := { (default : Stream) with line := x.line }

/-- What the peat carries of a lane's vote. -/
def laneVotePart (x : Lane) : Lane :=
  { (default : Lane) with vote := x.vote, clean := x.clean, cleanFrom := x.cleanFrom, minority := x.minority, charged := x.charged }

/-- The time registers of block 0, and the control-cycle multiplier. -/
def peatRegs : List Nat :=
  [Reg.TIM_INC_LO, Reg.TIM_INC_HI, Reg.TIM_UTC_OFFSET, Reg.TIM_LEAP_CTRL, Reg.TIM_LEAP_AT, Reg.LNI_CYCLE_CTRL]

/-- The content of peat block `b` (Peat sections). (PRESUMED: log 50) -/
def peatPart (s : State) (b : Nat) : PeatPart :=
  let e : PeatPart := default
  if b = 0 then
    { e with q := s.tim.q, bound := s.tim.bound, gen := s.com.gen, epoch := s.red.epoch, seen := s.red.seen
             offset := s.lni.offset, lastN := s.lni.lastN, lastCycle := s.lni.lastCycle
             regs := tfilter (fun k _ => peatRegs.contains k) s.regs, timeValid := s.tim.timeValid }
  else if b ≤ 32 then { e with streams := tmap (fun _ x => streamCore x) (tpart s.stb.streams (2048 * (b - 1)) 2048) }
  else if b ≤ 48 then { e with streams := tmap (fun _ x => streamCounts x) (tpart s.stb.streams (4096 * (b - 33)) 4096) }
  else if b ≤ 52 then { e with learned := tpart s.stb.learned (61440 + 1024 * (b - 49)) 1024 }
  else if b ≤ 116 then { e with streams := tmap (fun _ x => streamLine x) (tpart s.stb.streams (1024 * (b - 53)) 1024) }
  else if b ≤ 132 then { e with fstate := tpart s.flt.fstate (4096 * (b - 117)) 4096 }
  else if b = 133 then
    { e with fresh := s.flt.fresh, groups := s.flt.groups
             sends := tmap (fun _ n => n) (s.vault.slots.map (fun x => (x.1, x.2.send))) }
  else if b ≤ 137 then
    { e with seqs := tpart s.egr.seqs (2 ^ 30 * (b - 134)) (2 ^ 30), prpSend := if b = 137 then s.egr.prpSend else [] }
  else if b ≤ 141 then { e with nodes := tpart s.bgt.nodes (2048 * (b - 138)) 2048 }
  else if b = 142 then
    { e with spares := s.cdb.spares, sems := s.brg.sems, lanes := tmap (fun _ x => laneVotePart x) s.lni.lanes }
  else e

/-- Fields of a stream that one section restores. -/
def restoreStream (b : Nat) (old new : Stream) : Stream :=
  if b ≤ 32 then
    { new with line := old.line, matched := old.matched, refused := old.refused, seqAnomaly := old.seqAnomaly, drainLoss := old.drainLoss
               lvState := if new.lvLen > 64 then 3 else new.lvState }
  else if b ≤ 48 then
    { old with matched := new.matched, refused := new.refused, seqAnomaly := new.seqAnomaly, drainLoss := new.drainLoss }
  else { old with line := new.line }

/-- A lane with the vote that the peat carries. -/
def restoreLane (old new : Lane) : Lane :=
  { old with vote := new.vote, clean := new.clean, cleanFrom := new.cleanFrom, minority := new.minority, charged := new.charged }

/-- The content of a peat block restored (R367, R394, R399, R420). (DEDUCED: log 51) -/
def restorePart (s : State) (b : Nat) (p : PeatPart) : State :=
  if b = 0 then
    let s := { s with lni := { s.lni with offset := p.offset, lastN := p.lastN, lastCycle := p.lastCycle, fenced := true }
                      tim := { s.tim with timeValid := p.timeValid, qNext := some p.q, qBound := p.bound }
                      red := { s.red with seen := max s.red.seen (max p.seen p.epoch) } }
    p.regs.foldl (fun s e => wr s e.1 e.2) s
  else if b ≤ 48 ∨ (53 ≤ b ∧ b ≤ 116) then
    { s with stb := { s.stb with streams := p.streams.foldl (fun t e => tmod t e.1 (fun o => restoreStream b o e.2)) s.stb.streams } }
  else if b ≤ 52 then { s with stb := { s.stb with learned := tover s.stb.learned p.learned } }
  else
    let slots := p.sends.foldl (fun t e => tmod t e.1 (fun x => { x with send := e.2 })) s.vault.slots
    let s := { s with flt := { s.flt with fstate := tover s.flt.fstate p.fstate, fresh := tover s.flt.fresh p.fresh
                                          groups := tover s.flt.groups p.groups } }
    let s := { s with egr := { s.egr with seqs := tover s.egr.seqs p.seqs, prpSend := tover s.egr.prpSend p.prpSend } }
    let s := { s with vault := { s.vault with slots := slots }, bgt := { s.bgt with nodes := tover s.bgt.nodes p.nodes } }
    let s := { s with cdb := { s.cdb with spares := tover s.cdb.spares p.spares }, brg := { s.brg with sems := tover s.brg.sems p.sems } }
    { s with lni := { s.lni with lanes := p.lanes.foldl (fun t e => tmod t e.1 (fun o => restoreLane o e.2)) s.lni.lanes } }

/-- The header of a peat block (R392). -/
def peatHeader (q counter unit block : Nat) (full : Bool) : Bytes :=
  toLE 8 q ++ toLE 6 counter ++ toLE 2 (block % 512 + 512 * (unit % 2) + 1024 * b2n full)

/-- The IV of a peat block: header bytes 8 to 15 and four zero bytes. -/
def peatIv (h : Bytes) : Bytes := h.drop 8 ++ [0#8, 0#8, 0#8, 0#8]

/-- The slot of the peat key. -/
def peatSlot (s : State) : Nat := fld s Reg.RED_CONFIG 26 19

/-- This unit's value in the header. -/
def peatUnit (s : State) : Nat := fld s Reg.RED_CONFIG 27 27

/-- A block sealed (R392). -/
def sealPart (s : State) (key : Bytes) (q b : Nat) (full : Bool) (p : PeatPart) : PeatBlk :=
  let h := peatHeader q s.red.sealCounter (peatUnit s) b full
  { q := q, counter := s.red.sealCounter, unit := peatUnit s, full := full
    cipher := Config.gcmSeal key (peatIv h) h (Config.peatEncode p) }

/-- The content of a stored block; none where it does not unseal. -/
def openBlock (key : Bytes) (b : Nat) (x : PeatBlk) : Option PeatPart :=
  let h := peatHeader x.q x.counter x.unit b x.full
  (Config.gcmOpen key (peatIv h) h x.cipher).map Config.peatDecode

/-- The key of the peat for a usage, under the redundancy master. -/
def peatKey (s : State) (usage : Nat) : Option Bytes × State := takeKey s (peatSlot s) 10 usage

/-- A checkpoint begins to be sealed: the peat seal counter rises (R392). -/
def sealBegins (s : State) : State := setRed s { s.red with sealCounter := (s.red.sealCounter + 1) % 2 ^ 48 }

/-- I, the checkpoint interval in periods (R391). -/
def ckptEvery (s : State) : Nat := max 1 (fld s Reg.RED_CONFIG 18 11)

/-- A checkpoint is abandoned (R391): counted; its blocks join the next one. (PRESUMED: log 50) -/
def ckptAbandon (s : State) : State := cnt (setRed s { s.red with ckpt := none, unsent := false }) Reg.RED_CNT_PEAT_LATE

/-- A frozen checkpoint leaves: its blocks and the PEAT_COMMIT (R391, R392). (PRESUMED: log 50) -/
def ckptSend (s : State) (c : Ckpt) : State :=
  match peatKey s useEncrypt with
  | (none, s) => ckptAbandon s
  | (some key, s) =>
    let s := c.parts.foldl (fun s e => sendIu s (.peatBlock e.1 (sealPart s key c.q e.1 c.full e.2))) s
    let s := sendIu s (.peatCommit c.q (tkeys c.parts) c.full)
    setRed s { s.red with unsent := false }

/-- CHECKPOINT (R381, R391): at a boundary of an ACTIVE unit. The blocks whose content differs from what the standby confirmed last are
frozen; a full peat takes all 384 and, under COMPARE, mirroring begins with it. (PRESUMED: log 50) -/
def checkpoint (s : State) : State :=
  let full := s.red.fullDue && s.red.linkUp
  if s.dev ≠ .active ∨ ¬ (full = true ∨ s.tim.q % ckptEvery s = 0) then s
  else
    let s := if s.red.unsent then ckptAbandon s else s
    let all := (List.range 384).map (fun b => (b, peatPart s b))
    let parts := if full then all else all.filter (fun e => !decide (tget s.red.base e.1 = e.2))
    let c : Ckpt := { q := s.tim.q, at_ := s.tim.boundaries, full := full, parts := parts }
    let s := sealBegins s
    let s := setRed s { s.red with ckpt := some c, unsent := true, fullDue := s.red.fullDue && !full
                                   mirroring := s.red.mirroring || (full && bit (rd s Reg.RED_CONFIG) 0)
                                   mirrorOvf := s.red.mirrorOvf && !full }
    if s.red.linkUp then ckptSend s c else s

/-- CHECKPOINT_LATE (R391): the PEAT_COMMIT has not been sent within I/2 periods. -/
def execCheckpointLate (s : State) : Res :=
  .next (match s.red.ckpt with
    | some c => if s.red.unsent = true ∧ 2 * (s.tim.boundaries - c.at_) ≥ ckptEvery s then ckptAbandon s else s
    | none => s)

/-- PEAT_CONFIRMATION_RECEIVED (R391, R393): later checkpoints are taken from what this one carried. -/
def execPeatConfirmationReceived (h : IuHead) (q : Nat) (s : State) : Res :=
  .next (acceptIu s h (fun s => match s.red.ckpt with
    | some c =>
      if c.q ≠ q ∨ s.red.unsent = true then s
      else setRed s { s.red with ckpt := none, base := tover s.red.base c.parts }
    | none => s))

/-- PEAT_BLOCK_RECEIVED (R392, R393): into staging; a block under this unit's own value is discarded. -/
def execPeatBlockReceived (h : IuHead) (b : Nat) (x : PeatBlk) (s : State) : Res :=
  .next (acceptIu s h (fun s =>
    if isStandby s = false ∨ x.unit = peatUnit s ∨ b > 383 then s
    else
      let old := tfilter (fun _ y => match y with
        | some y => decide (y.q = x.q ∧ y.counter = x.counter)
        | none => true) s.red.staging
      setRed s { s.red with staging := tset old b (some x) }))

/-- A PEAT_COMMIT is served (R393): where all its blocks have arrived they are copied; else the checkpoint is discarded whole. A delta
needs a full peat before it. -/
def peatCommit (s : State) (q : Nat) (blocks : List Nat) (full : Bool) : State :=
  let have_ (b : Nat) : Bool := match tget s.red.staging b with
    | some x => decide (x.q = q ∧ x.full = full)
    | none => false
  let list := tfilter (fun k _ => blocks.contains k) s.red.staging
  if blocks.all have_ = true ∧ (full = true ∨ s.red.fullReceived = true) then
    setRed s { s.red with copying := some (q, full, list), staging := [] }
  else setRed s { s.red with staging := [] }

/-- PEAT_COMMIT_RECEIVED (R393): it waits while the copy of the checkpoint before runs. -/
def execPeatCommitReceived (h : IuHead) (q : Nat) (blocks : List Nat) (full : Bool) (s : State) : Res :=
  .next (acceptIu s h (fun s =>
    if isStandby s = false then s
    else if s.red.copying.isSome then setRed s { s.red with commitWait := some (q, blocks, full) }
    else peatCommit s q blocks full))

/-- The copy into the image ends (R393, R395): the checkpoint's Q is recorded and confirmed, and a commit that waited is served. A
checkpoint's time is that of the boundary of its Q. -/
def copyDone (s : State) (q : Nat) (full : Bool) (list : Tab (Option PeatBlk)) : State :=
  let at_ := s.tim.bound - (s.tim.q - q) * periodUnits s
  let s := setRed s { s.red with
    image := tover s.red.image list, copying := none, imageQ := some q, imageAt := at_
    fullReceived := s.red.fullReceived || full, stale := s.red.stale && !full }
  let s := sendIu s (.confirm q)
  match s.red.commitWait with
  | some (q, bs, f) => peatCommit (setRed s { s.red with commitWait := none }) q bs f
  | none => s

/-- PEAT_STALE (R395): at t_c + 2 I and later, with witnesses of two lanes later than t_c + 1.5 I. -/
def execPeatStale (s : State) : Res :=
  .next (
    let i := ckptEvery s * periodUnits s
    let late (k : Nat) : Bool := match (grant s k).witness with
      | some t => decide (2 * t > 2 * s.red.imageAt + 3 * i)
      | none => false
    if isStandby s = false ∨ s.red.imageQ.isNone = true ∨ s.red.stale = true ∨ now s < s.red.imageAt + 2 * i
        ∨ ((List.range 3).filter late).length < 2 then s
    else raiseAll (raiseAll (report (setRed s { s.red with stale := true }) Ev.RED_PEAT_STALE noInst 0) true 7) false 8)

/-- SHADOW_SEAL (R396): a unit that has left STANDBY_SHADOW seals its own state as a full checkpoint into its image, then powers down. -/
def shadowSeal (s : State) : State :=
  if s.red.shadowSeal = false ∨ s.dev ≠ .standbyCold then s
  else
    let s := sealBegins (setRed s { s.red with shadowSeal := false })
    let s := match peatKey s useEncrypt with
      | (none, s) => cnt s Reg.RED_CNT_PEAT_LATE
      | (some key, s) =>
        let blk (t : Tab (Option PeatBlk)) (b : Nat) := tset t b (some (sealPart s key s.tim.q b true (peatPart s b)))
        setRed s { s.red with image := (List.range 384).foldl blk [], imageQ := some s.tim.q, imageAt := s.tim.bound
                              fullReceived := true, stale := false }
    powerDown s

/-- The parts of the image in block order; none where a block is missing or does not unseal (R397). -/
def openImage (s : State) (key : Bytes) : Option (List (Nat × PeatPart)) :=
  (List.range 384).mapM (fun b => match tget s.red.image b with
    | some x => (openBlock key b x).map (fun p => (b, p))
    | none => none)

end Sys2Proof.Machine
end

