-- ==== Sys2Proof/Machine/Budget.lean ====
section
/-! DEFINITION. The budget tree (chapter 6): the walk of a period boundary, its pools, adaptive rates, pace and voltage, node commands. -/

namespace Sys2Proof.Machine

/-- The used nodes of the tree, in ascending order. -/
def usedNodes (s : State) : List Nat :=
  (tkeys s.cfg).filterMap (fun k =>
    let n := k % 2 ^ 20 / 8
    if k / 2 ^ 20 = 5 ∧ k % 8 = 0 ∧ n < 8192 ∧ ndUsed s n = true then some n else none)

/-- The used nodes of a subtree, its root among them. -/
def subtree (s : State) (root : Nat) : List Nat := (usedNodes s).filter (fun n => under s n root)

/-- The nodes the walk visits (R187): used, not node 0, with no DISABLED or taken-out node above or at them. -/
def visited (s : State) : List Nat := (usedNodes s).filter (fun n => decide (n ≠ 0) && (closedNode s n).isNone)

/-- A node's credit of one resource. -/
def ndCredit (s : State) (fab : Bool) (n : Nat) : Nat := if fab then (nodeRt s n).fCredit else (nodeRt s n).eCredit

/-- One return of phase 1 (R187): a lending node's credit goes to its parent. -/
def walkReturn (s : State) (fab : Bool) (t : Tab Nat) (n : Nat) : Tab Nat :=
  if n < 9 ∨ ndF s n 0 18 18 = 0 then t
  else
    let p := ndParent s n
    tset (tset t p (min (ndCap s fab p) (tget t p + tget t n))) n 0

/-- One grant of phase 2 (R187), over credits and what each parent still owes. -/
def walkGrant (s : State) (fab : Bool) (t : Tab Nat × Tab Nat) (n : Nat) : Tab Nat × Tab Nat :=
  let p := ndParent s n
  let owed := tset t.2 p (tget t.2 p - ndRate s fab n)
  let have_ := tget t.1 n
  let room := ndCap s fab n - have_
  let g := if ndF s n 0 19 19 = 1 then min room (tget t.1 p - tget owed p)
    else min (ndRate s fab n) (min room (tget t.1 p))
  (tset (tset t.1 p (tget t.1 p - g)) n (have_ + g), owed)

/-- The walk of R187 for one resource: the credits of the visited nodes. -/
def walk (s : State) (fab : Bool) (pool : Nat) : Tab Nat :=
  let ns := visited s
  let start := ns.foldl (fun t n => tset t n (ndCredit s fab n)) []
  let back := tset (ns.reverse.foldl (walkReturn s fab) start) 0 pool
  let owed := ns.foldl (fun t n => tmod t (ndParent s n) (fun v => v + ndRate s fab n)) []
  (ns.foldl (walkGrant s fab) (back, owed)).1

/-- The root fabric pool in ns (R188). -/
def rootFab (s : State) : Nat := enginesServing s * (periodUs s * 1000 - 20000)

/-- The root egress pool in bytes (R188). -/
def rootEgress (s : State) : Nat :=
  ((List.range 105).filter (fun q => decide ((eg s q).state = 1))).foldl (fun a q => a + portBytes s q) 0

/-- The duration a walk may read (R189), in 10 ns units: a free value within its bound. (DEDUCED: log 28) -/
def walkTime (s : State) : State :=
  let (v, s) := freeVal s
  let bound := (3000 + 24 * (usedNodes s).length) / 100
  { s with bgt := { s.bgt with walkTime := v % (bound + 1) } }

/-- REFILL_WALK (R187, R188, R194): both resources; a new period has had no shortfall. -/
def refillWalk (s : State) : State :=
  let f := walk s true (rootFab s)
  let e := walk s false (rootEgress s)
  let s := (visited s).foldl (fun s n => setNode s n { nodeRt s n with fCredit := tget f n, eCredit := tget e n }) s
  let s := { s with bgt := { s.bgt with rootFab := rootFab s, periods := (s.bgt.periods + 1) % 2 ^ 32
                                        nodes := tmap (fun _ nd => { nd with short := false }) s.bgt.nodes } }
  walkTime s

/-- Leaves under a node have used this much of a resource in the period. -/
def nodeUse (s : State) (fab : Bool) (n : Nat) : Nat :=
  (subtree s n).foldl (fun a k => a + (if fab then (nodeRt s k).fAdapt.use else (nodeRt s k).eAdapt.use)) 0

/-- Whether a node or one beneath it has had a shortfall of a resource in the period. (DEDUCED: log 28) -/
def nodeShort (s : State) (fab : Bool) (n : Nat) : Bool :=
  (subtree s n).any (fun k => if fab then (nodeRt s k).fAdapt.shortNow else (nodeRt s k).eAdapt.shortNow)

/-- What a parent's rate leaves free beside a node's siblings (R205). -/
def roomFor (s : State) (fab : Bool) (n : Nat) : Nat :=
  let p := ndParent s n
  let others := (usedNodes s).filter (fun k => decide (k ≠ 0 ∧ k ≠ n ∧ ndParent s k = p))
  let total := if p = 0 then (if fab then s.bgt.rootFab else rootEgress s) else ndRate s fab p
  total - others.foldl (fun a k => a + ndRate s fab k) 0

/-- The configured rate of a resource of a node. -/
def rateCfg (s : State) (fab : Bool) (n : Nat) : Nat := if fab then ndF s n 2 31 0 else ndF s n 4 31 0

/-- The configured cap of a resource of a node. -/
def capCfg (s : State) (fab : Bool) (n : Nat) : Nat := if fab then ndF s n 3 31 0 else ndF s n 5 31 0

/-- The rate a fall leads to (R205, R206): `d` is the highest use, `pace` the factor of a PROVISIONAL rate, 1,024 for one. -/
def fallRate (s : State) (fab : Bool) (n d pace : Nat) : Nat :=
  max (ndF s n 7 7 0 * rateCfg s fab n / 64) (max (ndRate s fab n * 7 / 8) (ceilDiv (5 * d * pace) 4096))

/-- One resource of an adaptive node is evaluated at the end of a period (R205): its new learning state, and whether a rise found no
room. While another holds the shadow of the budget region (`may` is false), nothing is staged (R483). (DEDUCED: log 28) -/
def adaptOne (s : State) (fab may : Bool) (n : Nat) (a : Adapt) : Adapt × Bool :=
  let nd := nodeRt s n
  let rate := ndRate s fab n
  let use := nodeUse s fab n
  let low := decide (2 * use < rate)
  let runs := if nodeShort s fab n then a.shortRun + 1 else 0
  let a := { a with shortRun := runs, maxUse := if low then max a.maxUse use else 0
                    lowSince := if low then some (a.lowSince.getD (now s - periodUnits s)) else none }
  if may = false then (a, false)
  else if runs ≥ 4 then
    let want := min (ndF s n 7 15 8 * rateCfg s fab n / 16) (ceilDiv (rate * 5) 4)
    let new := min want (roomFor s fab n)
    let a := { a with shortRun := 0 }
    if new > rate then ({ a with staged := some new }, false) else (a, decide (want > rate))
  else match a.lowSince with
    | none => (a, false)
    | some t =>
      if since s t < 60 * secUnits then (a, false)
      else
        let pace := if fab ∧ nd.settled = false then nd.paceMax else 1024
        let new := fallRate s fab n a.maxUse pace
        let a := { a with lowSince := none, maxUse := 0 }
        (if new < rate then { a with staged := some new } else a, false)

/-- A staged rate takes effect (R205): the cap keeps its configured ratio to it. -/
def adaptApply (s : State) (fab : Bool) (n : Nat) : State :=
  let nd := nodeRt s n
  let a := if fab then nd.fAdapt else nd.eAdapt
  match a.staged with
  | none => s
  | some v =>
    let a := { a with rate := some v, cap := some (capCfg s fab n * v / max 1 (rateCfg s fab n)), staged := none }
    report (cnt (setNode s n (if fab then { nd with fAdapt := a } else { nd with eAdapt := a })) Reg.BGT_CNT_ADAPT) Ev.BGT_ADAPT n 0

/-- The nodes that adapt (R185, R205). -/
def adaptiveNodes (s : State) : List Nat := (usedNodes s).filter (fun n => decide (ndF s n 0 22 22 = 1))

/-- Whether the steward serves (R46). (DEDUCED: log 67) -/
def stewardRuns (s : State) : Bool := decide (s.stw.state = 1) || decide (s.stw.state = 2)

/-- Whether the mapper's load of the period was 70 % or more of the root pool (R206). -/
def mapperBusy (s : State) : Bool :=
  decide (10 * (s.bgt.nodes.foldl (fun a e => a + e.2.fAdapt.use) 0) ≥ 7 * s.bgt.rootFab)

/-- The evaluation of one adaptive node (R205, R206). -/
def adaptNode (busy may : Bool) (s : State) (n : Nat) : State :=
  let nd := nodeRt s n
  let f := adaptOne s true may n nd.fAdapt
  let e := adaptOne s false may n nd.eAdapt
  let settled := nd.settled || (busy && decide (nodeUse s true n > 0))
  let fresh := nd.fAdapt.lowSince.isNone
  let s := setNode s n { nd with fAdapt := f.1, eAdapt := e.1, settled := settled
                                 paceMax := if fresh then tget s.bgt.pace 2 else nd.paceMax }
  cntAdd s Reg.BGT_CNT_ADAPT_BLOCKED (b2n f.2 + b2n e.2)

/-- Whether a node has a rate staged. -/
def hasStaged (nd : Node) : Bool := nd.fAdapt.staged.isSome || nd.eAdapt.staged.isSome

/-- What the steward has staged for the budget region is discarded (R483). -/
def dropStaged (s : State) : State :=
  let f (_ : Nat) (nd : Node) : Node :=
    { nd with fAdapt := { nd.fAdapt with staged := none }, eAdapt := { nd.eAdapt with staged := none } }
  { s with bgt := { s.bgt with nodes := tmap f s.bgt.nodes } }

/-- ADAPT_EVALUATE (R205, R206, R483): the closing period is evaluated; what it stages stands READY in the shadow of the budget region for
the next boundary; the counts of the new period begin. -/
def adaptEvaluate (s : State) : State :=
  let s :=
    if bit (rd s Reg.BGT_ADAPT_CTRL) 0 = true ∧ stewardRuns s = true then
      (adaptiveNodes s).foldl (adaptNode (mapperBusy s) (decide ((tget s.cfgs.shadows 5).state = 0))) s
    else s
  let s := if (tget s.cfgs.shadows 5).state = 0 ∧ s.bgt.nodes.any (fun e => hasStaged e.2) = true then
      let x : Shadow := { (default : Shadow) with state := 3, owner := 5, pending := true, perRegion := true }
      { s with cfgs := { s.cfgs with shadows := tset s.cfgs.shadows 5 x } }
    else s
  let clear (_ : Nat) (nd : Node) : Node :=
    { nd with fAdapt := { nd.fAdapt with use := 0, shortNow := false }, eAdapt := { nd.eAdapt with use := 0, shortNow := false } }
  { s with bgt := { s.bgt with nodes := tmap clear s.bgt.nodes } }

/-- pace_floor within its limits (R203). -/
def paceFloor (s : State) : Nat := clampN 1024 1280 (fld s Reg.BGT_PACE_CTRL 15 0)

/-- The lowest regional pace. -/
def lowestPace (s : State) : Nat :=
  min (min (tget s.bgt.pace 0) (tget s.bgt.pace 1)) (min (tget s.bgt.pace 2) (tget s.bgt.pace 3))

/-- The pace of region `r` from its rings (R201): the slowest one counts, rings left out do not. (DEDUCED: log 31) -/
def regionPace (s : State) (laps : List (Nat × Nat × Nat)) (r : Nat) : Option Nat :=
  let ps := laps.filterMap (fun x =>
    if x.1 = r ∧ x.2.2 ≠ 0 ∧ s.bgt.ringsOut.contains x.2.1 = false then some (1024 * Config.worstLap r x.2.1 / x.2.2) else none)
  match ps with
  | [] => none
  | p :: t => some (min 65535 (t.foldl min p))

/-- What a region's pace_min reads as before any pace. -/
def paceMinReset (_ : Nat) : Nat := 0xFFFF

/-- A region's pace is renewed. (DEDUCED: log 31) -/
def setPace (laps : List (Nat × Nat × Nat)) (s : State) (r : Nat) : State :=
  match regionPace s laps r with
  | none => s
  | some p =>
    { s with bgt := { s.bgt with pace := tset s.bgt.pace r p
                                 paceMin := tsetD paceMinReset s.bgt.paceMin r (min p (tgetD paceMinReset s.bgt.paceMin r)) } }

/-- PACE_UPDATE (R201, R202, R203, R206). -/
def execPaceUpdate (laps : List (Nat × Nat × Nat)) (s : State) : Res :=
  .next (
    let s := [0, 1, 2, 3].foldl (setPace laps) s
    let low := lowestPace s
    let floor := paceFloor s
    let seen (_ : Nat) (nd : Node) : Node :=
      if nd.fAdapt.lowSince.isSome then { nd with paceMax := max nd.paceMax (tget s.bgt.pace 2) } else nd
    let s := { s with bgt := { s.bgt with nodes := tmap seen s.bgt.nodes
                                          paceLowSeen := s.bgt.paceLowSeen || decide (low < floor)
                                          belowBand := s.bgt.belowBand || decide (low < floor + 32)
                                          inBand := s.bgt.inBand || decide (low ≤ floor + 96) } }
    if low < floor ∧ s.bgt.paceLow = false then
      report { s with bgt := { s.bgt with paceLow := true } } Ev.DEV_PACE_LOW noInst 0
    else s)

/-- A period ends (R203): one whole period at or above pace_floor ends an episode. -/
def paceBoundary (s : State) : State :=
  let low := decide (lowestPace s < paceFloor s)
  { s with bgt := { s.bgt with paceLow := s.bgt.paceLow && s.bgt.paceLowSeen, paceLowSeen := low } }

/-- VDD_FAB is commanded (R202). -/
def avsCommand (s : State) (mv : Nat) : State :=
  if s.pwr.linked = false ∨ s.pwr.avsFail = true then s
  else avsSend { s with bgt := { s.bgt with setpoint := mv, commands := satAdd 65535 s.bgt.commands 1, cooldown := true } } mv

/-- The fixed setpoint at start, where adaptive voltage is disabled (R202). -/
def avsStart (s : State) : State :=
  if bit (rd s Reg.BGT_PACE_CTRL) 16 then s else avsCommand s (clampN 720 900 (fld s Reg.PWR_AVS_CFG 31 22))

/-- VDD_FAB now: the last setpoint, or the one of the power-up. (DESIGN CHOICE: log 43) -/
def avsNow (s : State) : Nat := if s.bgt.setpoint = 0 then s.pwr.command else s.bgt.setpoint

/-- AVS_ADJUST at a period boundary (R202, R46). -/
def avsAdjust (s : State) : State :=
  let b := s.bgt
  let above := if b.inBand = true ∨ b.belowBand = true then 0 else b.abovePeriods + 1
  let s := { s with bgt := { b with abovePeriods := above, cooldown := false
                                    belowBand := decide (lowestPace s < paceFloor s + 32)
                                    inBand := decide (lowestPace s ≤ paceFloor s + 96) } }
  if bit (rd s Reg.BGT_PACE_CTRL) 16 = false ∨ stewardRuns s = false ∨ b.cooldown = true ∨ s.pwr.cmdBusy = true then s
  else if b.belowBand = true then (if avsNow s + 10 ≤ 900 then avsCommand s (avsNow s + 10) else s)
  else if above ≥ 1000 then
    if avsNow s - 5 ≥ 720 then avsCommand { s with bgt := { s.bgt with abovePeriods := 0 } } (avsNow s - 5) else s
  else s

/-- A command of BGT_NODE_CMD reaches a node (R45, R195): from the steward not one of class 0. (DEDUCED: log 68) -/
def nodeGate (s : State) (r : Req) (n : Nat) (f : State → State) : State :=
  gated s r Reg.BGT_NODE_CMD (fun s =>
    if n = 0 ∨ n > 8191 ∨ ndUsed s n = false then s
    else if r = .steward ∧ ndClass s n = 0 then report s Ev.CFG_SWAP_REJECT noInst 0
    else f s)

/-- NODE_ENABLE (R195): from DRAINING without loss. -/
def execNodeEnable (r : Req) (n : Nat) (s : State) : Res :=
  .next (nodeGate s r n (fun s => setNode s n { nodeRt s n with state := 1 }))

/-- NODE_DISABLE (R195). -/
def execNodeDisable (r : Req) (n : Nat) (s : State) : Res :=
  .next (nodeGate s r n (fun s =>
    if (nodeRt s n).state = 1 then setNode s n { nodeRt s n with state := 2, drainAt := drainEnd s } else s))

/-- A node's counters are cleared. -/
def clearNode (s : State) (n : Nat) : State :=
  setNode s n { nodeRt s n with refused := 0, dropped := 0, sentences := 0, drain := 0 }

/-- NODE_CLEAR_COUNTERS (R195). -/
def execNodeClearCounters (r : Req) (n : Nat) (s : State) : Res :=
  .next (nodeGate s r n (fun s => (subtree s n).foldl clearNode s))

/-- The credits of a subtree are cleared (R195). -/
def clearCredits (s : State) (n : Nat) : State :=
  (subtree s n).foldl (fun s k => setNode s k { nodeRt s k with fCredit := 0, eCredit := 0 }) s

/-- What is held under a node is discarded as its drain loss (R195). (DEDUCED: log 30) -/
def loseHeld (s : State) (n : Nat) : State :=
  let mine (x : Sent) : Bool := under s x.node n
  let gone := s.map.holds.filter mine
  let s := { s with map := { s.map with holds := s.map.holds.filter (fun x => !mine x) } }
  let s := gone.foldl (fun s x => sentFree (nodeDrainLoss s n) x) s
  let held (c : Copy) : Bool := c.held.isSome && !c.charged && under s (copyLeaf s c) n
  (List.range 105).foldl (fun s q =>
    let p := eg s q
    let lost := p.waiting.filter held
    let s := setEg s q { p with waiting := p.waiting.filter (fun c => !held c) }
    lost.foldl (fun s c => nodeLose s n c) s) s

/-- A subtree is taken out for repair (R195): credits and holds are cleared. (DEDUCED: log 29) -/
def nodeOut (s : State) (n : Nat) : State := loseHeld (clearCredits (setNode s n { nodeRt s n with out := true }) n) n

/-- A subtree returns from repair (R195): it is rewritten from the active set; the next boundary grants again. (DEDUCED: log 29) -/
def nodeReturn (s : State) (n : Nat) : State :=
  if (nodeRt s n).out = false then s
  else
    let renew (s : State) (k : Nat) : State :=
      setNode s k { nodeRt s k with state := ndF s k 0 17 16, fCredit := 0, eCredit := 0, fAdapt := default, eAdapt := default
                                    settled := false, paceMax := 0 }
    let s := (subtree s n).foldl renew s
    setNode s n { nodeRt s n with out := false }

/-- NODE_TAKE_OUT (R195). -/
def execNodeTakeOut (r : Req) (n : Nat) (s : State) : Res := .next (nodeGate s r n (fun s => nodeOut s n))

/-- NODE_RETURN (R195). -/
def execNodeReturn (r : Req) (n : Nat) (s : State) : Res := .next (nodeGate s r n (fun s => nodeReturn s n))

/-- NODE_DRAIN_LIMIT (R195). -/
def execNodeDrainLimit (n : Nat) (s : State) : Res :=
  .next (
    if (nodeRt s n).state ≠ 2 ∨ s.tim.boundaries < (nodeRt s n).drainAt then s
    else
      let s := loseHeld s n
      clearCredits (setNode s n { nodeRt s n with state := 0 }) n)

/-- BGT_CNT_CLEAR bit 0. -/
def execBgtCntClearGlobal (r : Req) (s : State) : Res :=
  .next (gated s r Reg.BGT_CNT_CLEAR (fun s => clearRegs s Reg.BGT_CNT_REFUSED_BUF Reg.BGT_CNT_HOLD_FULL))

/-- BGT_CNT_CLEAR bit 1. -/
def execBgtCntClearNodes (r : Req) (s : State) : Res :=
  .next (gated s r Reg.BGT_CNT_CLEAR (fun s => (tkeys s.bgt.nodes).foldl clearNode s))

/-- BGT_CNT_CLEAR bit 2 (R201). -/
def execBgtCntClearPace (r : Req) (s : State) : Res :=
  .next (gated s r Reg.BGT_CNT_CLEAR (fun s => { s with bgt := { s.bgt with paceMin := [] } }))

end Sys2Proof.Machine
end

