-- ==== Sys2Proof/Machine/Delta.lean ====
section
/-! DEFINITION. The formats of chapter 15 that the loader and the live change share: regions, control pairs, deltas, shadow words. -/

namespace Sys2Proof.Machine

/-- A delta record (R478): region, kind (0 data, 1 control pairs), data-area offset, data. -/
structure DeltaRec where
  region : Nat
  kind : Nat
  off : Nat
  data : Bytes
deriving DecidableEq, Repr

/-- A length rounded up to a multiple of 16. -/
def up16 (n : Nat) : Nat := (n + 15) / 16 * 16

/-- The data-area length of a region (Regions). -/
def regionBytes (i : Nat) : Nat :=
  [81920, 3932160, 32768, 266240, 2371584, 262144, 655360, 0, 278528, 8704, 4096, 0, 40976, 24832, 0, 256, 2176].getD i 0

/-- The tables of a region's data area, as first byte and length (Regions). -/
def regionTables (i : Nat) : List (Nat × Nat) :=
  match i with
  | 0 => [(0, 65536), (65536, 16384)]
  | 3 => [(0, 262144), (262144, 4096)]
  | 4 => [(0, 2097152), (2097152, 131072), (2228224, 135168), (2363392, 4096), (2367488, 4096)]
  | 6 => [(0, 131072), (131072, 262144), (393216, 131072), (524288, 131072)]
  | 8 => [(0, 65536), (65536, 65536), (131072, 147456)]
  | 9 => [(0, 8192), (8192, 256), (8448, 256)]
  | 12 => [(0, 32768), (32768, 8192), (40960, 16)]
  | 13 => [(0, 16384), (16384, 8448)]
  | 16 => [(0, 1024), (1024, 1024), (2048, 64), (2112, 64)]
  | _ => [(0, regionBytes i)]

/-- Whether `len` bytes from `off` lie within one table of a region (R478). -/
def inTable (i off len : Nat) : Bool := (regionTables i).any (fun t => decide (t.1 ≤ off ∧ off + len ≤ t.1 + t.2))

/-- Whether a register's fields belong to a block of equal records: `off` lies in [lo, hi], `stride` apart, at one of the places. -/
def inRecords (off lo hi stride : Nat) (places : List Nat) : Bool :=
  decide (lo ≤ off ∧ off ≤ hi) && places.contains ((off - lo) % stride)

/-- The region whose control pairs may name a register (R475): the one it mirrors or is loaded from. -/
def mirrorRegion (off : Nat) : Option Nat :=
  if inRecords off 0x20000 0x21A3F 0x40 [0x00, 0x08, 0x0C, 0x10, 0x14, 0x18, 0x1C, 0x20] then some 0
  else if [Reg.PRT_PRP_CTRL, Reg.PRT_UDP_TRDP, Reg.PRT_UDP_450, Reg.PRT_TOPO_CTRL, Reg.PRT_TOPO_ETB, Reg.PRT_TOPO_OPTRN].contains off
  then some 0
  else if [Reg.STB_LEARN_CTRL, Reg.STB_HASH_SEED_LO, Reg.STB_HASH_SEED_HI, Reg.STB_LVC_OVF, Reg.STB_LVC_OVF_BASE_LO,
    Reg.STB_LVC_OVF_BASE_HI].contains off ∨ inRecords off 0x40100 0x402A3 4 [0] then some 1
  else if [Reg.BGT_PACE_CTRL, Reg.BGT_ADAPT_CTRL, Reg.DGN_ST_NODE, Reg.PWR_AVS_CFG].contains off ∨ inRecords off 0x80100 0x802A3 4 [0]
  then some 5
  else if off = Reg.EGR_REPLAY_CTRL ∨ inRecords off 0xA0100 0xA078F 0x10 [0x0, 0x8] then some 6
  else if [Reg.DEV_DRAIN_CTRL, Reg.LNI_CYCLE_CTRL, Reg.LNI_HOLD].contains off then some 7
  else if off = Reg.VOT_CTRL then some 8
  else if [Reg.CDB_CTRL, Reg.CDB_CONFIG, Reg.CDB_TIMING, Reg.CDB_SLOT, Reg.CDB_SYNC_CFG, Reg.CDB_LIMITS, Reg.CDB_GUARD,
    Reg.CDB_CHB_COMP].contains off then some 10
  else if [Reg.TIM_CTRL, Reg.TIM_PERIOD, Reg.TIM_UTC_OFFSET].contains off ∨
    inRecords off 0xE0100 0xE08FF 0x20 [0x00, 0x04, 0x08, 0x0C, 0x10, 0x14, 0x18] ∨ inRecords off 0xE0900 0xE097F 0x10 [0] ∨
    inRecords off 0xE0A00 0xE0A0F 4 [0] then some 11
  else if [Reg.RED_CONFIG, Reg.RED_PEAT_BASE_LO, Reg.RED_PEAT_BASE_HI].contains off then some 12
  else if off = Reg.KVT_TAMPER_CFG then some 13
  else if [Reg.JRN_CTRL, Reg.JRN_AREA_BASE_LO, Reg.JRN_AREA_BASE_HI, Reg.JRN_AREA_BLOCKS].contains off then some 14
  else none

/-- Whether a region's Swap column reads No (Regions, R439). -/
def neverSwaps (i : Nat) : Bool := decide (i = 10 ∨ i = 14 ∨ i = 16 ∨ i > 16)

/-- The regions of a mask. -/
def maskRegions (m : Nat) : List Nat := (List.range 17).filter (fun i => m.testBit i)

/-- The records of a delta up to its end record; none where it breaks R478. `pos` bytes of `all` have been read. -/
def parseDelta (all : Bytes) : Nat → Nat → Option (List DeltaRec)
  | 0, _ => none
  | fuel + 1, pos =>
    let h := slice all pos 16
    if h.length < 16 then none
    else if byteAt h 0 = 0xFF ∧ byteAt h 1 = 0xFF then
      (if leAt h 4 4 = crc32 (all.take pos) then some [] else none)
    else
      let kind := byteAt h 1
      let off := leAt h 4 4
      let len := leAt h 8 4
      let data := slice all (pos + 16) len
      if byteAt h 0 > 16 ∨ kind > 1 ∨ leAt h 2 2 ≠ 0 ∨ data.length ≠ len then none
      else if kind = 0 ∧ (off % 4 ≠ 0 ∨ len % 4 ≠ 0 ∨ inTable (byteAt h 0) off len = false) then none
      else if kind = 1 ∧ len % 8 ≠ 0 then none
      else (parseDelta all fuel (pos + 16 + up16 len)).map (fun rs => { region := byteAt h 0, kind := kind, off := off, data := data } :: rs)

/-- A whole delta. -/
def readDelta (d : Bytes) : Option (List DeltaRec) := parseDelta d (d.length / 16 + 1) 0

/-- The words of a byte string, least significant byte first. -/
def wordsOf (bs : Bytes) : List Word := (List.range (bs.length / 4)).map (fun i => BitVec.ofNat 32 (leAt bs (4 * i) 4))

/-- The bits of an ingress port's registers that are fields: `n` the port, `o` the place in its record (chapter 2). -/
def portMask (n o : Nat) : Nat :=
  let sp := decide (n < 64)
  let can := decide (64 ≤ n ∧ n < 80)
  if o = 0 then 1
  else if o = 0x08 then (if sp then 0x7FF else if can then 0xF else if n < 84 then 0x70 else 0xF3F)
  else if o = 0x0C then (if sp then 0xFFFFFF else if can then 0xFFFFFFFF else 0)
  else if o = 0x10 then (if sp then 0xFFFFFF else if can then 0xFFFFFFFF else 0)
  else if o = 0x18 then 0xFFFFFFF
  else if o = 0x1C then 0x7FFFF
  else if o = 0x20 then 0xFFFF
  else 0xFFFFFFFF

/-- The bits of the time unit's registers that are fields (chapter 10). -/
def timeMask (off : Nat) : Nat :=
  let o := off % 0x20
  if off = Reg.TIM_CTRL then 0xFFFFFF3F else if off = Reg.TIM_PERIOD then 0x3FFF else if off = Reg.TIM_UTC_OFFSET then 0xFFFF
  else if 0xE0100 ≤ off ∧ off < 0xE0900 then (if o = 0x10 then 0x0FFFFF7F else if o = 0x18 then 0xFFFF0003 else 0xFFFFFFFF)
  else if 0xE0900 ≤ off ∧ off < 0xE0980 then 0xFFFFFF07
  else if 0xE0A00 ≤ off ∧ off < 0xE0A10 then 0x3FFFFFFF
  else 0xFFFFFFFF

/-- The bits of a loadable register that are fields: reserved ones read 0 and take nothing (R9). -/
def loadMask (off : Nat) : Nat :=
  if 0x20000 ≤ off ∧ off < 0x21A40 then portMask ((off - 0x20000) / 0x40) (off % 0x40)
  else if 0xE0000 ≤ off ∧ off < 0xF0000 then timeMask off
  else if off = Reg.PRT_UDP_450 ∨ off = Reg.STB_LEARN_CTRL ∨ off = Reg.CDB_SLOT then 0xFFFFFF
  else if off = Reg.PRT_TOPO_CTRL ∨ off = Reg.BGT_ADAPT_CTRL ∨ off = Reg.CDB_CTRL then 1
  else if off = Reg.STB_LVC_OVF_BASE_LO then 0xFFFFF000
  else if off = Reg.STB_LVC_OVF_BASE_HI ∨ off = Reg.RED_PEAT_BASE_HI ∨ off = Reg.JRN_AREA_BASE_HI then 3
  else if 0x40100 ≤ off ∧ off < 0x402A4 then 3
  else if off = Reg.STB_LVC_OVF ∨ off = Reg.LNI_HOLD ∨ off = Reg.CDB_CHB_COMP then 0xFFFF
  else if off = Reg.BGT_PACE_CTRL ∨ off = Reg.JRN_AREA_BLOCKS then 0x1FFFF
  else if 0x80100 ≤ off ∧ off < 0x802A4 then 0xFFFFFFF
  else if off = Reg.DGN_ST_NODE then 0x1FFF
  else if off = Reg.PWR_AVS_CFG then 0xFFC3FFFF
  else if off = Reg.EGR_REPLAY_CTRL then 0xFF1FFF
  else if 0xA0100 ≤ off ∧ off < 0xA0790 then (if off % 0x10 = 0 then 0xFFFF0007 else 0xFFFF)
  else if off = Reg.DEV_DRAIN_CTRL ∨ off = Reg.CDB_GUARD then 0xFF
  else if off = Reg.LNI_CYCLE_CTRL then 0x3F
  else if off = Reg.VOT_CTRL then 0x3FF0FFF
  else if off = Reg.CDB_CONFIG ∨ off = Reg.JRN_CTRL then 0xFFFFF
  else if off = Reg.CDB_LIMITS ∨ off = Reg.RED_CONFIG then 0xFFFFFFF
  else if off = Reg.RED_PEAT_BASE_LO then 0xFFF00000
  else if off = Reg.KVT_TAMPER_CFG then 0x1F
  else if off = Reg.JRN_AREA_BASE_LO then 0xFFFF0000
  else 0xFFFFFFFF

/-- The control pairs of a byte string: offset, and the value of the register's fields. -/
def pairsOf (bs : Bytes) : List (Nat × Word) :=
  (List.range (bs.length / 8)).map (fun i =>
    let off := leAt bs (8 * i) 4
    (off, BitVec.ofNat 32 (leAt bs (8 * i + 4) 4 &&& loadMask off)))

/-- The number of control pairs of a payload. -/
def pairCount (p : Bytes) : Nat := leAt p 2 2

/-- Where the data area of a payload begins (R475). -/
def dataStart (p : Bytes) : Nat := 16 + up16 (8 * pairCount p)

/-- The form of a region payload (R475): number, version, data length, and pairs naming this region's registers, each once. -/
def payloadOk (p : Bytes) (i : Nat) : Bool :=
  let ps := pairsOf (slice p 16 (8 * pairCount p))
  decide (byteAt p 0 = i) && decide (byteAt p 1 = 1) && decide (leAt p 4 4 = regionBytes i) && zeroRange p 8 15 &&
  ps.all (fun x => decide (mirrorRegion x.1 = some i)) && decide ((ps.map (·.1)).eraseDups.length = ps.length) &&
  decide (p.length ≥ dataStart p + regionBytes i)

/-- The words of a region's data area, in canonical form. -/
def regionTab (p : Bytes) (i : Nat) : Tab Word :=
  let ws := wordsOf (slice p (dataStart p) (regionBytes i))
  (((List.range ws.length).zip ws).filter (fun e => decide (e.2 ≠ 0#32))).map (fun e => (i * 2 ^ 20 + e.1, e.2))

/-- The region records of a body (R474): region, offset in the slot, length, crc. -/
def regionRecords (body : Bytes) : List (Nat × Nat × Nat × Nat) :=
  ((List.range 32).map (fun i => slice body (32 * i) 32)).filterMap (fun r =>
    if byteAt r 0 = 0xFF then none else some (byteAt r 0, leAt r 4 4, leAt r 8 4, leAt r 12 4))

/-- Whether every region 0 to 16 is present exactly once and no other is (R474). -/
def regionTableOk (rs : List (Nat × Nat × Nat × Nat)) : Bool :=
  decide (rs.length = 17) && (List.range 17).all (fun i => decide ((rs.filter (fun r => decide (r.1 = i))).length = 1))

/-- The payload of a region in a slot image of header and body. -/
def payloadOf (image : Bytes) (rs : List (Nat × Nat × Nat × Nat)) (i : Nat) : Bytes :=
  match rs.find? (fun r => decide (r.1 = i)) with
  | some r => slice image r.2.1 r.2.2.1
  | none => []

/-- Whether every payload begins at a multiple of 64 bytes inside the body and no two overlap (R471). -/
def layoutOk (bodyLen : Nat) (rs : List (Nat × Nat × Nat × Nat)) : Bool :=
  rs.all (fun r => decide (r.2.1 % 64 = 0 ∧ 0x1000 ≤ r.2.1 ∧ r.2.1 + r.2.2.1 ≤ 0x200 + bodyLen)) &&
  rs.all (fun a => rs.all (fun b => decide (a.1 = b.1 ∨ a.2.1 + a.2.2.1 ≤ b.2.1 ∨ b.2.1 + b.2.2.1 ≤ a.2.1)))

/-- Every region's tables and control pairs are loaded (R475). -/
def loadRegions (s : State) (image : Bytes) (rs : List (Nat × Nat × Nat × Nat)) : State :=
  let ps := (List.range 17).map (fun i => (i, payloadOf image rs i))
  let s := { s with cfg := (ps.map (fun e => regionTab e.2 e.1)).flatten, prev := [], tag := 0 }
  ps.foldl (fun s e => (pairsOf (slice e.2 16 (8 * pairCount e.2))).foldl (fun s x => wr s x.1 x.2) s) s

/-- The profile records of a slot image in use (R477). -/
def profileRecords (image : Bytes) : List Bytes :=
  ((List.range 8).map (fun i => slice image (0x600 + 32 * i) 32)).filter (fun r => decide (r.length = 32 ∧ byteAt r 0 ≠ 0xFF))

/-- No profile touches a region whose Swap column reads No (R477). -/
def profilesOk (image : Bytes) : Bool :=
  (profileRecords image).all (fun r =>
    (maskRegions (leAt r 24 4)).all (fun i => !neverSwaps i) && decide (leAt r 24 4 < 2 ^ 17) &&
    (match readDelta (slice image (leAt r 4 4) (leAt r 8 4)) with
     | some rs => rs.all (fun x => !neverSwaps x.region)
     | none => true))

end Sys2Proof.Machine
end

