-- ==== Sys2Proof/Machine/ValidateTables.lean ====
section
/-! DEFINITION. The validation rules of the ports, stream-table, wildcard, filter and mapping regions (chapters 2 to 5), on the words and
registers of a state in which the region is in force. -/

namespace Sys2Proof.Machine

/-- Whether a port is configured (R554). -/
def portSet (t : State) (n : Nat) : Bool :=
  [Reg.PRT_MODE n, Reg.PRT_TIMING n, Reg.PRT_TIMING2 n, Reg.PRT_LIMITS n, Reg.PRT_SYNC n, Reg.PRT_HINT n].any (fun o => decide (rd t o ≠ 0))

/-- Whether a framing mode takes a check (R58, Sentence-port framing modes). -/
def checkFits (mode check : Nat) : Bool :=
  match mode with
  | 0 | 1 => decide (check ≤ 2)
  | 2 => [0, 6, 7].contains check
  | 3 => [0, 3, 4, 5].contains check
  | 4 => [0, 5].contains check
  | _ => false

/-- The limits of a configured sentence port (R58, PRT_TIMING, PRT_TIMING2, PRT_SYNC). -/
def spPortOk (t : State) (n : Nat) : Bool :=
  let m := fld t (Reg.PRT_MODE n) 2 0
  let max_ := fld t (Reg.PRT_LIMITS n) 15 0
  let min_ := fld t (Reg.PRT_LIMITS n) 31 16
  checkFits m (fld t (Reg.PRT_MODE n) 10 8) && decide (8 ≤ max_) && decide (8 ≤ min_) && (decide (m ≠ 3) || decide (min_ = max_)) &&
  decide (200000000 * 256 ≤ 12000000 * 16 * fld t (Reg.PRT_TIMING n) 23 0) &&
  (decide (m ≠ 4) || inR 3 128 (fld t (Reg.PRT_TIMING2 n) 23 16)) &&
  decide (fld t (Reg.PRT_SYNC n) 17 16 ≤ 2) && (decide (m < 2) || inR 1 8 (fld t (Reg.PRT_SYNC n) 27 24))

/-- The limits of a configured port (R58, R63, R84, the PRT register tables). -/
def portOk (t : State) (n : Nat) : Bool :=
  let eif := fld t (Reg.PRT_MODE n) 9 8
  let eth := inR 1518 2000 (fld t (Reg.PRT_LIMITS n) 15 0) && decide (fld t (Reg.PRT_LIMITS n) 31 16 = 64)
  decide (fld t (Reg.PRT_HINT n) 18 16 ≤ 4) &&
  (match pkind n with
   | .sp => spPortOk t n
   | .cf => decide (1 ≤ fld t (Reg.PRT_TIMING n) 17 10)
   | .mv => decide (fld t (Reg.PRT_MODE n) 5 4 ≤ 2)
   | .e => decide (eif ≤ 1) && eth
   | .x => decide (eif ≥ 2) && eth
   | _ => true)

/-- Region 0 (R58, R63, R84, R536, R554). (DEDUCED: log 58) -/
def portsOk (t : State) : Bool :=
  (List.range 104).all (fun n => if portSet t n then portOk t n else !bit (rd t (Reg.PRT_CTRL n)) 0) &&
  (List.range 10).all (fun p => decide (fld t (Reg.PRT_MODE (pairA p)) 0 0 = fld t (Reg.PRT_MODE (pairA p + 1)) 0 0)) &&
  (List.range 4).all (fun j =>
    let q (i : Nat) : Bool := decide (fld t (Reg.PRT_MODE (84 + 4 * j + i)) 9 8 = 1)
    (q 0 && q 1 && q 2 && q 3) || !(q 0 || q 1 || q 2 || q 3))

/-- The class root above a node. -/
def classRoot (t : State) (n : Nat) : Nat := ((chainOf t n).find? (fun k => decide (k ≤ 8))).getD 0

/-- A leaf: a used node below the class roots that no used node names as its parent (R185, R186). -/
def isLeaf (t : State) (n : Nat) : Bool :=
  decide (9 ≤ n) && ndUsed t n && (usedNodes t).all (fun k => decide (k = 0 ∨ ndParent t k ≠ n))

/-- Whether a program is defined (R175). -/
def progSet (t : State) (p : Nat) : Bool := decide (progLen t t.tag p ≠ 0)

/-- The node, class, program and overflow limits of one entry (R95). -/
def entryOk (t : State) (id : Nat) : Bool :=
  let g := imageStream t t.tag id
  isLeaf t g.node && decide (g.cls + 1 = classRoot t g.node) && (decide (g.prog = 0) || progSet t g.prog) && inR 8 16383 g.maxLen &&
  !(g.lvcEnable && decide (g.maxLen > 64) && !g.lvcDram) && (!g.lvcDram || decide (g.ovfSlot < fld t Reg.STB_LVC_OVF 15 0))

/-- Whether all keys of a list differ. -/
def distinctKeys : List Bytes → Bool
  | [] => true
  | k :: ks => !ks.contains k && distinctKeys ks

/-- Whether an entry has a match key that traffic can build. -/
def isTalker (t : State) (id : Nat) : Bool := inR 1 0x0C (byteAt (imageStream t t.tag id).key 0)

/-- The bucket index that the loader builds: ids in ascending order (R95). -/
def loadIndex (t : State) (ids : List Nat) : Option BIndex := insertAll (idDigest t) ids ([], [])

/-- Region 1 (R95). (DEDUCED: log 58) -/
def streamsOk (t : State) : Bool :=
  let ids := imageIds t.cfg
  let talk := ids.filter (isTalker t)
  ids.all (fun id => decide (id ≠ 0) && entryOk t id) && distinctKeys (talk.map (fun id => (imageStream t t.tag id).key)) &&
  (loadIndex t talk).isSome

/-- Word 12 of a wildcard rule: action, enable, target. -/
def ruleWord (t : State) (i : Nat) : Nat := cw t 2 (16 * i + 12)

/-- Region 2 (R99, R101, R200): what every enabled rule must meet. (DEDUCED: log 58) -/
def rulesOk (t : State) : Bool :=
  (List.range 512).all (fun i =>
    let w := ruleWord t i
    let target := nbits w 31 16
    let g := imageStream t t.tag target
    let kindOk := decide (byteAt g.key 0 = 0xFF) && inR 4096 61439 target
    !w.testBit 2 ||
    (match nbits w 1 0 with
     | 0 => kindOk && decide (g.cls ≠ 0)
     | 1 => kindOk && under t g.node 8
     | 2 => true
     | _ => false))

/-- A field descriptor (R123). -/
def descOk (d : Nat) : Bool :=
  let w := nbits d 25 19
  (decide (nbits d 1 0 ≠ 1) || (inR 1 64 w && (!d.testBit 27 || decide (w ≤ 57) || decide (nbits d 18 16 = 0)))) &&
  (decide (nbits d 1 0 ≠ 2) || decide (nbits d 31 28 ≤ 9)) && decide (d / 2 ^ 32 = 0)

/-- A filter set (R125, R134, R136, R141); `kinds` are the key kinds of the streams that name it. -/
def filterSetOk (t : State) (k : Nat) (kinds : List Nat) : Bool :=
  let b := cBytes t t.tag 3 (256 * k) 256
  let w := leAt b 0 4
  let on (i : Nat) := w.testBit i
  let change := nbits w 18 17
  let grp := byteAt b 6
  let members := byteAt (cBytes t t.tag 3 (262144 + 16 * grp) 16) 5
  let tok := leAt b 32 3 % 2 ^ 23
  let burst := byteAt b 35 % 128
  let enc4 := byteAt b 96 % 4
  decide (nbits w 4 3 ≠ 3) && decide (change ≠ 3) && decide (w / 2 ^ 22 = 0) && zeroRange b 44 63 && zeroRange b 112 127 &&
  zeroRange b 192 255 && (List.range 6).all (fun i => descOk (leAt b (64 + 8 * i) 8)) &&
  (!on 0 || (decide (byteAt b 4 ≤ byteAt b 5) && kinds.all (fun x => [0x02, 0x05, 0x07, 0x08, 0x0A].contains x))) &&
  (decide (grp = 0) || members.testBit (byteAt b 7 % 4)) &&
  (!on 19 || decide (leAt b 28 4 ≤ 1073741823)) &&
  (!on 20 || (decide (1 ≤ tok) && decide (1 ≤ burst) && decide (tok * burst * 64 ≤ 250000000))) &&
  !(on 16 && decide (change = 2)) && !((on 16 || decide (change = 1)) && decide (enc4 = 3)) &&
  (List.range 4).all (fun i => !on (8 + i) || decide (sext 64 (leAt b (128 + 16 * i) 8) ≤ sext 64 (leAt b (136 + 16 * i) 8)))

/-- Region 3 (R123, R125, R134, R136, R141): the sets that hold anything or that a stream names, and the source groups that sets name. (DEDUCED: log 58) -/
def filtersOk (t : State) : Bool :=
  let named := (imageIds t.cfg).map (fun id => let g := imageStream t t.tag id; (g.fset, byteAt g.key 0))
  (List.range 1024).all (fun k => filterSetOk t k ((named.filter (fun e => decide (e.1 = k))).map (·.2))) &&
  (List.range 256).all (fun g =>
    let b := cBytes t t.tag 3 (262144 + 16 * g) 16
    decide (byteAt b 5 = 0) || (decide (leAt b 0 2 ≠ 0) && decide (byteAt b 4 / 4 = 0) && decide (byteAt b 5 / 16 = 0) && zeroRange b 6 15))

/-- The opcodes of Micro-ops. -/
def knownOp (op : Nat) : Bool := inR 0x01 0x0C op || inR 0x10 0x22 op || inR 0x28 0x31 op

/-- Whether the mod bits outside a mask are 0 (The micro-op word). -/
def modIn (w mask : Nat) : Bool := decide (nbits w 51 48 &&& (15 - mask) = 0)

/-- Whether the operand bits below `n` are 0. -/
def lowZero (w n : Nat) : Bool := decide (nbits w 47 0 % 2 ^ n = 0)

/-- Format B and V fields: width, and the little-endian limit (R153). -/
def widthOk (width bitNo : Nat) (le : Bool) : Bool := inR 1 64 width && (!le || decide (width ≤ 57) || decide (bitNo = 0))

/-- What micro-op `i` of a program must meet (R151 to R170): `maxs` holds the max_len of its outputs, 0 for none. (DEDUCED: log 26) -/
def microOk (w left : Nat) (maxs : List Nat) : Bool :=
  let op := nbits w 63 58
  let mod := nbits w 51 48
  let out := nbits w 47 46
  match op with
  | 0x01 | 0x02 | 0x10 | 0x11 | 0x12 | 0x17 | 0x18 | 0x19 | 0x1A | 0x1B | 0x1C | 0x1D => modIn w 0 && lowZero w 48
  | 0x03 => decide (mod ≤ 8) && decide (nbits w 47 8 = 0) && inR 1 255 (nbits w 7 0) && decide (nbits w 7 0 + 1 < left)
  | 0x04 | 0x13 | 0x1E | 0x1F | 0x20 | 0x2E => modIn w 0
  | 0x05 => modIn w 0 && decide (nbits w 47 0 ≤ 9)
  | 0x06 => modIn w 14 && widthOk (nbits w 30 24) (nbits w 33 31) (w.testBit 50) && lowZero w 24
  | 0x07 => modIn w 14 && decide (nbits w 39 36 ≤ 9) && lowZero w 36
  | 0x08 | 0x09 => modIn w 14 && decide (nbits w 39 36 ≤ 9) && lowZero w 36
  | 0x0A => modIn w 15 && widthOk (nbits w 17 11) (nbits w 20 18) (w.testBit 50) && lowZero w 11 &&
      (!w.testBit 48 || decide (nbits w 39 32 = 0))
  | 0x0B => modIn w 15 && lowZero w 32 && (!w.testBit 48 || decide (nbits w 39 32 = 0))
  | 0x0C => modIn w 0 && lowZero w 40
  | 0x14 | 0x15 => modIn w 3 && decide (nbits w 47 16 = 0) && lowZero w 10
  | 0x16 => modIn w 3 && lowZero w 10
  | 0x21 => modIn w 1
  | 0x22 => decide (mod ≤ 2) && lowZero w 39
  | 0x28 => modIn w 0 && decide (maxs.getD out 0 ≠ 0) && decide (nbits w 45 34 ≤ 2048) && decide (nbits w 45 34 ≤ maxs.getD out 0) &&
      lowZero w 26
  | 0x29 => modIn w 0 && decide (maxs.getD out 0 ≠ 0) && lowZero w 46
  | 0x2A => modIn w 0 && inR 1 2048 (nbits w 21 10) && lowZero w 10
  | 0x2B => modIn w 14 && widthOk (nbits w 30 24) (nbits w 33 31) (w.testBit 50) && lowZero w 24
  | 0x2C => modIn w 12 && decide (nbits w 47 44 ≤ 9) && lowZero w 40
  | 0x2D => modIn w 0 && decide (nbits w 47 44 ≤ 3) && lowZero w 40
  | 0x2F => modIn w 0 && decide (nbits w 39 36 ≤ 9) && lowZero w 36
  | 0x30 => modIn w 0 && decide (nbits w 47 44 ≤ 5) && lowZero w 8
  | 0x31 => modIn w 0 && decide (nbits w 47 44 ≤ 3) && lowZero w 32
  | _ => false

/-- An interpolation table is sound (R163). -/
def interpOk (t : State) (n : Nat) : Bool :=
  let b := cBytes t t.tag 4 (2228224 + 264 * n) 264
  let c := byteAt b 0
  let x (i : Nat) := sext 32 (leAt b (8 + 8 * i) 4)
  inR 2 32 c && zeroRange b 1 7 && (List.range (c - 1)).all (fun i => decide (x i < x (i + 1))) && zeroRange b (8 + 8 * c) 263

/-- Whether a program is a class-0 program (R176). -/
def progClass0 (t : State) (p : Nat) : Bool :=
  (imageIds t.cfg).any (fun id => let g := imageStream t t.tag id; decide (g.prog = p ∧ g.cls = 0)) ||
  (List.range 4).any (fun o => decide (progOut t t.tag p o ≠ 0) && decide ((imageStream t t.tag (progOut t t.tag p o)).cls = 0)) ||
  (List.range 256).any (fun i => decide (nbits (cycWord t i 0) 11 0 = p) && decide (classRoot t (nbits (cycWord t i 1) 12 0) = 1))

/-- A defined program (R151 to R176). -/
def programOk (t : State) (p : Nat) : Bool :=
  let n := progLen t t.tag p
  let ops := (List.range n).map (microOp t t.tag p)
  let start := nbits (progWord t t.tag p 0) 17 0
  let w1 := progWord t t.tag p 1
  let maxs := (List.range 4).map (fun o => if progOut t t.tag p o = 0 then 0 else outMax t t.tag p o)
  let isEnd (w : Nat) : Bool := inR 1 2 (nbits w 63 58)
  let ends := (ops.filter isEnd).length
  inR 1 1024 n && decide (start + n ≤ 262144) && decide (nbits (progWord t t.tag p 0) 31 29 = 0) && decide (nbits w1 1 0 ≤ 1) &&
  decide (nbits w1 7 5 = 0) && decide (nbits (progWord t t.tag p 2) 31 16 = 0) &&
  (List.range 4).all (fun o => let id := progOut t t.tag p o
                               decide (id = 0) || decide (byteAt (imageStream t t.tag id).key 0 = 0xFE)) &&
  ((List.range n).zip ops).all (fun e => knownOp (nbits e.2 63 58) && microOk e.2 (n - e.1) maxs &&
    (decide (nbits e.2 63 58 ≠ 0x22) || interpOk t (nbits e.2 47 39))) &&
  isEnd (ops.getLastD 0) && (ops.any (fun w => decide (nbits w 63 58 = 3)) || decide (ends = 1)) &&
  (!w1.testBit 4 || (imageIds t.cfg).all (fun id => decide ((imageStream t t.tag id).prog ≠ p))) &&
  (!progClass0 t p || (decide (n ≤ 64) && decide (worstSteps t t.tag p ≤ 160) && ops.all (fun w => decide (nbits w 63 58 ≠ 0x15)) &&
    ops.all (fun w => decide (nbits w 63 58 ≠ 0x0A) || decide (8 * nbits w 31 21 + nbits w 20 18 + nbits w 17 11 ≤ 512))))

/-- The programs that are defined. -/
def programs (t : State) : List Nat := (List.range 4096).filter (progSet t)

/-- Whether an interpolation table holds anything. -/
def interpSet (t : State) (n : Nat) : Bool := !zeroRange (cBytes t t.tag 4 (2228224 + 264 * n) 264) 0 263

/-- Region 4 (R151 to R176). (DEDUCED: log 58) -/
def mappingOk (t : State) : Bool :=
  let ps := programs t
  let place (p : Nat) : Nat × Nat := (nbits (progWord t t.tag p 0) 17 0, progLen t t.tag p)
  ps.all (programOk t) && (List.range 512).all (fun n => !interpSet t n || interpOk t n) &&
  ps.all (fun a => ps.all (fun b => decide (a = b) || !overlaps (place a).1 (place a).2 (place b).1 (place b).2)) &&
  (List.range 256).all (fun i =>
    let p := nbits (cycWord t i 0) 11 0
    decide (p = 0) || (progSet t p && progBit t t.tag p 4 && isLeaf t (nbits (cycWord t i 1) 12 0)))

end Sys2Proof.Machine
end

