-- ==== Sys2Proof/Machine/Validate.lean ====
section
/-! DEFINITION. The validation rules of the remaining regions, and the admission check of class 0 (chapters 6 to 14, R200). -/

namespace Sys2Proof.Machine

/-- The sum of a quantity over nodes. -/
def sumOver (ns : List Nat) (f : Nat → Nat) : Nat := (ns.map f).sum

/-- A used node other than node 0 (R47, R186): its parent, class, rates, policy and adaptive limits. -/
def nodeOk (t : State) (n : Nat) : Bool :=
  let p := ndParent t n
  let kids := (usedNodes t).filter (fun k => decide (k ≠ 0 ∧ ndParent t k = n))
  let c := ndClass t n
  let adaptive := decide (ndF t n 0 22 22 = 1)
  let sums (rate cap : Nat → Nat) : Bool := decide (sumOver kids rate ≤ rate n) && decide (sumOver kids rate ≤ cap n)
  (if n ≤ 8 then decide (p = 0) && decide (c + 1 = n) else decide (p ≠ 0) && decide (c = ndClass t p)) &&
  decide (p < n) && ndUsed t p && decide (ndF t n 2 31 0 ≤ ndF t n 3 31 0) && decide (ndF t n 4 31 0 ≤ ndF t n 5 31 0) &&
  sums (fun k => ndF t k 2 31 0) (fun k => ndF t k 3 31 0) && sums (fun k => ndF t k 4 31 0) (fun k => ndF t k 5 31 0) &&
  decide (sumOver kids (ndQuota t) ≤ ndQuota t n) && decide (ndQuota t n ≤ 16777216) && decide (ndPolicy t n ≠ 3) &&
  decide (ndF t n 0 17 16 ≤ 1) &&
  (decide (c ≠ 0) || (decide (ndF t n 0 19 18 = 0) && !adaptive && decide (n = 1 ∨ ndPolicy t n = 1))) &&
  (!adaptive || (decide (4 ≤ c) && inR 1 64 (ndF t n 7 7 0) && inR 16 255 (ndF t n 7 15 8)))

/-- A leaf (R186): what the streams, slots and programs under it need. -/
def leafOk (t : State) (n : Nat) : Bool :=
  let gs := ((imageIds t.cfg).map (imageStream t t.tag)).filter (fun g => decide (g.node = n))
  let slots := (List.range 256).filter (fun i => decide (nbits (cycWord t i 0) 11 0 ≠ 0 ∧ nbits (cycWord t i 1) 12 0 = n))
  let ps := ((gs.map (·.prog)) ++ slots.map (fun i => nbits (cycWord t i 0) 11 0)).filter (fun p => decide (p ≠ 0))
  gs.all (fun g => decide (g.maxLen ≤ ndF t n 5 31 0)) && ps.all (fun p => decide (4 * worstSteps t t.tag p ≤ ndF t n 3 31 0)) &&
  (decide (ndClass t n ≠ 0) || decide (2000 ≤ ndGap t n))

/-- Region 5 (R47, R95, R186, R196, Online tests). (DEDUCED: log 58) -/
def budgetOk (t : State) : Bool :=
  let used := usedNodes t
  let st := fld t Reg.DGN_ST_NODE 12 0
  ndUsed t 0 && (used.filter (fun n => decide (n ≠ 0))).all (nodeOk t) && (used.filter (isLeaf t)).all (leafOk t) &&
  (imageIds t.cfg).all (entryOk t) && decide (ndQuota t 1 = 1048576) &&
  decide (sumOver ((used.filter (fun n => decide (2 ≤ n ∧ n ≤ 8)))) (ndQuota t) ≤ 15728640) &&
  decide (4 * ndF t 1 2 31 0 ≤ 16 * (periodUs t * 1000 - 20000)) &&
  (List.range 105).all (fun q => decide (2 * oasisShare t q ≤ portBytes t q)) && isLeaf t st && decide (ndParent t st = 8)

/-- A copy that a destination set makes at a port 0 to 104: port, template, listener (R208). -/
structure Aim where
  port : Nat
  tpl : Nat
  listener : Option Nat
deriving DecidableEq, Repr

/-- The copies of a destination set to ports 0 to 104. -/
def aims (t : State) (d : Nat) : List Aim :=
  let tpl := nbits (cw t 6 (8 * d + 5)) 10 0
  ((dsPorts t d).filter (fun q => decide (q ≤ 104))).map (fun q => ⟨q, tpl, none⟩) ++
  (dsList t d).map (fun l => ⟨lsPort t l, lsTemplate t l, some l⟩)

/-- Whether a destination set addresses anything. -/
def dsUsed (t : State) (d : Nat) : Bool := (List.range 8).any (fun i => decide (cw t 6 (8 * d + i) ≠ 0))

/-- Whether a template kind fits a port (Template kinds). -/
def kindFits (t : State) (kind q : Nat) : Bool :=
  match pkind q with
  | .sp => decide (kind ≤ 1) || (decide (kind = 2) && decide (2 ≤ spMode t q))
  | .cf => decide (kind = 0 ∨ kind = 3)
  | .mv => decide (kind = 0 ∨ kind = 4)
  | .e | .x => decide (kind = 0) || inR 5 9 kind
  | .cb => decide (kind = 10)
  | _ => false

/-- Whether a PASS copy of a key kind may leave a port (Template kinds). -/
def passFits (key q : Nat) : Bool :=
  match pkind q with
  | .sp => inR 1 2 key
  | .cf => decide (key = 3)
  | .mv => decide (key = 4)
  | .e | .x => inR 5 9 key
  | _ => false

/-- Whether a copy can be sealed (R225). -/
def sealFits (t : State) (kind q : Nat) : Bool :=
  isEth q || decide (pkind q = .cb) || (decide (pkind q = .sp) && decide (kind = 2) && decide (spMode t q = 2))

/-- A copy's template and port (R209, R225, R554). -/
def aimOk (t : State) (a : Aim) : Bool :=
  let tp := template t a.tpl
  kindFits t (tKind tp) a.port && (!tFlag tp 0 || sealFits t (tKind tp) a.port) &&
  (pathsOf t a.port).all (fun q => decide (q = 104) || portSet t q)

/-- A destination set (R5, R209, R554). -/
def dsOk (t : State) (d : Nat) : Bool :=
  let start := nbits (cw t 6 (8 * d + 4)) 15 0
  let len := nbits (cw t 6 (8 * d + 4)) 26 16
  let place (i : Nat) : Nat := nbits (cw t 6 (98304 + i / 2)) (16 * (i % 2) + 15) (16 * (i % 2))
  decide (len ≤ 1024) && decide (start + len ≤ 65536) &&
  (List.range len).all (fun i => decide (place (start + i) < 16384) && decide (lsPort t (place (start + i)) ≤ 104)) &&
  decide (nbits (cw t 6 (8 * d + 3)) 31 16 = 0) &&
  (dsPorts t d).all (fun q => !(isPrp t q && decide (q ≠ pairA (pairOf q)))) && (aims t d).all (aimOk t)

/-- The counters of R227 that an entry's copies own. -/
def seqOwned (t : State) (id : Nat) : Nat :=
  ((aims t (imageStream t t.tag id).dset).filter (fun a => decide (tSeq (template t a.tpl) ≠ 0))).length

/-- Region 6 (R5, R209, R225, R227, R232, R249, R554). (DEDUCED: log 58) -/
def egressOk (t : State) : Bool :=
  let ids := imageIds t.cfg
  let sets := (List.range 4096).filter (dsUsed t)
  sets.all (dsOk t) &&
  ids.all (fun id =>
    let g := imageStream t t.tag id
    let k := byteAt g.key 0
    let as := aims t g.dset
    (decide (k = 0xFF) || as.all (fun a => decide (tKind (template t a.tpl) ≠ 0) || passFits k a.port)) &&
    (decide (g.cls ≠ 0) ||
      (as.all (fun a => (pathsOf t a.port).all (fun q => !bit (rd t (Reg.EGR_PORT_CTRL q)) 2)) &&
       (decide (g.maxLen ≤ 256) || (dsPorts t g.dset).all (fun q => decide (q < 105 ∨ 107 < q)))))) &&
  decide (sumOver ids (seqOwned t) ≤ 65536)

/-- A voter stream (R261). -/
def voterOk (t : State) (v : Nat) : Bool :=
  let w (i : Nat) := cw t 8 (4 * v + i)
  let mode := nbits (w 0) 17 16
  let out := imageStream t t.tag (nbits (w 0) 15 0)
  let n := upTo64 (fld t Reg.LNI_CYCLE_CTRL 5 0)
  let aux := nbits (w 1) 31 16
  decide (byteAt out.key 0 = 0xFE) && !(decide (mode = 3) && decide (out.cls = 0)) &&
  inR 1 ((fld t Reg.VOT_CTRL 25 24 + 1) * n * periodUs t) (nbits (w 1) 15 0) && decide (1 ≤ nbits (w 0) 31 24) &&
  (decide (mode = 0 ∨ mode = 3) || decide (aux < 1024))

/-- A tolerance record (R261). -/
def tolOk (t : State) (i : Nat) : Bool :=
  let b := cBytes t t.tag 8 (131072 + 144 * i) 144
  let n := byteAt b 0 % 16
  let ld (k : Nat) := leAt b (16 + 16 * k) 8
  inR 1 8 n && (List.range n).all (fun k =>
    let w := ld k
    let op := nbits w 63 58
    inR 6 8 op && decide (nbits w 57 52 = 0) && microOk w 0 [] && (decide (op = 6) || (byteAt b 1).testBit 0))

/-- Region 8 (R261). -/
def votersOk (t : State) : Bool :=
  let vs := (List.range 4096).filter (fun v => (List.range 4).any (fun i => decide (cw t 8 (4 * v + i) ≠ 0)))
  vs.all (voterOk t) && decide ((vs.map (fun v => nbits (cw t 8 (4 * v)) 15 0)).eraseDups.length = vs.length) &&
  vs.all (fun v => decide (nbits (cw t 8 (4 * v)) 17 16 ≠ 2) || tolOk t (nbits (cw t 8 (4 * v + 1)) 25 16))

/-- A window (R277). -/
def windowOk (t : State) (w : Nat) : Bool :=
  let f (i hi lo : Nat) := nbits (cw t 9 (8 * w + i)) hi lo
  let kind := f 0 2 0
  let width := f 0 9 8
  let p := f 1 6 0
  let resp := f 3 15 0
  let portFits := match kind with
    | 1 => decide (pkind p = .cb)
    | 2 => decide (pkind p = .cf)
    | 3 | 4 => decide (pkind p = .mv)
    | 5 => decide (pkind p = .sp)
    | _ => decide (pkind p = .sp ∨ pkind p = .cf ∨ pkind p = .mv ∨ pkind p = .cb)
  let widthFits := if kind = 1 ∨ kind = 4 then decide (width = 1) else decide (width ≠ 3 ∨ kind = 3)
  decide (kind = 0) ||
  (decide (kind ≠ 7) && portFits && widthFits && ((cw t 9 (8 * w)).testBit 5 || (decide (f 3 24 16 = 0) && decide (cw t 9 (8 * w + 4) = 0))) &&
   (decide (kind ≠ 4) || bit (rd t (Reg.PRT_MODE p)) 6) &&
   (decide (kind = 3 ∨ kind = 4) ||
     (decide (resp ≠ 0) && (dsPorts t (strmCfg t t.tag resp).dset).contains 111)))

/-- Bit time on the cadence channels in microticks of 5 ns (R339). -/
def cbBitUt (t : State) : Nat := [80, 40, 20].getD (fld t Reg.CDB_CONFIG 9 8) 20

/-- A slot record of the cadence schedule (R337, R338). -/
def slotOk (t : State) (k : Nat) : Bool :=
  let w := cw t 10 k
  let use := nbits w 1 0
  let node := nbits w 9 4
  let ap := fld t Reg.CDB_SLOT 23 12 * fld t Reg.CDB_TIMING 9 0
  let len := fld t Reg.CDB_SLOT 11 0 * fld t Reg.CDB_TIMING 9 0
  let pi_ := clampN 20 2000 (fld t Reg.CDB_SYNC_CFG 10 0)
  decide (use ≠ 3) && decide (w / 2 ^ 20 = 0) && decide (nbits w 17 10 ≤ 254) &&
  (decide (use ≠ 1) || decide (node = fld t Reg.CDB_CONFIG 5 0)) && (decide (use ≠ 2) || decide (node = 0)) &&
  decide (ap + pi_ + (125 + 10 * nbits w 17 10) * cbBitUt t ≤ len)

/-- Region 10 (R321, R337, R338). (DEDUCED: log 58) -/
def cadenceOk (t : State) : Bool :=
  let mt := fld t Reg.CDB_TIMING 9 0
  let cyc := fld t Reg.CDB_TIMING 25 10
  let n := fld t Reg.CDB_CONFIG 19 10
  let slotMt := fld t Reg.CDB_SLOT 11 0
  let idle := cyc - n * slotMt
  let pi_ := clampN 20 2000 (fld t Reg.CDB_SYNC_CFG 10 0)
  let off := fld t Reg.CDB_SYNC_CFG 20 11
  let rate := fld t Reg.CDB_SYNC_CFG 28 21
  let slots := (List.range n).map (fun i => cw t 10 (i + 1))
  let own := (slots.filter (fun w => decide (nbits w 1 0 = 1) && w.testBit 2)).length
  decide (cyc * mt * 5 = periodUs t * 1000) && inR 1 1023 n && decide (n * slotMt ≤ cyc) && decide (10 ≤ idle) &&
  decide (off + rate + 200 ≤ idle * mt) && decide (pi_ + 40 ≤ fld t Reg.CDB_SLOT 23 12 * mt) && decide (rate ≤ cyc) &&
  inR 100 800 mt && inR 1 63 (fld t Reg.CDB_CONFIG 5 0) && decide (fld t Reg.CDB_CONFIG 9 8 ≤ 2) && decide (off < pi_) &&
  inR 1 1023 off && inR 1 255 rate && decide (2 ≤ fld t Reg.CDB_TIMING 31 26) && inR 1 4095 slotMt &&
  decide (cw t 10 0 = 0) && (List.range n).all (fun i => slotOk t (i + 1)) && decide (own ≤ 1) &&
  (!bit (rd t Reg.CDB_CONFIG) 7 || decide (own = 1)) && decide ((slots.filter (fun w => w.testBit 2)).length ≤ 15)

/-- Region 11 (R321, R326). (DEDUCED: log 58) -/
def timeOk (t : State) : Bool :=
  let trg (i : Nat) := rd t (Reg.TIM_TRG_CFG i)
  let pins := (List.range 64).filter (fun i => bit (trg i) 1)
  (!bit (rd t Reg.TIM_CTRL) 1 || decide (fld t Reg.CDB_TIMING 25 10 * fld t Reg.CDB_TIMING 9 0 * 5 = periodUs t * 1000)) &&
  decide ((pins.map (fun i => bits (trg i) 4 2)).eraseDups.length = pins.length) &&
  pins.all (fun i =>
    let d := (rd t (Reg.TIM_TRG_INTERVAL i)).toNat
    decide (d = 0) || decide (10 * bits (trg i) 15 8 + 20 ≤ d))

/-- r_max of a stream in sentences per second (R400, Regions). (PRESUMED: log 50) -/
def rMax (t : State) (id : Nat) : Nat :=
  match (List.range 4096).find? (fun i => decide (nbits (cw t 12 (2 * i)) 15 0 = id) && decide (cw t 12 (2 * i) ≠ 0 ∨ cw t 12 (2 * i + 1) ≠ 0)) with
  | some i => cw t 12 (2 * i + 1)
  | none => cw t 12 10240

/-- r_max of a PRP counter (R401): the streams whose copies reach the pair, capped at the line's rate of 64-byte frames. -/
def rMaxPair (t : State) (p : Nat) : Nat :=
  let reach (id : Nat) : Bool := (aims t (imageStream t t.tag id).dset).any (fun a => isEth a.port && decide (pairOf a.port = p))
  min (sumOver ((imageIds t.cfg).filter reach) (rMax t)) (lineRate t (pairA p) / (8 * 84))

/-- Whether G of R400 can reach half of a counter's range (R402): rate, addition, width. -/
def jumpFits (t : State) (r extra width : Nat) : Bool :=
  let us := 2 * ckptEvery t * periodUs t + clampN 5 500 (fld t Reg.RED_CONFIG 10 2) * 1000 + 6000
  decide (r * us + (2 + extra) * 1000000 < 2 ^ (width - 1) * 1000000)

/-- Region 12 (R402). -/
def redundancyOk (t : State) : Bool :=
  (imageIds t.cfg).all (fun id => (aims t (imageStream t t.tag id).dset).all (fun a =>
    let m := tSeq (template t a.tpl)
    decide (m = 0) || jumpFits t (rMax t id) 0 (if m = 2 then 16 else 32))) &&
  (List.range 10).all (fun p => !isPrp t (pairA p) || jumpFits t (rMaxPair t p) 64 16)

/-- Whether a region meets its chapter's validation rules, in a state in which it is in force. (DEDUCED: log 58) -/
def regionOk (t : State) (i : Nat) : Bool :=
  match i with
  | 0 => portsOk t
  | 1 => streamsOk t
  | 2 => rulesOk t
  | 3 => filtersOk t
  | 4 => mappingOk t
  | 5 => budgetOk t
  | 6 => egressOk t
  | 8 => votersOk t
  | 9 => (List.range 256).all (windowOk t)
  | 10 => cadenceOk t
  | 11 => timeOk t
  | 12 => redundancyOk t
  | 13 => keyPolicyOk t
  | 16 => safBlockOk (cBytes t t.tag 16 0 1024) && safBlockOk (cBytes t t.tag 16 1024 1024)
  | _ => true

end Sys2Proof.Machine
end

