-- ==== Sys2Proof/Machine/Admission.lean ====
section
/-! DEFINITION. The admission check of class 0 (R199, R200, R553), in picoseconds. -/

namespace Sys2Proof.Machine

/-- One copy of a class-0 sentence: its port, the leaf it is charged to, its largest egress bytes and its wire time in ps. -/
structure Reach where
  port : Nat
  leaf : Nat
  bytes : Nat
  wire : Nat
deriving DecidableEq, Repr

/-- A talker of class 0, a stream or a cyclic slot: its leaf, its least interval in ns (none: it fires once), whether it passes adapter,
classifier and filter, their terms in ps, worst_steps, commits and copies of one run, the buffer bytes it holds, and its copies. -/
structure C0Src where
  leaf : Nat
  every : Option Nat
  front : Bool
  adapter : Nat
  sealPs : Nat
  steps : Nat
  commits : Nat
  copies : Nat
  buf : Nat
  reach : List Reach
deriving DecidableEq, Repr

/-- The largest wire form of a payload of `len` bytes on a port under a template (R190, R218, R225): bytes. -/
def maxBytes (t : State) (a : Aim) (len : Nat) : Nat :=
  let tp := template t a.tpl
  let kind := tKind tp
  let n := len + (if tFlag tp 0 then 24 else 0)
  let vlan := if tFlag tp 2 then 4 else 0
  let eth := match kind with
    | 0 => n + vlan + (if tFlag tp 3 then 2 else 0)
    | 5 | 8 => 14 + vlan + n
    | 6 => 14 + vlan + 28 + 40 + n + (if tFlag tp 3 then 2 else 0)
    | 7 => 14 + vlan + 28 + 6 + n + (if tFlag tp 3 then 2 else 0)
    | _ => 14 + vlan + 28 + n + (if tFlag tp 3 then 2 else 0)
  match pkind a.port with
  | .e | .x => if isPrp t a.port then max 54 eth + 10 else max 60 eth + 4
  | .sp => match kind with
    | 0 => len
    | 1 => len + (if tFlag tp 1 then 17 else 0)
    | _ => match spMode t a.port with
      | 2 => 2 + 2 * (n + 4)
      | 3 => n + 4
      | _ => n + 2
  | .cf => ((fdLengths.find? (fun k => decide (len ≤ k))).getD 64) + 8
  | .cb => n + 12
  | _ => len

/-- The wire time of so many egress bytes at a port in ps (Terms of the bound): nothing but E, X, SP and CF carries it. A CAN frame is
taken at the nominal rate with the overhead and stuff bits of its longest form. (PRESUMED: log 16) -/
def wireTime (t : State) (q bytes : Nat) : Nat :=
  let per (bits rate : Nat) : Nat := if rate = 0 then 0 else ceilDiv (bits * 1000000000000) rate
  match pkind q with
  | .e | .x => per (8 * (bytes + 20)) (lineRate t q)
  | .sp => per (bytes * charBits t q) (lineRate t q)
  | .cf => per (100 + 10 * (bytes - 8)) (lineRate t q)
  | _ => 0

/-- The copies of a committed stream that reach ports 0 to 107. (DEDUCED: log 59) -/
def reachOf (t : State) (id : Nat) : List Reach :=
  let g := imageStream t t.tag id
  (aims t g.dset).flatMap (fun a =>
    let b := maxBytes t a g.maxLen
    (pathsOf t a.port).map (fun q => ⟨q, g.node, b, wireTime t q b⟩)) ++
  ((dsPorts t g.dset).filter (fun q => decide (105 ≤ q ∧ q ≤ 107))).map (fun q => ⟨q, g.node, 0, 0⟩)

/-- The copies that a committed stream makes. -/
def copiesOf (t : State) (id : Nat) : Nat :=
  let d := (imageStream t t.tag id).dset
  (dsPorts t d).length + (dsList t d).length

/-- The streams that a run commits: its input where it is forwarded or has no program, and its outputs. -/
def committedOf (t : State) (input : Option Nat) (p : Nat) : List Nat :=
  let outs := ((List.range 4).map (progOut t t.tag p)).filter (fun id => decide (id ≠ 0))
  if p = 0 then input.toList else (if progBit t t.tag p 2 then input.toList else []) ++ outs

/-- The adapter term of a stream in ps (R82). -/
def adapterOf (t : State) (key : Bytes) : Nat :=
  let q := byteAt key 1 % 128
  let base := match pkind q with
    | .sp => 40
    | .cf | .mv | .cb => 50
    | .e => 120
    | .x => 70
    | _ => 20
  1000 * (base + (if inR 7 9 (byteAt key 0) then 24 else 0) + (if isPrp t q then 16 else 0))

/-- A class-0 stream as a talker. -/
def streamTalk (t : State) (id : Nat) : C0Src :=
  let g := imageStream t t.tag id
  let done := committedOf t (some id) g.prog
  let isSealed := (fsByte0 t g.fset).testBit 0
  { leaf := g.node, every := some (ndGap t g.node), front := true, adapter := adapterOf t g.key
    sealPs := if isSealed then 40000 + 2500 * ceilDiv g.maxLen 16 else 0
    steps := if g.prog = 0 then 0 else worstSteps t t.tag g.prog, commits := done.length
    copies := sumOver done (copiesOf t), buf := g.maxLen + outReserve t t.tag g.prog, reach := done.flatMap (reachOf t) }
where
  fsByte0 (t : State) (k : Nat) : Nat := cw t 3 (64 * k)

/-- The time between firings of a trigger in ns (R324); none where it fires once. -/
def trigEvery (t : State) (i : Nat) : Option Nat :=
  let w := rd t (Reg.TIM_TRG_CFG i)
  if bit w 0 then some (upTo64 (bits w 21 16) * periodUs t * 1000)
  else if rd t (Reg.TIM_TRG_INTERVAL i) = 0 then none else some (rd t (Reg.TIM_TRG_INTERVAL i)).toNat

/-- A cyclic slot under a class-0 leaf as a talker. -/
def slotTalk (t : State) (i : Nat) : C0Src :=
  let p := nbits (cycWord t i 0) 11 0
  let done := committedOf t none p
  { leaf := nbits (cycWord t i 1) 12 0, every := trigEvery t (nbits (cycWord t i 0) 21 16), front := false, adapter := 0, sealPs := 0
    steps := worstSteps t t.tag p, commits := done.length, copies := sumOver done (copiesOf t), buf := outReserve t t.tag p
    reach := done.flatMap (reachOf t) }

/-- The largest of a quantity over talkers. -/
def largest (xs : List C0Src) (f : C0Src → Nat) : Nat := (xs.map f).foldl max 0

/-- The streams that may decide on traffic under class 0, and the slots that class-0 leaves run: one entry per leaf, one per slot, each
with the talkers whose terms it takes the largest of. -/
def sources (t : State) : List (List C0Src) :=
  let ids := (imageIds t.cfg).filter (fun id => isTalker t id && decide ((imageStream t t.tag id).cls = 0))
  let talks := ids.map (streamTalk t)
  let slots := (List.range 256).filter (fun i =>
    decide (nbits (cycWord t i 0) 11 0 ≠ 0) && decide (classRoot t (nbits (cycWord t i 1) 12 0) = 1))
  ((talks.map (·.leaf)).eraseDups.map (fun n => talks.filter (fun x => decide (x.leaf = n)))) ++ slots.map (fun i => [slotTalk t i])

/-- The wire time of a source's copies at a port. -/
def wireAt (xs : List C0Src) (q : Nat) : Nat :=
  largest xs (fun x => ((x.reach.filter (fun r => decide (r.port = q))).map (·.wire)).sum)

/-- The egress bytes of a source's copies at a port. -/
def bytesAt (xs : List C0Src) (q : Nat) : Nat :=
  largest xs (fun x => ((x.reach.filter (fun r => decide (r.port = q))).map (·.bytes)).sum)

/-- The egress bytes of a source's copies charged to a leaf: one path of a pair. -/
def bytesOfLeaf (xs : List C0Src) (leaf : Nat) : Nat :=
  largest xs (fun x => ((x.reach.filter (fun r => decide (r.leaf = leaf) && !(isEth r.port && decide (pathOf r.port = 2)))).map (·.bytes)).sum)

/-- Sentences or firings within a span in ns, rounded down or up. -/
def inSpan (xs : List C0Src) (ns : Nat) (up : Bool) : Nat :=
  largest xs (fun x => match x.every with
    | none => b2n up
    | some e => if e = 0 then ns else if up then ceilDiv ns e else ns / e)

/-- g: the largest commit group of a run of classes 1 to 7. -/
def groupOf (t : State) : Nat :=
  ((programs t).filter (fun p => !progClass0 t p)).foldl (fun m p => max m (committedOf t (some 0) p).length) 1

/-- The encoder start of a port in ps (R553). -/
def encoderStart (q : Nat) : Nat :=
  match pkind q with
  | .e => 80000
  | .x => 48000
  | .lane => 120000
  | _ => 40000

/-- The interference service of a source, without its wire time. -/
def service (xs : List C0Src) : Nat :=
  largest xs (fun x => if x.front then 40000 + 24000 + x.sealPs else 0) + 4000 * largest xs (·.steps) +
  8000 * largest xs (·.commits) + 4000 * largest xs (·.copies)

/-- A(s, q): own passage and blocking (Terms of the bound). -/
def ownPassage (t : State) (xs : List C0Src) (q : Nat) : Nat :=
  largest xs (fun x => if x.front then x.adapter + 80000 + 48000 + x.sealPs else 0) +
  (if xs.any (fun x => decide (x.steps ≠ 0)) then 32000 + 4000 * largest xs (·.steps) else 0) +
  8000 * groupOf t + 8000 * largest xs (·.commits) + 12000 + 4000 + 4000 * largest xs (·.copies) + encoderStart q + 28000

/-- B(s, q) of R200, where source `i` of all is s. (DEDUCED: log 59) -/
def boundOf (t : State) (all : List (List C0Src)) (i q : Nat) : Nat :=
  let others := ((List.range all.length).zip all).filter (fun e => decide (e.1 ≠ i))
  ownPassage t (all.getD i []) q +
  (others.map (fun e => (1 + inSpan e.2 2000 false) * (service e.2 + wireAt e.2 q))).sum

/-- W_q without preemption in ps (Egress start and wire blocking). (DEDUCED: log 59) -/
def wireBlock (t : State) (q : Nat) : Nat :=
  match pkind q with
  | .cf => wireTime t q 72
  | _ => wireTime t q (fld t (Reg.PRT_LIMITS q) 15 0)

/-- The ports a source reaches. -/
def portsOf (xs : List C0Src) : List Nat := (xs.flatMap (fun x => x.reach.map (·.port))).eraseDups

/-- Bytes in the shared buffer that a source may hold (the Buffer test): per leaf. -/
def bufTerm (t : State) (all : List (List C0Src)) (i : Nat) : Nat :=
  let xs := all.getD i []
  let span := ((portsOf xs).map (fun q => boundOf t all i q + wireBlock t q + wireAt xs q)).foldl max 0
  (1 + inSpan xs (span / 1000) false) * largest xs (·.buf)

/-- The leaves of some sources. -/
def leavesOf (all : List (List C0Src)) : List Nat := ((all.flatMap id).map (·.leaf)).eraseDups

/-- The leaves that class-0 copies are charged to. -/
def chargedOf (all : List (List C0Src)) : List Nat := ((all.flatMap id).flatMap (fun x => x.reach.map (·.leaf))).eraseDups

/-- The admission check (R200): every bound within 2,000 ns, and the oasis period tests. (DEDUCED: log 59) -/
def admissionOk (t : State) : Bool :=
  let all := sources t
  let idx := List.range all.length
  let per := periodUs t * 1000
  let m (xs : List C0Src) : Nat := inSpan xs per true
  let leafOf (xs : List C0Src) : Nat := (xs.head?.map (·.leaf)).getD 0
  let stage (f : List C0Src → Nat) : Nat := (all.map (fun xs => m xs * f xs)).sum
  let mapOf (xs : List C0Src) : Nat := m xs * 4 * largest xs (·.steps)
  let ofLeaf (n : Nat) : List (List C0Src) := all.filter (fun xs => decide (leafOf xs = n))
  let ports := (all.flatMap portsOf).eraseDups
  idx.all (fun i => (portsOf (all.getD i [])).all (fun q => decide (boundOf t all i q ≤ 2000000))) &&
  decide ((all.map mapOf).sum ≤ ndF t 1 2 31 0) &&
  (leavesOf all).all (fun n => decide (((ofLeaf n).map mapOf).sum ≤ ndF t n 2 31 0)) &&
  decide (stage (fun xs => if xs.any (·.front) then 40 else 0) ≤ per) &&
  decide (4 * stage (fun xs => largest xs (fun x => if x.front then 24000 + x.sealPs else 0)) ≤ per * 1000) &&
  decide (4 * stage (fun xs => 8000 * largest xs (·.commits)) ≤ per * 1000) &&
  decide (4 * stage (fun xs => 4000 * largest xs (·.copies)) ≤ per * 1000) &&
  decide ((idx.map (bufTerm t all)).sum ≤ 1048576) &&
  (leavesOf all).all (fun n =>
    decide (((idx.filter (fun i => decide (leafOf (all.getD i []) = n))).map (bufTerm t all)).sum ≤ ndQuota t n)) &&
  (ports.filter (fun q => decide (q ≤ 104))).all (fun q => decide (stage (fun xs => bytesAt xs q) ≤ oasisShare t q)) &&
  (chargedOf all).all (fun n => decide (stage (fun xs => bytesOfLeaf xs n) ≤ ndF t n 4 31 0))

end Sys2Proof.Machine
end

