-- ==== Sys2Proof/Machine/Links.lean ====
section
/-! DEFINITION. Links, pauses, egress ports, listeners and their replays (chapter 7). -/

namespace Sys2Proof.Machine

/-- Copies of a pair counted once. -/
def oncePerTwin : List Copy → List Copy
  | [] => []
  | c :: t => if c.twin ≠ 0 ∧ t.any (fun d => decide (d.twin = c.twin)) = true then oncePerTwin t else c :: oncePerTwin t

/-- The queued copies at some ports that pass `f` are taken out and give up what they hold; copies in transmission stay. -/
def pullQueued (s : State) (qs : List Nat) (f : Copy → Bool) : List Copy × State :=
  let gone := qs.flatMap (fun q => ((eg s q).waiting ++ (eg s q).queue).filter f)
  let strip (s : State) (q : Nat) : State :=
    let p := eg s q
    setEg s q { p with waiting := p.waiting.filter (fun c => !f c), queue := p.queue.filter (fun c => !f c) }
  let gone := oncePerTwin gone
  (gone, gone.foldl freeCopy (qs.foldl strip s))

/-- Every waiting copy of a port whose link is down is discarded (R229). (DEDUCED: log 35) -/
def downDiscard (s : State) (q : Nat) (quiet : Bool) (f : Copy → Bool) : State :=
  let p := eg s q
  let gone := (p.waiting ++ p.queue).filter f
  let s := setEg s q { p with waiting := p.waiting.filter (fun c => !f c), queue := p.queue.filter (fun c => !f c) }
  gone.foldl (fun s c => downDrop s q quiet c) s

/-- Whether the other path of a pair carries the frames of a port (R229). -/
def otherCarries (s : State) (q : Nat) : Bool := isPrp s q && carries s (mateOf q)

/-- LINK_DOWN (R75, R81, R229, R230): a frame in reception is a framing error, one in transmission is lost. (DEDUCED: log 35) -/
def execLinkDown (n : Nat) (inFrame : Bool) (s : State) : Res :=
  .next (
    if isEth n = false ∨ (port s n).link = false then s
    else
      let s := if inFrame then framing s n else s
      let s := report (setPort s n { port s n with link := false }) Ev.PRT_LINK_DOWN n 0
      let p := eg s n
      let lost := p.cur.toList ++ p.preempted.toList
      let s := setEg s n { p with cur := none, preempted := none, paused := false, verify := 0, downSince := some (now s)
                                  downHeld := false, downReported := false }
      let s := match p.cur with
        | some c => emit s (.wire n c.dep c.wire false)
        | none => s
      let quiet := otherCarries s n
      let s := lost.foldl (fun s c => freeCopy (downCount s n quiet) c) s
      if quiet then downDiscard s n true (fun _ => true) else s)

/-- LINK_UP (R81, R229, R230): a new episode can be reported, 802.3br verification begins again, and copies of a pair that wait on a
path still down are carried by this one. -/
def execLinkUp (n : Nat) (s : State) : Res :=
  .next (
    if isEth n = false ∨ (port s n).link = true then s
    else
      let s := setPort s n { port s n with link := true }
      let verify := if bit (rd s (Reg.EGR_PORT_CTRL n)) 1 then 1 else 0
      let s := setEg s n { eg s n with downSince := none, downHeld := false, downReported := false, verify := verify }
      if isPrp s n = true ∧ carries s (mateOf n) = false then downDiscard s (mateOf n) true (fun c => mateHas s c) else s)

/-- LINK_DOWN_HOLD_EXPIRY (R229). (DEDUCED: log 32) -/
def execLinkDownHoldExpiry (q : Nat) (s : State) : Res :=
  .next (
    match (eg s q).downSince with
    | none => s
    | some t =>
      if (eg s q).downHeld = true ∨ since s t < fld s (Reg.EGR_PORT_CTRL q) 31 16 * usUnits then s
      else downDiscard (setEg s q { eg s q with downHeld := true }) q false (fun _ => true))

/-- PREEMPT_VERIFY_DONE (R230). -/
def execPreemptVerifyDone (q : Nat) (ok : Bool) (s : State) : Res :=
  .next (if (eg s q).verify = 1 then setEg s q { eg s q with verify := if ok then 2 else 3 } else s)

/-- PAUSE_FRAME_RECEIVED (R232). -/
def execPauseFrameReceived (n quanta : Nat) (s : State) : Res :=
  .next (if isEth n = true ∧ (port s n).link = true ∧ bit (rd s (Reg.EGR_PORT_CTRL n)) 2 = true then
      setEg s n { eg s n with paused := decide (quanta ≠ 0) }
    else s)

/-- RECEIVED_PAUSE_EXPIRY (R232). -/
def execReceivedPauseExpiry (n : Nat) (s : State) : Res :=
  .next (if (eg s n).paused then setEg s n { eg s n with paused := false } else s)

/-- EGR_PORT_CTRL.enable of a port is 1 from now on (R231): from DRAINING nothing is lost. -/
def egOn (s : State) (q : Nat) : State :=
  let s := setFld s (Reg.EGR_PORT_CTRL q) 0 0 1
  if (eg s q).state = 3 ∨ (eg s q).state = 1 then s else setEg s q { eg s q with state := 1 }

/-- EGR_PORT_CTRL.enable of a port is 0 from now on (R231). -/
def egOff (s : State) (q : Nat) : State :=
  let s := setFld s (Reg.EGR_PORT_CTRL q) 0 0 0
  if (eg s q).state = 1 then setEg s q { eg s q with state := 2, drainAt := drainEnd s } else s

/-- EGRESS_PORT_ENABLE (R231). -/
def execEgressPortEnable (r : Req) (q : Nat) (s : State) : Res :=
  .next (if q > 104 then s else gatedBit s r (Reg.EGR_PORT_CTRL q) 0 (fun s => egOn s q))

/-- EGRESS_PORT_DISABLE (R231). -/
def execEgressPortDisable (r : Req) (q : Nat) (s : State) : Res :=
  .next (if q > 104 then s else gatedBit s r (Reg.EGR_PORT_CTRL q) 0 (fun s => egOff s q))

/-- EGRESS_PORT_DRAIN_COMPLETE (R231). -/
def execEgressPortDrainComplete (q : Nat) (s : State) : Res :=
  .next (if (eg s q).state = 2 ∧ copiesAt (eg s q) = [] then setEg s q { eg s q with state := 0 } else s)

/-- Copies left at a drain limit are counted, and reported once (R27, R214, R231). -/
def drainLoss (s : State) (n inst : Nat) : State :=
  if n = 0 then s else report (cntAdd s Reg.EGR_CNT_DRAIN n) Ev.EGR_DRAIN_LOSS inst 0

/-- EGRESS_PORT_DRAIN_LIMIT (R231). -/
def execEgressPortDrainLimit (q : Nat) (s : State) : Res :=
  .next (
    if (eg s q).state ≠ 2 ∨ s.tim.boundaries < (eg s q).drainAt then s
    else
      let (gone, s) := pullQueued s [q] (fun _ => true)
      drainLoss (setEg s q { eg s q with state := 0 }) gone.length q)

/-- EGR_CNT_CLEAR bit 0. -/
def execEgrCntClearGlobal (r : Req) (s : State) : Res :=
  .next (gated s r Reg.EGR_CNT_CLEAR (fun s => clearRegs s Reg.EGR_CNT_DROP Reg.EGR_CNT_REPLAY))

/-- EGR_CNT_CLEAR bit 1. -/
def execEgrCntClearPorts (r : Req) (s : State) : Res :=
  .next (gated s r Reg.EGR_CNT_CLEAR (fun s =>
    (List.range 105).foldl (fun s q => wr s (Reg.EGR_PORT_DROP q) 0#32) s))

/-- The replay of a listener ends (R215, R216): its join queue enters the class lists in index order. (DEDUCED: log 34) -/
def endReplay (s : State) (l : Nat) : State :=
  let x := lst s l
  let s := setLst s l { x with joinQ := [], replaying := false }
  let s := { s with egr := { s.egr with replays := s.egr.replays.filter (fun r => !decide (r.listener = l)), joinBusy := false } }
  x.joinQ.foldl (fun s c => placeCopy s c (fun p => decide (p.state ≠ 0))) s

/-- A replay that runs for a listener ends. -/
def stopReplay (s : State) (l : Nat) : State := if (lst s l).replaying then endReplay s l else s

/-- A command reaches a listener through EGR_LISTENER_CMD (R214). -/
def listenerGate (s : State) (r : Req) (l : Nat) (f : State → State) : State :=
  gated s r Reg.EGR_LISTENER_CMD (fun s => if l < 16384 then f s else s)

/-- LISTENER_ENABLE (R214). -/
def execListenerEnable (r : Req) (l : Nat) (s : State) : Res :=
  .next (listenerGate s r l (fun s => setLst s l { lst s l with state := 1 }))

/-- LISTENER_JOIN (R214, R215, R216): from DRAINING without replay; while four replays run it is ignored. -/
def execListenerJoin (r : Req) (l : Nat) (s : State) : Res :=
  .next (listenerGate s r l (fun s =>
    let x := lst s l
    if x.state = 2 then setLst s l { x with state := 1 }
    else if x.replaying then s
    else if s.egr.replays.length ≥ 4 then { s with egr := { s.egr with joinBusy := true } }
    else
      let p : Replay := { listener := l, upTo := lastIndex s, next := 0, since := s.tim.boundaries, skip := [] }
      let s := setLst s l { x with state := 1, replaying := true }
      { s with egr := { s.egr with replays := s.egr.replays ++ [p] } }))

/-- LISTENER_DISABLE (R214). -/
def execListenerDisable (r : Req) (l : Nat) (s : State) : Res :=
  .next (listenerGate s r l (fun s =>
    if (lst s l).state ≠ 1 then s
    else
      let s := stopReplay s l
      setLst s l { lst s l with state := 2, drainAt := drainEnd s }))

/-- The ports a listener's copies wait at. -/
def listenerPorts (s : State) (l : Nat) : List Nat := pathsOf s (lsPort s l)

/-- Whether a copy is a listener's. -/
def isFor (l : Nat) (c : Copy) : Bool := decide (c.listener = some l)

/-- A listener leaves (R214): DISABLED at once, its queued copies discarded. (DEDUCED: log 34) -/
def leaveListener (s : State) (l : Nat) : State :=
  let x := lst s l
  let s := if x.replaying then endReplay (x.joinQ.foldl freeCopy (setLst s l { x with joinQ := [] })) l else s
  let (gone, s) := pullQueued s (listenerPorts s l) (isFor l)
  let n := gone.length + x.joinQ.length
  let s := setLst s l { lst s l with state := 0 }
  if n = 0 then s else report (cntAdd s Reg.EGR_CNT_GONE n) Ev.EGR_LISTENER_GONE noInst 0

/-- LISTENER_LEAVE (R214). -/
def execListenerLeave (r : Req) (l : Nat) (s : State) : Res := .next (listenerGate s r l (fun s => leaveListener s l))

/-- LISTENER_CLEAR_COUNTERS (R214). -/
def execListenerClearCounters (r : Req) (l : Nat) (s : State) : Res :=
  .next (listenerGate s r l (fun s => setLst s l { lst s l with sent := 0 }))

/-- LISTENER_DRAIN_COMPLETE (R214). -/
def execListenerDrainComplete (l : Nat) (s : State) : Res :=
  .next (
    if (lst s l).state = 2 ∧ (listenerPorts s l).all (fun q => (copiesAt (eg s q)).all (fun c => !isFor l c)) = true then
      setLst s l { lst s l with state := 0 }
    else s)

/-- LISTENER_DRAIN_LIMIT (R214). -/
def execListenerDrainLimit (l : Nat) (s : State) : Res :=
  .next (
    if (lst s l).state ≠ 2 ∨ s.tim.boundaries < (lst s l).drainAt then s
    else
      let (gone, s) := pullQueued s (listenerPorts s l) (isFor l)
      drainLoss (setLst s l { lst s l with state := 0 }) gone.length noInst)

/-- The value the cache yields for a stream (R114, R116). -/
def lastValue (st : Stream) : Bytes :=
  if st.lvState = 2 then (if st.lvHalf then st.ovf1 else st.ovf0).take st.lvLen else st.line.take st.lvLen

/-- The next stream a replay yields (R117, R215). (DEDUCED: log 34) -/
def replayNext (s : State) (p : Replay) : Option Nat :=
  (tkeys s.stb.streams).find? (fun id =>
    let st := strm s id
    decide (p.next ≤ id ∧ (st.lvState = 1 ∨ st.lvState = 2) ∧ st.lvIndex ≤ p.upTo) && !p.skip.contains id &&
    (dsList s (strmCfg s s.tag id).dset).contains p.listener)

/-- A stream's last value as a late sentence of class 7, charged to the replay leaf (R215). (DEDUCED: log 34) -/
def replaySent (s : State) (id : Nat) : Sent × State :=
  let st := strm s id
  let key := (strmCfg s s.tag id).key
  let leaf := fld s Reg.EGR_REPLAY_CTRL 12 0
  let v := lastValue st
  let (b, s) := blkNew (bufAdd s leaf v.length) leaf v.length 1
  ({ newSent (byteAt key 1) st.lvStamp st.lvStamp key v with
       stream := id, cls := 7, node := leaf, late := true, index := st.lvIndex, blk := b, dset := (strmCfg s s.tag id).dset }, s)

/-- REPLAY_COPY (R117, R215): the next last value goes to the listener; after the last the join queue is released. -/
def execReplayCopy (l : Nat) (s : State) : Res :=
  .next (
    match s.egr.replays.find? (fun r => decide (r.listener = l)) with
    | none => s
    | some p => match replayNext s p with
      | none => endReplay s l
      | some id =>
        let on (r : Replay) : Replay := if r.listener = l then { r with next := id + 1 } else r
        let s := { s with egr := { s.egr with replays := s.egr.replays.map on } }
        let q := lsPort s l
        if q > 104 ∨ portTakes s q = false then s
        else
          let (x, s) := replaySent s id
          let s := match makeCopy s x q (some l) (lsTemplate s l) true with
            | (none, s) => s
            | (some c, s) => placeCopy s c (fun e => decide (e.state = 1))
          blkDrop s x.blk)

/-- REPLAY_LIMIT_EXPIRY (R216). -/
def execReplayLimitExpiry (l : Nat) (s : State) : Res :=
  .next (
    match s.egr.replays.find? (fun r => decide (r.listener = l)) with
    | none => s
    | some p =>
      if s.tim.boundaries - p.since ≥ max 1 (fld s Reg.EGR_REPLAY_CTRL 23 16) then endReplay (cnt s Reg.EGR_CNT_REPLAY_CUT) l
      else s)

end Sys2Proof.Machine
end

