-- ==== Sys2Proof/Machine/Voter.lean ====
section
/-! DEFINITION. Two-out-of-three voting (chapter 8): copies, windows, lane commands, voter streams. -/

namespace Sys2Proof.Machine

/-- A fetched copy is counted against its lane (R259). -/
def badCopy (s : State) (k : Nat) : State := cnt s (Reg.VOT_CNT_BAD k)

/-- Whether a leaf admits `b` more buffer bytes (Enforcement points). -/
def bufRoom (s : State) (leaf b : Nat) : Bool := decide ((nodeRt s leaf).buf + b ≤ ndQuota s leaf) && nodeOpen s leaf

/-- The voter judges a copy fetched at `t` against the tests of R259, and the window it belongs to (R263). (DEDUCED: log 39) -/
def judgeCopy (s : State) (k : Nat) (ring1 : Bool) (cy v idx : Nat) (p : Bytes) (mirror t : Nat) : State :=
  let g := strmCfg s s.tag (vsOut s v)
  let isTag (w : Window) := decide (w.vs = v ∧ w.cycle = cy ∧ w.index = idx)
  let win := s.vot.windows.find? isTag
  let st := (tget s.vot.streams v).state
  let f := fenceCycle s
  let lag := fld s Reg.VOT_CTRL 25 24
  let late (s : State) := report (cnt s (Reg.VOT_CNT_LATE k)) Ev.VOT_LATE_COPY k 0
  let isC0 := decide (g.cls = 0)
  let shared := (s.vot.windows.filter (fun w => !w.reserved)).length
  let kept := (s.vot.windows.filter (·.reserved)).length
  if (lane s k).vote = .out then badCopy s k
  else if ¬ (st = 1 ∨ (st = 2 ∧ win.isSome)) then badCopy s k
  else if ¬ (decide (vsF s v 0 18 18 = 1) = ring1) then badCopy s k
  else if p.length = 0 ∨ p.length > g.maxLen then badCopy s k
  else if idx ≥ vsF s v 0 31 24 then badCopy s k
  else if s.lni.fenced = false ∨ cy > f then badCopy s k
  else if cy + lag < f ∨ s.vot.closed.contains (v, cy, idx) then late s
  else
    match win with
    | some w =>
      if w.copies.any (fun c => decide (c.lane = k)) then badCopy s k
      else if vsMode s v = 3 ∧ w.released.isSome then s
      else if ¬ bufRoom s g.node p.length then cnt s Reg.VOT_CNT_REFUSED
      else
        let s := bufAdd s g.node p.length
        let upd (x : Window) := if isTag x then { x with copies := x.copies ++ [⟨k, p, mirror⟩] } else x
        settleVote { s with vot := { s.vot with windows := s.vot.windows.map upd } }
    | none =>
      if ¬ (shared < 1792 ∨ (isC0 = true ∧ kept < 256)) then cnt s Reg.VOT_CNT_WINDOW_FULL
      else if ¬ bufRoom s g.node p.length then cnt s Reg.VOT_CNT_REFUSED
      else
        let s := bufAdd s g.node p.length
        let w : Window := { vs := v, cycle := cy, index := idx, opened := t, copies := [⟨k, p, mirror⟩], released := none
                            reserved := isC0 && decide (kept < 256), c0 := isC0 }
        settleVote { s with vot := { s.vot with windows := s.vot.windows ++ [w] } }

/-- TX_FETCH_COMPLETE (R258, R259): the head advances, the vector and the writeback follow, and the voter judges. -/
def execTxFetchComplete (k : Nat) (ring1 : Bool) (desc payload : Bytes) (s : State) : Res :=
  .next (
    let l := lane s k
    let on := if ring1 then l.tx1 else l.tx0
    if isStandby s = true ∨ ¬ (on = true ∧ l.link = true ∧ (rd s (txTailReg k ring1)).toNat ≠ txHead s k ring1) then s
    else
      let h := (txHead s k ring1 + 1) % 2 ^ 32
      let s := setLane s k (if ring1 then { l with tx1Head := h } else { l with tx0Head := h })
      let s := cnt s (Reg.LNI_CNT_FETCHED k)
      let vec := if ring1 then 0 else 3
      let running := (tget s.moder (vecKey k ring1 vec)).running
      let s := if txMod s k = 0 ∨ running = false then writeWb s k else setLane s k { lane s k with wbDue := true }
      let s := raiseMod s k ring1 vec (txMod s k)
      let (cy, v, idx) := (leAt desc 0 8, leAt desc 8 2 % 4096, leAt desc 10 2)
      let (m, s) := mirrorRec s (.lane k ring1 cy v idx payload (now s))
      judgeCopy s k ring1 cy v idx payload m (now s))

/-- WINDOW_TIMEOUT (R263): win_us after it opened, a window closes. -/
def execWindowTimeout (v cycle index : Nat) (s : State) : Res :=
  .next (
    match s.vot.windows.find? (fun w => decide (w.vs = v ∧ w.cycle = cycle ∧ w.index = index)) with
    | some w => if since s w.opened < vsF s v 1 15 0 * usUnits then s else settleVote (closeWindow s w false)
    | none => s)

/-- LANE_OUT_CMD (R270): valid through the lane's own endpoint, or when both other guard worlds write it within one control
cycle. -/
def execLaneOutCmd (r : Req) (k : Nat) (s : State) : Res :=
  .next (gated s r Reg.VOT_LANE_CMD (fun s =>
    if k > 2 then s
    else if reqLane r = k then settleVote (setVote s k .out)
    else
      let l := lane s k
      let asks := l.outAsk.filter (fun a => decide (a.2 = fenceCycle s ∧ a.1 ≠ reqLane r))
      let s := setLane s k { l with outAsk := (reqLane r, fenceCycle s) :: asks }
      if asks ≠ [] then settleVote (setVote (setLane s k { lane s k with outAsk := [] }) k .out) else s))

/-- LANE_RETURN_CMD (R269, R270): valid through the lane's own endpoint, after a FENCE since its last GAP. -/
def execLaneReturnCmd (r : Req) (k : Nat) (s : State) : Res :=
  .next (gated s r Reg.VOT_LANE_CMD (fun s =>
    let l := lane s k
    if k > 2 ∨ reqLane r ≠ k ∨ l.fenceSinceGap = false ∨ l.vote ≠ .out then s
    else settleVote (setVote s k (if votingCount s ≥ 2 then .returning else .member))))

/-- A voter-stream command reaches its stream unless the steward gives it on a class-0 one (R45). (DEDUCED: log 68) -/
def vsGate (r : Req) (v : Nat) (s : State) (f : State → State) : State :=
  gated s r Reg.VOT_STREAM_CMD (fun s =>
    if r = .steward ∧ (strmCfg s s.tag (vsOut s v)).cls = 0 then report s Ev.CFG_SWAP_REJECT noInst 0 else f s)

/-- Change a voter stream's runtime state. -/
def modVs (s : State) (v : Nat) (f : VStream → VStream) : State :=
  { s with vot := { s.vot with streams := tmod s.vot.streams v f } }

/-- VOTER_STREAM_ENABLE (R268). -/
def execVoterStreamEnable (r : Req) (v : Nat) (s : State) : Res :=
  .next (vsGate r v s (fun s => if v < 4096 then modVs s v (fun x => { x with state := 1 }) else s))

/-- VOTER_STREAM_DISABLE (R268): DRAINING, or DISABLED at once where no window of it is open. -/
def execVoterStreamDisable (r : Req) (v : Nat) (s : State) : Res :=
  .next (vsGate r v s (fun s =>
    if (tget s.vot.streams v).state ≠ 1 then s
    else modVs s v (fun x => { x with state := 2, drainAt := drainEnd s })))

/-- VOTER_STREAM_CLEAR (R268): the stream's counters. -/
def execVoterStreamClear (r : Req) (v : Nat) (s : State) : Res :=
  .next (vsGate r v s (fun s => modVs s v (fun x => { x with released := 0, nomaj := 0 })))

/-- VOTER_STREAM_DRAIN_LIMIT (R268): open windows close without release, and the stream becomes DISABLED. (DEDUCED: log 39) -/
def execVoterStreamDrainLimit (v : Nat) (s : State) : Res :=
  .next (
    let x := tget s.vot.streams v
    if x.state ≠ 2 ∨ s.tim.boundaries < x.drainAt then s
    else
      let s := (s.vot.windows.filter (fun w => decide (w.vs = v))).foldl (fun s w => closeWindow s w true) s
      modVs s v (fun x => { x with state := 0 }))

/-- VOT_CNT_CLEAR bit 0 (R274). -/
def execVotCntClearGlobal (r : Req) (s : State) : Res :=
  .next (gated s r Reg.VOT_CNT_CLEAR (fun s => clearRegs s Reg.VOT_CNT_RELEASED Reg.VOT_CNT_DRAIN))

/-- VOT_CNT_CLEAR bit 1 (R274). -/
def execVotCntClearLanes (r : Req) (s : State) : Res :=
  .next (gated s r Reg.VOT_CNT_CLEAR (fun s => clearRegs s (Reg.VOT_CNT_MINORITY 0) (Reg.VOT_CNT_BAD 2)))

/-- VOT_CNT_CLEAR bit 2 (R274). -/
def execVotCntClearStreams (r : Req) (s : State) : Res :=
  .next (gated s r Reg.VOT_CNT_CLEAR (fun s =>
    { s with vot := { s.vot with streams := tmap (fun _ x => { x with released := 0, nomaj := 0 }) s.vot.streams } }))

end Sys2Proof.Machine
end

