-- ==== Sys2Proof/Machine/Repair.lean ====
section
/-! DEFINITION. What live repair and a region swap do to the objects of the path (R109, R110, R137, R140, R182, R206, R214, R487, R490). -/

namespace Sys2Proof.Machine

/-- The state the active set loads for a port of the ingress side (R80, R554): ENABLED where PRT_CTRL asks for it. -/
def portCfgState (s : State) (p : Nat) : Nat := if bit (rd s (Reg.PRT_CTRL p)) 0 = true ∧ portSet s p = true then 1 else 0

/-- The state the active set loads for the egress side of a port. -/
def egCfgState (s : State) (p : Nat) : Nat := b2n (bit (rd s (Reg.EGR_PORT_CTRL p)) 0)

/-- Both sides of a port take their configured states. -/
def startPort (s : State) (p : Nat) : State :=
  let s := setPort s p { port s p with state := portCfgState s p, stopAt := none }
  setEg s p { eg s p with state := egCfgState s p }

/-- A port is taken out (Live repair, kind 1): FAULTED; reception in progress, received sentences and queued copies are drain loss;
adapter, MAC and PCS are reset. (DEDUCED: log 21) -/
def portOut (s : State) (p : Nat) : State :=
  if s.cfgs.portsOut.contains p then s
  else
    let x := port s p
    let s := cntAdd s (Reg.PRT_CNT_DRAIN p) (x.buf.length + b2n x.rx.active)
    let s := setPort s p { x with state := 3, link := false, overrun := false, busOff := false, txErr := 0, rxErr := 0, buf := []
                                  rx := default, stopAt := none, pauseSent := false, mvMaster := none }
    let e := eg s p
    let cut := e.cur.toList ++ e.preempted.toList
    let s := if isEth p then cut.foldl (fun s c => emit s (.wire p c.dep c.wire false)) s else s
    let s := setEg s p { e with cur := none, preempted := none }
    let s := cut.foldl freeCopy s
    let (gone, s) := pullQueued s [p] (fun _ => true)
    let s := setEg s p { eg s p with state := 3, verify := 0, paused := false, downSince := some (now s), downHeld := false
                                     downReported := false }
    drainLoss { s with cfgs := { s.cfgs with portsOut := p :: s.cfgs.portsOut } } (gone.length + cut.length) p

/-- A port returns (Live repair, kind 1): reinitialised, its loopback slice passed, in its configured state. -/
def portReturn (s : State) (p : Nat) : State :=
  if s.cfgs.portsOut.contains p then
    startPort { s with cfgs := { s.cfgs with portsOut := s.cfgs.portsOut.filter (fun q => !decide (q = p)) } } p
  else s

/-- The ids of the entries in use in a partition. -/
def partIds (s : State) (p : Nat) : List Nat := (imageIds s.cfg).filter (fun id => decide (id / 4096 = p))

/-- A learned entry is emptied and leaves the index. -/
def forgetLearned (s : State) (id : Nat) : State := emptyLearned (removeKey s id) id

/-- A partition is taken out (R109): its entries read FAULTED; partition 15 is emptied. -/
def partitionOut (s : State) (p : Nat) : State :=
  let s := { s with stb := { s.stb with parts := s.stb.parts.modify p (fun _ => 2) } }
  if p = 15 then (tkeys s.stb.learned).foldl forgetLearned s else s

/-- A partition returns (R109): it is rewritten from the active set, and each entry is in its configured state. (DEDUCED: log 55) -/
def partitionReturn (s : State) (p : Nat) : State :=
  if s.stb.parts.getD p 0 ≠ 2 then s
  else
    let s := { s with stb := { s.stb with parts := s.stb.parts.modify p (fun _ => 1) } }
    (partIds s p).foldl (fun s id => setStrm s id { (default : Stream) with state := (imageStream s s.tag id).state }) s

/-- The key of a self-test: target and element (DGN_ST_SEL). -/
def testKey (target element : Nat) : Nat := target % 8 + 8 * (element % 32)

/-- The state of a classifier engine (STB_ENGINE_STATUS): 0 off, 1 serving, 2 spare, 3 out, 4 faulted. -/
def clsEngine (s : State) (e : Nat) : Nat := s.stb.engines.getD e 0

/-- Set the state of a classifier engine. -/
def setCls (s : State) (e c : Nat) : State := { s with stb := { s.stb with engines := s.stb.engines.modify e (fun _ => c) } }

/-- The serving classifier engines. -/
def clsServing (s : State) : List Nat := (List.range 5).filter (fun e => decide (clsEngine s e = 1))

/-- Engine `e` takes over the serving position of engine `old` (R556). (DEDUCED: log 24) -/
def takePosition (s : State) (old e : Nat) : State :=
  setCls { s with stb := { s.stb with positions := s.stb.positions.map (fun x => if x = old then e else x) } } e 1

/-- A returning classifier engine has passed its test (Live repair, kind 2): it becomes the spare, or takes a position that no serving
engine holds (R556). (DEDUCED: log 24) -/
def engineReturned (s : State) (e : Nat) : State :=
  let s := { s with stb := { s.stb with returning := s.stb.returning.filter (fun x => !decide (x = e)) } }
  match s.stb.positions.find? (fun x => decide (clsEngine s x ≠ 1)) with
  | some x => takePosition s x e
  | none => { setCls s e 2 with stb := { (setCls s e 2).stb with spare := e } }

/-- A returning bank whose test has passed becomes the spare (Live repair, kind 4). (DEDUCED: log 24) -/
def bankReturned (s : State) (b : Nat) : State := { s with cfgs := { s.cfgs with bankReturning := none, bankSpare := b } }

/-- A returning mapping engine has been tested (R181): it serves again, or stays out. -/
def mapEngineTested (s : State) (e : Nat) (pass : Bool) : State :=
  let en := engine s e
  if en.testing = false then s
  else setEngine s e { en with testing := false, state := if pass then 1 else en.state }

/-- Work of class 7 at a node is paid for in fabric time (R193, R506): none where the node is closed or lacks the credit. -/
def nodePay (s : State) (n ns : Nat) : Option State :=
  if nodeOpen s n = true ∧ (nodeRt s n).fCredit ≥ ns then some (charge s true n ns) else none

/-- Whether a word of the mapping store belongs to a program of the set in force or of a replaced set (R182). -/
def storeWordUsed (s : State) (i : Nat) : Bool :=
  let uses (t : Tab Word) : Bool := (List.range 4096).any (fun p =>
    let w := (tget t (4 * 2 ^ 20 + 524288 + 8 * p)).toNat
    decide (p ≠ 0 ∧ nbits w 17 0 ≤ i ∧ i < nbits w 17 0 + nbits w 28 18))
  uses s.cfg || s.prev.any (fun e => uses e.words)

/-- Whether a sentence tagged with one of the sets up to `tag` remains before the commit point (R487). -/
def oldTagged (s : State) (tag : Nat) : Bool :=
  let old (x : Sent) : Bool := decide (x.tag ≤ tag)
  let runs (r : Option Run) : Bool := match r with
    | some r => old r.input
    | none => false
  s.stb.classified.any old || s.flt.verifying.any (fun v => old v.2) || s.flt.filtered.any old || s.map.holds.any old ||
  s.map.cycWait.any old || s.com.intake.any old ||
  s.map.engines.any (fun e => e.2.queue.any old || runs e.2.c0 || runs e.2.sh)

/-- The SWAP mark of the lanes (R253). -/
def swapMark (s : State) (mask : Nat) : State := placeMark s 5 0 mask

/-- A learned key is placed in the index; one that finds no room leaves (R91, R102). -/
def placeLearned (s : State) (id : Nat) : State :=
  match insertKey (idDigest s) (bIndex s) (idDigest s id) id with
  | some ix => { s with stb := { s.stb with slots := ix.1, stash := ix.2 } }
  | none => retireLearned (report (cnt s Reg.STB_CNT_LEARN_FULL) Ev.STB_LEARN_FULL noInst 0) id

/-- The bucket index is built anew: the image's keys as the loader places them (R95), then the learned ones. (DEDUCED: log 55) -/
def reindex (s : State) : State :=
  let ix := (loadIndex s ((imageIds s.cfg).filter (isTalker s))).getD ([], [])
  let s := { s with stb := { s.stb with slots := ix.1, stash := ix.2 } }
  (tkeys s.stb.learned).foldl placeLearned s

/-- The stream entries after a swap (R110, R137): a key that changes or goes clears what was kept under it, and new ids take their
configured states; the index follows the keys, and is built anew where a new one finds no room. (DEDUCED: log 55) -/
def swapStreams (old s : State) : State :=
  let moved := ((imageIds old.cfg ++ imageIds s.cfg).eraseDups).filter (fun id =>
    !decide ((imageStream old old.tag id).key = (imageStream s s.tag id).key))
  let renew (s : State) (id : Nat) : State :=
    let g := imageStream s s.tag id
    let st : Stream := { (default : Stream) with state := if byteAt g.key 0 = 0 then 0 else g.state }
    clearFilterState (setStrm (removeKey s id) id st) id
  let s := moved.foldl renew s
  match moved.filter (isTalker s) with
  | [] => s
  | new => match insertAll (idDigest s) new (bIndex s) with
    | some ix => { s with stb := { s.stb with slots := ix.1, stash := ix.2 } }
    | none => reindex s

/-- The filter-set words that a swap may not change without a fresh start of the streams that name the set (R137): the F4
descriptor and change_mode. -/
def watchOf (s : State) (k : Nat) : Nat × Nat × Nat := (cw s 3 (64 * k + 24), cw s 3 (64 * k + 25), cf s 3 (64 * k) 18 17)

/-- Filter states and source groups after a swap of the filter region (R137, R140). -/
def swapFilters (old s : State) : State :=
  let moved := (List.range 1024).filter (fun k => !decide (watchOf old k = watchOf s k))
  let ids := (imageIds s.cfg ++ tkeys s.stb.learned).filter (fun id => moved.contains (strmCfg s s.tag id).fset)
  let s := ids.foldl clearFilterState s
  let groups := (tkeys s.flt.groups).filter (fun g =>
    (List.range 4).any (fun i => !decide (cw old 3 (65536 + 4 * g + i) = cw s 3 (65536 + 4 * g + i))))
  groups.foldl (fun s g => { s with flt := { s.flt with groups := tmod s.flt.groups g (fun x => { x with selected := none }) } }) s

/-- Programs and cyclic slots after a swap of the mapping region (R182, R487). -/
def swapMapping (old s : State) : State :=
  let prg (s : State) (p : Nat) : State :=
    match progLen old old.tag p, progLen s s.tag p with
    | 0, 0 => s
    | 0, _ => setProg s p { (default : Prog) with state := nbits (progWord s s.tag p 1) 1 0 }
    | _, 0 => setProg s p { prog s p with state := 0 }
    | _, _ => s
  let s := (List.range 4096).foldl prg s
  let used (s : State) (i : Nat) : Bool := decide (nbits (cycWord s i 0) 11 0 ≠ 0)
  (List.range 256).foldl (fun s i =>
    if used old i = used s i then s
    else
      let on := used s i && (cycWord s i 0).testBit 31
      { s with map := { s.map with cyc := tset s.map.cyc i { (default : CycSlot) with enabled := on } } }) s

/-- The configured rates and caps of a node. -/
def nodeRates (s : State) (n : Nat) : List Nat := [rateCfg s true n, rateCfg s false n, capCfg s true n, capCfg s false n]

/-- Nodes after a swap of the budget region (R206, R487): a changed rate replaces what was learned, and the node is PROVISIONAL. -/
def swapBudget (old s : State) : State :=
  let node (s : State) (n : Nat) : State :=
    let nd := nodeRt s n
    match ndUsed old n, ndUsed s n with
    | false, false => s
    | false, true => setNode s n { (default : Node) with state := ndF s n 0 17 16, buf := nd.buf }
    | true, false => setNode s n { nd with state := 0, fCredit := 0, eCredit := 0 }
    | true, true =>
      if nodeRates old n = nodeRates s n then s
      else setNode s n { nd with fAdapt := { (default : Adapt) with use := nd.fAdapt.use, shortNow := nd.fAdapt.shortNow }
                                 eAdapt := { (default : Adapt) with use := nd.eAdapt.use, shortNow := nd.eAdapt.shortNow }
                                 settled := false, paceMax := tget s.bgt.pace 2 }
  ((usedNodes old ++ usedNodes s).eraseDups).foldl node s

/-- Whether a record of four words holds anything. -/
def recordSet (s : State) (region at_ : Nat) : Bool := (List.range 4).any (fun i => decide (cw s region (at_ + i) ≠ 0))

/-- Listeners after a swap of the egress region (R214): one removed leaves, a new one takes its configured state. -/
def swapListeners (old s : State) : State :=
  (List.range 16384).foldl (fun s l =>
    match recordSet old 6 (32768 + 4 * l), recordSet s 6 (32768 + 4 * l) with
    | true, false => leaveListener s l
    | false, true => setLst s l { lst s l with state := nbits (lsWord s l 0) 9 8 }
    | _, _ => s) s

/-- Voter streams after a swap of their region (R487). -/
def swapVoters (old s : State) : State :=
  (List.range 4096).foldl (fun s v =>
    match recordSet old 8 (4 * v), recordSet s 8 (4 * v) with
    | true, false => modVs s v (fun x => { x with state := 0 })
    | false, true => modVs s v (fun _ => { (default : VStream) with state := vsF s v 0 19 19 })
    | _, _ => s) s

/-- Windows after a swap of the bridge region (R307, R487). -/
def swapWindows (old s : State) : State :=
  (List.range 256).foldl (fun s w =>
    if winKind old w = 0 ∧ winKind s w ≠ 0 then setWin s w { win s w with state := b2n ((winW s w 0).testBit 3) } else s) s

/-- What the swap of a region does to the objects its records describe; `old` is the state before it. (DEDUCED: log 55) -/
def swapObjects (old : State) (s : State) (region : Nat) : State :=
  match region with
  | 1 => swapStreams old s
  | 3 => swapFilters old s
  | 4 => swapMapping old s
  | 5 => swapBudget old s
  | 6 => swapListeners old s
  | 8 => swapVoters old s
  | 9 => swapWindows old s
  | _ => s

end Sys2Proof.Machine
end

