-- ==== Sys2Proof/Machine/Live.lean ====
section
/-! DEFINITION. Live change: shadow sets, deltas, validation, swaps, merges, profiles (chapter 15). -/

namespace Sys2Proof.Machine

/-- The shadow set of a region. -/
def shadow (s : State) (i : Nat) : Shadow := tget s.cfgs.shadows i

/-- The owner code of a stager (CFG_SHADOW_STATUS): 2 to 4 for the guard world of a lane, 5 for the steward. -/
def ownerOf : Req → Nat
  | .fn lane _ => 2 + lane
  | .steward => 5

/-- The 64-byte lines an overlay takes (R483). -/
def overlayLines (x : Shadow) : Nat := ((tkeys x.words).map (· / 16)).eraseDups.length + (x.pairs.length + 7) / 8

/-- The lines all overlays take. -/
def overlayUse (s : State) : Nat := (s.cfgs.shadows.map (fun e => overlayLines e.2)).sum

/-- The stream-table entries staged. -/
def stagedStreams (s : State) : Nat := ((tkeys (shadow s 1).words).map (· / 16)).eraseDups.length

/-- A shadow with a record's words or pairs written. -/
def putRec (x : Shadow) (r : DeltaRec) : Shadow :=
  if r.kind = 1 then { x with pairs := (pairsOf r.data).foldl (fun t p => tset t p.1 (some p.2)) x.pairs }
  else
    let ws := wordsOf r.data
    { x with words := ((List.range ws.length).zip ws).foldl (fun t e => tset t (r.off / 4 + e.1) (some e.2)) x.words }

/-- Whether a stager may stage a region (R483): the shadow is IDLE or already its own; a profile or a guard world takes the budget shadow
over from the steward. (DEDUCED: log 55) -/
def mayStage (x : Shadow) (owner : Nat) : Bool :=
  decide (x.state = 0) || (decide (x.owner = owner ∨ x.owner = 5) && decide (x.state = 1 ∨ x.state = 3))

/-- One record staged (R484): the state, or the reason and region it fails with. -/
def stageRec (s : State) (owner : Nat) (r : DeltaRec) : Except (Nat × Nat) State :=
  let x := shadow s r.region
  if mayStage x owner = false then .error (1, r.region)
  else if r.kind = 1 ∧ (pairsOf r.data).any (fun p => decide (mirrorRegion p.1 ≠ some r.region)) = true then .error (3, r.region)
  else
    let s := if x.owner = 5 then dropStaged s else s
    let x := { (if x.owner = owner then x else default) with state := 1, owner := owner, pending := false, perRegion := false, swapQ := 0 }
    if r.region = 4 ∧ r.kind = 0 ∧ r.off < 2097152 then
      if (List.range (r.data.length / 8 + 1)).any (fun i => decide (8 * i < r.off % 8 + r.data.length) && storeWordUsed s (r.off / 8 + i))
      then .error (2, 4)
      else
        let ws := wordsOf r.data
        let cfg := ((List.range ws.length).zip ws).foldl (fun t e => tset t (4 * 2 ^ 20 + r.off / 4 + e.1) e.2) s.cfg
        .ok { s with cfg := cfg, cfgs := { s.cfgs with shadows := tset s.cfgs.shadows 4 x } }
    else
      let s := { s with cfgs := { s.cfgs with shadows := tset s.cfgs.shadows r.region (putRec x r) } }
      if overlayUse s > 0x4000 ∨ stagedStreams s > 4096 then .error (2, r.region) else .ok s

/-- Every record of a delta staged, or the first failure. -/
def stageAll (s : State) (owner : Nat) : List DeltaRec → Except (Nat × Nat) State
  | [] => .ok s
  | r :: rs => match stageRec s owner r with
    | .ok s => stageAll s owner rs
    | .error e => .error e

/-- CFG_CMD_STATUS shows a command and its state: 1 busy, 2 done, 3 failed. -/
def cfgShow (s : State) (state code reason region : Nat) : State :=
  { s with cfgs := { s.cfgs with cmdState := state, cmdCode := code, cmdReason := reason, cmdRegion := region } }

/-- A staging or validation begins; it ends with CFG_CMD_DONE. (DEDUCED: log 55) -/
def cfgBegin (s : State) (r : Req) (code reason region : Nat) (swap : Option GlobalSwap) : State :=
  let run : CfgRun := { code := code, reason := reason, region := region, by_ := reqKey r, swap := swap }
  { cfgShow s 1 code 0 0 with cfgs := { s.cfgs with run := some run, cmdState := 1, cmdCode := code, cmdReason := 0, cmdRegion := 0 } }

/-- A command of chapter 15 ends at once: done, or failed with its reason; CFG_CMD is raised on the writer's endpoint (R550). -/
def cfgEnd (s : State) (r : Req) (code reason region : Nat) : State :=
  let s := cfgShow s (if reason = 0 then 2 else 3) code reason region
  match r with
  | .fn lane _ => raise s lane true 9
  | .steward => s

/-- STAGE_DELTA (R484): `fetched` is what PF1 of the writing endpoint fetched, none on a fetch error. -/
def execStageDelta (r : Req) (fetched : Option Bytes) (s : State) : Res :=
  .next (gated s r Reg.CFG_STAGE_CMD (fun s =>
    if s.cfgs.run.isSome then cfgEnd s r 1 1 0
    else match fetched with
      | none => cfgBegin s r 1 6 0 none
      | some d =>
        if d.length ≠ (rd s Reg.CFG_STAGE_LEN).toNat then cfgBegin s r 1 6 0 none
        else match readDelta d with
          | none => cfgBegin s r 1 3 0 none
          | some rs => match stageAll s (ownerOf r) rs with
            | .ok s => cfgBegin s r 1 0 0 none
            | .error e => cfgBegin s r 1 e.1 e.2 none))

/-- The regions whose shadow an owner holds before its swap. -/
def ownedBy (s : State) (owner : Nat) : List Nat :=
  (List.range 17).filter (fun i => decide ((shadow s i).owner = owner ∧ (shadow s i).state ≠ 0 ∧ (shadow s i).state ≠ 4))

/-- The configuration words of a region with its overlay over them (R483). -/
def overlaid (s : State) (region : Nat) : Tab Word :=
  (shadow s region).words.foldl (fun t e => match e.2 with
    | some w => tset t (region * 2 ^ 20 + e.1) w
    | none => t) s.cfg

/-- What the sets would be with the given regions swapped: what validation looks at (R485). -/
def asIfSwapped (s : State) (regions : List Nat) : State :=
  regions.foldl (fun s i =>
    (shadow s i).pairs.foldl (fun s e => match e.2 with
      | some w => wr s e.1 w
      | none => s) { s with cfg := overlaid s i }) s

/-- Change the state of some shadows. -/
def setShadows (s : State) (regions : List Nat) (f : Shadow → Shadow) : State :=
  { s with cfgs := { s.cfgs with shadows := regions.foldl (fun t i => tmod t i f) s.cfgs.shadows } }

/-- Whether a swap of a region can touch class 0 (R485): the check of R200 reads these. -/
def touchesZero (i : Nat) : Bool := [0, 1, 2, 4, 5, 6, 8, 11].contains i

/-- The first region that fails its owning chapter's rules, or the admission check (R485). -/
def firstBad (s : State) (regions : List Nat) : Option Nat :=
  let t := asIfSwapped s regions
  match regions.find? (fun i => !regionOk t i) with
  | some i => some i
  | none => match regions.find? touchesZero with
    | some i => if admissionOk t then none else some i
    | none => none

/-- Shadows under validation (R485): VALIDATING until CFG_CMD_DONE, which makes them READY, or IDLE where a region fails. -/
def beginValidate (s : State) (r : Req) (code owner : Nat) (swap : Option GlobalSwap) : State :=
  let regions := ownedBy s owner
  let bad := firstBad s regions
  let s := setShadows s regions (fun x => { x with state := 2, pending := false, perRegion := false, swapQ := 0 })
  match bad with
  | none => cfgBegin s r code 0 0 swap
  | some i => cfgBegin s r code 3 i swap

/-- VALIDATE_SHADOWS (R485). -/
def execValidateShadows (r : Req) (s : State) : Res :=
  .next (gated s r Reg.CFG_STAGE_CMD (fun s =>
    if s.cfgs.run.isSome then cfgEnd s r 2 1 0
    else if ownedBy s (ownerOf r) = [] then cfgEnd s r 2 7 0 else beginValidate s r 2 (ownerOf r) none))

/-- DISCARD_SHADOWS (R484): not those under validation, which CFG_CMD_DONE decides. -/
def execDiscardShadows (r : Req) (s : State) : Res :=
  .next (gated s r Reg.CFG_STAGE_CMD (fun s =>
    setShadows s ((ownedBy s (ownerOf r)).filter (fun i => decide ((shadow s i).state ≠ 2))) (fun _ => default)))

/-- Whether an overlay changes field [hi:lo] of a register. -/
def pairMoves (s : State) (x : Shadow) (off hi lo : Nat) : Bool :=
  match tget x.pairs off with
  | some w => decide (bits w hi lo ≠ fld s off hi lo)
  | none => false

/-- Whether an overlay changes bits [hi:lo] of a data word. -/
def wordMoves (s : State) (region : Nat) (x : Shadow) (i hi lo : Nat) : Bool :=
  match tget x.words i with
  | some w => decide (bits w hi lo ≠ cf s region i hi lo)
  | none => false

/-- Whether an overlay changes the kind, port or target of a window that is not DISABLED (R307). -/
def bridgeForbidden (s : State) (x : Shadow) : Bool :=
  (List.range 256).any (fun w => decide ((win s w).state ≠ 0) &&
    (wordMoves s 9 x (8 * w) 2 0 || wordMoves s 9 x (8 * w + 1) 6 0 || wordMoves s 9 x (8 * w + 2) 31 0))

/-- Whether an overlay changes more of the key policy than attributes (Regions, R411). -/
def keyForbidden (s : State) (x : Shadow) : Bool :=
  x.words.any (fun e => decide (e.1 ≥ 4096 ∨ e.1 % 16 ≠ 0) && wordMoves s 13 x e.1 31 0) ||
  x.pairs.any (fun e => pairMoves s x e.1 31 0)

/-- Whether a region's shadow changes what may not be swapped (R87, R307, R439, Regions). (DEDUCED: log 55) -/
def forbidden (s : State) (i : Nat) : Bool :=
  let x := shadow s i
  neverSwaps i ||
  (decide (i = 1) && (pairMoves s x Reg.STB_HASH_SEED_LO 31 0 || pairMoves s x Reg.STB_HASH_SEED_HI 31 0)) ||
  (decide (i = 11) && (pairMoves s x Reg.TIM_PERIOD 31 0 || pairMoves s x Reg.TIM_CTRL 1 1)) ||
  (decide (i = 12) && pairMoves s x Reg.RED_CONFIG 27 19) || (decide (i = 9) && bridgeForbidden s x) ||
  (decide (i = 13) && keyForbidden s x)

/-- A failed swap (R487): reported and counted. (DEDUCED: log 55) -/
def swapReject (s : State) : State := cnt (report s Ev.CFG_SWAP_REJECT noInst 0) Reg.CFG_CNT_REJECT

/-- The swap Q of the registers. -/
def swapQReg (s : State) : Nat := addr64 s Reg.CFG_SWAP_Q_LO Reg.CFG_SWAP_Q_HI

/-- Whether a swap Q has passed: a command that comes with boundary Q counts as after it (R486). -/
def swapLate (s : State) (q : Nat) : Bool := decide (q ≠ 0 ∧ q ≤ s.tim.q)

/-- SWAP_GLOBAL (R486). -/
def execSwapGlobal (r : Req) (s : State) : Res :=
  .next (gated s r Reg.CFG_SWAP_CMD (fun s =>
    let g : GlobalSwap := { mask := fld s Reg.CFG_SWAP_MASK 16 0, q := swapQReg s, profile := none }
    match (maskRegions g.mask).find? (forbidden s) with
    | some i => cfgEnd (swapReject s) r 3 5 i
    | none =>
      if swapLate s g.q then cfgEnd (swapReject s) r 3 4 0
      else cfgEnd { s with cfgs := { s.cfgs with swaps := s.cfgs.swaps ++ [g] } } r 3 0 0))

/-- SWAP_PER_REGION (R486). -/
def execSwapPerRegion (r : Req) (s : State) : Res :=
  .next (gated s r Reg.CFG_SWAP_CMD (fun s =>
    let regions := maskRegions (fld s Reg.CFG_SWAP_MASK 16 0)
    match regions.find? (forbidden s) with
    | some i => cfgEnd (swapReject s) r 3 5 i
    | none => cfgEnd (setShadows s regions (fun x => { x with pending := true, perRegion := true, swapQ := swapQReg s })) r 3 0 0))

/-- SWAP_CANCEL (R486): pending swaps are withdrawn, the shadows stay READY. -/
def execSwapCancel (r : Req) (s : State) : Res :=
  .next (gated s r Reg.CFG_SWAP_CMD (fun s =>
    let s := setShadows s ((tkeys s.cfgs.shadows).filter (fun i => decide ((shadow s i).owner ≠ 5)))
      (fun x => { x with pending := false, perRegion := false, swapQ := 0 })
    cfgEnd { s with cfgs := { s.cfgs with swaps := [] } } r 3 0 0))

/-- The record of a profile in the DRAM copy of the image (R477, R489). -/
def profileRec (s : State) (n : Nat) : Option Bytes := (profileRecords s.cfgs.image).find? (fun x => decide (byteAt x 0 = n))

/-- PROFILE_STAGE_SWAP (R489): the profile's delta is staged from the DRAM copy, validated, and swapped globally over its regions at
CFG_SWAP_Q once CFG_CMD_DONE has made its shadows READY. -/
def execProfileStageSwap (r : Req) (n : Nat) (s : State) : Res :=
  .next (gated s r Reg.CFG_PROFILE_CMD (fun s =>
    if s.cfgs.run.isSome then cfgEnd s r 4 1 0
    else match profileRec s (n % 8) with
      | none => cfgEnd s r 4 3 0
      | some p => match readDelta (slice s.cfgs.image (leAt p 4 4) (leAt p 8 4)) with
        | none => cfgEnd s r 4 3 0
        | some rs => match stageAll s 1 rs with
          | .error e => cfgBegin s r 4 e.1 e.2 none
          | .ok t =>
            let g : GlobalSwap := { mask := leAt p 24 4, q := swapQReg s, profile := some (n % 8) }
            match (maskRegions g.mask).find? (forbidden t) with
            | some i => cfgEnd (swapReject (setShadows t (ownedBy t 1) (fun _ => default))) r 4 5 i
            | none => beginValidate t r 4 1 (some g)))

/-- A staging or validation ends (R485, R486, R489): its shadows are READY, or IDLE again; a profile's swap is issued. -/
def cfgFinish (s : State) (g : CfgRun) : State :=
  let ok := decide (g.reason = 0)
  let checked := (List.range 17).filter (fun i => decide ((shadow s i).state = 2))
  let s := { s with cfgs := { s.cfgs with run := none } }
  let s := setShadows s checked (fun x => if ok then { x with state := 3 } else default)
  let s := if g.reason = 3 ∧ g.code ≠ 1 then cnt (report s Ev.CFG_REGION_INVALID noInst g.region) Reg.CFG_CNT_INVALID else s
  let s := if ok = false ∧ g.code = 4 then setShadows s (ownedBy s 1) (fun _ => default) else s
  match ok, g.swap with
  | true, some w =>
    if swapLate s w.q then cfgShow (swapReject s) 3 g.code 4 0
    else cfgShow { s with cfgs := { s.cfgs with swaps := s.cfgs.swaps ++ [w] } } 2 g.code 0 0
  | _, _ => cfgShow s (if ok then 2 else 3) g.code g.reason g.region

/-- CFG_CMD_DONE (R485, R550). -/
def execCfgCmdDone (s : State) : Res :=
  .next (match s.cfgs.run with
    | none => s
    | some g => let s := cfgFinish s g
                if g.by_ < 6 then raise s (g.by_ / 2) true 9 else s)

/-- A control pair takes effect at a swap (R52, R80, R231, R325, R547): PRT_MODE only for a DISABLED port, a trigger's record only while it
is disarmed; an enable bit acts as a write of it. (DEDUCED: log 55) -/
def swapPair (s : State) (off : Nat) (w : Word) : State :=
  let prt := decide (0x20000 ≤ off ∧ off < 0x21A40)
  let p := (off - 0x20000) / 0x40
  let o := off % 0x40
  let trg := decide (0xE0100 ≤ off ∧ off < 0xE0900)
  let t := (off - 0xE0100) / 0x20
  let egr := decide (0xA0100 ≤ off ∧ off < 0xA0790)
  let q := (off - 0xA0100) / 0x10
  if prt = true ∧ o = 0 then (if bit w 0 then portOn (wr s off w) p else portOff (wr s off w) p)
  else if prt = true ∧ o = 8 then (if (port s p).state = 0 then wr s off w else s)
  else if prt = true ∧ o = 0x20 then
    let s := setPort s p { port s p with compPast := (now s, fld s off 15 0) :: (port s p).compPast }
    wr s off w
  else if off = Reg.CDB_CHB_COMP then
    wr { s with cdb := { s.cdb with chbPast := (now s, fld s off 15 0) :: s.cdb.chbPast } } off w
  else if egr = true ∧ off % 0x10 = 0 then
    let was := bit (rd s off) 1
    let s := if bit w 0 then egOn (wr s off w) q else egOff (wr s off w) q
    if was = bit w 1 then s else setEg s q { eg s q with verify := if bit w 1 = true ∧ (port s q).link = true then 1 else 0 }
  else if trg = true ∧ off % 0x20 = 0x18 then (if bit w 0 = true ∧ (trig s t).armed = false then armTrig s t else s)
  else if trg = true ∧ (trig s t).armed = true then s
  else wr s off w

/-- Recognition after a swap of the redundancy region (R371, R380): under SELF nothing is mirrored and no unit shadows. (DEDUCED: log 52) -/
def swapRecognition (s : State) : State :=
  if bit (rd s Reg.RED_CONFIG) 0 then s
  else leaveShadow { s with red := { s.red with mirroring := false, mirrorQ := [] } }

/-- A region's overlay goes live (R483, R487, R547). -/
def applyShadow (s : State) (region : Nat) : State :=
  let x := shadow s region
  let s := { s with cfg := overlaid s region }
  x.pairs.foldl (fun s e => match e.2 with
    | some w => swapPair s e.1 w
    | none => s) s

/-- The steward's changes of rates go live (R205). -/
def applyAdapt (s : State) : State :=
  (adaptiveNodes s).foldl (fun s n => adaptApply (adaptApply s true n) false n) s

/-- The named regions swap at a boundary (R14, R253, R487): their overlays go live in one step, sentences tagged before keep the set
before. -/
def swapRegions (s : State) (regions : List Nat) (profile : Option Nat) : State :=
  let old := s
  let steward := decide (5 ∈ regions ∧ (shadow s 5).owner = 5)
  let s := regions.foldl applyShadow s
  let s := if regions = [] then s
    else { s with prev := s.prev ++ [{ tag := old.tag, since := s.tim.boundaries, words := old.cfg }], tag := old.tag + 1 }
  let s := regions.foldl (swapObjects old) s
  let s := if steward then applyAdapt s else s
  let s := if 12 ∈ regions then swapRecognition s else s
  let mask := regions.foldl (fun m i => m ||| 2 ^ i) 0
  let s := setShadows s regions (fun x => { x with state := 4, pending := false, perRegion := false, swapQ := 0, mergeSince := s.tim.boundaries })
  let prof := if profile.isSome then profile else s.cfgs.profile
  let s := { s with cfgs := { s.cfgs with lastSwapQ := s.tim.q, lastSwapMask := mask, profile := prof } }
  cnt (report (swapMark s mask) Ev.CFG_SWAP_DONE noInst mask) Reg.CFG_CNT_SWAP

/-- What a boundary makes of the global swaps in the order they were issued (R486): the regions and profile that swap, those that wait,
and the state after rejections. (DEDUCED: log 55) -/
def dueGlobals : List GlobalSwap → List Nat → Option Nat → Bool → State → List Nat × Option Nat × Bool × State
  | [], regions, prof, any, s => (regions, prof, any, s)
  | g :: t, regions, prof, any, s =>
    let rs := maskRegions g.mask
    let ready := rs.all (fun i => decide ((shadow s i).state = 3) && !regions.contains i)
    if ready = true ∧ (g.q = 0 ∨ g.q = s.tim.q) then
      match rs.find? (forbidden s) with
      | some i => dueGlobals t regions prof any (cfgShow (swapReject s) 3 3 5 i)
      | none => dueGlobals t (regions ++ rs) (g.profile.orElse (fun _ => prof)) true s
    else if g.q = 0 ∨ s.tim.q < g.q then
      dueGlobals t regions prof any { s with cfgs := { s.cfgs with swaps := s.cfgs.swaps ++ [g] } }
    else dueGlobals t regions prof any (cfgShow (swapReject s) 3 3 4 0)

/-- The regions that swap one by one at a boundary (R486). -/
def duePerRegion (s : State) (taken : List Nat) : List Nat :=
  (List.range 17).filter (fun i =>
    let x := shadow s i
    x.pending && x.perRegion && decide (x.state = 3 ∧ x.swapQ ≤ s.tim.q) && !taken.contains i && !forbidden s i)

/-- REGION_SWAP (R486, R487): what a boundary does for the pending swaps. -/
def regionSwap (s : State) : State :=
  let (regions, prof, any, s) := dueGlobals s.cfgs.swaps [] none false { s with cfgs := { s.cfgs with swaps := [] } }
  let single := duePerRegion s regions
  if any = false ∧ single = [] then s else swapRegions s (regions ++ single) prof

/-- The boundary of the earliest swap whose merge has not ended. (DEDUCED: log 55) -/
def mergeFront (s : State) : Option Nat :=
  ((List.range 17).filter (fun i => decide ((shadow s i).state = 4))).foldl (fun m i => match m with
    | none => some (shadow s i).mergeSince
    | some t => some (min t (shadow s i).mergeSince)) none

/-- MERGE_START (R487): no sentence tagged with a set before the swap remains before commit, or two periods have passed. -/
def execMergeStart (s : State) : Res :=
  .next (match mergeFront s with
    | none => s
    | some t =>
      let before := s.prev.filter (fun e => decide (e.since ≤ t))
      let clear := before.all (fun e => !oldTagged s e.tag)
      if s.cfgs.mergeBegun = true ∨ (clear = false ∧ s.tim.boundaries < t + 2) then s
      else { s with prev := s.prev.filter (fun e => decide (t < e.since)), cfgs := { s.cfgs with mergeBegun := true } })

/-- MERGE_DONE (R487): the shadows of the swap that has been merged return to IDLE. -/
def execMergeDone (s : State) : Res :=
  .next (match mergeFront s with
    | none => s
    | some t =>
      if s.cfgs.mergeBegun = false then s
      else
        let done := (List.range 17).filter (fun i => decide ((shadow s i).state = 4 ∧ (shadow s i).mergeSince = t))
        let s := setShadows s done (fun _ => default)
        { s with cfgs := { s.cfgs with mergeBegun := false } })

/-- CFG_CNT_CLEAR (R493). -/
def execCfgCntClear (r : Req) (s : State) : Res :=
  .next (gated s r Reg.CFG_CNT_CLEAR (fun s => clearRegs s Reg.CFG_CNT_SWAP Reg.CFG_CNT_INVALID))

end Sys2Proof.Machine
end

