-- ==== Sys2Proof/Machine/Service.lean ====
section
/-! DEFINITION. Live repair (R490) and the writing of the NVM (R492) of chapter 15. -/

namespace Sys2Proof.Machine

/-- A repair command (R490): done, or failed where its object does not exist (INVALID) or is not ready (NOT_READY). (DEDUCED: log 24) -/
def repair (s : State) (r : Req) (there : Bool) (act : State → Option State) : State :=
  gated s r Reg.CFG_REPAIR_CMD (fun s =>
    if there = false then cfgEnd s r 5 3 0
    else match act s with
      | some s => cfgEnd s r 5 0 0
      | none => cfgEnd s r 5 7 0)

/-- REPAIR_PORT_OUT (Live repair, kind 1). -/
def execRepairPortOut (r : Req) (p : Nat) (s : State) : Res :=
  .next (repair s r (decide (p ≤ 104)) (fun s => some (portOut s p)))

/-- REPAIR_PORT_RETURN (Live repair, kind 1). -/
def execRepairPortReturn (r : Req) (p : Nat) (s : State) : Res :=
  .next (repair s r (decide (p ≤ 104)) (fun s => some (portReturn s p)))

/-- A classifier engine is taken out (Live repair, kind 2): the spare takes its position at once; with no spare the others share its
ports; the last one serving stays. -/
def classifierOut (s : State) (e : Nat) : Option State :=
  if clsEngine s e ≠ 1 then some (setCls s e 3)
  else if clsEngine s s.stb.spare = 2 then
    let k := testKey 0 s.stb.spare
    let s := { s with dgn := { s.dgn with tests := tmod s.dgn.tests k (fun x => { x with state := 0, progress := 0 }) } }
    some (setCls (takePosition s e s.stb.spare) e 3)
  else if (clsServing s).length ≤ 1 then none
  else some (setCls s e 3)

/-- REPAIR_CLASSIFIER_OUT (Live repair, kind 2). -/
def execRepairClassifierOut (r : Req) (e : Nat) (s : State) : Res :=
  .next (repair s r (decide (e ≤ 4)) (fun s => classifierOut s e))

/-- REPAIR_CLASSIFIER_RETURN (Live repair, kind 2): the engine is tested; a pass returns it. -/
def execRepairClassifierReturn (r : Req) (e : Nat) (s : State) : Res :=
  .next (repair s r (decide (e ≤ 4)) (fun s =>
    some (if clsEngine s e = 3 ∨ clsEngine s e = 4 then { s with stb := { s.stb with returning := e :: s.stb.returning } } else s)))

/-- REPAIR_PARTITION_OUT (Live repair, kind 3). -/
def execRepairPartitionOut (r : Req) (p : Nat) (s : State) : Res :=
  .next (repair s r (decide (p ≤ 15)) (fun s => some (partitionOut s p)))

/-- REPAIR_PARTITION_RETURN (Live repair, kind 3). -/
def execRepairPartitionReturn (r : Req) (p : Nat) (s : State) : Res :=
  .next (repair s r (decide (p ≤ 15)) (fun s => some (partitionReturn s p)))

/-- A bank is taken out (Live repair, kind 4): the spare itself at once; a serving one once its copy to the spare ends. (DEDUCED: log 24) -/
def bankOut (s : State) (b : Nat) : Option State :=
  let sp := s.cfgs.bankSpare
  if sp > 16 ∨ s.cfgs.bankCopy.isSome = true then none
  else if b = sp then some { s with cfgs := { s.cfgs with bankSpare := 31 } }
  else if s.cfgs.bankServing.testBit b then some { s with cfgs := { s.cfgs with bankCopy := some (b, sp), bankCopyRepair := true } }
  else none

/-- REPAIR_BANK_OUT (Live repair, kind 4). -/
def execRepairBankOut (r : Req) (b : Nat) (s : State) : Res :=
  .next (repair s r (decide (b ≤ 16)) (fun s => bankOut s b))

/-- REPAIR_BANK_RETURN (Live repair, kind 4): the bank is tested, and becomes the spare when a slice passes. -/
def execRepairBankReturn (r : Req) (b : Nat) (s : State) : Res :=
  .next (repair s r (decide (b ≤ 16)) (fun s =>
    some (if s.cfgs.bankServing.testBit b = true ∨ s.cfgs.bankSpare = b then s
      else { s with cfgs := { s.cfgs with bankReturning := some b } })))

/-- The physical bank of a logical one. -/
def bankOf (s : State) (l : Nat) : Nat := if tget s.cfgs.bankMap l = 0 then l else tget s.cfgs.bankMap l - 1

/-- The logical banks of one physical bank move to another in one step. -/
def bankMove (s : State) (a b : Nat) : State :=
  let mine := (List.range 16).filter (fun l => decide (bankOf s l = a))
  { s with cfgs := { s.cfgs with bankServing := s.cfgs.bankServing ^^^ 2 ^ a ||| 2 ^ b
                                 bankMap := mine.foldl (fun t l => tset t l (b + 1)) s.cfgs.bankMap } }

/-- BANK_REMAP_DONE (Live repair, kind 4, R507): the copy ends and the logical bank is remapped; in a rotation the bank left becomes the
spare, after a take-out there is none. (DEDUCED: log 65) -/
def execBankRemapDone (s : State) : Res :=
  .next (match s.cfgs.bankCopy with
    | none => s
    | some (a, b) =>
      let s := bankMove s a b
      { s with cfgs := { s.cfgs with bankCopy := none, bankSpare := if s.cfgs.bankCopyRepair then 31 else a, bankCopyRepair := false } })

/-- REPAIR_MAP_ENGINE_OUT (Live repair, kind 5, R181). -/
def execRepairMapEngineOut (r : Req) (e : Nat) (s : State) : Res :=
  .next (repair s r (decide (e ≤ 15)) (fun s => some (engineOut s e)))

/-- REPAIR_MAP_ENGINE_RETURN (Live repair, kind 5, R181). -/
def execRepairMapEngineReturn (r : Req) (e : Nat) (s : State) : Res :=
  .next (repair s r (decide (e ≤ 15)) (fun s => some (engineBack s e)))

/-- A repair of a budget subtree (R195, R490): the steward's on a class-0 node is discarded (R45). (DEDUCED: log 68) -/
def repairNode (s : State) (r : Req) (n : Nat) (act : State → State) : State :=
  if r = .steward ∧ ndUsed s n = true ∧ ndClass s n = 0 then gated s r Reg.CFG_REPAIR_CMD (fun s => report s Ev.CFG_SWAP_REJECT noInst 0)
  else repair s r (decide (1 ≤ n ∧ n ≤ 8191) && ndUsed s n) (fun s => some (act s))

/-- REPAIR_SUBTREE_OUT (Live repair, kind 6). -/
def execRepairSubtreeOut (r : Req) (n : Nat) (s : State) : Res := .next (repairNode s r n (fun s => nodeOut s n))

/-- REPAIR_SUBTREE_RETURN (Live repair, kind 6). -/
def execRepairSubtreeReturn (r : Req) (n : Nat) (s : State) : Res := .next (repairNode s r n (fun s => nodeReturn s n))

/-- What a byte of the NVM that nothing has written reads as: erased. (PRESUMED: log 5) -/
def nvmErased (_ : Nat) : Byte := 0xFF#8

/-- Bytes of the NVM; an erased byte reads 0xFF. (PRESUMED: log 5) -/
def nvmByte (s : State) (a : Nat) : Byte := tgetD nvmErased s.nvm a

/-- `n` bytes of the NVM from an address. -/
def nvmBytes (s : State) (a : Nat) : Nat → Bytes
  | 0 => []
  | n + 1 => nvmByte s a :: nvmBytes s (a + 1) n

/-- Offset and length of slot 0 A, 1 B, 2 GOLDEN in a directory (R470). -/
def dirSlot (d : Bytes) (x : Nat) : Nat × Nat := (leAt d (8 + 8 * x) 4, leAt d (12 + 8 * x) 4)

/-- Whether the ranges [a, a + n) and [b, b + m) meet. -/
def rangesMeet (a n b m : Nat) : Bool := decide (a < b + m ∧ b < a + n)

/-- Whether the bytes [a, a + n) meet slot `x` of the directory the start has read. (DEDUCED: log 56) -/
def meetsSlot (s : State) (x a n : Nat) : Bool :=
  !s.cfgs.dir.isEmpty && rangesMeet a n (dirSlot s.cfgs.dir x).1 (dirSlot s.cfgs.dir x).2

/-- Whether an NVM command on [a, a + n) is refused as PROTECTED (R492). (DEDUCED: log 56) -/
def nvmProtected (s : State) (a n : Nat) : Bool :=
  (decide (s.cfgs.slotUsed < 3) && meetsSlot s s.cfgs.slotUsed a n) ||
  (decide (s.vault.lc ≥ 2) && (rangesMeet a n 0 64 || rangesMeet a n 0x10000 64 || meetsSlot s 2 a n))

/-- CFG_NVM_STATUS shows a command that has ended; CFG_NVM is raised (R550). -/
def nvmEnd (s : State) (by_ reason : Nat) : State :=
  let s := { s with cfgs := { s.cfgs with nvmState := if reason = 0 then 2 else 3, nvmReason := reason } }
  if by_ < 6 then raise s (by_ / 2) true 10 else s

/-- The image record is cleared by an erase or program inside the slot it names (R480). -/
def nvmTouch (s : State) (a n : Nat) : State :=
  match s.aon.imageRecord with
  | some (_, x) => if meetsSlot s x a n then clearImageRecord s else s
  | none => s

/-- An NVM command of `n` bytes at `a` starts (R492): refused where another runs, where it is out of range or protected. (DEDUCED: log 56) -/
def nvmStart (s : State) (r : Req) (op : NvmOp) (a n : Nat) (touches : Bool) : State :=
  if s.cfgs.nvmRun.isSome then nvmEnd s (reqKey r) 4
  else if n = 0 ∨ a + n > 2 ^ 32 then nvmEnd s (reqKey r) 2
  else if nvmProtected s a n then nvmEnd s (reqKey r) 1
  else
    let s := if touches then nvmTouch s a n else s
    { s with cfgs := { s.cfgs with nvmState := 1, nvmReason := 0, nvmRun := some { op := op, addr := a, by_ := reqKey r } } }

/-- NVM_ERASE (R492): the 64 KiB sector at CFG_NVM_ADDR. -/
def execNvmErase (r : Req) (s : State) : Res :=
  .next (gated s r Reg.CFG_NVM_CMD (fun s =>
    nvmStart s r .erase ((rd s Reg.CFG_NVM_ADDR).toNat / 0x10000 * 0x10000) 0x10000 true))

/-- The length of a program or read, 0 where it is out of range. -/
def nvmLen (n : Nat) : Nat := if n ≤ 4096 then n else 0

/-- NVM_PROGRAM (R492): 1 to 4,096 bytes of the writing lane's memory. -/
def execNvmProgram (r : Req) (data : Bytes) (s : State) : Res :=
  .next (gated s r Reg.CFG_NVM_CMD (fun s =>
    nvmStart s r (.program data) (rd s Reg.CFG_NVM_ADDR).toNat (nvmLen data.length) true))

/-- NVM_READ (R492): bytes back into lane memory. -/
def execNvmRead (r : Req) (len : Nat) (s : State) : Res :=
  .next (gated s r Reg.CFG_NVM_CMD (fun s =>
    nvmStart s r (.read len (addr64 s Reg.CFG_NVM_SRC_LO Reg.CFG_NVM_SRC_HI)) (rd s Reg.CFG_NVM_ADDR).toNat (nvmLen len) false))

/-- Write bytes into the NVM. -/
def nvmWrite (s : State) (a : Nat) (bs : Bytes) : State :=
  { s with nvm := ((List.range bs.length).zip bs).foldl (fun t e => tsetD nvmErased t (a + e.1) e.2) s.nvm }

/-- Bytes that nothing constrains. (DEDUCED: log 56) -/
def freeBytes (s : State) (n : Nat) : Bytes × State :=
  ((List.range n).map (fun i => BitVec.ofNat 8 (Config.freeNat (s.free + i))), { s with free := s.free + n })

/-- What a completed NVM operation has done (R492). (DEDUCED: log 56) -/
def nvmApply (s : State) (g : NvmRun) : State :=
  match g.op with
  | .erase => { s with nvm := tfilter (fun k _ => decide (k < g.addr ∨ g.addr + 0x10000 ≤ k)) s.nvm }
  | .program data => nvmWrite s g.addr data
  | .read len dst => emit s (.lane (g.by_ / 2) dst (nvmBytes s g.addr len))

/-- What a failed NVM operation leaves: the bytes it was to change hold values nothing states. -/
def nvmBroken (s : State) (g : NvmRun) : State :=
  match g.op with
  | .erase => let (bs, s) := freeBytes s 0x10000
              nvmWrite s g.addr bs
  | .program data => let (bs, s) := freeBytes s data.length
                     nvmWrite s g.addr bs
  | .read _ _ => s

/-- NVM_OP_DONE (R492): the device has ended the operation, or failed it (DEVICE). -/
def execNvmOpDone (ok : Bool) (s : State) : Res :=
  .next (match s.cfgs.nvmRun with
    | none => s
    | some g =>
      let s := { s with cfgs := { s.cfgs with nvmRun := none } }
      if ok then nvmEnd (nvmApply s g) g.by_ 0 else nvmEnd (nvmBroken s g) g.by_ 3)

end Sys2Proof.Machine
end

