-- ==== Sys2Proof/Machine/Diag.lean ====
section
/-! DEFINITION. Diagnostics: watchdogs, the error journal's writer and clears, self-tests, rotation, snapshots, scrubbing,
temperature, the steward's own faults (chapters 16 and 1). -/

namespace Sys2Proof.Machine

/-- Whether a survey queue number names a crossing queue of an island (R511). -/
def queueIsland (q : Nat) : Bool := decide (1 ≤ q ∧ q ≤ 0x70) || decide (0x200 ≤ q ∧ q ≤ 0x26F) || decide (q ≥ 0x300)

/-- The domain of a port's crossing queue: NET for Ethernet ports, BUF for JN, STW for the steward, FAB for the bridge, else FLD. -/
def portDomain (i : Nat) : Nat :=
  if 84 ≤ i ∧ i < 104 then 13 else if i = 109 then 12 else if i = 110 then 6 else if i = 111 then 7 else 14

/-- The power domain of a survey queue number (R511, R516); none where the table assigns none. -/
def queueDomain (q : Nat) : Option Nat :=
  if 1 ≤ q ∧ q ≤ 0x70 then
    (if q - 1 ≤ 104 ∨ q - 1 = 110 ∨ q - 1 = 111 then some (portDomain (q - 1)) else none)
  else if q = 0x100 ∨ q = 0x101 then some 8
  else if 0x110 ≤ q ∧ q ≤ 0x11F then some 9
  else if q = 0x120 ∨ (0x130 ≤ q ∧ q ≤ 0x137) ∨ q = 0x150 then some 7
  else if 0x140 ≤ q ∧ q ≤ 0x144 then some 8
  else if q = 0x151 then some 10
  else if q = 0x152 then some 8
  else if q = 0x153 then some 2
  else if q = 0x154 then some 6
  else if 0x200 ≤ q ∧ q ≤ 0x26F then
    (if q - 0x200 ≤ 104 ∨ q - 0x200 = 109 then some (portDomain (q - 0x200)) else none)
  else if 0x280 ≤ q ∧ q ≤ 0x282 then some 7
  else if q = 0x300 then some 3 else if q = 0x301 then some 12 else if q = 0x302 then some 6
  else if q = 0x303 then some 5 else if q = 0x304 then some 4
  else if 0x310 ≤ q ∧ q ≤ 0x315 then some 15
  else if 0x320 ≤ q ∧ q ≤ 0x331 then some 7
  else none

/-- DEV_STALL at a queue (R34, R37, R39): every expiry is counted, the site of the first is latched. -/
def stall (s : State) (q : Nat) : State :=
  let r := Reg.DEV_STALL_SITE
  let s := if fld s r 15 0 = 0 then
      setFld (setFld (setFld s r 15 0 q) r 22 16 ((queueDomain q).getD 0)) r 23 23 (b2n (queueIsland q))
    else s
  let s := setFld s r 31 24 (min 255 (fld s r 31 24 + 1))
  report s Ev.DEV_STALL q 0

/-- The spare classifier engine, or the spare bank, goes out of rotation (R36, R506). -/
def spareFails (s : State) (bank : Bool) (detail : Nat) : State :=
  let s := if bank then { s with cfgs := { s.cfgs with bankSpare := 31 } }
    else if clsEngine s s.stb.spare = 2 then setCls s s.stb.spare 4 else s
  report s Ev.DGN_SELFTEST_FAIL noInst detail

/-- WATCHDOG_EXPIRY (R34 to R37): the watchdog of queue `q` reaches its limit; on the spare under test it is a self-test failure. -/
def execWatchdogExpiry (q : Nat) (onSpare : Bool) (s : State) : Res :=
  .next (match queueDomain q with
    | none => s
    | some d => if domainOn s d = false then s else if onSpare then spareFails s false q else stall s q)

/-- Where the writer puts a record (R501, R502), with the area pointers after it; none where the areas it may use are frozen. -/
def recordPlace (s : State) (sev : Nat) : Option (Nat × Dgn) :=
  let d := s.dgn
  let frozen := ejFrozen s
  if d.nextSeq < 512 ∧ frozen = false then some (d.nextSeq, d)
  else if sev ≥ 3 then some (3840 + d.sfNext, { d with sfNext := (d.sfNext + 1) % 256 })
  else if frozen then none
  else some (512 + d.recentNext, { d with recentNext := (d.recentNext + 1) % 3328 })

/-- ERROR_RECORD_WRITE (R499 to R503): the writer takes the oldest intake entry. -/
def execErrorRecordWrite (s : State) : Res :=
  .next (match s.dgn.intake with
    | [] => s
    | e :: rest =>
      let s := { s with dgn := { s.dgn with intake := rest, folding := s.dgn.folding && decide (rest.length > 16) } }
      match recordPlace s e.sev with
      | none => s
      | some (place, d) =>
        let e := { e with seq := d.nextSeq, stamp := if e.loss then now s else e.stamp }
        let sf := decide (e.sev ≥ 3)
        let d := { d with store := tset d.store place e, nextSeq := d.nextSeq + 1
                          lastSfCode := if sf then e.code else d.lastSfCode, lastSfSev := if sf then e.sev else d.lastSfSev
                          lastSfSeq := if sf then e.seq else d.lastSfSeq }
        let s := { s with dgn := d }
        let s := if sf then raiseAll s true 8 else s
        if e.sev ≥ 2 then
          (List.range 3).foldl (fun s k => raiseMod s k false 10 100) s
        else s)

/-- Records cleared (R501, R502): the sequence restarts from 0. -/
def clearRecords (s : State) : State :=
  { s with dgn := { s.dgn with store := [], nextSeq := 0, sfNext := 0, recentNext := 0 } }

/-- Sources removed (R497). -/
def clearSources (s : State) : State := { s with dgn := { s.dgn with general := [], catchAll := [], foldSources := [] } }

/-- EJ_CLEAR_RECORDS (R502). -/
def execEjClearRecords (r : Req) (s : State) : Res := .next (gated s r Reg.DGN_EJ_CMD clearRecords)

/-- EJ_CLEAR_SOURCES (R502). -/
def execEjClearSources (r : Req) (s : State) : Res := .next (gated s r Reg.DGN_EJ_CMD clearSources)

/-- EJ_CLEAR_BOTH (R502). -/
def execEjClearBoth (r : Req) (s : State) : Res :=
  .next (gated s r Reg.DGN_EJ_CMD (fun s => clearSources (clearRecords s)))

/-- CLEAR_ALL (R514): a write of 0x434C_0001 asks for the clear at the next boundary. -/
def execClearAll (r : Req) (value : Word) (s : State) : Res :=
  .next (gated s r Reg.DGN_CLEAR_ALL (fun s =>
    if value.toNat = 0x434C0001 then { s with dgn := { s.dgn with clearAllPending := true } } else s))

/-- DGN_CNT_CLEAR (R515): the counters, and the highest temperature. -/
def execDgnCntClear (r : Req) (s : State) : Res :=
  .next (gated s r Reg.DGN_CNT_CLEAR (fun s =>
    let s := clearRegs s Reg.DGN_CNT_FOLDED Reg.DGN_CNT_SNAP_ABANDON
    { s with dgn := { s.dgn with tempMax := s.dgn.tempNow } }))

/-- SELFTEST_REQUEST (R506): merged with a running test of the same target. -/
def execSelftestRequest (r : Req) (target element : Nat) (full : Bool) (s : State) : Res :=
  .next (gated s r Reg.DGN_ST_CMD (fun s =>
    if ¬ full ∨ target > 6 then s
    else
      let k := testKey target element
      let f (x : SelfTest) : SelfTest := if x.state = 1 then x else { x with state := 1, progress := 0 }
      { s with dgn := { s.dgn with tests := tmod s.dgn.tests k f } }))

/-- SELFTEST_SLICE (R506): a slice of `ns` ns, at most 2 µs, runs once the self-test node pays for it; `progress` is the part of
a pass reached, in 1/256. (DEDUCED: log 66) -/
def execSelftestSlice (target element ns progress : Nat) (s : State) : Res :=
  .next (if ns > 2000 ∨ target > 6 then s
    else match nodePay s (fld s Reg.DGN_ST_NODE 12 0) ns with
      | none => s
      | some s =>
        let f (x : SelfTest) : SelfTest := { x with state := 1, progress := progress % 256 }
        { s with dgn := { s.dgn with tests := tmod s.dgn.tests (testKey target element) f } })

/-- What the failure of a test does (Online tests): an element under the test of its return stays out; the spare goes out of rotation
(R36); a mapping engine is taken out; the vault refuses every operation; a ring is excluded. -/
def testFailed (s : State) (target element : Nat) : State :=
  let detail := testKey target element
  let tell (s : State) : State := report s Ev.DGN_SELFTEST_FAIL noInst detail
  match target with
  | 0 =>
    if s.stb.returning.contains element then
      tell { s with stb := { s.stb with returning := s.stb.returning.filter (fun x => !decide (x = element)) } }
    else spareFails s false detail
  | 1 => if s.cfgs.bankReturning = some element then tell { s with cfgs := { s.cfgs with bankReturning := none } } else spareFails s true detail
  | 2 => tell (if (engine s element).testing then mapEngineTested s element false else engineOut s element)
  | 3 => tell { s with dgn := { s.dgn with vaultTestFail := true } }
  | 4 => tell s
  | 5 => tell { s with bgt := { s.bgt with ringsOut := if s.bgt.ringsOut.contains element then s.bgt.ringsOut else element :: s.bgt.ringsOut } }
  | _ => stall s 0x120

/-- What the pass of a test does: a vault that has failed serves again; an element under the test of its return serves or becomes the
spare (R181, R490). -/
def testPassed (s : State) (target element : Nat) : State :=
  if target = 3 then { s with dgn := { s.dgn with vaultTestFail := false } }
  else if target = 0 ∧ s.stb.returning.contains element = true then engineReturned s element
  else if target = 1 ∧ s.cfgs.bankReturning = some element then bankReturned s element
  else if target = 2 then mapEngineTested s element true
  else s

/-- SELFTEST_PASS_COMPLETE (R506); in a divergence procedure the first result is the unit's own (R384). (DEDUCED: log 66) -/
def execSelftestPassComplete (target element : Nat) (pass : Bool) (s : State) : Res :=
  .next (if target > 6 then s
    else
      let f (x : SelfTest) : SelfTest :=
        { x with state := if pass then 2 else 3, progress := 0, passes := satAdd (2 ^ 22 - 1) x.passes (b2n pass), last := now s }
      let s := { s with dgn := { s.dgn with tests := tmod s.dgn.tests (testKey target element) f } }
      let s := ownResult (cnt s (if pass then Reg.DGN_CNT_ST_PASS else Reg.DGN_CNT_ST_FAIL)) (!pass)
      if pass then testPassed s target element else testFailed s target element)

/-- A test that has to be passed anew. -/
def testAnew (s : State) (target element : Nat) : State :=
  { s with dgn := { s.dgn with tests := tmod s.dgn.tests (testKey target element) (fun x => { x with state := 0, progress := 0 }) } }

/-- The first number after `n` modulo `m` that serves. -/
def nextServing (serves : Nat → Bool) (m n : Nat) : Option Nat :=
  ((List.range m).map (fun i => (n + 1 + i) % m)).find? serves

/-- SPARE_ROTATION (R507): a spare that has passed replaces the serving element with the next number in turn, which becomes the spare;
banks move by the copy of live repair. None while a repair acts on the same kind. -/
def execSpareRotation (bank : Bool) (s : State) : Res :=
  .next (
    let passed (target element : Nat) : Bool := decide ((tget s.dgn.tests (testKey target element)).state = 2)
    if bank then
      let sp := s.cfgs.bankSpare
      if sp > 16 ∨ passed 1 sp = false ∨ s.cfgs.bankCopy.isSome = true ∨ s.cfgs.bankReturning.isSome = true then s
      else match nextServing (fun b => s.cfgs.bankServing.testBit b) 17 sp with
        | some b => testAnew { s with cfgs := { s.cfgs with bankCopy := some (b, sp), bankCopyRepair := false } } 1 b
        | none => s
    else
      let sp := s.stb.spare
      if clsEngine s sp ≠ 2 ∨ passed 0 sp = false ∨ s.stb.returning ≠ [] then s
      else match nextServing (fun e => decide (clsEngine s e = 1)) 5 sp with
        | some e =>
          let s := setCls (takePosition s e sp) e 2
          testAnew { s with stb := { s.stb with spare := e } } 0 e
        | none => s)

/-- SNAPSHOT_CMD (R513): the snapshot is taken at the next boundary; while one runs the command reads BUSY. -/
def execSnapshotCmd (r : Req) (block : Nat) (s : State) : Res :=
  .next (gated s r Reg.DGN_SNAP_CMD (fun s =>
    let b := block % 32
    if b = 0 then s
    else if s.dgn.snapState = 1 ∨ s.dgn.snapPending = true then { s with dgn := { s.dgn with snapBusy := true } }
    else { s with dgn := { s.dgn with snapBlock := b, snapPending := true, snapBusy := false } }))

/-- SNAPSHOT_DONE (R513): the copy ends, or the full side buffer abandons it. -/
def execSnapshotDone (abandoned : Bool) (s : State) : Res :=
  .next (if s.dgn.snapState ≠ 1 then s
    else
      let s := { s with dgn := { s.dgn with snapState := if abandoned then 3 else 2, snapRegs := if abandoned then [] else s.dgn.snapRegs } }
      let s := if abandoned then cnt s Reg.DGN_CNT_SNAP_ABANDON else s
      raiseAll s false 13)

/-- SCRUB_LINE and ECC_ERROR (R504, R505): what the scrubber or a reader finds in a line; `passEnd` ends a pass of SRAM or DRAM. (DEDUCED: log 65) -/
def execScrubLine (found : EccSite) (dram passEnd : Bool) (s : State) : Res :=
  .next (
    let s := if passEnd then
        (if dram then { s with dgn := { s.dgn with dramPasses := (s.dgn.dramPasses + 1) % 65536 } }
         else { s with dgn := { s.dgn with sramPasses := (s.dgn.sramPasses + 1) % 65536 } })
      else s
    match found with
    | .clean => s
    | .corrected => cnt (report s Ev.DGN_ECC_CORRECTED noInst 0) Reg.DGN_CNT_ECC_CORR
    | .spare bank => spareFails s bank 0
    | .journalBlock place =>
      let bad (b : Option JBlock) : Option JBlock := b.map (fun x => { x with bad := true })
      cnt { s with jrn := { s.jrn with area := tmod s.jrn.area place bad } } Reg.DGN_CNT_ECC_JOURNAL
    | .overflowSlot id =>
      cnt { s with stb := { s.stb with streams := tmod s.stb.streams id (fun x => { x with lvState := 3 }) } } Reg.DGN_CNT_ECC_JOURNAL
    | .peatStaging => { s with red := { s.red with staging := [] } }
    | .elsewhere => cnt (report s Ev.DGN_ECC_FATAL noInst 0) Reg.DGN_CNT_ECC_FATAL)

/-- TEMP_SAMPLE (R508): the junction sensors in °C. -/
def execTempSample (temps : List Int) (s : State) : Res :=
  .next (match temps with
    | [] => s
    | t :: ts =>
      let m := ts.foldl max t
      let s := { s with dgn := { s.dgn with tempNow := m, tempMax := max s.dgn.tempMax m } }
      let cool := if m ≤ 120 then some (s.dgn.coolSince.getD (now s)) else none
      let s := { s with dgn := { s.dgn with coolSince := cool } }
      if s.dgn.overTemp then
        match cool with
        | some c => if since s c ≥ secUnits then { s with dgn := { s.dgn with overTemp := false, coolSince := none } } else s
        | none => s
      else if m > 125 then report { s with dgn := { s.dgn with overTemp := true } } Ev.DEV_OVERTEMP noInst m.natAbs
      else s)

/-- STEWARD_WATCHDOG_EXPIRY (R46). -/
def execStewardWatchdogExpiry (s : State) : Res :=
  .next (if s.stw.state = 0 ∨ s.stw.state = 3 then s
    else report { s with stw := { s.stw with state := 3 } } Ev.STW_WATCHDOG noInst 0)

/-- STEWARD_LOCKSTEP_FAULT (R495). -/
def execStewardLockstepFault (s : State) : Res :=
  .next (if s.stw.state = 0 ∨ s.stw.state = 3 then s
    else report { s with stw := { s.stw with state := 3 } } Ev.STW_LOCKSTEP noInst 0)

end Sys2Proof.Machine
end

