-- ==== Sys2Proof/Machine/Start.lean ====
section
/-! DEFINITION. The start of the unit: directory, header, BIST, body, regions, start counters, HALT_SAFE (chapter 15). -/

namespace Sys2Proof.Machine

/-- HALT_SAFE is entered (R482, R433): the gate stays closed and the halt line asserts. -/
def haltSafe (s : State) : State :=
  let s := closeGate s
  let s := allLow (allLow s 1) 2
  let s := { s with saf := { s.saf with halt := true }, cfgs := { s.cfgs with phase := .off } }
  setRole (powerFor s .haltSafe) .haltSafe

/-- The cold counter of a slot (R481). -/
def coldFails (a : Aon) (slot : Nat) : Nat := if slot = 0 then a.failA else if slot = 1 then a.failB else a.failG

/-- The slot of a cold start (R481); none enters HALT_SAFE. -/
def chooseSlot (s : State) : Option Nat :=
  let pref := fld s Reg.CFG_BOOT_PREF 0 0
  let a := s.aon
  if coldFails a pref < 3 then some pref
  else if coldFails a (1 - pref) < 3 then some (1 - pref)
  else if a.failG < 3 then some 2 else none

/-- A cold attempt is counted (R481). -/
def countStart (s : State) (slot : Nat) : State :=
  let a := { s.aon with starts := satAdd 65535 s.aon.starts 1, countedKind := slot + 1 }
  let a := if slot = 0 then { a with failA := min 3 (a.failA + 1) }
    else if slot = 1 then { a with failB := min 3 (a.failB + 1) } else { a with failG := min 3 (a.failG + 1) }
  { s with aon := a }

/-- Whether a public key is the one a trust anchor names, and the anchor is programmed and not revoked (R424, R473). -/
def anchorOk (s : State) (n : Nat) (key : Bytes) : Bool :=
  let a := tget s.vault.anchors n
  decide (n < 4 ∧ a ≠ [] ∧ a = Config.sha256 key) && !s.vault.anchorRevoked.contains n

/-- What is wrong with a header (R473): 0 nothing, 1 its fields, 2 its anchor or signature. -/
def headerFault (s : State) (h : Bytes) (slot : Nat) : Nat :=
  let fields := decide (h.take 4 = [0x43, 0x52, 0x53, 0x49]) && decide (byteAt h 4 = 1) && decide (byteAt h 5 = slot) &&
    decide (leAt h 8 4 = 0x6416) && decide (leAt h 12 4 ≤ (rd s Reg.DEV_REV).toNat) && decide (leAt h 16 4 ≥ s.secver)
  let key := slice h 128 64
  let anchor := anchorOk s (byteAt h 6) key
  let sig := Config.ecdsaVerify key (Config.sha256 (h.take 384)) (slice h 384 64)
  if ¬ fields then 1 else if s.vault.lc ≠ 0 ∧ ¬ (anchor && sig) then 2 else 0

/-- A directory copy is good (R470): magic, version and CRC. -/
def dirGood (d : Bytes) : Bool :=
  decide (d.take 4 = [0x43, 0x52, 0x53, 0x44]) && decide (byteAt d 4 = 1) && decide (leAt d 60 4 = crc32 (d.take 60))

/-- The directory a start uses (R470), and whether it is the second copy. -/
def directory (s : State) : Option (Bytes × Bool) :=
  let a := nvmBytes s 0 64
  let b := nvmBytes s 0x10000 64
  if dirGood a then some (a, false) else if dirGood b then some (b, true) else none

/-- A start that finds a tamper latched does not count (R429). (DEDUCED: log 51) -/
def forgiveTamper (s : State) : State := if s.vault.tamperStatus = 0 then s else withdrawStart s

/-- DIRECTORY_READ (R470, R473, R481): the slot is chosen and its header checked. -/
def execDirectoryRead (s : State) : Res :=
  .next (if s.dev ≠ .loading ∨ s.cfgs.phase ≠ .directory then s
    else match directory s with
      | none => haltSafe (recordReport s Ev.CFG_CRC_BAD noInst 0)
      | some (d, second) => match chooseSlot s with
        | none => haltSafe s
        | some slot =>
          let s := forgiveTamper (countStart s slot)
          let (off, _) := dirSlot d slot
          let h := nvmBytes s off 512
          let s := { s with cfgs := { s.cfgs with startSlot := slot, startBase := off, startHeader := h, dirCopy := second
                                                  dir := d, phase := .bist, unsigned := decide (s.vault.lc = 0) } }
          let s := if slot ≠ fld s Reg.CFG_BOOT_PREF 0 0 then report s Ev.CFG_START_FALLBACK noInst slot else s
          match headerFault s h slot with
          | 0 => s
          | 2 => report s Ev.CFG_SIG_BAD noInst slot
          | _ => report s Ev.CFG_CRC_BAD noInst slot)

/-- A buffer bank that failed its BIST is mapped out to the spare (R479). -/
def bankFails (s : State) (b : Nat) : State :=
  let s := bankMove s b s.cfgs.bankSpare
  let s := { s with cfgs := { s.cfgs with bankSpare := 31 } }
  report s Ev.DGN_SELFTEST_FAIL noInst (testKey 1 b)

/-- A memory BIST has ended (R479, R480): its pass is recorded with its RTC time, one failed bank is mapped out; none where the start
fails. (DEDUCED: log 57) -/
def bistEnd (s : State) (banks : List Nat) (other : Bool) : Option State :=
  let s := { s with aon := { s.aon with bistRtc := some (s.tim.rtc / 32768) } }
  match other, banks with
  | false, [] => some s
  | false, [b] =>
    if b > 16 ∨ s.cfgs.bankSpare > 16 then none
    else if b = s.cfgs.bankSpare then some (report { s with cfgs := { s.cfgs with bankSpare := 31 } } Ev.DGN_SELFTEST_FAIL noInst (testKey 1 b))
    else some (bankFails s b)
  | _, _ => none

/-- SRAM_BIST_DONE (R479, R480): failed buffer banks, and whether anything else failed. -/
def execSramBistDone (banks : List Nat) (other : Bool) (s : State) : Res :=
  .next (if s.dev ≠ .loading ∨ s.cfgs.phase ≠ .bist then s
    else match bistEnd s banks other with
      | none => failStart s
      | some s => { s with cfgs := { s.cfgs with phase := .body } })

/-- DRAM_TRAINED (R479): the body copy to DRAM can begin. -/
def execDramTrained (ok : Bool) (s : State) : Res :=
  .next (if s.dev ≠ .loading then s else if ok then { s with cfgs := { s.cfgs with dramReady := true } } else failStart s)

/-- The safety region's own signature (R476), skipped in BLANK. -/
def safetySigned (s : State) (data h : Bytes) : Bool :=
  let key := slice h 128 64
  decide (s.vault.lc = 0) ||
  (anchorOk s (byteAt data 2048) key && Config.ecdsaVerify key (Config.sha256 (data.take 2048)) (slice data 2112 64))

/-- What is wrong with an image (R471 to R477, R485), in the order of the start: an event code, or none. A warm start repeats neither the
hash nor the signatures (Cold and warm start). (DEDUCED: log 57) -/
def imageFault (s : State) (image : Bytes) (warm : Bool) : Option Nat :=
  let h := image.take 512
  let body := image.drop 512
  let rs := regionRecords body
  let saf := payloadOf image rs 16
  if warm = false ∧ Config.sha256 body ≠ slice h 64 32 then some Ev.CFG_CRC_BAD
  else if regionTableOk rs = false ∨ layoutOk (leAt h 24 4) rs = false then some Ev.CFG_REGION_INVALID
  else if rs.any (fun r => decide (crc32 (payloadOf image rs r.1) ≠ r.2.2.2)) then some Ev.CFG_CRC_BAD
  else if rs.any (fun r => !payloadOk (payloadOf image rs r.1) r.1) then some Ev.CFG_REGION_INVALID
  else if warm = false ∧ safetySigned s (slice saf (dataStart saf) 2176) h = false then some Ev.CFG_SIG_BAD
  else
    let t := loadRegions s image rs
    if (List.range 17).all (regionOk t) = true ∧ admissionOk t = true ∧ profilesOk image = true then none else some Ev.CFG_REGION_INVALID

/-- The image is taken into use (R438, R475, R480): region tables, safety buffer, image record, DRAM copy. -/
def takeImage (s : State) (image : Bytes) : State :=
  let h := image.take 512
  let s := loadRegions s image (regionRecords (image.drop 512))
  let saf := cBytes s s.tag 16 0 2048
  let s := { s with saf := { s.saf with bufA := saf.take 1024, bufB := saf.drop 1024, bufOk := true } }
  let s := { s with aon := { s.aon with imageRecord := some (Config.sha256 (h.take 448), s.cfgs.startSlot) } }
  let s := wr (wr s Reg.CFG_IMAGE_SECVER (BitVec.ofNat 32 (leAt h 16 4))) Reg.CFG_IMAGE_BUILD (BitVec.ofNat 32 (leAt h 20 4))
  let base := leAt h 40 8 / 2 ^ 20 * 2 ^ 20
  let s := wr (wr s Reg.CFG_DRAM_BASE_LO (BitVec.ofNat 32 base)) Reg.CFG_DRAM_BASE_HI (BitVec.ofNat 32 (base / 2 ^ 32 % 4))
  { s with cfgs := { s.cfgs with image := image, slotUsed := s.cfgs.startSlot, bodyReady := true } }

/-- The guardian's copy of the slot records (R361). -/
def guardCopy (s : State) : Tab Word :=
  (List.range 1024).foldl (fun (t : Tab Word) i => tset t i (tget s.cfg (10 * 2 ^ 20 + i))) []

/-- Every object takes its configured state, and the index is built (R84, R94, R95, R182, R195, R214). -/
def initObjects (s : State) : State :=
  (List.range 105).foldl startPort ((List.range 17).foldl (swapObjects { s with cfg := [], prev := [] }) s)

/-- The engines serve, with the fifth classifier engine the spare (R48, R556); the journal scans before it records (R237). -/
def initEngines (s : State) : State :=
  let stb := { s.stb with engines := [1, 1, 1, 1, 2], spare := 4, positions := [0, 1, 2, 3], parts := List.replicate 16 1 }
  let jrn := { s.jrn with scanning := true, state := b2n (bit (rd s Reg.JRN_CTRL) 0) }
  (List.range 16).foldl (fun s e => setEngine s e { engine s e with state := 1 }) { s with stb := stb, jrn := jrn }

/-- A trigger whose pair asks for it is armed (R325). -/
def initTrigger (s : State) (t : Nat) : State :=
  if bit (rd s (Reg.TIM_TRG_STATUS t)) 0 = true ∧ (trig s t).armed = false then armTrig s t else s

/-- The guardian takes its copy of the slot records, and the cadence engine listens where it is enabled (R353, R361). -/
def initCadence (s : State) : State :=
  let s := { s with cdb := { s.cdb with guardSched := guardCopy s } }
  if s.cdb.state ≠ .off then s
  else
    let s := { s with tim := { s.tim with periodFree := bit (rd s Reg.TIM_CTRL) 1 } }
    if bit (rd s Reg.CDB_CTRL) 0 then toListen s else s

/-- What every start of the path runs once the regions are loaded. -/
def initRuntime (s : State) : State :=
  initCadence ((List.range 64).foldl initTrigger (initEngines (initObjects s)))

/-- The send counters of a start without a peat (R420). -/
def startSends (s : State) : State :=
  { s with vault := { s.vault with slots := tmap (fun _ x => if x.state = .valid then { x with send := now s / 2 ^ 20 + 1 } else x) s.vault.slots } }

/-- BODY_READ_DONE (R473, R476, R479, R419): the image is checked and taken, the runtime tables are cleared, the commit generation
rises, the steward starts, the keys are unsealed, and STARTING is entered. `vout` is VOUT_MODE, `fw` the firmware's version. -/
def execBodyReadDone (vout fw : Nat) (s : State) : Res :=
  .next (if s.dev ≠ .loading ∨ s.cfgs.phase ≠ .body ∨ s.cfgs.dramReady = false then s
    else
      let h := s.cfgs.startHeader
      let image := h ++ nvmBytes s (s.cfgs.startBase + 0x200) (leAt h 24 4)
      match imageFault s image false with
      | some code =>
        let s := report s code noInst 0
        if s.dev = .loading then failStart s else s
      | none =>
        let s := startGeneration (takeImage (clearPath s) image) (genAfter s.aon.lastGen)
        let s := avsStart (avsLink { s with stw := { s.stw with state := 1, fwVersion := fw } } vout)
        let s := initRuntime (startSends (keyUnseal s))
        let s := { s with cfgs := { s.cfgs with phase := .running, startAt := now s } }
        setRole (powerFor s .starting) .starting)

/-- lease_wait_ms of the redundancy region (R479, R473). -/
def leaseWait (s : State) : Nat := cf s 12 (40960 / 4 + 1) 15 0

/-- The code of a takeover in RED_LAST_TAKEOVER. -/
def takeoverCode : Takeover → Nat
  | .shadow => 1
  | .warm => 2
  | .cold => 3

/-- The gate opens (R370, R372, R397): a takeover that ends here is reported, counted and recorded. -/
def becomeActive (s : State) : State :=
  let s := { s with red := { s.red with gate := true, relinquished := false }, cdb := { s.cdb with txFrom := now s } }
  let s := setRole (powerFor s .active) .active
  match s.red.taking with
  | none => s
  | some k =>
    let dur := min 0xFFFF ((s.red.leaseTimer - s.red.takeSince) / 5000)
    let s := setRed s { s.red with taking := none, lastKind := takeoverCode k, lastDur := dur }
    report (cnt s Reg.RED_CNT_TAKEOVER) Ev.RED_TAKEOVER noInst (takeoverCode k)

/-- A start is complete (R479, R481): its counter returns to 0 after 10 s. -/
def startDone (s : State) : State := { s with cfgs := { s.cfgs with phase := .complete, completeAt := some (now s), settled := false } }

/-- START_COMPLETE (R479, R372): a majority of grants, or the lease wait has passed. -/
def execStartComplete (s : State) : Res :=
  .next (if s.dev ≠ .starting then s
    else if majority s then becomeActive (startDone s)
    else if since s s.cfgs.startAt ≥ leaseWait s * msUnits then becomeStandby (startDone s)
    else s)

/-- START_SETTLED (R481): 10 s after completion without a severity-F fault the counter of that start returns to 0. (DEDUCED: log 57) -/
def execStartSettled (s : State) : Res :=
  .next (match s.cfgs.completeAt with
    | none => s
    | some t =>
      if s.cfgs.settled ∨ since s t < 10 * secUnits then s
      else
        let a := s.aon
        let a := match a.countedKind with
          | 1 => { a with failA := 0 }
          | 2 => { a with failB := 0 }
          | 3 => { a with failG := 0 }
          | 4 => { a with warm := 0 }
          | _ => a
        { s with aon := { a with countedKind := 0 }, cfgs := { s.cfgs with settled := true } })

/-- Start counters cleared (R482). -/
def clearStarts (s : State) : State := { s with aon := { s.aon with warm := 0, failA := 0, failB := 0, failG := 0, countedKind := 0 } }

/-- The commanded restart (R482): from ACTIVE the unit relinquishes first. -/
def commandedRestart (s : State) : State := if s.dev = .active then relinquish s true else restartUnit s

/-- START_CLEAR_COUNTERS (R482). -/
def execStartClearCounters (r : Req) (s : State) : Res := .next (gated s r Reg.CFG_START_CMD clearStarts)

/-- START_RESTART (R482). -/
def execStartRestart (r : Req) (s : State) : Res := .next (gated s r Reg.CFG_START_CMD commandedRestart)

/-- START_CLEAR_AND_RESTART (R482). -/
def execStartClearAndRestart (r : Req) (s : State) : Res :=
  .next (gated s r Reg.CFG_START_CMD (fun s => commandedRestart (clearStarts s)))

/-- SECVER_RAISE (R473, R480): a write of 0x5356_0001. -/
def execSecverRaise (r : Req) (value : Word) (s : State) : Res :=
  .next (gated s r Reg.CFG_SEC_CMD (fun s =>
    if value.toNat = 0x53560001 then
      clearImageRecord { s with secver := max s.secver (min 32 (rd s Reg.CFG_IMAGE_SECVER).toNat) }
    else s))

/-- STANDBY_BIST_START (R480): in STANDBY_COLD, 20 h after the last pass, the SRAM domains and the second steward core are powered. (DEDUCED: log 62) -/
def execStandbyBistStart (s : State) : Res :=
  .next (
    let due := match s.aon.bistRtc with
      | none => true
      | some t => decide (s.tim.rtc / 32768 - t ≥ 72000)
    if s.dev ≠ .standbyCold ∨ due = false ∨ s.pwr.sequencing = true then s
    else
      let s := switchOn s [7, 8, 9, 10, 11, 6, 12]
      { s with stw := { s.stw with state := 1 } })

/-- STANDBY_BIST_DONE (R480): the pass is recorded with its RTC time and the domains go off again. -/
def execStandbyBistDone (s : State) : Res :=
  .next (if s.dev ≠ .standbyCold ∨ s.pwr.on.contains 10 = false ∨ s.pwr.sequencing = true ∨ s.red.taking.isSome = true then s
    else
      let s := powerFor s .standbyCold
      { s with aon := { s.aon with bistRtc := some (s.tim.rtc / 32768) }, stw := { s.stw with state := 2 } })

end Sys2Proof.Machine
end

