-- ==== Sys2Proof/Machine/Takeover.lean ====
section
/-! DEFINITION. Takeover (chapter 12): the restored peat, the sequence jumps, and a shadow's intake of mirrored records and log entries. -/

namespace Sys2Proof.Machine

/-- The target of a copy of a destination set, as the sequence store names it (R227). -/
def aimTarget (s : State) (a : Aim) : Nat :=
  match a.listener with
  | some l => 256 + l
  | none => (pathsOf s a.port).headD a.port

/-- The egress sequence counters (R227): key, stream, width. -/
def seqCounters (s : State) : List (Nat × Nat × Nat) :=
  ((imageIds s.cfg).flatMap (fun id => (aims s (imageStream s s.tag id).dset).filterMap (fun a =>
    let m := tSeq (template s a.tpl)
    if m = 0 then none else some (id * 2 ^ 16 + aimTarget s a, id, if m = 2 then 16 else 32)))).eraseDups

/-- The pairs with a PRP send counter (R228). -/
def prpPairs (s : State) : List Nat := (List.range 10).filter (fun p => isPrp s (pairA p))

/-- G of R400: the most that the old active can have sent at `r` per second in `dt` stamp units, and 2. -/
def jumpOf (r dt : Nat) : Nat := ceilDiv (r * dt) secUnits + 2

/-- r_max of a key slot's send counter (R420): the sum over the streams whose template names the slot. -/
def rMaxSlot (s : State) (k : Nat) : Nat :=
  let names (id : Nat) : Bool := (aims s (imageStream s s.tag id).dset).any (fun a =>
    tFlag (template s a.tpl) 0 && decide (byteAt (template s a.tpl) 2 = k))
  sumOver ((imageIds s.cfg).filter names) (rMax s)

/-- Every counter of the egress and of the vault's seals resumes further on (R400, R401, R420). -/
def jumpCounters (s : State) (seq : Nat → Nat) (prp : Nat → Nat) (send : Nat → Nat) : State :=
  let seqs := (seqCounters s).foldl (fun t c => tmod t c.1 (fun n => (n + seq c.2.1) % 2 ^ c.2.2)) s.egr.seqs
  let prps := (prpPairs s).foldl (fun t p => tmod t p (fun n => (n + prp p) % 2 ^ 16)) s.egr.prpSend
  let slots := tmap (fun k x => if x.state = .valid then { x with send := x.send + send k } else x) s.vault.slots
  { s with egr := { s.egr with seqs := seqs, prpSend := prps }, vault := { s.vault with slots := slots } }

/-- The jumps of a warm takeover from a peat taken at `from_`. -/
def warmJumps (s : State) (from_ : Nat) : State :=
  let dt := now s - from_
  jumpCounters s (fun id => jumpOf (rMax s id) dt) (fun p => jumpOf (rMaxPair s p) dt + 64) (fun k => jumpOf (rMaxSlot s k) dt)

/-- A drain that a peat carries starts anew on this unit's count of boundaries; nothing of the old active's path holds buffer here. -/
def afterRestore (s : State) : State :=
  let strms := tmap (fun _ x => if x.state = 2 then { x with drainAt := drainEnd s } else x) s.stb.streams
  let node (x : Node) : Node := { x with buf := 0, drainAt := if x.state = 2 then drainEnd s else x.drainAt }
  { s with stb := { s.stb with streams := strms }, bgt := { s.bgt with nodes := tmap (fun _ x => node x) s.bgt.nodes } }

/-- The peat restored over the configured state (R299, R394, R397, R399): none where it does not unseal. -/
def restorePeat (s : State) : Option (PeatPart × State) :=
  match peatKey s useDecrypt with
  | (none, _) => none
  | (some key, s) => match openImage s key with
    | none => none
    | some ps =>
      let s := ps.foldl (fun s e => restorePart s e.1 e.2) (initRuntime s)
      let s := (List.range 128).foldl semExpire (reindex (afterRestore s))
      some (((ps.find? (fun e => decide (e.1 = 0))).map (·.2)).getD default, s)

/-- The configuration tables from the DRAM copy of the image (R479, R480): none where its header is not the one recorded, or its regions
fail. -/
def reload (s : State) : Option State :=
  let image := s.cfgs.image
  match s.aon.imageRecord with
  | none => none
  | some (h, slot) =>
    if Config.sha256 (image.take 448) ≠ h ∨ (imageFault s image true).isSome = true then none
    else
      let s := loadRegions (clearPath s) image (regionRecords (image.drop 512))
      some { s with cfgs := { s.cfgs with slotUsed := slot } }

/-- Whether the last BIST pass is younger than 24 h (R480). -/
def bistYoung (s : State) : Bool :=
  match s.aon.bistRtc with
  | some t => decide (s.tim.rtc / 32768 - t < 86400)
  | none => false

/-- A warm takeover (R397 to R401, R480): its steps, or the cold start that follows where one of them fails. (DEDUCED: log 51) -/
def warmTakeover (s : State) : State :=
  match reload s with
  | none => startCold s
  | some t =>
    let t := forgiveTamper (keyUnseal t)
    match restorePeat t with
    | none => startCold { s with aon := t.aon }
    | some (head, t) =>
      let t := warmJumps (startGeneration t (genAfter head.gen)) head.bound
      let t := { t with stw := { t.stw with state := 1 }
                        cfgs := { t.cfgs with startWarm := true, sigSkipped := true, bodyReady := true } }
      becomeActive (startDone t)

/-- TAKEOVER_COMPLETE (R397, R399 to R401): a shadow opens its gate at the first boundary after it acts on the grants, with every counter one
further; a warm takeover once the domains are up; a cold one when its start is complete. (DEDUCED: log 51) -/
def execTakeoverComplete (banks : List Nat) (other : Bool) (s : State) : Res :=
  .next (if majority s = false then s
    else match s.red.taking with
      | some .shadow =>
        if s.dev ≠ .standbyShadow ∨ s.tim.boundaries ≤ s.red.takeAt then s
        else becomeActive (jumpCounters (startGeneration s (genAfter s.com.gen)) (fun _ => 1) (fun _ => 1) (fun _ => 1))
      | some .warm =>
        if s.dev ≠ .standbyCold ∨ s.pwr.sequencing = true ∨ s.red.shadowSeal = true then s
        else if bistYoung s then warmTakeover { s with cfgs := { s.cfgs with bistSkipped := true } }
        else match bistEnd s banks other with
          | none => failStart s
          | some s => warmTakeover { s with cfgs := { s.cfgs with bistSkipped := false } }
      | some .cold => if s.dev = .starting then becomeActive (startDone s) else s
      | none => s)

/-- A mirrored record is taken as the active took it (R381, R382): an ingress record under its own stamps and key, a lane copy at the time it
was fetched, a cyclic firing at its trigger's time. (DEDUCED: log 52) -/
def mirrorIn (s : State) (n : Nat) (m : MirrorRec) : State :=
  match m with
  | .ingress x =>
    let y : Sent := { newSent x.src x.stamp x.endT x.key x.payload with
      path := x.path, both := x.both, hint := x.hint, seq := x.count, mirror := n }
    let p := port s x.port
    if x.port < 105 then setPort s x.port { p with buf := p.buf ++ [y] }
    else match credit p.staging 32 4 false with
      | some o => setPort s x.port { p with staging := p.staging ++ [{ y with oasis := o }] }
      | none => setPort s x.port { p with buf := p.buf ++ [y] }
  | .lane k ring1 cy v idx p t => judgeCopy s k ring1 cy v idx p n t
  | .cyclic i t => fireSlot s t i n

/-- MIRROR_RECEIVED (R380, R381): a shadow takes the record, and leaves its role where records before it were not sent; a cold standby that
is to become one keeps it until its peat is applied. -/
def execMirrorReceived (h : IuHead) (n : Nat) (m : MirrorRec) (s : State) : Res :=
  .next (acceptIu s h (fun s =>
    if s.dev = .standbyShadow then
      (if s.red.mirrorSeq ≠ 0 ∧ n ≠ s.red.mirrorSeq + 1 then leaveShadow s
       else mirrorIn (setRed s { s.red with mirrorSeq := n }) n m)
    else if s.dev = .standbyCold ∧ bit (rd s Reg.RED_CONFIG) 0 = true then setRed s { s.red with back := s.red.back ++ [(n, m)] }
    else s))

/-- The entries of the log that can be committed are (R382). -/
def drainLog : Nat → State → State
  | 0, s => s
  | n + 1, s =>
    let t := commitLogged s
    if t.red.logIn.length < s.red.logIn.length then drainLog n t else s

/-- COMMIT_LOG_RECEIVED (R382). -/
def execCommitLogReceived (h : IuHead) (e : LogEnt) (s : State) : Res :=
  .next (acceptIu s h (fun s =>
    let s := if isStandby s then setRed s { s.red with logIn := s.red.logIn ++ [e] } else s
    if shadowing s then drainLog s.red.logIn.length s else s))

/-- A full peat is applied to a cold standby under COMPARE (R372, R380): its path is powered and restored, and it shadows the active from
the records that have come since. -/
def applyPeat (s : State) : State :=
  match reload (powerFor s .standbyShadow) with
  | none => s
  | some t => match restorePeat (keyUnseal t) with
    | none => s
    | some (head, t) =>
      let back := t.red.back
      let t := { t with com := { t.com with gen := head.gen }, stw := { t.stw with state := 1 } }
      let t := setRole (setRed t { t.red with back := [], mirrorSeq := ((back.getLast?).map (·.1)).getD 0 }) .standbyShadow
      back.foldl (fun s e => mirrorIn s e.1 e.2) t

/-- PEAT_IMAGE_COPY_DONE (R372, R393, R405). -/
def execPeatImageCopyDone (s : State) : Res :=
  .next (match s.red.copying with
    | none => s
    | some (q, full, list) =>
      let s := copyDone s q full list
      if full = true ∧ s.dev = .standbyCold ∧ bit (rd s Reg.RED_CONFIG) 0 = true ∧ s.red.linkUp = true ∧ s.red.taking.isNone = true
          ∧ s.red.shadowSeal = false then applyPeat s
      else s)

end Sys2Proof.Machine
end

