-- ==== Sys2Proof/Machine/Period.lean ====
section
/-! DEFINITION. The period boundary (R321) and everything the spec lets happen at it. -/

namespace Sys2Proof.Machine

/-- Whether cadence cycle starts produce the boundaries (R321). -/
def busPeriods (s : State) : Bool := bit (rd s Reg.TIM_CTRL) 1

/-- Q at a boundary of the bus at stamp `t` (R321): one more than the last; after a cold start from device time; after a restored peat by
the whole periods, rounded to the nearest, since the boundary it names. -/
def busQ (s : State) (t : Nat) : Nat :=
  let p := periodUnits s
  match s.tim.qNext with
  | some q => q + (2 * (t - s.tim.qBound) + p) / (2 * p)
  | none => if s.tim.fresh then t / p else s.tim.q + 1

/-- Whether a boundary has come, with its Q and its stamp (R321, R322): from device time, from a cadence cycle start, or free-running after
the last one. (DESIGN CHOICE: log 9) -/
def boundaryDue (s : State) : Option (Nat × Nat) :=
  let p := periodUnits s
  if p = 0 ∨ s.tim.running = false ∨ ¬ (pathOn s = true ∨ s.dev = .standbyCold ∨ s.dev = .relinquishing) then none
  else if busPeriods s = false then
    let q := now s / p
    if q > s.tim.q ∨ s.tim.boundaries = 0 then some (q, q * p) else none
  else if s.tim.periodFree then
    let t := if s.tim.fresh then now s else s.tim.bound + p
    if now s ≥ t then some (max s.tim.q (busQ s t), t) else none
  else if s.tim.cycleDue then some (max s.tim.q (busQ s s.cdb.start), s.cdb.start)
  else none

/-- The boundary is counted, with the ones that a forward step passed (R318, R321). (DESIGN CHOICE: log 9) -/
def countBoundary (s : State) (q bound : Nat) : State :=
  let skip := if busPeriods s = true ∨ s.tim.fresh = true ∨ s.tim.boundaries = 0 then 0 else q - s.tim.q - 1
  let t := { s.tim with q := q, bound := bound, boundaries := s.tim.boundaries + 1, cycleDue := false, qNext := none, fresh := false }
  cntAdd { s with tim := t } Reg.TIM_CNT_PERIOD_SKIP skip

/-- How many numbers up to `x` have residue `r` modulo `m`. -/
def residues (m r x : Nat) : Nat := if x < r then 0 else (x - r) / m + 1

/-- The PERIOD triggers at a boundary (R318, R324, R325, R327): those that passed boundaries would have fired fire once now, the others are
missed. `was` is the Q before. -/
def periodTrigger (was : Nat) (s : State) (t : Nat) : State :=
  let x := trig s t
  if x.armed = false ∨ trigPeriod s t = false then s
  else
    let every := max 1 (bits (trigCfg s t) 21 16)
    let phase := bits (trigCfg s t) 27 22
    let passed := if busPeriods s then 0 else residues every phase (s.tim.q - 1) - residues every phase was
    let at_ := s.tim.bound + 4 * (rd s (Reg.TIM_TRG_OFFSET t)).toNat
    if x.due.isSome then missTrig s t passed
    else if passed > 0 then missTrig (setTrig s t { x with due := some (now s) }) t (passed - 1)
    else if trigPhase s t s.tim.q = false then s
    else if at_ < x.armedAt + 800 then missTrig s t 1
    else setTrig s t { x with due := some at_ }

/-- The FENCE of a control-cycle boundary (R251, R252): the cycle offset follows a change of n. `was` is the Q before. -/
def fenceDue (was : Nat) (s : State) : State :=
  let n := upTo64 (fld s Reg.LNI_CYCLE_CTRL 5 0)
  let q := s.tim.q
  let hit := decide (q % n = 0) || (!busPeriods s && decide (s.tim.boundaries > 1) && decide (q / n > was / n))
  if hit = false then s
  else
    let k := if s.lni.fenced = true ∧ s.lni.lastN ≠ n then s.lni.lastCycle + 1 - Int.ofNat (q / n) else s.lni.offset
    placeFence { s with lni := { s.lni with offset := k } } s.tim.bound n (Int.ofNat (q / n) + k)

/-- What a new period counts anew: the shares of the egress ports (R196, R198), the strangers of R103. -/
def newShares (s : State) : State :=
  { s with egr := { s.egr with ports := tmap (fun _ p => { p with sentLow := 0, sentC0 := 0 }) s.egr.ports }
           stb := { s.stb with newThisPeriod := 0 } }

/-- SNAPSHOT_FREEZE (R513): the registers of the named block as they stand at the boundary. (DEDUCED: log 60) -/
def snapshotFreeze (s : State) : State :=
  if s.dgn.snapPending = false then s
  else
    let lo := s.dgn.snapBlock * 2 ^ 16
    { s with dgn := { s.dgn with snapPending := false, snapState := 1
                                 snapRegs := tfilter (fun k _ => decide (lo ≤ k ∧ k < lo + 2 ^ 16)) s.regs } }

/-- The register counters of the blocks, as ranges of offsets. (DEDUCED: log 60) -/
def counterRanges : List (Nat × Nat) :=
  [(Reg.DEV_DISCARD_COUNT, Reg.DEV_DISCARD_COUNT), (Reg.CFG_CNT_SWAP, Reg.CFG_CNT_INVALID), (Reg.STB_CNT_MISS, Reg.STB_CNT_LVC_STALE),
   (Reg.FLT_CNT_SEAL, Reg.FLT_CNT_BOG_SHED), (Reg.MAP_CNT_SATURATE, Reg.MAP_CNT_CYC_SKIP), (Reg.BGT_CNT_REFUSED_BUF, Reg.BGT_CNT_HOLD_FULL),
   (Reg.EGR_CNT_DROP, Reg.EGR_CNT_REPLAY), (Reg.VOT_CNT_RELEASED, Reg.VOT_CNT_DRAIN), (Reg.VOT_CNT_MINORITY 0, Reg.VOT_CNT_BAD 2),
   (Reg.BRG_CNT_REQUESTS, Reg.BRG_CNT_MIRROR_EMPTY), (Reg.TIM_CNT_FOREIGN, Reg.TIM_CNT_FOREIGN), (Reg.TIM_CNT_STEP, Reg.TIM_CNT_DEP_LOST),
   (Reg.CDB_CNT_EDGE, Reg.CDB_CNT_SLOT_DROP), (Reg.RED_CNT_TAKEOVER, Reg.RED_CNT_IU_MIRAGE), (Reg.KVT_CNT_OPS, Reg.KVT_CNT_REMASK),
   (Reg.SAF_CNT_RESET_REFUSED, Reg.SAF_CNT_H_OVERWRITE), (Reg.DGN_CNT_FOLDED, Reg.DGN_CNT_SNAP_ABANDON),
   (Reg.PWR_CNT_PMB_FAIL, Reg.PWR_CNT_VBAT_LOW), (Reg.JRN_CNT_RECORDS, Reg.JRN_CNT_SEAL_FAIL)] ++
  (List.range 105).map (fun n => (Reg.PRT_CNT_GOOD n, Reg.PRT_CNT_HINT n)) ++
  (List.range 105).map (fun n => (Reg.EGR_PORT_DROP n, Reg.EGR_PORT_DROP n)) ++
  (List.range 3).map (fun k => (Reg.LNI_CNT_DELIVERED k, Reg.LNI_CNT_TAIL_BAD k))

/-- The counters of the objects of the path (R514). -/
def clearObjects (s : State) : State :=
  let strms := tmap (fun _ (x : Stream) => { x with matched := 0, refused := 0, seqAnomaly := 0, drainLoss := 0 }) s.stb.streams
  let progs := tmap (fun _ (x : Prog) => { x with runs := 0, aborts := 0, drain := 0 }) s.map.progs
  let cyc := tmap (fun _ (x : CycSlot) => { x with overlap := 0 }) s.map.cyc
  let lsts := tmap (fun _ (x : Listener) => { x with sent := 0 }) s.egr.listeners
  let vs := tmap (fun _ (x : VStream) => { x with released := 0, nomaj := 0 }) s.vot.streams
  let wins := tmap (fun _ (x : Win) => { x with count := 0 }) s.brg.wins
  let s := { s with stb := { s.stb with streams := strms, ruleHits := [] }, map := { s.map with progs := progs, cyc := cyc } }
  let s := { s with egr := { s.egr with listeners := lsts }, vot := { s.vot with streams := vs }, brg := { s.brg with wins := wins } }
  (tkeys s.bgt.nodes).foldl clearNode s

/-- The counts of the time unit, of PRP and of the coalescing table (R514): sources stay, with their stamps. -/
def clearRest (s : State) : State :=
  let trigs := tmap (fun _ (x : Trig) => { x with missed := 0, fired := 0 }) s.tim.trig
  let capts := tmap (fun _ (x : Capt) => { x with lost := 0 }) s.tim.capt
  let zero (e : Source) : Source := { e with count := 0 }
  { s with tim := { s.tim with trig := trigs, capt := capts }
           prt := { s.prt with prpFull := 0, prpWrongLan := [], prpOutOfWindow := 0 }
           dgn := { s.dgn with clearAllPending := false, general := s.dgn.general.map zero
                               catchAll := tmap (fun _ e => zero e) s.dgn.catchAll } }

/-- CLEAR_ALL_APPLY (R514). (DEDUCED: log 60) -/
def clearAllApply (s : State) : State :=
  if s.dgn.clearAllPending = false then s
  else clearRest (clearObjects (counterRanges.foldl (fun s r => clearRegs s r.1 r.2) s))

/-- The active's digest of the period that ended goes to the standby (R383). -/
def digestOut (was : Nat) (s : State) : State :=
  if s.dev ≠ .active ∨ bit (rd s Reg.RED_CONFIG) 0 = false then s
  else
    let d := s.red.digest
    let s := closeDigest s was
    if s.red.mirroring then sendIu s (.digest was d) else s

/-- MIRROR_OVERFLOW (R381): records of the period before the one that ended have not all been sent; else the new period's share of the link
begins. (DEDUCED: log 52) -/
def mirrorPeriod (s : State) : State :=
  let late := s.red.mirrorQ.any (fun e => decide (e.1 + 1 < s.tim.boundaries))
  let shown := setRed s { s.red with loadShown := s.red.mirrorLoad, mirrorLoad := 0 }
  if s.red.mirroring = false then shown
  else if late then
    let s := setRed shown { shown.red with mirroring := false, mirrorOvf := true, mirrorQ := [] }
    let s := report (cnt s Reg.RED_CNT_MIRROR_OVF) Ev.RED_LINK_LOST noInst 1
    raiseAll (raiseAll s true 7) false 8
  else mirrorSend shown.red.mirrorQ shown

/-- What the path does at a boundary: swaps with their mark, then the FENCE; the walk on the new set; re-selection, adaptive rates, pace
and voltage (R139, R187, R189, R202, R205, R251, R253, R487). The audit of R32 finds every queue's credits equal to its free places. -/
def pathBoundary (was : Nat) (s : State) : State :=
  if pathOn s = false then s
  else
    let s := fenceDue was (regionSwap s)
    let s := reselectAll (refillWalk (newShares s))
    avsAdjust (paceBoundary (adaptEvaluate s))

/-- A unit leaves RELINQUISHING (R372): by a restart after a fatal fault, else into STANDBY_COLD. (DEDUCED: log 49) -/
def leaveRelinquishing (s : State) : State :=
  if s.dev ≠ .relinquishing then s else if s.red.relinquishFatal then restartUnit s else becomeStandby s

/-- A running steward has evaluated the period that ended (STW_HEARTBEAT). (DEDUCED: log 49) -/
def heartbeat (s : State) : State :=
  if stewardRuns s then { s with stw := { s.stw with heartbeat := (s.stw.heartbeat + 1) % 2 ^ 32 } } else s

/-- PERIOD_BOUNDARY (R321). (DESIGN CHOICE: log 8, 9) -/
def execPeriodBoundary (s : State) : Res :=
  .next (match boundaryDue s with
    | none => s
    | some (q, bound) =>
      let was := s.tim.q
      let s := pathBoundary was (countBoundary s q bound)
      let s := (List.range 64).foldl (periodTrigger was) s
      let s := heartbeat (clearAllApply (snapshotFreeze s))
      let s := mirrorPeriod (checkpoint (digestOut was s))
      leaveRelinquishing (shadowSeal s))

end Sys2Proof.Machine
end

