-- ==== Sys2Proof/Machine/Views.lean ====
section
/-! DEFINITION. What the status registers read as (chapters 1 to 18): the state of each block laid out in the register's fields. -/

namespace Sys2Proof.Machine

/-- A word put together from fields: each value goes to its low bit, cut to its width (R9: reserved fields read 0). -/
def pack : List (Nat × Nat × Nat) → Nat
  | [] => 0
  | (lo, width, v) :: t => v % 2 ^ width * 2 ^ lo + pack t

/-- A number cut at the largest value of a saturating field. -/
def sat (width v : Nat) : Nat := min v (2 ^ width - 1)

/-- A signed value in a two's complement field, saturating. -/
def satInt (width : Nat) (v : Int) : Nat := twos width (clampZ (-(2 ^ (width - 1))) (2 ^ (width - 1) - 1) v)

/-- A fill in 1/256 of a size; 255 shows a full buffer. (DEDUCED: log 60) -/
def fill256 (used size : Nat) : Nat := if size = 0 then 0 else min 255 (used * 256 / size)

/-- Lower and upper half of a 64-bit value. -/
def lo32 (v : Nat) : Nat := v % 2 ^ 32
/-- Upper half of a 64-bit value. -/
def hi32 (v : Nat) : Nat := v / 2 ^ 32 % 2 ^ 32

/-- DEV_COMMIT (R40). -/
def commitShown (s : State) : Nat := if s.com.count = 0 then s.com.gen * 2 ^ 56 else lastIndex s

/-- CFG_STATUS. -/
def viewCfgStatus (s : State) : Nat :=
  pack [(0, 3, s.cfgs.slotUsed), (3, 1, b2n s.cfgs.startWarm), (4, 1, b2n s.cfgs.unsigned), (5, 1, b2n s.cfgs.sigSkipped),
    (6, 1, b2n s.cfgs.bistSkipped), (7, 1, b2n s.cfgs.bodyReady), (8, 3, s.cfgs.profile.getD 0), (11, 1, b2n s.cfgs.profile.isSome),
    (12, 1, b2n s.cfgs.dirCopy)]

/-- The registers of DEV and CFG (R40, R479, R483, R485 to R492). -/
def viewDevCfg (s : State) (off : Nat) : Option Nat :=
  if off = Reg.DEV_STATE then some (devCode s.dev)
  else if off = Reg.DEV_COMMIT_LO then some (lo32 (commitShown s))
  else if off = Reg.CFG_STATUS then some (viewCfgStatus s)
  else if off = Reg.CFG_START_COUNT then
    some (pack [(0, 2, s.aon.warm), (2, 2, s.aon.failA), (4, 2, s.aon.failB), (6, 2, s.aon.failG), (16, 16, sat 16 s.aon.starts)])
  else if off = Reg.CFG_SECVER_MIN then some (s.secver % 64)
  else if off = Reg.CFG_SHADOW_STATUS then
    let x := shadow s (fld s Reg.CFG_SHADOW_SEL 4 0)
    some (pack [(0, 3, x.state), (3, 3, x.owner), (6, 1, b2n x.pending), (12, 15, overlayLines x)])
  else if off = Reg.CFG_OVERLAY then some (pack [(0, 15, 0x4000 - overlayUse s), (16, 13, stagedStreams s)])
  else if off = Reg.CFG_CMD_STATUS then
    some (pack [(0, 2, s.cfgs.cmdState), (2, 3, s.cfgs.cmdCode), (8, 8, s.cfgs.cmdReason), (16, 5, s.cfgs.cmdRegion)])
  else if off = Reg.CFG_LAST_SWAP_Q_LO then some (lo32 s.cfgs.lastSwapQ)
  else if off = Reg.CFG_LAST_SWAP_MASK then some (s.cfgs.lastSwapMask % 2 ^ 17)
  else if off = Reg.CFG_BANK_STATUS then some (pack [(0, 17, s.cfgs.bankServing), (17, 5, s.cfgs.bankSpare)])
  else if off = Reg.CFG_NVM_STATUS then some (pack [(0, 2, s.cfgs.nvmState), (8, 8, s.cfgs.nvmReason)])
  else none

/-- PRT_STATUS.link (R60, R83, R368). (PRESUMED: log 17) -/
def portLinked (s : State) (n : Nat) : Bool :=
  match pkind n with
  | .e | .x => (port s n).link
  | .cf => !(port s n).busOff
  | .mv => decide ((port s n).mvSeen ≠ 0 ∧ s.tim.boundaries ≤ (port s n).mvSeen)
  | .cb => decide (s.cdb.state = .sync ∨ s.cdb.state = .passive)
  | _ => true

/-- PRT_STATUS. -/
def viewPort (s : State) (n : Nat) : Nat :=
  let p := port s n
  let can := decide (pkind n = .cf)
  pack [(0, 2, p.state), (2, 1, b2n (portLinked s n)), (3, 1, b2n p.overrun), (4, 1, b2n (can && p.busOff)),
    (5, 1, b2n (can && decide (p.txErr ≥ 128 ∨ p.rxErr ≥ 128))), (8, 8, fill256 (bufUse n p.buf) (bufSize n)),
    (16, 8, if can then sat 8 p.txErr else 0), (24, 8, if can then sat 8 p.rxErr else 0)]

/-- PRT_PATH_STATUS (R73): a bit for each path of each pair. -/
def viewPaths (s : State) : Nat :=
  let lost (pair : Nat) (b : Bool) : Bool := s.prt.prp.any (fun e => decide (e.1 / 2 ^ 48 = pair) && (if b then e.2.lostB else e.2.lostA))
  ((List.range 20).map (fun i => b2n (lost (i / 2) (decide (i % 2 = 1))) * 2 ^ i)).sum

/-- The registers of PRT. -/
def viewPrt (s : State) (off : Nat) : Option Nat :=
  if off < 0x21A40 ∧ off % 64 = 4 then some (viewPort s ((off - 0x20000) / 64))
  else if off = Reg.PRT_PRP_STATUS then some (pack [(0, 13, s.prt.prp.length), (13, 19, sat 19 s.prt.prpFull)])
  else if off = Reg.PRT_PATH_STATUS then some (viewPaths s)
  else none

/-- The static entries in use: those of the image with a key (STB_STATUS). -/
def staticEntries (s : State) : Nat :=
  ((imageIds s.cfg).filter (fun id => decide (id < 61440) && (entryKey s id).isSome)).length

/-- The registers of STB. -/
def viewStb (s : State) (off : Nat) : Option Nat :=
  if off = Reg.STB_STATUS then some (pack [(0, 16, staticEntries s), (16, 13, s.stb.learned.length)])
  else if off = Reg.STB_LEARN_STATUS then
    some (pack [(0, 6, s.stb.pending.length), (6, 6, s.stb.stash.length), (12, 20, sat 20 s.stb.admitMiss)])
  else if off = Reg.STB_PART_STATUS then some (pack ((List.range 16).map (fun p => (2 * p, 2, s.stb.parts.getD p 0))))
  else if off = Reg.STB_ENGINE_STATUS then
    some (pack ((16, 3, s.stb.spare) :: (List.range 5).map (fun e => (3 * e, 3, clsEngine s e))))
  else none

/-- FLT_SRC_STATUS (R138 to R140). -/
def viewGroup (s : State) (g : Nat) : Nat :=
  let x := tget s.flt.groups g
  let chosen := match x.forced with
    | some m => some m
    | none => x.selected
  let live := (List.range 4).map (fun m => (4 + m, 1, b2n (isLive s s.tag g (member x m))))
  let settled := (List.range 4).map (fun m => (8 + m, 1, b2n (isSettled s s.tag g (member x m))))
  pack ([(0, 2, chosen.getD 0), (2, 1, b2n chosen.isNone), (3, 1, b2n x.forced.isSome)] ++ live ++ settled)

/-- The registers of FLT. -/
def viewFlt (s : State) (off : Nat) : Option Nat :=
  if off = Reg.FLT_STATUS then
    some (pack [(0, 11, s.flt.bog.length), (11, 1, fld s Reg.FLT_BOG_CTRL 0 0), (12, 7, s.flt.bogIntake.length)])
  else if off = Reg.FLT_BOG_NEXT then some (lo32 s.flt.bogNext)
  else if 0x60100 ≤ off ∧ off < 0x60500 then some (viewGroup s ((off - 0x60100) / 4))
  else none

/-- The registers of MAP that show the program MAP_PROG_SEL selects; program 0 shows zeros. -/
def viewProg (s : State) (off : Nat) : Nat :=
  let p := fld s Reg.MAP_PROG_SEL 11 0
  let x := prog s p
  if p = 0 then 0
  else if off = Reg.MAP_PROG_INFO then
    pack [(0, 2, x.state), (2, 1, b2n (progBit s s.tag p 4)), (3, 1, b2n (progC0 s p)), (4, 11, progLen s s.tag p),
      (16, 16, if progLen s s.tag p = 0 then 0 else sat 16 (worstSteps s s.tag p))]
  else if off = Reg.MAP_PROG_RUNS then lo32 x.runs
  else if off = Reg.MAP_PROG_ABORTS then lo32 x.aborts
  else if off = Reg.MAP_PROG_DRAIN then lo32 x.drain
  else sat 8 x.consecutive

/-- MAP_ENGINE_LOAD (R148): the class-0 sub-queue is the four places of the oasis. (DEDUCED: log 60) -/
def viewEngineLoad (s : State) (e : Nat) : Nat :=
  let x := engine s e
  pack [(0, 6, x.queue.length), (8, 3, (x.queue.filter (·.oasis)).length), (11, 1, b2n (x.c0.isSome && x.sh.isSome)),
    (12, 1, b2n x.c0.isSome)]

/-- The registers of MAP. -/
def viewMap (s : State) (off : Nat) : Option Nat :=
  if off = Reg.MAP_ENGINE_STATUS then some (pack ((List.range 16).map (fun e => (2 * e, 2, (engine s e).state))))
  else if Reg.MAP_PROG_INFO ≤ off ∧ off ≤ Reg.MAP_PROG_FAULT then some (viewProg s off)
  else if off = Reg.MAP_FAULT_LAST then
    some (pack [(0, 12, s.map.faultProg), (12, 10, s.map.faultIndex), (22, 4, s.map.faultCause)])
  else if 0x70100 ≤ off ∧ off < 0x70500 then
    let c := tget s.map.cyc ((off - 0x70100) / 4)
    some (pack [(0, 2, b2n c.enabled), (2, 1, b2n (slotBusy s ((off - 0x70100) / 4))), (16, 16, sat 16 c.overlap)])
  else if 0x70500 ≤ off ∧ off < 0x70540 then some (viewEngineLoad s ((off - 0x70500) / 4))
  else none

/-- The nodes whose figures a node shows: its subtree, all used nodes for node 0. -/
def shownNodes (s : State) (n : Nat) : List Nat := if n = 0 then usedNodes s else subtree s n

/-- A sum over the nodes a node shows. -/
def nodeSum (s : State) (n : Nat) (f : Node → Nat) : Nat := ((shownNodes s n).map (fun k => f (nodeRt s k))).sum

/-- The state a node reads as (R195): a command on a node covers everything beneath it, and one out for repair reads FAULTED. (DEDUCED: log 70) -/
def ndShown (s : State) (n : Nat) : Nat :=
  let up := n :: chainOf s n
  if up.any (fun k => (nodeRt s k).out) then 3
  else if up.any (fun k => decide ((nodeRt s k).state = 0)) then 0
  else if up.any (fun k => decide ((nodeRt s k).state = 2)) then 2
  else 1

/-- The registers of BGT that show the node BGT_NODE_SELECT selects. (DEDUCED: log 30, 70) -/
def viewNode (s : State) (off : Nat) : Nat :=
  let n := fld s Reg.BGT_NODE_SELECT 12 0
  let x := nodeRt s n
  let leaf := isLeaf s n
  let adaptive := ndF s n 0 22 22
  if off = Reg.BGT_NODE_INFO then
    pack [(0, 2, ndShown s n), (2, 3, ndClass s n), (5, 1, b2n leaf), (6, 1, adaptive), (7, 1, if adaptive = 1 then b2n (!x.settled) else 0),
      (8, 1, b2n x.short), (16, 13, ndParent s n)]
  else if off = Reg.BGT_NODE_FCREDIT then lo32 x.fCredit
  else if off = Reg.BGT_NODE_ECREDIT then lo32 x.eCredit
  else if off = Reg.BGT_NODE_BUF then sat 25 (nodeSum s n (·.buf))
  else if off = Reg.BGT_NODE_FRATE then lo32 (ndRate s true n)
  else if off = Reg.BGT_NODE_ERATE then lo32 (ndRate s false n)
  else if off = Reg.BGT_NODE_REFUSED then sat 32 (nodeSum s n (·.refused))
  else if off = Reg.BGT_NODE_DROPPED then sat 32 (nodeSum s n (·.dropped))
  else sat 32 (nodeSum s n (·.drain))

/-- BGT_AVS_STATUS (R202). -/
def viewAvs (s : State) : Nat :=
  let v := s.bgt.setpoint
  pack [(0, 10, v), (10, 1, b2n (decide (v = 900))), (11, 1, b2n (decide (v = 720))), (12, 1, b2n s.bgt.paceLow),
    (16, 16, sat 16 s.bgt.commands)]

/-- The registers of BGT. -/
def viewBgt (s : State) (off : Nat) : Option Nat :=
  if off = Reg.BGT_STATUS then some (pack [(0, 14, (usedNodes s).length), (16, 16, sat 16 s.bgt.walkTime)])
  else if off = Reg.BGT_PERIOD_COUNT then some (lo32 s.bgt.periods)
  else if off = Reg.BGT_ROOT_FAB then some (lo32 s.bgt.rootFab)
  else if off = Reg.BGT_HOLD_STATUS then some (sat 13 (s.map.holds.length))
  else if Reg.BGT_PACE 0 ≤ off ∧ off ≤ Reg.BGT_PACE 3 then
    let r := (off - Reg.BGT_PACE 0) / 4
    some (pack [(0, 16, tget s.bgt.pace r), (16, 16, tgetD paceMinReset s.bgt.paceMin r)])
  else if off = Reg.BGT_AVS_STATUS then some (viewAvs s)
  else if off = Reg.BGT_OASIS_BUF then
    some (sat 21 (((usedNodes s).map (fun n => if ndClass s n = 0 then (nodeRt s n).buf else 0)).sum))
  else if (Reg.BGT_NODE_INFO ≤ off ∧ off ≤ Reg.BGT_NODE_REFUSED) ∨ off = Reg.BGT_NODE_DROPPED ∨ off = Reg.BGT_NODE_DRAIN then
    some (viewNode s off)
  else none

/-- EGR_PORT_STATUS (R196, R229 to R231). -/
def viewEgPort (s : State) (q : Nat) : Nat :=
  let p := eg s q
  pack [(0, 2, p.state), (2, 2, p.verify), (4, 1, b2n p.downSince.isSome),
    (5, 1, b2n (decide (p.sentLow ≠ 0 ∧ p.sentLow ≥ portBytes s q - oasisShare s q)))]

/-- The registers of EGR. -/
def viewEgr (s : State) (off : Nat) : Option Nat :=
  if off = Reg.EGR_STATUS then
    some (pack [(0, 18, s.egr.sharedUsed + s.egr.reservedUsed), (18, 3, s.egr.replays.length), (21, 1, b2n s.egr.joinBusy)])
  else if off = Reg.EGR_LISTENER_INFO then
    let l := fld s Reg.EGR_LISTENER_SEL 13 0
    let x := lst s l
    some (pack [(0, 2, x.state), (2, 1, b2n x.replaying), (3, 7, lsPort s l), (10, 22, sat 22 x.sent)])
  else if 0xA0100 ≤ off ∧ off < 0xA0790 ∧ off % 16 = 4 then some (viewEgPort s ((off - 0xA0100) / 16))
  else none

/-- The registers of JRN (R233 to R239). -/
def viewJrn (s : State) (off : Nat) : Option Nat :=
  let j := s.jrn
  if off = Reg.JRN_STATUS then
    some (pack [(0, 2, j.state), (2, 1, b2n j.scanning), (3, 1, b2n j.full), (4, 1, b2n j.backlog), (5, 9, j.queue.length)])
  else if off = Reg.JRN_NEWEST_LO then some (lo32 (j.newest.getD 0))
  else if off = Reg.JRN_OLDEST_LO then some (lo32 j.oldest)
  else if off = Reg.JRN_EXPORT_STATUS then some (j.expState % 8)
  else none

/-- LNI_STATUS (R247, R254 to R258). -/
def viewLane (s : State) (k : Nat) : Nat :=
  let l := lane s k
  pack [(0, 2, l.state), (2, 1, b2n l.link), (3, 1, b2n l.gap.isSome), (4, 1, b2n l.wait.isSome), (5, 1, b2n l.tx0), (6, 1, b2n l.tx1),
    (8, 8, fill256 l.used.length (ringEntries s k)), (16, 14, l.list.length)]

/-- The registers of LNI. -/
def viewLni (s : State) (off : Nat) : Option Nat :=
  if off = Reg.LNI_CYCLE_LO then some (lo32 (fenceCycle s))
  else if 0xB0100 ≤ off ∧ off < 0xB0280 then
    let k := (off - 0xB0100) / 0x80
    let o := off % 0x80
    if o = 0x04 then some (viewLane s k) else if o = 0x1C then some (lo32 (lane s k).head)
    else if o = 0x3C then some (lo32 (lane s k).tx0Head) else if o = 0x50 then some (lo32 (lane s k).tx1Head) else none
  else none

/-- The registers of VOT. -/
def viewVot (s : State) (off : Nat) : Option Nat :=
  let v := fld s Reg.VOT_STREAM_SEL 11 0
  let x := tget s.vot.streams v
  if off = Reg.VOT_STATUS then some (pack [(0, 6, voteBits s), (6, 2, votingCount s), (8, 12, s.vot.windows.length)])
  else if off = Reg.VOT_STREAM_INFO then
    some (pack [(0, 2, x.state), (2, 2, vsMode s v), (4, 1, vsF s v 0 18 18), (8, 8, vsF s v 0 31 24),
      (16, 12, (s.vot.windows.filter (fun w => decide (w.vs = v))).length)])
  else if off = Reg.VOT_STREAM_RELEASED then some (lo32 x.released)
  else if off = Reg.VOT_STREAM_NOMAJ then some (lo32 x.nomaj)
  else if off = Reg.VOT_LAST_CYCLE_LO then some (lo32 s.vot.lastCycle)
  else none

end Sys2Proof.Machine
end

