-- ==== Sys2Proof/Machine/ViewsMore.lean ====
section
/-! DEFINITION. What the status registers of BRG to STW read as, and the read of a register (R8, R9, R517, R545, R546). -/

namespace Sys2Proof.Machine

/-- A late-fault entry (R290). -/
def lateBytes (e : LateEntry) : Bytes :=
  toLE 8 e.stamp ++ toLE 1 e.window ++ toLE 1 (e.lane % 4 + 4 * b2n e.guard + 8 * (e.cause % 32)) ++ toLE 2 e.tag ++ toLE 2 e.offset ++
  toLE 1 e.bytes ++ toLE 1 0 ++ padTo 4 0#8 (e.data.take 4) ++ toLE 4 e.detail ++ toLE 8 0

/-- A word of BRG_LATE_LOG (R290): the entry at place `e` of lane `k`'s log, zero where the place holds none. -/
def viewLate (s : State) (k e w : Nat) : Nat :=
  let log := tget s.brg.late k
  match log[(e + 64 - tget s.brg.latePlace k % 64) % 64]? with
  | some x => leAt (lateBytes x) (4 * w) 4
  | none => 0

/-- BRG_WIN_INFO. -/
def viewWin (s : State) : Nat :=
  let w := fld s Reg.BRG_WIN_SEL 7 0
  let r := winW s w 0
  pack [(0, 2, (win s w).state), (2, 3, nbits r 2 0), (5, 1, nbits r 4 4), (6, 1, nbits r 5 5), (7, 1, nbits r 6 6),
    (8, 9, (s.brg.reqs.filter (fun q => decide (q.window = w))).length), (17, 7, winPort s w)]

/-- BRG_SEM_STATUS (R296): the lease left in whole ms. (DEDUCED: log 61) -/
def viewSem (s : State) (n : Nat) : Nat :=
  match (sem s n).owner with
  | some (lane, guard) => pack [(0, 1, 1), (1, 2, lane), (3, 1, b2n guard), (4, 16, sat 16 (((sem s n).expiry - now s) / msUnits))]
  | none => 0

/-- The registers of a ring set that show its state. -/
def viewRing (s : State) (kw o : Nat) : Option Nat :=
  let x := ring s kw
  if o = 0x10 then some (lo32 x.head) else if o = 0x14 then some (lo32 x.cplHead) else if o = 0x20 then some (lo32 x.lastErr)
  else if o = 0x24 then some (lo32 x.post) else none

/-- The registers of BRG. -/
def viewBrg (s : State) (off : Nat) : Option Nat :=
  if off = Reg.BRG_STATUS then
    some (pack [(0, 10, (s.brg.reqs.filter (fun q => decide (q.ex ≠ 0))).length), (10, 1, b2n (decide (s.dev = .active))),
      (11, 9, (s.brg.wins.filter (fun e => decide (e.2.state = 1))).length)])
  else if off = Reg.BRG_WIN_INFO then some (viewWin s)
  else if off = Reg.BRG_WIN_FENCE then
    some (pack ((List.range 3).map (fun k => (k, 1, b2n ((win s (fld s Reg.BRG_WIN_SEL 7 0)).fenced.contains k)))))
  else if 0xD0100 ≤ off ∧ off < 0xD0280 then viewRing s ((off - 0xD0100) / 0x40) (off % 0x40)
  else if 0xD0300 ≤ off ∧ off < 0xD0330 then
    let k := (off - 0xD0300) / 16
    if off % 16 = 0 then some (pack [(0, 7, (tget s.brg.late k).length), (7, 6, tget s.brg.latePlace k)])
    else if off % 16 = 8 then some (sat 32 (tget s.brg.lost k)) else none
  else if 0xD0400 ≤ off ∧ off < 0xD0600 then some (viewSem s ((off - 0xD0400) / 4))
  else if 0xD1000 ≤ off ∧ off < 0xD2800 then
    let i := off - 0xD1000
    some (viewLate s (i / 0x800) (i % 0x800 / 0x20) (i % 0x20 / 4))
  else none

/-- The slew remainder in 250 ps units, signed and saturating (TIM_SLEW_LEFT). -/
def viewSlew (s : State) : Nat := satInt 32 (s.tim.slew.tdiv (2 ^ 30))

/-- TIM_STATUS. -/
def viewTimStatus (s : State) : Nat :=
  let leap := fld s Reg.TIM_LEAP_CTRL 1 0
  pack [(0, 1, b2n s.tim.timeValid), (1, 1, b2n s.tim.holdover), (2, 1, b2n s.tim.holdoverLong), (3, 1, b2n (decide (viewSlew s ≠ 0))),
    (4, 1, b2n s.tim.periodFree), (5, 1, b2n (decide (leap = 1 ∨ leap = 2))), (6, 5, min 31 s.tim.depLog.length)]

/-- The registers of TIM. -/
def viewTim (s : State) (off : Nat) : Option Nat :=
  if off = Reg.TIM_STATUS then some (viewTimStatus s)
  else if off = Reg.TIM_NOW_LO then some (lo32 (now s))
  else if off = Reg.TIM_SLEW_LEFT then some (viewSlew s)
  else if off = Reg.TIM_Q_LO then some (lo32 s.tim.q)
  else if off = Reg.TIM_CB_DT_LO then some (lo32 (s.tim.cbPairs.headD (0, 0)).1)
  else if 0xE0100 ≤ off ∧ off < 0xE0900 then
    let x := trig s ((off - 0xE0100) / 0x20)
    if off % 0x20 = 0x18 then some (pack [(0, 1, b2n x.armed), (1, 1, b2n x.pulseEnd.isSome), (16, 16, sat 16 x.missed)])
    else if off % 0x20 = 0x1C then some (lo32 x.fired) else none
  else if 0xE0900 ≤ off ∧ off < 0xE0980 ∧ off % 16 = 12 then
    let x := tget s.tim.capt ((off - 0xE0900) / 16)
    some (pack [(0, 5, x.queue.length), (5, 1, b2n x.level), (16, 16, sat 16 x.lost)])
  else none

/-- CDB_STATUS (R343, R353, R354, R360). -/
def viewCdbStatus (s : State) : Nat :=
  let c := s.cdb
  let code := match c.state with
    | .off => 0 | .listen => 1 | .coldstart => 2 | .integrate => 3 | .sync => 4 | .passive => 5
  let may := gateOpen s && decide (c.state = .coldstart ∨ c.state = .sync) && !c.guardHold && !s.tim.refLost &&
    c.guardStart.isSome
  let alone := decide (c.state = .sync) && isSyncNode s && decide (c.seenLast = 0)
  pack [(0, 3, code), (3, 1, b2n may), (4, 1, b2n c.chaLost), (5, 1, b2n c.chbLost), (6, 1, b2n c.guardEpisode), (7, 1, b2n alone),
    (8, 4, sat 4 c.seenLast), (16, 16, c.cycle)]

/-- CDB_CLAIM_INFO (R364): 5 for a slot that is no spare slot. -/
def viewClaim (s : State) : Nat :=
  let k := fld s Reg.CDB_CLAIM_SEL 9 0
  let x := spare s k
  let code := match x.state with
    | .free => 0 | .claiming => 1 | .held => 2 | .taken => 3 | .backoff => 4
  if nbits (schedWord s k) 1 0 ≠ 2 then 5 else pack [(0, 3, code), (3, 6, if code = 0 then 0 else x.holder), (16, 16, sat 16 x.silent)]

/-- Bit `n` of the drifting nodes (R352). -/
def driftBits (s : State) (from_ : Nat) : Nat :=
  ((List.range 32).map (fun i => b2n (tget s.cdb.arrivals (from_ + i)).drifting * 2 ^ i)).sum

/-- The registers of CDB. -/
def viewCdb (s : State) (off : Nat) : Option Nat :=
  if off = Reg.CDB_STATUS then some (viewCdbStatus s)
  else if off = Reg.CDB_CORR then some (pack [(0, 16, satInt 16 s.cdb.o), (16, 16, satInt 16 s.cdb.r)])
  else if off = Reg.CDB_CLAIM_INFO then some (viewClaim s)
  else if off = Reg.CDB_DRIFT_LO then some (driftBits s 0 / 2 * 2)
  else if off = Reg.CDB_DRIFT_HI then some (driftBits s 32)
  else if 0xF0100 ≤ off ∧ off < 0xF0200 then
    let a := tget s.cdb.arrivals ((off - 0xF0100) / 4)
    some (pack [(0, 16, satInt 16 a.dev), (16, 7, wideCount a), (23, 1, b2n a.drifting)])
  else none

/-- RED_LEASE_LEFT: the µs until fewer than two grants of the epoch in force are current, 0 without a majority (R374). (DEDUCED: log 46) -/
def leaseLeft (s : State) : Nat :=
  if majority s = false then 0
  else
    let ls := (List.range 3).filterMap (fun k => if grantOf s k s.red.epoch then some (grant s k).lapse else none)
    let last := ls.foldl max 0
    let second := (removeAt ls ((findIdx? (fun x => decide (x = last)) ls).getD 0)).foldl max 0
    (second - s.red.leaseTimer) / usTicks

/-- RED_PEAT_STATUS (R393, R395). (DEDUCED: log 61) -/
def viewPeat (s : State) : Nat :=
  let full := match s.red.copying, s.red.commitWait with
    | some (_, f, _), _ => f
    | none, some (_, _, f) => f
    | none, none => decide (s.red.imageQ = none) && decide (s.red.staging ≠ [])
  let code := if full then 3 else if s.red.imageQ.isNone then 0 else if s.red.stale then 2 else 1
  pack [(0, 2, code), (2, 9, s.red.staging.length)]

/-- RED_STATUS (R370, R378, R398). -/
def viewRed0 (s : State) : Nat :=
  pack ([(0, 3, devCode s.dev), (3, 1, b2n (gateOpen s)), (4, 1, b2n s.red.relinquished), (5, 1, b2n s.red.peerRelinquished),
    (6, 1, fld s Reg.RED_CONFIG 0 0)] ++
    (List.range 3).map (fun k => (7 + k, 1, b2n (decide (s.red.epoch ≠ 0) && grantOf s k s.red.epoch))))

/-- RED_LINK_STATUS (R381, R386): the load of the last period in 10 Mbit/s. -/
def viewLink (s : State) : Nat :=
  let r := s.red
  let load := r.loadShown * 8 / (10 * max 1 (periodUs s))
  pack [(0, 1, b2n r.pathA), (1, 1, b2n r.pathB), (2, 1, b2n r.linkUp), (3, 1, b2n r.mirroring), (4, 1, b2n r.mirrorOvf), (5, 3, r.peerState),
    (16, 16, sat 16 load)]

/-- RED_GRANT_STATUS (R373 to R376). (DEDUCED: log 61) -/
def viewGrant (s : State) (k : Nat) : Nat :=
  let g := grant s k
  let code := if g.pend.isSome then 1 else if g.current then 2 else if g.lapsed then 3 else 0
  let ms := match g.heard with
    | some t => sat 16 ((s.red.leaseTimer - t) / 500000)
    | none => 0
  pack [(0, 2, code), (16, 16, ms)]

/-- The registers of RED. -/
def viewRed (s : State) (off : Nat) : Option Nat :=
  let r := s.red
  if off = Reg.RED_STATUS then some (viewRed0 s)
  else if off = Reg.RED_EPOCH then some (lo32 r.epoch)
  else if off = Reg.RED_EPOCH_SEEN then some (lo32 r.seen)
  else if off = Reg.RED_LEASE_LEFT then some (sat 32 (leaseLeft s))
  else if off = Reg.RED_PEAT_STATUS then some (viewPeat s)
  else if off = Reg.RED_PEAT_Q_LO then some (lo32 (r.imageQ.getD 0))
  else if off = Reg.RED_PEER_OFFSET then some (satInt 32 r.offset)
  else if off = Reg.RED_PEER_DELAY then some (satInt 32 r.delay)
  else if off = Reg.RED_LINK_STATUS then some (viewLink s)
  else if off = Reg.RED_DIV_STATUS then
    some (pack [(0, 2, r.divState), (2, 1, b2n (decide (r.ownFail = some true))), (3, 1, b2n (decide (r.peerFail = some true)))])
  else if off = Reg.RED_LAST_TAKEOVER then some (pack [(0, 2, r.lastKind), (2, 16, sat 16 r.lastDur)])
  else if 0x100100 ≤ off ∧ off < 0x100160 ∧ off % 0x20 = 0x10 then some (viewGrant s ((off - 0x100100) / 0x20))
  else none

/-- The registers of KVT that show the slot KVT_SLOT_SEL selects (R409 to R411). -/
def viewSlot (s : State) (off : Nat) : Nat :=
  let k := fld s Reg.KVT_SLOT_SEL 7 0
  let x := tget s.vault.slots k
  let state := if k = 0 then (if slotValid s.vault 0 then .valid else .zeroized) else x.state
  if off = Reg.KVT_SLOT_INFO then
    pack [(0, 3, slotStateCode state), (3, 2, x.pend), (5, 1, nbits (slotAttr s k) 22 22), (8, 8, x.parent.getD 0), (16, 8, x.label),
      (24, 1, b2n x.parent.isSome), (25, 1, b2n x.fromImage)]
  else if off = Reg.KVT_SLOT_KCV then x.kcv % 2 ^ 24
  else if off = Reg.KVT_SLOT_GEN then pack [(0, 16, x.gen), (16, 16, x.parentGen)]
  else if off = Reg.KVT_SLOT_ATTR then slotAttr s k % 2 ^ 23
  else lo32 x.send

/-- A word of the tamper log (R428). -/
def viewTamper (s : State) (i : Nat) (second : Bool) : Nat :=
  match tget s.vault.tamperLog i with
  | none => 0
  | some e => if second then pack [(0, 3, e.code), (3, 2, e.context), (16, 15, e.ticks), (31, 1, 1)] else lo32 e.secs

/-- KVT_STATUS. -/
def viewKvt0 (s : State) : Nat :=
  let v := s.vault
  let valid := ((List.range 256).filter (slotValid v)).length
  pack [(0, 2, v.lc), (2, 2, rootState v), (4, 1, b2n v.debug), (5, 1, b2n (decide (v.tamperStatus ≠ 0))), (6, 1, b2n v.sweep),
    (7, 1, b2n v.unsealed), (8, 9, valid)]

/-- The registers of KVT. -/
def viewKvt (s : State) (off : Nat) : Option Nat :=
  let v := s.vault
  if off = Reg.KVT_STATUS then some (viewKvt0 s)
  else if off = Reg.KVT_CMD_STATUS then some (pack [(0, 2, v.cmdState), (8, 8, v.cmdReason), (16, 8, v.cmdSlot)])
  else if Reg.KVT_SLOT_INFO ≤ off ∧ off ≤ Reg.KVT_SLOT_SEND_LO then some (viewSlot s off)
  else if off = Reg.KVT_TAMPER_CFG then some (v.tamperCfg % 32)
  else if off = Reg.KVT_TAMPER_STATUS then some (pack [(0, 5, v.tamperStatus), (8, 5, v.tamperLive)])
  else if off = Reg.KVT_ANCHOR_STATUS then
    some (pack ((List.range 4).flatMap (fun i => [(i, 1, b2n (decide (tget v.anchors i ≠ []))), (4 + i, 1, b2n (v.anchorRevoked.contains i))])))
  else if 0x110100 ≤ off ∧ off < 0x110140 then some (viewTamper s ((off - 0x110100) / 8) (decide (off % 8 = 4)))
  else if off = Reg.KVT_TAMPER_COUNT then some (pack [(0, 16, sat 16 v.tamperCount), (16, 3, v.tamperNext)])
  else none

/-- The registers of DGN (R500 to R513). -/
def viewDgn (s : State) (off : Nat) : Option Nat :=
  let d := s.dgn
  let sel := fld s Reg.DGN_ST_SEL 7 0
  let t := tget d.tests (testKey (sel % 8) (sel / 8))
  if off = Reg.DGN_STATUS then
    some (pack [(0, 13, d.store.length), (13, 7, d.intake.length), (20, 1, b2n d.folding), (21, 1, b2n (ejFrozen s))])
  else if off = Reg.DGN_EJ_NEXT then some (lo32 d.nextSeq)
  else if off = Reg.DGN_LAST_SF then some (pack [(0, 16, d.lastSfCode), (16, 3, d.lastSfSev)])
  else if off = Reg.DGN_LAST_SF_SEQ then some (lo32 d.lastSfSeq)
  else if off = Reg.DGN_SOURCES then some ((d.general.length + d.catchAll.length) % 2 ^ 11)
  else if off = Reg.DGN_SCRUB_STATUS then some (pack [(0, 16, d.sramPasses), (16, 16, d.dramPasses)])
  else if off = Reg.DGN_ST_INFO then some (pack [(0, 2, t.state), (2, 8, t.progress), (10, 22, sat 22 t.passes)])
  else if off = Reg.DGN_ST_LAST_LO then some (lo32 t.last)
  else if off = Reg.DGN_SNAP_STATUS then some (pack [(0, 2, d.snapState), (2, 1, b2n d.snapBusy), (3, 5, d.snapBlock)])
  else if off = Reg.DGN_TEMP then some (pack [(0, 8, satInt 8 d.tempNow), (8, 8, satInt 8 d.tempMax)])
  else none

/-- The registers of PWR and STW (R517, R526, R527, R549). STW_STATUS.servo_locked follows a comparison inside the servo that the model
does not hold: its value is free while the servo steers. (DEDUCED: log 61) -/
def viewPwrStw (s : State) (off : Nat) : Option Nat :=
  if off = Reg.PWR_STATUS then
    some (pack ((List.range 15).flatMap (fun i => [(i, 1, b2n (s.pwr.on.contains (i + 1))), (16 + i, 1, b2n (s.pwr.part.contains (i + 1)))])))
  else if off = Reg.PWR_VBAT then some (pack [(0, 12, s.pwr.vbatMv), (12, 1, b2n s.pwr.vbatLow)])
  else if off = Reg.PWR_AVS_STATUS then
    some (pack [(0, 5, s.pwr.exponent), (5, 1, b2n s.pwr.linked), (6, 1, b2n s.pwr.avsFail), (16, 16, sat 16 s.pwr.readback)])
  else if off = Reg.PWR_PMB_LAST_STATUS then some (s.pwr.lastStatus % 2 ^ 16)
  else if off = Reg.STW_STATUS then
    let servo := b2n (decide (s.stw.state = 1 ∨ s.stw.state = 2)) * fld s Reg.TIM_CTRL 0 0
    some (pack [(0, 2, s.stw.state), (2, 1, servo), (3, 1, servo * Config.freeNat s.free)])
  else if off = Reg.STW_FW_VERSION then some (lo32 s.stw.fwVersion)
  else if off = Reg.STW_HEARTBEAT then some (lo32 s.stw.heartbeat)
  else if off = Reg.STW_INTAKE then some (pack [(0, 9, s.stw.intake.length), (16, 16, sat 16 s.stw.dropped)])
  else none

/-- SAF_STATUS. -/
def viewSaf0 (s : State) : Nat :=
  let (h, p) := (s.saf.h, s.saf.p)
  let ok (c : Chan) : Bool := chRuns c && !c.peer.stale && c.peer.seq.isSome
  pack ([(0, 1, b2n (p.block.isSome && decide (h.block = p.block))), (1, 1, b2n (ok h && ok p)), (2, 1, b2n s.saf.hRun),
    (3, 1, b2n (chRuns p)), (4, 1, b2n s.saf.halt)] ++
    (List.range 8).flatMap (fun n => [(8 + n, 1, b2n ((tget h.outs n).start || (tget p.outs n).start)),
      (16 + n, 1, b2n (covered h n || covered p n))]))

/-- SAF_OUT. -/
def viewSafOut (s : State) : Nat :=
  let (h, p) := (s.saf.h, s.saf.p)
  pack ((16, 8, s.saf.fb) :: (List.range 8).flatMap (fun n => [(n, 1, b2n (tget h.outs n).drive), (8 + n, 1, b2n (tget p.outs n).drive),
    (24 + n, 1, b2n ((tget h.outs n).pulse.isSome || (tget p.outs n).pulse.isSome))]))

/-- SAF_PAIR: SAFE_P's view of each pair, its fault where either channel holds one. -/
def viewSafPair (s : State) : Nat :=
  let (h, p) := (s.saf.h, s.saf.p)
  let one (n : Nat) : Nat :=
    let f := max (tget h.pairs n).fault (tget p.pairs n).fault
    if sbPair (chBlock p) n 0 % 4 = 0 then 7 else if f ≠ 0 then 2 + f else pairState (chBlock p) n (tget p.pairs n)
  if p.block.isNone then 0 else pack ((List.range 8).map (fun n => (4 * n, 3, one n)))

/-- SAF_FUNC. -/
def viewSafFunc (s : State) : Nat :=
  let (h, p) := (s.saf.h, s.saf.p)
  let one (f : Nat) : Nat :=
    if sbFunc (chBlock p) f 0 = 0 then 0
    else pack [(0, 1, b2n (tget p.funcs f).armed), (1, 1, b2n (permissive h f && permissive p f)),
      (2, 1, b2n ((tget h.funcs f).tripped || (tget p.funcs f).tripped))]
  if p.block.isNone then 0 else pack ((List.range 8).map (fun f => (4 * f, 3, one f)))

/-- SAF_FAULT: the lowest cause latched. -/
def viewSafFault (s : State) : Nat :=
  let (h, p) := (s.saf.h, s.saf.p)
  let m := h.mismatch ||| p.mismatch
  let by_ := h.mismatchBy ||| p.mismatchBy
  pack ([(0, 1, b2n (decide (m ≠ 0))), (1, 3, ((List.range 8).find? (fun i => m.testBit i)).getD 0), (4, 1, by_ % 2), (5, 1, by_ / 2 % 2),
    (6, 1, b2n (h.paramFault || p.paramFault))] ++
    (List.range 8).map (fun n => (8 + n, 1, b2n ((tget h.outs n).testFault || (tget p.outs n).testFault))))

/-- A channel's speed register. -/
def viewSpeed (c : Chan) : Nat := pack [(0, 24, sat 24 c.speed), (24, 2, c.dir), (26, 1, b2n (chRuns c && c.block.isSome))]

/-- SAF_RESET (R459 to R461). -/
def viewSafReset (s : State) : Nat :=
  let b := s.saf.p.button
  let code := if b.faulted then 3 else if b.heldDone then 2 else if b.pressed then 1 else 0
  pack [(0, 2, code), (2, 1, b2n b.no.level), (3, 1, b2n b.nc.level), (16, 16, sat 16 s.saf.resets)]

/-- The registers of SAF (R468): the view SAFE_P keeps, as fresh as the channels. (DEDUCED: log 54) -/
def viewSaf (s : State) (off : Nat) : Option Nat :=
  let (h, p) := (s.saf.h, s.saf.p)
  if off = Reg.SAF_STATUS then some (viewSaf0 s)
  else if off = Reg.SAF_OUT then some (viewSafOut s)
  else if off = Reg.SAF_PAIR then some (viewSafPair s)
  else if off = Reg.SAF_FUNC then some (viewSafFunc s)
  else if off = Reg.SAF_FAULT then some (viewSafFault s)
  else if off = Reg.SAF_SPEED_H then some (viewSpeed h)
  else if off = Reg.SAF_SPEED_P then some (viewSpeed p)
  else if off = Reg.SAF_COUNT_H then some (lo32 h.count0)
  else if off = Reg.SAF_COUNT_P then some (lo32 p.count1)
  else if off = Reg.SAF_COUNT_P0 then some (lo32 p.count0)
  else if off = Reg.SAF_ODO0_STAMP_LO then some (lo32 s.saf.odo0Stamp)
  else if off = Reg.SAF_ODO1_STAMP_LO then some (lo32 s.saf.odo1Stamp)
  else if off = Reg.SAF_RESET then some (viewSafReset s)
  else if off = Reg.SAF_PARAM_CRC then some (if p.block.isSome then lo32 p.blockCrc else 0)
  else if off = Reg.SAF_PARAM_ID then some (leAt (chBlock p) 8 4)
  else if off = Reg.SAF_PARAM_SRC then some (pack [(0, 1, b2n p.usingB), (1, 2, p.copies)])
  else if off = Reg.SAF_CLOCK then some (pack [(0, 16, sat 16 h.clockCount), (16, 16, sat 16 p.clockCount)])
  else if off = Reg.SAF_LAST_EVENT then some s.saf.lastEvent.toNat
  else none

/-- A register that shows state, by its block. -/
def viewReg (s : State) (off : Nat) : Option Nat :=
  if off < 0x20000 then viewDevCfg s off else if off < 0x40000 then viewPrt s off else if off < 0x60000 then viewStb s off
  else if off < 0x70000 then viewFlt s off else if off < 0x80000 then viewMap s off else if off < 0xA0000 then viewBgt s off
  else if off < 0xB0000 then viewEgr s off else if off < 0xC0000 then viewLni s off else if off < 0xD0000 then viewVot s off
  else if off < 0xE0000 then viewBrg s off else if off < 0xF0000 then viewTim s off else if off < 0x100000 then viewCdb s off
  else if off < 0x110000 then viewRed s off else if off < 0x120000 then viewKvt s off else if off < 0x130000 then viewSaf s off
  else if off < 0x140000 then viewDgn s off else if off < 0x150000 then viewPwrStw s off else if off < 0x160000 then viewJrn s off
  else viewPwrStw s off

/-- What a read of the low half of a latched pair latches (R546): each latched register and its value. (DEDUCED: log 13) -/
def latches (s : State) (off : Nat) : List (Nat × Nat) :=
  let next (v : Nat) : List (Nat × Nat) := [(off + 4, hi32 v)]
  if off = Reg.DEV_COMMIT_LO then next (commitShown s)
  else if off = Reg.CFG_LAST_SWAP_Q_LO then next s.cfgs.lastSwapQ
  else if off = Reg.LNI_CYCLE_LO then next (fenceCycle s)
  else if off = Reg.VOT_LAST_CYCLE_LO then next s.vot.lastCycle
  else if off = Reg.TIM_NOW_LO then next (now s)
  else if off = Reg.TIM_Q_LO then [(Reg.TIM_Q_HI, hi32 s.tim.q), (Reg.TIM_BOUND_LO, lo32 s.tim.bound), (Reg.TIM_BOUND_HI, hi32 s.tim.bound)]
  else if off = Reg.TIM_CB_DT_LO then
    let e := s.tim.cbPairs.headD (0, 0)
    [(Reg.TIM_CB_DT_HI, hi32 e.1), (Reg.TIM_CB_TIME, lo32 e.2)]
  else if off = Reg.RED_PEAT_Q_LO then next (s.red.imageQ.getD 0)
  else if off = Reg.KVT_SLOT_SEND_LO then next ((tget s.vault.slots (fld s Reg.KVT_SLOT_SEL 7 0)).send % 2 ^ 48)
  else if off = Reg.SAF_ODO0_STAMP_LO then next s.saf.odo0Stamp
  else if off = Reg.SAF_ODO1_STAMP_LO then next s.saf.odo1Stamp
  else if off = Reg.DGN_ST_LAST_LO then
    let sel := fld s Reg.DGN_ST_SEL 7 0
    next (tget s.dgn.tests (testKey (sel % 8) (sel / 8))).last
  else if off = Reg.JRN_NEWEST_LO then next (s.jrn.newest.getD 0)
  else if off = Reg.JRN_OLDEST_LO then next s.jrn.oldest
  else []

/-- Whether an offset holds a half that a read of its pair latches (R546). (DEDUCED: log 13) -/
def latched (off : Nat) : Bool :=
  [Reg.DEV_COMMIT_HI, Reg.CFG_LAST_SWAP_Q_HI, Reg.LNI_CYCLE_HI, Reg.VOT_LAST_CYCLE_HI, Reg.TIM_NOW_HI, Reg.TIM_Q_HI, Reg.TIM_BOUND_LO,
    Reg.TIM_BOUND_HI, Reg.TIM_CB_DT_HI, Reg.TIM_CB_TIME, Reg.RED_PEAT_Q_HI, Reg.KVT_SLOT_SEND_HI, Reg.SAF_ODO0_STAMP_HI,
    Reg.SAF_ODO1_STAMP_HI, Reg.DGN_ST_LAST_HI, Reg.JRN_NEWEST_HI, Reg.JRN_OLDEST_HI, Reg.TIM_DEP_LO, Reg.TIM_DEP_HI].contains off ||
  (decide (0xE0900 ≤ off ∧ off < 0xE0980) && decide (off % 16 = 8))

/-- A word of a function's MSI-X table or pending-bit array (R543, R551). -/
def readMsix (s : State) (lane : Nat) (guard : Bool) (off : Nat) : Nat :=
  if off < 0xF00400 then (msixWord s lane guard ((off - 0xF00000) / 16) (off % 16 / 4)).toNat
  else if off = 0xF01000 ∨ off = 0xF01004 then
    let from_ := 32 * ((off - 0xF01000) / 4)
    ((List.range 32).map (fun i => b2n (tget s.pba (vecKey lane guard (from_ + i))) * 2 ^ i)).sum
  else 0

/-- Whether an offset lies in the MSI-X range of a function. -/
def inMsix (off : Nat) : Bool := decide (0xF00000 ≤ off ∧ off < 0xF01008)

/-- What a 32-bit read returns (R9, R517, R545): 0 at a reserved offset, for a write-only register, and where the domain is off; a
latched half from the requester's own latch. -/
def readReg (s : State) (r : Req) (off : Nat) : Nat :=
  if off % 4 ≠ 0 then 0
  else if inMsix off then
    match r with
    | .fn lane guard => readMsix s lane guard off
    | .steward => 0
  else if (accOf off).isNone ∧ roOffset off = false then 0
  else if domainOn s (domainOf off) = false then 0
  else if latched off then (tget s.latch (reqKey r * 2 ^ 24 + off)).toNat
  else
    match viewReg s off with
    | some v => v % 2 ^ 32
    | none =>
      match accOf off with
      | some a => if a.rw = 0 ∧ a.rwg = 0 ∧ a.w1c = 0 ∧ a.w1s = 0 then 0 else (rd s off).toNat
      | none => (rd s off).toNat

end Sys2Proof.Machine
end

