-- ==== Sys2Proof/Machine/Access.lean ====
section
/-! DEFINITION. Control-space accesses that have no command of their own (R8 to R10, R545, R546), the MSI-X tables (R544, R551) and the
ends of moderation intervals (R272). -/

namespace Sys2Proof.Machine

/-- The fields of a register whose writes are commands of their own: enables, tails, the increment, a leap. (DESIGN CHOICE: log 12) -/
def ownFields (off : Nat) : Nat :=
  let lane := decide (0xB0100 ≤ off ∧ off < 0xB0280)
  let ringSet := decide (0xD0100 ≤ off ∧ off < 0xD0280)
  if (0x20000 ≤ off ∧ off < 0x21A40 ∧ off % 64 = 0) ∨ (0xA0100 ≤ off ∧ off < 0xA0790 ∧ off % 16 = 0) then 1
  else if off = Reg.JRN_CTRL ∨ off = Reg.CDB_CTRL then 1
  else if lane = true ∧ off % 0x80 = 0 then 7
  else if lane = true ∧ (off % 0x80 = 0x20 ∨ off % 0x80 = 0x38 ∨ off % 0x80 = 0x4C) then allBits
  else if ringSet = true ∧ off % 0x40 = 0x1C then 1
  else if ringSet = true ∧ (off % 0x40 = 0x0C ∨ off % 0x40 = 0x18) then allBits
  else if off = Reg.TIM_INC_LO ∨ off = Reg.TIM_INC_HI ∨ off = Reg.TIM_LEAP_CTRL then allBits
  else 0

/-- Whether a register accepts no write now: ring bases and sizes while the ring is in use (R247, R258, R283), the record of an armed
trigger (R325). -/
def frozenReg (s : State) (off : Nat) : Bool :=
  if 0xB0100 ≤ off ∧ off < 0xB0280 then
    let k := (off - 0xB0100) / 0x80
    let o := off % 0x80
    (decide (0x08 ≤ o ∧ o ≤ 0x18) && decide ((lane s k).state ≠ 0)) || (decide (0x2C ≤ o ∧ o ≤ 0x34) && (lane s k).tx0) ||
    (decide (0x40 ≤ o ∧ o ≤ 0x48) && (lane s k).tx1)
  else if 0xD0100 ≤ off ∧ off < 0xD0280 then
    decide (off % 0x40 ≤ 0x08) && bit (rd s (Reg.BRG_CR_CTRL ((off - 0xD0100) / 0x40))) 0
  else if 0xE0100 ≤ off ∧ off < 0xE0900 then (trig s ((off - 0xE0100) / 0x20)).armed
  else false

/-- The write of the fields of a mask. -/
def putMask (s : State) (off mask value : Nat) : State :=
  wr s off (BitVec.ofNat 32 (((rd s off).toNat &&& (allBits - mask)) ||| (value &&& mask)))

/-- What a write that is not discarded does (R9): the fields the writer may set take the value; bits written as 1 clear or set W1C and W1S
fields; KVT_LOAD takes a key word. (DEDUCED: log 11) -/
def setFields (s : State) (a : Acc) (off mask value : Nat) : State :=
  if a.w1c ≠ 0 then wr s off (BitVec.ofNat 32 ((rd s off).toNat &&& (allBits - (value &&& a.w1c))))
  else if a.w1s ≠ 0 then { s with vault := { s.vault with tamperCfg := s.vault.tamperCfg ||| (value &&& a.w1s) } }
  else if 0x110010 ≤ off ∧ off < 0x110030 then
    { s with vault := { s.vault with load := tset s.vault.load ((off - 0x110010) / 4) (BitVec.ofNat 32 value) } }
  else if a.wo ≠ 0 then s
  else if frozenReg s off then s
  else if 0x20000 ≤ off ∧ off < 0x21A40 ∧ off % 64 = 0x20 then
    let n := (off - 0x20000) / 64
    putMask (setPort s n { port s n with compPast := (now s, fld s off 15 0) :: (port s n).compPast }) off mask value
  else if off = Reg.CDB_CHB_COMP then
    putMask { s with cdb := { s.cdb with chbPast := (now s, fld s off 15 0) :: s.cdb.chbPast } } off mask value
  else putMask s off mask value

/-- Word `i` of a function's MSI-X table is written; the mask bit is the one bit of the vector control word (R551). (PRESUMED: log 4) -/
def putMsix (s : State) (lane : Nat) (guard : Bool) (vec i : Nat) (w : Word) : State :=
  let w := if i = 3 then w &&& 1#32 else if i = 0 then w &&& 0xFFFFFFFC#32 else w
  let s := { s with msix := tsetD msixReset s.msix (vecKey lane guard vec * 4 + i) w }
  let k := vecKey lane guard vec
  if i = 3 ∧ bit w 0 = false ∧ tget s.pba k = true then emit { s with pba := tset s.pba k false } (.msix lane guard vec) else s

/-- A write into the MSI-X range of a function (R543, R544): aligned, 32 or 64 bits; the pending-bit array is read-only. (PRESUMED: log 4) -/
def writeMsix (s : State) (r : Req) (off width value : Nat) : State :=
  match r with
  | .steward => discard s r off 1
  | .fn lane guard =>
    if ¬ ((width = 32 ∧ off % 4 = 0) ∨ (width = 64 ∧ off % 8 = 0)) then discard s r off 5
    else if off < 0xF00400 then
      let v := (off - 0xF00000) / 16
      let s := putMsix s lane guard v (off % 16 / 4) (BitVec.ofNat 32 value)
      if width = 64 then putMsix s lane guard v (off % 16 / 4 + 1) (BitVec.ofNat 32 (value / 2 ^ 32)) else s
    else if off < 0xF01000 then discard s r off 1
    else s

/-- REGISTER_WRITE (R8, R9, R45, R313, R545): a write sets the fields that their types and its world allow; fields whose writes are
commands of their own stay for those. (DEDUCED: log 11; DESIGN CHOICE: log 12) -/
def execRegisterWrite (r : Req) (off width value : Nat) (s : State) : Res :=
  .next (if off ≥ 2 ^ 24 then s
    else if inMsix off then writeMsix s r off width value
    else
      match discardCause s r off width with
      | some c => discard s r off c
      | none =>
        match accOf off with
        | none => s
        | some a =>
          let go (s : State) : State := setFields s a off (allowedMask r a &&& (allBits - ownFields off)) value
          if a.world = .m then masterGate s r off go else go s)

/-- A read that is well formed: the value goes to the requester, and the other half of a latched pair is latched for it alone (R546). A
read that has a command of its own does nothing here. -/
def readWord (s : State) (r : Req) (off : Nat) : State :=
  if off = Reg.TIM_DEP_INFO ∨ (0xE0900 ≤ off ∧ off < 0xE0980 ∧ off % 16 = 4) then s
  else
    let v := readReg s r off
    let s := if domainOn s (domainOf off) then (latches s off).foldl (fun s e => latchHalf s r e.1 e.2) s else s
    let s := if off = Reg.STW_STATUS then { s with free := s.free + 1 } else s
    emit s (.readData r off (BitVec.ofNat 32 v))

/-- LATCHING_READ (R8, R9, R544, R546): a read of `width` bits; one that is not 32 bits wide or not aligned returns 0 and latches nothing.
The MSI-X table and the pending-bit array also accept aligned 64-bit reads. (DESIGN CHOICE: log 12; DEDUCED: log 13) -/
def execLatchingRead (r : Req) (off width : Nat) (s : State) : Res :=
  .next (
    if off ≥ 2 ^ 24 then s
    else if width = 32 ∧ off % 4 = 0 then readWord s r off
    else if width = 64 ∧ off % 8 = 0 ∧ inMsix off = true then readWord (readWord s r off) r (off + 4)
    else emit s (.readData r off 0#32))

/-- MSIX_UNMASK (R551): the mask bit falls; a pending vector sends its one message. -/
def execMsixUnmask (r : Req) (vec : Nat) (s : State) : Res :=
  .next (match r with
    | .fn lane guard => if vec < 64 then putMsix s lane guard vec 3 0#32 else s
    | .steward => s)

/-- The moderation interval of a vector in µs, 0 where it has none (R272, R308, R503). (DEDUCED: log 63) -/
def modInterval (s : State) (lane : Nat) (guard : Bool) (vec : Nat) : Nat :=
  if guard = false ∧ vec = 0 then rxMod s lane
  else if (guard = false ∧ vec = 3) ∨ (guard = true ∧ vec = 0) then txMod s lane
  else if (guard = false ∧ vec = 5) ∨ (guard = true ∧ vec = 3) then fld s (Reg.BRG_CR_CTRL (2 * lane + b2n guard)) 15 8
  else if guard = false ∧ vec = 10 then 100
  else 0

/-- MODERATION_INTERVAL_EXPIRY (R246, R272): a vector that fell due is raised and the next interval begins; a writeback block that waited
is written. (DEDUCED: log 63) -/
def execModerationIntervalExpiry (lane : Nat) (guard : Bool) (vec : Nat) (s : State) : Res :=
  .next (
    let k := vecKey lane guard vec
    let m := tget s.moder k
    if lane > 2 ∨ vec > 63 ∨ m.running = false ∨ now s < m.until_ then s
    else
      let s := { s with moder := tset s.moder k default }
      let s := if m.due then raiseMod s lane guard vec (modInterval s lane guard vec) else s
      let ring := decide (vec = 0) || (decide (vec = 3) && !guard)
      if ring = true ∧ (Machine.lane s lane).wbDue = true then writeWb s lane else s)

end Sys2Proof.Machine
end

