-- ==== Sys2Proof/Machine/Journal.lean ====
section
/-! DEFINITION. The journal (R233 to R239): records, blocks, their seals and chain, export. -/

namespace Sys2Proof.Machine

/-- N, the places of the area. -/
def jrnPlaces (s : State) : Nat := (rd s Reg.JRN_AREA_BLOCKS).toNat

/-- A record (R234): descriptor and payload, padded to 8 bytes. -/
def dataRecord (x : Sent) : Bytes :=
  let r := dataDesc x 0 ++ x.payload
  padTo ((r.length + 7) / 8 * 8) 0#8 r

/-- The bytes of a block before its hash (R235). -/
def blockHead (s : State) (isSealed timed : Bool) : Bytes :=
  let j := s.jrn
  let head := [0x43#8, 0x52#8, 0x4A#8, 0x42#8, 1#8] ++ toLE 1 (b2n isSealed + 2 * b2n j.chainStart + 4 * b2n timed) ++
    toLE 1 (fld s Reg.JRN_CTRL 19 12) ++ toLE 1 j.firstGen ++ toLE 8 j.number ++ toLE 8 j.firstIndex ++ toLE 8 j.lastIndex ++
    toLE 8 j.firstStamp ++ toLE 8 (now s) ++ toLE 4 j.recs.length ++ toLE 4 j.recCount ++ toLE 8 0 ++
    (if j.chainStart then List.replicate 32 0#8 else padTo 32 0#8 (j.prevHash.take 32)) ++ List.replicate 32 0#8
  padTo 65488 0#8 (head ++ j.recs)

/-- The bytes a block's records may take. -/
abbrev recordRoom : Nat := 65360

/-- The journal's registers name the newest block and the oldest one held. -/
def jrnShow (s : State) (b : Nat) : State :=
  let j := s.jrn
  let old := match j.newest with
    | none => b
    | some _ => max j.oldest (b + 1 - jrnPlaces s)
  { s with jrn := { j with newest := some b, oldest := old } }

/-- The open block is hashed, sealed, chained and written to its place (R235, R236, R238). -/
def closeBlock (s : State) (timed : Bool) : State :=
  let j := s.jrn
  if j.recCount = 0 then s
  else
    let (key, s) := takeKey s (fld s Reg.JRN_CTRL 19 12) 9 useMacGen
    let body := blockHead s key.isSome timed
    let hash := padTo 32 0#8 ((Config.sha256 body).take 32)
    let tag := match key with
      | some k => padTo 16 0#8 ((Config.cmac k hash).take 16)
      | none => List.replicate 16 0#8
    let s := if key.isSome then s else report (cnt s Reg.JRN_CNT_SEAL_FAIL) Ev.JRN_SEAL_FAIL noInst 0
    let n := jrnPlaces s
    let wrap := bit (rd s Reg.JRN_CTRL) 1 = false
    let blk : JBlock := { bytes := body ++ hash ++ tag, number := j.number, bad := false }
    let s := jrnShow (cnt s Reg.JRN_CNT_BLOCKS) j.number
    let j := s.jrn
    let j := { j with area := tset j.area (j.number % n) (some blk), written := j.written + 1, number := j.number + 1
                      chainStart := false, prevHash := hash, recs := [], recCount := 0, firstIndex := 0, lastIndex := 0
                      firstStamp := 0, firstGen := 0, openSince := 0 }
    let j := { j with full := j.full || (!decide wrap && decide (j.written ≥ n)) }
    let s := { s with jrn := j }
    if wrap ∧ n ≠ 0 ∧ j.number % n = 0 then report (cnt s Reg.JRN_CNT_WRAP) Ev.JRN_WRAP noInst 0 else s

/-- A record is appended to the open block, which closes first where it has no room (R236). -/
def appendRecord (s : State) (gen : Nat) (r : Bytes) : State :=
  let s := if s.jrn.recs.length + r.length > recordRoom then closeBlock s false else s
  if s.jrn.full then s
  else
    let j := s.jrn
    let j := if j.recCount = 0 then { j with openSince := now s, firstGen := gen } else j
    { s with jrn := { j with recs := j.recs ++ r, recCount := j.recCount + 1 } }

/-- A GENERATION mark precedes the first record of a new generation (R234). (DEDUCED: log 37) -/
def newGeneration (s : State) (gen : Nat) : State :=
  if s.jrn.lastGen = gen then s
  else appendRecord { s with jrn := { s.jrn with lastGen := gen } } gen (markDesc 2 (now s) (gen * 2 ^ 56) 0)

/-- A committed sentence is recorded; in a full journal it is lost (R238). -/
def recordData (s : State) (x : Sent) : State :=
  let gen := x.index / 2 ^ 56
  let s := appendRecord (newGeneration s gen) gen (dataRecord x)
  if s.jrn.full then cnt s Reg.JRN_CNT_LOST
  else
    let j := s.jrn
    let first := decide (j.firstIndex = 0)
    let j := { j with firstIndex := if first then x.index else j.firstIndex, lastIndex := x.index
                      firstStamp := if first then x.stamp else j.firstStamp }
    cnt { s with jrn := j } Reg.JRN_CNT_RECORDS

/-- Space has returned: the missed indices follow what is queued as one LOSS mark (R233, R237). (DEDUCED: log 37) -/
def lossMark (s : State) : State :=
  let j := s.jrn
  if j.missCount = 0 ∨ j.scanning = true then s
  else
    cntAdd { s with jrn := { j with queue := j.queue ++ [.mark 1 j.missFirst j.missCount (now s)], missCount := 0, missFirst := 0
                                    backlog := false } } Reg.JRN_CNT_LOST j.missCount

/-- JOURNAL_RECORD (R233 to R238, R371). -/
def execJournalRecord (s : State) : Res :=
  .next (
    if s.jrn.scanning = true ∨ s.jrn.state = 0 ∨ s.dev ≠ .active then s
    else match s.jrn.queue with
      | [] => s
      | it :: rest =>
        let s := { s with jrn := { s.jrn with queue := rest } }
        let s := match it with
          | .data x => blkDrop (recordData s x) x.blk
          | .mark code a b stamp =>
            appendRecord (newGeneration s s.com.gen) s.com.gen (markDesc code (if code = 1 then now s else stamp) a b)
        lossMark s)

/-- JRN_CTRL.close_ms in stamp units. -/
def closeTime (s : State) : Nat := max 1 (fld s Reg.JRN_CTRL 11 2) * msUnits

/-- JOURNAL_CLOSE_TIMEOUT (R236). -/
def execJournalCloseTimeout (s : State) : Res :=
  .next (if s.jrn.recCount ≠ 0 ∧ since s s.jrn.openSince ≥ closeTime s then closeBlock s true else s)

/-- Whether a place of the area holds a block whose magic and hash verify (R237). -/
def blockGood (b : JBlock) : Bool :=
  !b.bad && decide (b.bytes.take 4 = [0x43#8, 0x52#8, 0x4A#8, 0x42#8]) &&
  decide (slice b.bytes 65488 32 = padTo 32 0#8 ((Config.sha256 (b.bytes.take 65488)).take 32))

/-- JOURNAL_SCAN_DONE (R237): the first number follows the highest of the blocks that verify, and the chain begins anew. -/
def execJournalScanDone (s : State) : Res :=
  .next (
    let j := s.jrn
    if j.scanning = false then s
    else
      let found := j.area.filterMap (fun e => match e.2 with
        | some b => if decide (e.1 < jrnPlaces s) && blockGood b then some b.number else none
        | none => none)
      let high := found.foldl max 0
      let j := { j with scanning := false, chainStart := true, number := if found = [] then 0 else high + 1
                        newest := if found = [] then none else some high, oldest := found.foldl min high }
      lossMark { s with jrn := j })

/-- The closed block with a number, where the area still holds it. -/
def heldBlock (s : State) (b : Nat) : Option JBlock :=
  match tget s.jrn.area (b % jrnPlaces s) with
  | some k => if k.number = b then some k else none
  | none => none

/-- JOURNAL_EXPORT (R239): JRN_EXPORT_CMD with its start bit. (DEDUCED: log 37) -/
def execJournalExport (r : Req) (value : Word) (s : State) : Res :=
  .next (gated s r Reg.JRN_EXPORT_CMD (fun s =>
    if bit value 2 = false ∨ bits value 1 0 = 3 then s
    else if s.jrn.expData ≠ [] then { s with jrn := { s.jrn with expState := 5 } }
    else
      let b := addr64 s Reg.JRN_EXPORT_BLOCK_LO Reg.JRN_EXPORT_BLOCK_HI
      match heldBlock s b with
      | none => { s with jrn := { s.jrn with expState := 3 } }
      | some k =>
        let at_ := addr64 s Reg.JRN_EXPORT_ADDR_LO Reg.JRN_EXPORT_ADDR_HI / 4096 * 4096
        { s with jrn := { s.jrn with expState := 1, expNumber := b, expLane := bits value 1 0, expAddr := at_, expData := k.bytes } }))

/-- JOURNAL_EXPORT_DONE (R239). -/
def execJournalExportDone (s : State) : Res :=
  .next (
    let j := s.jrn
    if j.expData = [] then s
    else
      let st := if (heldBlock s j.expNumber).isSome then 2 else 4
      let s := emit { s with jrn := { j with expState := st, expData := [] } } (.lane j.expLane j.expAddr j.expData)
      raise s j.expLane false 9)

/-- JOURNAL_ENABLE (R231). -/
def execJournalEnable (r : Req) (s : State) : Res :=
  .next (gatedBit s r Reg.JRN_CTRL 0 (fun s =>
    let s := setFld s Reg.JRN_CTRL 0 0 1
    { s with jrn := { s.jrn with state := 1 } }))

/-- JOURNAL_DISABLE (R231). -/
def execJournalDisable (r : Req) (s : State) : Res :=
  .next (gatedBit s r Reg.JRN_CTRL 0 (fun s =>
    let s := setFld s Reg.JRN_CTRL 0 0 0
    if s.jrn.state = 1 then { s with jrn := { s.jrn with state := 2, drainAt := drainEnd s } } else s))

/-- JOURNAL_DRAIN_COMPLETE (R231). -/
def execJournalDrainComplete (s : State) : Res :=
  .next (if s.jrn.state = 2 ∧ s.jrn.queue = [] then { s with jrn := { s.jrn with state := 0 } } else s)

/-- JOURNAL_DRAIN_LIMIT (R27, R231): the sentences left are lost. (DEDUCED: log 37) -/
def execJournalDrainLimit (s : State) : Res :=
  .next (
    if s.jrn.state ≠ 2 ∨ s.tim.boundaries < s.jrn.drainAt then s
    else
      let left := jnData s.jrn.queue
      let s := left.foldl (fun s x => blkDrop s x.blk) { s with jrn := { s.jrn with state := 0, queue := [] } }
      let n := left.length
      if n = 0 then s else report (cntAdd (cntAdd s Reg.EGR_CNT_DRAIN n) Reg.JRN_CNT_LOST n) Ev.EGR_DRAIN_LOSS noInst 0)

/-- JRN_CNT_CLEAR bit 0 (R240). -/
def execJrnCntClearCounters (r : Req) (s : State) : Res :=
  .next (gated s r Reg.JRN_CNT_CLEAR (fun s => clearRegs s Reg.JRN_CNT_RECORDS Reg.JRN_CNT_SEAL_FAIL))

/-- JOURNAL_RESTART (R238): JRN_CNT_CLEAR bit 1, from the guard world only. -/
def execJournalRestart (r : Req) (s : State) : Res :=
  .next (gated s r Reg.JRN_CNT_CLEAR (fun s =>
    if reqGuard r then { s with jrn := { s.jrn with full := false, written := 0 } } else s))

end Sys2Proof.Machine
end

