-- ==== Sys2Proof/Machine/Dispatch.lean ====
section
/-! DEFINITION. The dispatcher: one arm for each command, calling the one definition that is its meaning. -/

namespace Sys2Proof.Machine

def exec (i : Instr) (s : State) : Host.Outcome State Fault Refusal :=
  match i with
  | .registerWrite r off width value => Sys2Proof.Machine.execRegisterWrite r off width value s
  | .latchingRead r off width => Sys2Proof.Machine.execLatchingRead r off width s
  | .msixUnmask r vec => Sys2Proof.Machine.execMsixUnmask r vec s
  | .spSentenceEnd n => Sys2Proof.Machine.execSpSentenceEnd n s
  | .spGapEnd n => Sys2Proof.Machine.execSpGapEnd n s
  | .charTimeout n => Sys2Proof.Machine.execCharTimeout n s
  | .crWaitExpiry n => Sys2Proof.Machine.execCrWaitExpiry n s
  | .breakOutsideSentence n => Sys2Proof.Machine.execBreakOutsideSentence n s
  | .canFrameEnd n id ide rtr fd data err t e => Sys2Proof.Machine.execCanFrameEnd n id ide rtr fd data err t e s
  | .canBusOff n inFrame => Sys2Proof.Machine.execCanBusOff n inFrame s
  | .canBusOffRecovery n => Sys2Proof.Machine.execCanBusOffRecovery n s
  | .mvbSlaveFrameEnd n a b data t e => Sys2Proof.Machine.execMvbSlaveFrameEnd n a b data t e s
  | .mvbMasterFrame n addr code => Sys2Proof.Machine.execMvbMasterFrame n addr code s
  | .mvbPoll n => Sys2Proof.Machine.execMvbPoll n s
  | .ethFrameEnd n frame t e => Sys2Proof.Machine.execEthFrameEnd n frame t e s
  | .prpNodeForget pair mac => Sys2Proof.Machine.execPrpNodeForget pair mac s
  | .prpPathLost pair mac path => Sys2Proof.Machine.execPrpPathLost pair mac path s
  | .pauseFrameReceived n quanta => Sys2Proof.Machine.execPauseFrameReceived n quanta s
  | .linkDown n inFrame => Sys2Proof.Machine.execLinkDown n inFrame s
  | .linkUp n => Sys2Proof.Machine.execLinkUp n s
  | .portStagingEntry n => Sys2Proof.Machine.execPortStagingEntry n s
  | .portEnable r n => Sys2Proof.Machine.execPortEnable r n s
  | .portDisable r n => Sys2Proof.Machine.execPortDisable r n s
  | .portDrainComplete n => Sys2Proof.Machine.execPortDrainComplete n s
  | .portDrainLimit n => Sys2Proof.Machine.execPortDrainLimit n s
  | .prtCntClearPort r n => Sys2Proof.Machine.execPrtCntClearPort r n s
  | .prtCntClearAll r => Sys2Proof.Machine.execPrtCntClearAll r s
  | .stewardSentence tag payload => Sys2Proof.Machine.execStewardSentence tag payload s
  | .classify n => Sys2Proof.Machine.execClassify n s
  | .wildcardSearch => Sys2Proof.Machine.execWildcardSearch s
  | .insertionComplete => Sys2Proof.Machine.execInsertionComplete s
  | .streamAdmit r id => Sys2Proof.Machine.execStreamAdmit r id s
  | .streamReject r id => Sys2Proof.Machine.execStreamReject r id s
  | .streamRelease r id => Sys2Proof.Machine.execStreamRelease r id s
  | .wholeSecond => Sys2Proof.Machine.execWholeSecond s
  | .learnedEntryEmpty id => Sys2Proof.Machine.execLearnedEntryEmpty id s
  | .streamEnable r id => Sys2Proof.Machine.execStreamEnable r id s
  | .streamDisable r id => Sys2Proof.Machine.execStreamDisable r id s
  | .streamClearCounters r id => Sys2Proof.Machine.execStreamClearCounters r id s
  | .streamClearLastValue r id => Sys2Proof.Machine.execStreamClearLastValue r id s
  | .streamDrainComplete id => Sys2Proof.Machine.execStreamDrainComplete id s
  | .streamDrainLimit id => Sys2Proof.Machine.execStreamDrainLimit id s
  | .lvcWrite => Sys2Proof.Machine.execLvcWrite s
  | .stbCntClearGlobal r => Sys2Proof.Machine.execStbCntClearGlobal r s
  | .stbCntClearRules r => Sys2Proof.Machine.execStbCntClearRules r s
  | .stbCntClearStreams r => Sys2Proof.Machine.execStbCntClearStreams r s
  | .filterEvaluate => Sys2Proof.Machine.execFilterEvaluate s
  | .bogWrite => Sys2Proof.Machine.execBogWrite s
  | .sourceForce r g m => Sys2Proof.Machine.execSourceForce r g m s
  | .sourceRelease r g => Sys2Proof.Machine.execSourceRelease r g s
  | .fltCntClearCounters r => Sys2Proof.Machine.execFltCntClearCounters r s
  | .fltCntClearBog r => Sys2Proof.Machine.execFltCntClearBog r s
  | .mapperDispatch => Sys2Proof.Machine.execMapperDispatch s
  | .holdLimitExpiry place => Sys2Proof.Machine.execHoldLimitExpiry place s
  | .mapRunStart e first => Sys2Proof.Machine.execMapRunStart e first s
  | .class0Preempt e => Sys2Proof.Machine.execClass0Preempt e s
  | .opEnd e => Sys2Proof.Machine.execOpEnd e s
  | .opDrop e => Sys2Proof.Machine.execOpDrop e s
  | .opSkip e => Sys2Proof.Machine.execOpSkip e s
  | .opLdc e => Sys2Proof.Machine.execOpLdc e s
  | .opLds e => Sys2Proof.Machine.execOpLds e s
  | .opLdb e => Sys2Proof.Machine.execOpLdb e s
  | .opLdt e => Sys2Proof.Machine.execOpLdt e s
  | .opLdtm e => Sys2Proof.Machine.execOpLdtm e s
  | .opLdch e => Sys2Proof.Machine.execOpLdch e s
  | .opLdv e => Sys2Proof.Machine.execOpLdv e s
  | .ldvDramReadComplete e => Sys2Proof.Machine.execLdvDramReadComplete e s
  | .opLva e => Sys2Proof.Machine.execOpLva e s
  | .opSrcl e => Sys2Proof.Machine.execOpSrcl e s
  | .opMov e => Sys2Proof.Machine.execOpMov e s
  | .opAdd e => Sys2Proof.Machine.execOpAdd e s
  | .opSub e => Sys2Proof.Machine.execOpSub e s
  | .opAddi e => Sys2Proof.Machine.execOpAddi e s
  | .opMul e => Sys2Proof.Machine.execOpMul e s
  | .opDiv e => Sys2Proof.Machine.execOpDiv e s
  | .opScale e => Sys2Proof.Machine.execOpScale e s
  | .opMin e => Sys2Proof.Machine.execOpMin e s
  | .opMax e => Sys2Proof.Machine.execOpMax e s
  | .opAbs e => Sys2Proof.Machine.execOpAbs e s
  | .opNeg e => Sys2Proof.Machine.execOpNeg e s
  | .opAnd e => Sys2Proof.Machine.execOpAnd e s
  | .opOr e => Sys2Proof.Machine.execOpOr e s
  | .opXor e => Sys2Proof.Machine.execOpXor e s
  | .opAndi e => Sys2Proof.Machine.execOpAndi e s
  | .opOri e => Sys2Proof.Machine.execOpOri e s
  | .opEqi e => Sys2Proof.Machine.execOpEqi e s
  | .opRchk e => Sys2Proof.Machine.execOpRchk e s
  | .opInterp e => Sys2Proof.Machine.execOpInterp e s
  | .opNewo e => Sys2Proof.Machine.execOpNewo e s
  | .opSelo e => Sys2Proof.Machine.execOpSelo e s
  | .opCpy e => Sys2Proof.Machine.execOpCpy e s
  | .opStb e => Sys2Proof.Machine.execOpStb e s
  | .opStt e => Sys2Proof.Machine.execOpStt e s
  | .opStm e => Sys2Proof.Machine.execOpStm e s
  | .opApc e => Sys2Proof.Machine.execOpApc e s
  | .opApf e => Sys2Proof.Machine.execOpApf e s
  | .opCsum e => Sys2Proof.Machine.execOpCsum e s
  | .opStmk e => Sys2Proof.Machine.execOpStmk e s
  | .mapOvertime e => Sys2Proof.Machine.execMapOvertime e s
  | .commitGroupHandover e first => Sys2Proof.Machine.execCommitGroupHandover e first s
  | .mapEngineTakeOut r e => Sys2Proof.Machine.execMapEngineTakeOut r e s
  | .mapEngineReturn r e => Sys2Proof.Machine.execMapEngineReturn r e s
  | .mapEngineEmptied e => Sys2Proof.Machine.execMapEngineEmptied e s
  | .progEnable r p => Sys2Proof.Machine.execProgEnable r p s
  | .progDisable r p => Sys2Proof.Machine.execProgDisable r p s
  | .progClearCounters r p => Sys2Proof.Machine.execProgClearCounters r p s
  | .progDrainComplete p => Sys2Proof.Machine.execProgDrainComplete p s
  | .progDrainLimit p => Sys2Proof.Machine.execProgDrainLimit p s
  | .cycEnable r slot => Sys2Proof.Machine.execCycEnable r slot s
  | .cycDisable r slot => Sys2Proof.Machine.execCycDisable r slot s
  | .cycClearOverlap r slot => Sys2Proof.Machine.execCycClearOverlap r slot s
  | .mapCntClearGlobal r => Sys2Proof.Machine.execMapCntClearGlobal r s
  | .mapCntClearPrograms r => Sys2Proof.Machine.execMapCntClearPrograms r s
  | .commit => Sys2Proof.Machine.execCommit s
  | .replicate => Sys2Proof.Machine.execReplicate s
  | .egressSchedule q => Sys2Proof.Machine.execEgressSchedule q s
  | .copyStart q => Sys2Proof.Machine.execCopyStart q s
  | .sealTagComplete q => Sys2Proof.Machine.execSealTagComplete q s
  | .canArbitrationLost q => Sys2Proof.Machine.execCanArbitrationLost q s
  | .canArbitrationTimeout q => Sys2Proof.Machine.execCanArbitrationTimeout q s
  | .linkDownHoldExpiry q => Sys2Proof.Machine.execLinkDownHoldExpiry q s
  | .preemptVerifyDone q ok => Sys2Proof.Machine.execPreemptVerifyDone q ok s
  | .listenerEnable r l => Sys2Proof.Machine.execListenerEnable r l s
  | .listenerDisable r l => Sys2Proof.Machine.execListenerDisable r l s
  | .listenerJoin r l => Sys2Proof.Machine.execListenerJoin r l s
  | .listenerLeave r l => Sys2Proof.Machine.execListenerLeave r l s
  | .listenerClearCounters r l => Sys2Proof.Machine.execListenerClearCounters r l s
  | .listenerDrainComplete l => Sys2Proof.Machine.execListenerDrainComplete l s
  | .listenerDrainLimit l => Sys2Proof.Machine.execListenerDrainLimit l s
  | .replayCopy l => Sys2Proof.Machine.execReplayCopy l s
  | .replayLimitExpiry l => Sys2Proof.Machine.execReplayLimitExpiry l s
  | .egressPortEnable r q => Sys2Proof.Machine.execEgressPortEnable r q s
  | .egressPortDisable r q => Sys2Proof.Machine.execEgressPortDisable r q s
  | .egressPortDrainComplete q => Sys2Proof.Machine.execEgressPortDrainComplete q s
  | .egressPortDrainLimit q => Sys2Proof.Machine.execEgressPortDrainLimit q s
  | .egrCntClearGlobal r => Sys2Proof.Machine.execEgrCntClearGlobal r s
  | .egrCntClearPorts r => Sys2Proof.Machine.execEgrCntClearPorts r s
  | .journalRecord => Sys2Proof.Machine.execJournalRecord s
  | .journalCloseTimeout => Sys2Proof.Machine.execJournalCloseTimeout s
  | .journalScanDone => Sys2Proof.Machine.execJournalScanDone s
  | .journalExport r value => Sys2Proof.Machine.execJournalExport r value s
  | .journalExportDone => Sys2Proof.Machine.execJournalExportDone s
  | .journalEnable r => Sys2Proof.Machine.execJournalEnable r s
  | .journalDisable r => Sys2Proof.Machine.execJournalDisable r s
  | .journalDrainComplete => Sys2Proof.Machine.execJournalDrainComplete s
  | .journalDrainLimit => Sys2Proof.Machine.execJournalDrainLimit s
  | .jrnCntClearCounters r => Sys2Proof.Machine.execJrnCntClearCounters r s
  | .journalRestart r => Sys2Proof.Machine.execJournalRestart r s
  | .laneCopyWrite k => Sys2Proof.Machine.execLaneCopyWrite k s
  | .laneHoldExpiry k => Sys2Proof.Machine.execLaneHoldExpiry k s
  | .gapWrite k => Sys2Proof.Machine.execGapWrite k s
  | .rxTailWrite r k value => Sys2Proof.Machine.execRxTailWrite r k value s
  | .laneDeliveryEnable r k => Sys2Proof.Machine.execLaneDeliveryEnable r k s
  | .laneDeliveryDisable r k => Sys2Proof.Machine.execLaneDeliveryDisable r k s
  | .laneDrainComplete k => Sys2Proof.Machine.execLaneDrainComplete k s
  | .laneDrainLimit k => Sys2Proof.Machine.execLaneDrainLimit k s
  | .tx0EnableWrite r k on => Sys2Proof.Machine.execTx0EnableWrite r k on s
  | .tx1EnableWrite r k on => Sys2Proof.Machine.execTx1EnableWrite r k on s
  | .txTailWrite r k ring1 value => Sys2Proof.Machine.execTxTailWrite r k ring1 value s
  | .laneLinkDown k => Sys2Proof.Machine.execLaneLinkDown k s
  | .laneLinkUp k => Sys2Proof.Machine.execLaneLinkUp k s
  | .lniCntClear r value => Sys2Proof.Machine.execLniCntClear r value s
  | .txFetchComplete k ring1 desc payload => Sys2Proof.Machine.execTxFetchComplete k ring1 desc payload s
  | .windowTimeout v cycle index => Sys2Proof.Machine.execWindowTimeout v cycle index s
  | .laneOutCmd r k => Sys2Proof.Machine.execLaneOutCmd r k s
  | .laneReturnCmd r k => Sys2Proof.Machine.execLaneReturnCmd r k s
  | .voterStreamEnable r v => Sys2Proof.Machine.execVoterStreamEnable r v s
  | .voterStreamDisable r v => Sys2Proof.Machine.execVoterStreamDisable r v s
  | .voterStreamClear r v => Sys2Proof.Machine.execVoterStreamClear r v s
  | .voterStreamDrainLimit v => Sys2Proof.Machine.execVoterStreamDrainLimit v s
  | .votCntClearGlobal r => Sys2Proof.Machine.execVotCntClearGlobal r s
  | .votCntClearLanes r => Sys2Proof.Machine.execVotCntClearLanes r s
  | .votCntClearStreams r => Sys2Proof.Machine.execVotCntClearStreams r s
  | .bridgeDirectRead lane guard w offset len tag => Sys2Proof.Machine.execBridgeDirectRead lane guard w offset len tag s
  | .bridgeDirectWrite lane guard w offset data => Sys2Proof.Machine.execBridgeDirectWrite lane guard w offset data s
  | .brgCmdRead lane guard op w tag offset len buffer => Sys2Proof.Machine.execBrgCmdRead lane guard op w tag offset len buffer s
  | .brgCmdWrite lane guard w tag offset len data => Sys2Proof.Machine.execBrgCmdWrite lane guard w tag offset len data s
  | .brgCmdSemAcquire lane guard sem tag => Sys2Proof.Machine.execBrgCmdSemAcquire lane guard sem tag s
  | .brgCmdSemRelease lane guard sem tag => Sys2Proof.Machine.execBrgCmdSemRelease lane guard sem tag s
  | .brgRingEnable r kw value => Sys2Proof.Machine.execBrgRingEnable r kw value s
  | .exchangeIssue => Sys2Proof.Machine.execExchangeIssue s
  | .responseMatch gone => Sys2Proof.Machine.execResponseMatch gone s
  | .exchangeTimeout ex => Sys2Proof.Machine.execExchangeTimeout ex s
  | .lateLogRelease r k value => Sys2Proof.Machine.execLateLogRelease r k value s
  | .lateUnfence r k value => Sys2Proof.Machine.execLateUnfence r k value s
  | .prefetchComplete => Sys2Proof.Machine.execPrefetchComplete s
  | .semAcquireReg r n => Sys2Proof.Machine.execSemAcquireReg r n s
  | .semReleaseReg r n => Sys2Proof.Machine.execSemReleaseReg r n s
  | .semLeaseExpiry n => Sys2Proof.Machine.execSemLeaseExpiry n s
  | .windowEnable r w => Sys2Proof.Machine.execWindowEnable r w s
  | .windowDisable r w => Sys2Proof.Machine.execWindowDisable r w s
  | .windowClearCounters r w => Sys2Proof.Machine.execWindowClearCounters r w s
  | .windowDrainLimit w => Sys2Proof.Machine.execWindowDrainLimit w s
  | .brgCntClearGlobal r => Sys2Proof.Machine.execBrgCntClearGlobal r s
  | .brgCntClearWindows r => Sys2Proof.Machine.execBrgCntClearWindows r s
  | .periodBoundary => Sys2Proof.Machine.execPeriodBoundary s
  | .checkpointLate => Sys2Proof.Machine.execCheckpointLate s
  | .paceUpdate laps => Sys2Proof.Machine.execPaceUpdate laps s
  | .nodeEnable r n => Sys2Proof.Machine.execNodeEnable r n s
  | .nodeDisable r n => Sys2Proof.Machine.execNodeDisable r n s
  | .nodeClearCounters r n => Sys2Proof.Machine.execNodeClearCounters r n s
  | .nodeTakeOut r n => Sys2Proof.Machine.execNodeTakeOut r n s
  | .nodeReturn r n => Sys2Proof.Machine.execNodeReturn r n s
  | .nodeDrainLimit n => Sys2Proof.Machine.execNodeDrainLimit n s
  | .bgtCntClearGlobal r => Sys2Proof.Machine.execBgtCntClearGlobal r s
  | .bgtCntClearNodes r => Sys2Proof.Machine.execBgtCntClearNodes r s
  | .bgtCntClearPace r => Sys2Proof.Machine.execBgtCntClearPace r s
  | .incStage r value => Sys2Proof.Machine.execIncStage r value s
  | .incCommit r value => Sys2Proof.Machine.execIncCommit r value s
  | .timeStep r => Sys2Proof.Machine.execTimeStep r s
  | .timeSlew r => Sys2Proof.Machine.execTimeSlew r s
  | .timeSet r => Sys2Proof.Machine.execTimeSet r s
  | .slewComplete => Sys2Proof.Machine.execSlewComplete s
  | .leapArm r value => Sys2Proof.Machine.execLeapArm r value s
  | .leapApply => Sys2Proof.Machine.execLeapApply s
  | .triggerArm r t => Sys2Proof.Machine.execTriggerArm r t s
  | .triggerDisarm r t => Sys2Proof.Machine.execTriggerDisarm r t s
  | .triggerFire t => Sys2Proof.Machine.execTriggerFire t s
  | .triggerPulseEnd t => Sys2Proof.Machine.execTriggerPulseEnd t s
  | .captureEdge c level t => Sys2Proof.Machine.execCaptureEdge c level t s
  | .captureRead r c => Sys2Proof.Machine.execCaptureRead r c s
  | .departureLogRead r => Sys2Proof.Machine.execDepartureLogRead r s
  | .refclkLost => Sys2Proof.Machine.execRefclkLost s
  | .refclkReturned => Sys2Proof.Machine.execRefclkReturned s
  | .holdoverEnd => Sys2Proof.Machine.execHoldoverEnd s
  | .holdoverLong => Sys2Proof.Machine.execHoldoverLong s
  | .timCntClearGlobal r => Sys2Proof.Machine.execTimCntClearGlobal r s
  | .timCntClearTriggers r => Sys2Proof.Machine.execTimCntClearTriggers r s
  | .timCntClearCaptures r => Sys2Proof.Machine.execTimCntClearCaptures r s
  | .cdbCycleStart => Sys2Proof.Machine.execCdbCycleStart s
  | .cdbIdleSegment => Sys2Proof.Machine.execCdbIdleSegment s
  | .cbFrameEnd chB bs raw rawEnd good => Sys2Proof.Machine.execCbFrameEnd chB bs raw rawEnd good s
  | .cdbSlotTransmit k outside => Sys2Proof.Machine.execCdbSlotTransmit k outside s
  | .listenTimeout => Sys2Proof.Machine.execListenTimeout s
  | .startupComplete => Sys2Proof.Machine.execStartupComplete s
  | .integrationComplete => Sys2Proof.Machine.execIntegrationComplete s
  | .passiveRecovery => Sys2Proof.Machine.execPassiveRecovery s
  | .passiveTimeout => Sys2Proof.Machine.execPassiveTimeout s
  | .syncLostTimeout => Sys2Proof.Machine.execSyncLostTimeout s
  | .channelLost chB => Sys2Proof.Machine.execChannelLost chB s
  | .engineEnable r => Sys2Proof.Machine.execEngineEnable r s
  | .engineDisable r => Sys2Proof.Machine.execEngineDisable r s
  | .cdbRestart r => Sys2Proof.Machine.execCdbRestart r s
  | .slotClaim r k => Sys2Proof.Machine.execSlotClaim r k s
  | .slotRelease r k => Sys2Proof.Machine.execSlotRelease r k s
  | .claimConfirmed k => Sys2Proof.Machine.execClaimConfirmed k s
  | .claimBackoffEnd k => Sys2Proof.Machine.execClaimBackoffEnd k s
  | .claimLapse k => Sys2Proof.Machine.execClaimLapse k s
  | .cdbCntClearGlobal r => Sys2Proof.Machine.execCdbCntClearGlobal r s
  | .cdbCntClearNodes r => Sys2Proof.Machine.execCdbCntClearNodes r s
  | .leaseGrant r k => Sys2Proof.Machine.execLeaseGrant r k s
  | .leaseWitness r k => Sys2Proof.Machine.execLeaseWitness r k s
  | .leaseRevoke r k => Sys2Proof.Machine.execLeaseRevoke r k s
  | .grantBecomesCurrent k => Sys2Proof.Machine.execGrantBecomesCurrent k s
  | .grantLapse k => Sys2Proof.Machine.execGrantLapse k s
  | .takeoverComplete banks other => Sys2Proof.Machine.execTakeoverComplete banks other s
  | .relinquishCmd r => Sys2Proof.Machine.execRelinquishCmd r s
  | .joinCmd r => Sys2Proof.Machine.execJoinCmd r s
  | .heartbeatSend => Sys2Proof.Machine.execHeartbeatSend s
  | .heartbeatReceived h tx rx echo => Sys2Proof.Machine.execHeartbeatReceived h tx rx echo s
  | .mirrorReceived h n m => Sys2Proof.Machine.execMirrorReceived h n m s
  | .commitLogReceived h e => Sys2Proof.Machine.execCommitLogReceived h e s
  | .digestReceived h q d => Sys2Proof.Machine.execDigestReceived h q d s
  | .divergenceDecide => Sys2Proof.Machine.execDivergenceDecide s
  | .peatBlockReceived h b x => Sys2Proof.Machine.execPeatBlockReceived h b x s
  | .peatCommitReceived h q blocks full => Sys2Proof.Machine.execPeatCommitReceived h q blocks full s
  | .peatImageCopyDone => Sys2Proof.Machine.execPeatImageCopyDone s
  | .relinquishReceived h => Sys2Proof.Machine.execRelinquishReceived h s
  | .joinReceived h => Sys2Proof.Machine.execJoinReceived h s
  | .iuCopyReceived h stamp payload => Sys2Proof.Machine.execIuCopyReceived h stamp payload s
  | .iuPathLost b => Sys2Proof.Machine.execIuPathLost b s
  | .peatStale => Sys2Proof.Machine.execPeatStale s
  | .redCntClear r => Sys2Proof.Machine.execRedCntClear r s
  | .kvtGenerate r k => Sys2Proof.Machine.execKvtGenerate r k s
  | .kvtDerive r k source label => Sys2Proof.Machine.execKvtDerive r k source label s
  | .kvtUnwrap r k source blob => Sys2Proof.Machine.execKvtUnwrap r k source blob s
  | .kvtLoad r k => Sys2Proof.Machine.execKvtLoad r k s
  | .kvtCommit r k => Sys2Proof.Machine.execKvtCommit r k s
  | .kvtDiscard r k => Sys2Proof.Machine.execKvtDiscard r k s
  | .kvtInvalidate r k => Sys2Proof.Machine.execKvtInvalidate r k s
  | .kvtZeroize r k => Sys2Proof.Machine.execKvtZeroize r k s
  | .kvtClear r k => Sys2Proof.Machine.execKvtClear r k s
  | .kvtWrap r k source => Sys2Proof.Machine.execKvtWrap r k source s
  | .newRoot r => Sys2Proof.Machine.execNewRoot r s
  | .kcvCheck r k value => Sys2Proof.Machine.execKcvCheck r k value s
  | .kvtOpComplete user ident => Sys2Proof.Machine.execKvtOpComplete user ident s
  | .orphanSweepDone => Sys2Proof.Machine.execOrphanSweepDone s
  | .remask => Sys2Proof.Machine.execRemask s
  | .lifecycleMove r value => Sys2Proof.Machine.execLifecycleMove r value s
  | .debugOpen pubkey token sig => Sys2Proof.Machine.execDebugOpen pubkey token sig s
  | .tamperDetect code => Sys2Proof.Machine.execTamperDetect code s
  | .tamperStatusClear r => Sys2Proof.Machine.execTamperStatusClear r s
  | .tamperLogClear r => Sys2Proof.Machine.execTamperLogClear r s
  | .kvtCntClear r => Sys2Proof.Machine.execKvtCntClear r s
  | .safetyStart => Sys2Proof.Machine.execSafetyStart s
  | .safePorstAssert => Sys2Proof.Machine.execSafePorstAssert s
  | .safeHCycle x => Sys2Proof.Machine.execSafeHCycle x s
  | .safePEvaluate is => Sys2Proof.Machine.execSafePEvaluate is s
  | .odoEdge odo a b sub => Sys2Proof.Machine.execOdoEdge odo a b sub s
  | .crosslinkFrameSend who => Sys2Proof.Machine.execCrosslinkFrameSend who s
  | .crosslinkFrameReceived who intact => Sys2Proof.Machine.execCrosslinkFrameReceived who intact s
  | .crosslinkStale who => Sys2Proof.Machine.execCrosslinkStale who s
  | .clockCheck who => Sys2Proof.Machine.execClockCheck who s
  | .safePLockstepFault => Sys2Proof.Machine.execSafePLockstepFault s
  | .safePWatchdogExpiry => Sys2Proof.Machine.execSafePWatchdogExpiry s
  | .paramRecheck who held => Sys2Proof.Machine.execParamRecheck who held s
  | .testPulseStart who n => Sys2Proof.Machine.execTestPulseStart who n s
  | .testPulseEnd who n low => Sys2Proof.Machine.execTestPulseEnd who n low s
  | .safCntClear r => Sys2Proof.Machine.execSafCntClear r s
  | .porstAssert => Sys2Proof.Machine.execPorstAssert s
  | .porstRelease => Sys2Proof.Machine.execPorstRelease s
  | .domainPowerStep => Sys2Proof.Machine.execDomainPowerStep s
  | .pllLocked => Sys2Proof.Machine.execPllLocked s
  | .pllLockTimeout => Sys2Proof.Machine.execPllLockTimeout s
  | .directoryRead => Sys2Proof.Machine.execDirectoryRead s
  | .sramBistDone banks other => Sys2Proof.Machine.execSramBistDone banks other s
  | .dramTrained ok => Sys2Proof.Machine.execDramTrained ok s
  | .bodyReadDone vout fw => Sys2Proof.Machine.execBodyReadDone vout fw s
  | .startComplete => Sys2Proof.Machine.execStartComplete s
  | .startSettled => Sys2Proof.Machine.execStartSettled s
  | .startClearCounters r => Sys2Proof.Machine.execStartClearCounters r s
  | .startRestart r => Sys2Proof.Machine.execStartRestart r s
  | .startClearAndRestart r => Sys2Proof.Machine.execStartClearAndRestart r s
  | .secverRaise r value => Sys2Proof.Machine.execSecverRaise r value s
  | .stageDelta r fetched => Sys2Proof.Machine.execStageDelta r fetched s
  | .validateShadows r => Sys2Proof.Machine.execValidateShadows r s
  | .discardShadows r => Sys2Proof.Machine.execDiscardShadows r s
  | .cfgCmdDone => Sys2Proof.Machine.execCfgCmdDone s
  | .swapGlobal r => Sys2Proof.Machine.execSwapGlobal r s
  | .swapPerRegion r => Sys2Proof.Machine.execSwapPerRegion r s
  | .swapCancel r => Sys2Proof.Machine.execSwapCancel r s
  | .profileStageSwap r n => Sys2Proof.Machine.execProfileStageSwap r n s
  | .mergeStart => Sys2Proof.Machine.execMergeStart s
  | .mergeDone => Sys2Proof.Machine.execMergeDone s
  | .repairPortOut r p => Sys2Proof.Machine.execRepairPortOut r p s
  | .repairPortReturn r p => Sys2Proof.Machine.execRepairPortReturn r p s
  | .repairClassifierOut r e => Sys2Proof.Machine.execRepairClassifierOut r e s
  | .repairClassifierReturn r e => Sys2Proof.Machine.execRepairClassifierReturn r e s
  | .repairPartitionOut r p => Sys2Proof.Machine.execRepairPartitionOut r p s
  | .repairPartitionReturn r p => Sys2Proof.Machine.execRepairPartitionReturn r p s
  | .repairBankOut r b => Sys2Proof.Machine.execRepairBankOut r b s
  | .repairBankReturn r b => Sys2Proof.Machine.execRepairBankReturn r b s
  | .bankRemapDone => Sys2Proof.Machine.execBankRemapDone s
  | .repairMapEngineOut r e => Sys2Proof.Machine.execRepairMapEngineOut r e s
  | .repairMapEngineReturn r e => Sys2Proof.Machine.execRepairMapEngineReturn r e s
  | .repairSubtreeOut r n => Sys2Proof.Machine.execRepairSubtreeOut r n s
  | .repairSubtreeReturn r n => Sys2Proof.Machine.execRepairSubtreeReturn r n s
  | .nvmErase r => Sys2Proof.Machine.execNvmErase r s
  | .nvmProgram r data => Sys2Proof.Machine.execNvmProgram r data s
  | .nvmRead r len => Sys2Proof.Machine.execNvmRead r len s
  | .nvmOpDone ok => Sys2Proof.Machine.execNvmOpDone ok s
  | .cfgCntClear r => Sys2Proof.Machine.execCfgCntClear r s
  | .watchdogExpiry q onSpare => Sys2Proof.Machine.execWatchdogExpiry q onSpare s
  | .errorRecordWrite => Sys2Proof.Machine.execErrorRecordWrite s
  | .ejClearRecords r => Sys2Proof.Machine.execEjClearRecords r s
  | .ejClearSources r => Sys2Proof.Machine.execEjClearSources r s
  | .ejClearBoth r => Sys2Proof.Machine.execEjClearBoth r s
  | .clearAll r value => Sys2Proof.Machine.execClearAll r value s
  | .selftestRequest r target element full => Sys2Proof.Machine.execSelftestRequest r target element full s
  | .selftestSlice target element ns progress => Sys2Proof.Machine.execSelftestSlice target element ns progress s
  | .selftestPassComplete target element pass => Sys2Proof.Machine.execSelftestPassComplete target element pass s
  | .spareRotation bank => Sys2Proof.Machine.execSpareRotation bank s
  | .snapshotCmd r block => Sys2Proof.Machine.execSnapshotCmd r block s
  | .snapshotDone abandoned => Sys2Proof.Machine.execSnapshotDone abandoned s
  | .scrubLine found dram passEnd => Sys2Proof.Machine.execScrubLine found dram passEnd s
  | .tempSample temps => Sys2Proof.Machine.execTempSample temps s
  | .dgnCntClear r => Sys2Proof.Machine.execDgnCntClear r s
  | .stewardWatchdogExpiry => Sys2Proof.Machine.execStewardWatchdogExpiry s
  | .stewardLockstepFault => Sys2Proof.Machine.execStewardLockstepFault s
  | .powerMonitorTrip domain low mv => Sys2Proof.Machine.execPowerMonitorTrip domain low mv s
  | .vbatLowEnd mv => Sys2Proof.Machine.execVbatLowEnd mv s
  | .readVoutCheck ok mv => Sys2Proof.Machine.execReadVoutCheck ok mv s
  | .pmbAlert word => Sys2Proof.Machine.execPmbAlert word s
  | .pwrCntClear r => Sys2Proof.Machine.execPwrCntClear r s
  | .sentencePortCharacter n ch t good => Sys2Proof.Machine.execSentencePortCharacter n ch t good s
  | .copyTransmissionEnd q => Sys2Proof.Machine.execCopyTransmissionEnd q s
  | .peatConfirmationReceived h q => Sys2Proof.Machine.execPeatConfirmationReceived h q s
  | .divergenceTestRequestReceived h result => Sys2Proof.Machine.execDivergenceTestRequestReceived h result s
  | .safetyRailReturn who => Sys2Proof.Machine.execSafetyRailReturn who s
  | .vbatApplied => Sys2Proof.Machine.execVbatApplied s
  | .vbatLost => Sys2Proof.Machine.execVbatLost s
  | .aonPowerLost => Sys2Proof.Machine.execAonPowerLost s
  | .standbyBistStart => Sys2Proof.Machine.execStandbyBistStart s
  | .standbyBistDone => Sys2Proof.Machine.execStandbyBistDone s
  | .moderationIntervalExpiry lane guard vec => Sys2Proof.Machine.execModerationIntervalExpiry lane guard vec s
  | .receivedPauseExpiry n => Sys2Proof.Machine.execReceivedPauseExpiry n s
  | .brgCompletionTailWrite r kw cpl value => Sys2Proof.Machine.execBrgCompletionTailWrite r kw cpl value s

end Sys2Proof.Machine
end

