-- ==== Sys2Proof/Machine/Idle.lean ====
section
/-! DEFINITION. What the block does while no command waits: one raw tick of 2 ns. -/

namespace Sys2Proof.Machine

/-- An idle step (R312, R374, R549): device time and the lease timer advance by one tick, and a running steward has taken up the copies in
its intake. (DESIGN CHOICE: log 2; DEDUCED: log 67) -/
def idle (s : State) : State :=
  let s := tick s
  if stewardRuns s then { s with stw := { s.stw with intake := [] } } else s

end Sys2Proof.Machine
end

