-- ==== Sys2Proof/Safety.lean ====
section
/-! DEFINITION. What counts as a safe run, and the words the statements about the block use. -/

namespace Sys2Proof.Safety

open Sys2Proof.Machine

/-- The block answers a command with a next state, and that state has the property `P`. -/
def Gives (i : Instr) (s : State) (P : State → Prop) : Prop := ∃ t, exec i s = .next t ∧ P t

/-- A register write that the block does not discard (R545). -/
abbrev Allowed (s : State) (r : Req) (off : Nat) : Prop := discardCause s r off 32 = none

/-- An engine's active run stands at a micro-op of a program, the word `w` with opcode `code` (R151, R152). -/
abbrev AtOp (s : State) (e : Nat) (first : Bool) (r : Run) (w code : Nat) : Prop :=
  activeCtx s e = some (first, r) ∧ r.pc < progLen s r.input.tag r.prog ∧ microOp s r.input.tag r.prog r.pc = w ∧ nbits w 63 58 = code

/-- Working register `i` of a run has taken a value, and the run stands at its next micro-op. -/
def took (s : State) (e : Nat) (first : Bool) (r : Run) (i : Nat) (v : Int) : State :=
  setCtx s e first (some { r with w := r.w.set i v, pc := r.pc + 1 })

/-- As `took`, with the result saturated to 64 bits: the first saturation of a run is counted and reported (R160). -/
def tookSat (s : State) (e : Nat) (first : Bool) (r : Run) (i : Nat) (v : Int) : State :=
  setCtx (if fits64 v = false ∧ r.sat = false then report (cnt s Reg.MAP_CNT_SATURATE) Ev.MAP_SATURATE r.prog 0 else s) e first
    (some { r with w := r.w.set i (clampZ (-(2 : Int) ^ 63) ((2 : Int) ^ 63 - 1) v), pc := r.pc + 1, sat := r.sat || !fits64 v })

/-- A load of a field that may be absent: the value and ABS clear, or 0 and ABS set, or an abort where the micro-op traps (R155). -/
def loaded (s : State) (e : Nat) (first : Bool) (r : Run) (i : Nat) (trap : Bool) (v : Option Int) : State :=
  match v with
  | some v => setCtx s e first (some { r with w := r.w.set i v, pc := r.pc + 1, abs := false })
  | none => if trap then abortRun s e first r 7 else setCtx s e first (some { r with w := r.w.set i 0, pc := r.pc + 1, abs := true })

/-- Output `o` of a run has become `b`, and the run stands at its next micro-op. -/
def wrote (s : State) (e : Nat) (first : Bool) (r : Run) (o : Nat) (b : OutBuf) : State :=
  setCtx s e first (some { r with outs := r.outs.set o (some b), pc := r.pc + 1 })

/-- Bytes appended to output `o`: OUT_OVERFLOW where it grows beyond 2,048 bytes or the stream's max_len (R168). -/
def appended (s : State) (e : Nat) (first : Bool) (r : Run) (o : Nat) (b : OutBuf) (bs : Bytes) : State :=
  if b.bytes.length + bs.length > 2048 ∨ b.bytes.length + bs.length > outMax s r.input.tag r.prog o then abortRun s e first r 4
  else wrote s e first r o { b with bytes := b.bytes ++ bs }

/-- The tables of the block's own words stand in canonical form: keys rise strictly, and no entry holds what an unlisted key reads as. -/
def Canonical (s : State) : Prop :=
  tabWf Reg.resetOf s.regs = true ∧ tabWf nvmErased s.nvm = true ∧ tabWf msixReset s.msix = true ∧ tabWf (fun _ => default) s.pba = true ∧
  tabWf (fun _ => default) s.latch = true ∧ tabWf (fun _ => default) s.moder = true

/-- What no command of the block takes back: the queue is the caller's, what has left the block has left it, a free value is taken once,
and the security version in the fuses does not fall. -/
structure Onward (s t : State) : Prop where
  pending : t.pending = s.pending
  out : s.out <:+ t.out
  free : s.free ≤ t.free
  secver : s.secver ≤ t.secver

/-- A run of `n` steps from a state ends in a next state: no step of it faults or is refused. -/
def SafeRun (n : Nat) (s : State) : Prop := ∃ t, core.run n s = .next t

end Sys2Proof.Safety
end

