-- ==== Sys2Proof/Certificates/Slice0/Obligations.lean ====
section
/-! DEFINITION. The statements about the block, one definition each; what a statement says in words stands in OBLIGATIONS.json. -/

open Sys2Proof Sys2Proof.Machine Sys2Proof.Safety

/-- Characters, breaks and timeouts of a sentence port: what starts, continues, ends and spoils a sentence. Derived from 02_ingress.md. -/
def Obligations.SentencePortReception : Prop :=
  (∀ (s : State) (n : Nat) (ch : Byte) (t : Nat),
      pkind n = .sp →
      (port s n).state = 1 →
      spMode s n ≤ 1 →
      (port s n).rx.ended = none →
      (port s n).rx.crEnd = none →
      (port s n).rx.active = false →
      ch = 0x24#8 ∨ ch = 0x21#8 ∨ ch = 0x5C#8 →
      exec (.sentencePortCharacter n ch t true) s = .next (setPort s n { port s n with rx := { (default : Rx) with active := true, chars := [ch], start := t, comp := stampComp s n t, lastEnd := some (charEnd s n t), taking := true } })) ∧
  (∀ (s : State) (n : Nat) (ch : Byte) (t : Nat) (good : Bool),
      pkind n = .sp →
      (port s n).state = 1 ∨ (port s n).state = 2 →
      (port s n).rx.ended = none →
      (port s n).rx.crEnd = none →
      exec (.sentencePortCharacter n ch t good) s = .next (if (port s n).rx.active then (if good then rxMore s n ch t (charEnd s n t) else rxFail s n) else if good then rxIdle s n ch t (charEnd s n t) else s)) ∧
  (∀ (s : State) (n e : Nat),
      (port s n).rx.ended = some e →
      exec (.spSentenceEnd n) s = .next (spFinish s n e)) ∧
  (∀ (s : State) (n e : Nat),
      (port s n).rx.lastEnd = some e →
      spMode s n = 4 →
      (port s n).rx.active = true →
      exec (.spGapEnd n) s = .next (spFinish s n e)) ∧
  (∀ (s : State) (n : Nat),
      (port s n).rx.active = true →
      (port s n).rx.taking = true →
      (port s n).rx.ended = none →
      (port s n).rx.crEnd = none →
      fld s (Reg.PRT_TIMING2 n) 15 0 ≠ 0 →
      exec (.charTimeout n) s = .next (framing (setPort s n { port s n with rx := { (default : Rx) with lastEnd := (port s n).rx.lastEnd } }) n)) ∧
  (∀ (s : State) (n e : Nat),
      (port s n).rx.crEnd = some e →
      (port s n).rx.ended = none →
      exec (.crWaitExpiry n) s = .next (spFinish s n e)) ∧
  (∀ (s : State) (n : Nat),
      (port s n).rx.active = false →
      exec (.breakOutsideSentence n) s = .next (cnt s (Reg.PRT_CNT_FRAMING n)))

/-- CAN and MVB reception: good and bad frames, bus-off and recovery, polls and master frames. Derived from 02_ingress.md. -/
def Obligations.FieldbusReception : Prop :=
  (∀ (s : State) (n id : Nat) (ide fd : Bool) (data : Bytes) (t e : Nat),
      pkind n = .cf →
      (port s n).busOff = false →
      admits s n t = true →
      (fd = true → bit (rd s (Reg.PRT_MODE n)) 0 = true) →
      exec (.canFrameEnd n id ide false fd data 0 t e) s = .next (let s1 := setPort s n { port s n with rxErr := if (port s n).rxErr > 127 then 127 else (port s n).rxErr - 1 }
        receive s1 n { newSent n (stampAt s1 n t (stampComp s1 n t)) (endAt s1 n e (stampComp s1 n t)) (mkKey 3 n (toBE 4 id ++ toLE 1 (b2n ide))) data with
          hint := hinted s1 n none (some ((if ide then id / 2 ^ 18 else id) % 2048)) none })) ∧
  (∀ (s : State) (n id : Nat) (ide rtr fd : Bool) (data : Bytes) (t e : Nat),
      pkind n = .cf →
      (port s n).busOff = false →
      admits s n t = true →
      exec (.canFrameEnd n id ide rtr fd data 1 t e) s = .next (checksum (setPort s n { port s n with rxErr := satAdd 255 (port s n).rxErr 1 }) n)) ∧
  (∀ (s : State) (n : Nat) (inFrame : Bool),
      pkind n = .cf →
      (port s n).busOff = false →
      exec (.canBusOff n inFrame) s = .next (let s1 := if inFrame then framing s n else s
        report (setPort s1 n { port s1 n with busOff := true, txErr := 255, state := if bit (rd s1 (Reg.PRT_MODE n)) 2 then (port s1 n).state else 3 }) Ev.PRT_LINK_DOWN n 0)) ∧
  (∀ (s : State) (n : Nat),
      (port s n).busOff = true →
      bit (rd s (Reg.PRT_MODE n)) 2 = true →
      exec (.canBusOffRecovery n) s = .next (setPort s n { port s n with busOff := false, txErr := 0, rxErr := 0 })) ∧
  (∀ (s : State) (n addr code b : Nat) (data : Bytes) (t e : Nat),
      (port s n).mvMaster = some (addr, code) →
      code ≠ 15 →
      pkind n = .mv →
      admits (setPort s n { port s n with mvMaster := none }) n t = true →
      nbits (mvSink s n addr) 1 0 = 1 →
      fld s (Reg.PRT_MODE n) 5 4 = 0 →
      fcodeSize code = some data.length →
      nbits (mvSink s n addr) 5 2 = code →
      exec (.mvbSlaveFrameEnd n 1 b data t e) s = .next (let s1 := setPort s n { port s n with mvMaster := none }
        let s2 := setPort s1 n { port s1 n with mvSeen := s.tim.boundaries + 1 }
        let s3 := { s2 with prt := { s2.prt with mvSink := tset s2.prt.mvSink (n * 4096 + addr) (some data) } }
        receive s3 n { newSent n (stampAt s3 n t (stampComp s1 n t)) (endAt s3 n e (stampComp s1 n t)) (mkKey 4 n (toBE 2 addr ++ toLE 1 code)) data with
          path := 1, hint := hinted s3 n none none (some addr) })) ∧
  (∀ (s : State) (n addr code : Nat),
      pkind n = .mv →
      exec (.mvbMasterFrame n addr code) s = .next (mvAnswer (setPort s n { port s n with mvMaster := some (addr, code) }) n addr code)) ∧
  (∀ (s : State) (n w : Nat),
      pkind n = .mv →
      bit (rd s (Reg.PRT_MODE n)) 6 = true →
      gateOpen s = true →
      (port s n).pollAt < 1024 →
      cw s 0 (16384 + (n - 80) * 1024 + (port s n).pollAt) = w →
      w ≠ 0 →
      exec (.mvbPoll n) s = .next (mvAnswer (emit (setPort s n { port s n with mvMaster := some (nbits w 11 0, nbits w 15 12), pollAt := (port s n).pollAt + 1 })
          (.mvb n (16 + nbits w 15 12) (nbits w 11 0) [])) n (nbits w 11 0) (nbits w 15 12)))

/-- Ethernet reception: a plain frame is recognised, a bad FCS counted, PRP nodes forgotten and lost. Derived from 02_ingress.md. -/
def Obligations.EthernetReception : Prop :=
  (∀ (s : State) (n : Nat) (frame : Bytes) (t e : Nat),
      isEth n = true →
      admits s n t = true →
      64 ≤ frame.length →
      frame.length ≤ fld s (Reg.PRT_LIMITS n) 15 0 →
      leAt frame (frame.length - 4) 4 ≠ crc32 (frame.take (frame.length - 4)) →
      exec (.ethFrameEnd n frame t e) s = .next (checksum s n)) ∧
  (∀ (s : State) (n : Nat) (frame : Bytes) (t e : Nat),
      isEth n = true →
      admits s n t = true →
      64 ≤ frame.length →
      frame.length ≤ fld s (Reg.PRT_LIMITS n) 15 0 →
      leAt frame (frame.length - 4) 4 = crc32 (frame.take (frame.length - 4)) →
      beAt (frame.take (frame.length - 4)) 12 2 ≠ 0x8808 →
      beAt (frame.take (frame.length - 4)) 12 2 ≠ 0x8100 →
      bit (rd s (Reg.PRT_MODE n)) 4 = false →
      bit (rd s (Reg.PRT_MODE n)) 0 = false →
      exec (.ethFrameEnd n frame t e) s = .next (ethSentence s n (frame.take (frame.length - 4)) t e)) ∧
  (∀ (s : State) (pair mac : Nat),
      (tget s.prt.prp (nodeKey pair mac)).used = true →
      since s (heardAt (tget s.prt.prp (nodeKey pair mac))) ≥ fld s Reg.PRT_PRP_CTRL 19 10 * secUnits →
      exec (.prpNodeForget pair mac) s = .next ({ s with prt := { s.prt with prp := tset s.prt.prp (nodeKey pair mac) default } })) ∧
  (∀ (s : State) (pair mac a b : Nat),
      (tget s.prt.prp (nodeKey pair mac)).seenA = some a →
      (tget s.prt.prp (nodeKey pair mac)).seenB = some b →
      (tget s.prt.prp (nodeKey pair mac)).lostA = false →
      since s a ≥ fld s Reg.PRT_PRP_CTRL 31 20 * msUnits →
      since s b < fld s Reg.PRT_PRP_CTRL 31 20 * msUnits →
      exec (.prpPathLost pair mac 1) s = .next (report { s with prt := { s.prt with prp := tset s.prt.prp (nodeKey pair mac) { tget s.prt.prp (nodeKey pair mac) with lostA := true } } } Ev.PRT_PATH_LOST (pairA pair) 0)) ∧
  (∀ (s : State) (pair mac a b : Nat),
      (tget s.prt.prp (nodeKey pair mac)).seenA = some a →
      (tget s.prt.prp (nodeKey pair mac)).seenB = some b →
      (tget s.prt.prp (nodeKey pair mac)).lostB = false →
      since s b ≥ fld s Reg.PRT_PRP_CTRL 31 20 * msUnits →
      since s a < fld s Reg.PRT_PRP_CTRL 31 20 * msUnits →
      exec (.prpPathLost pair mac 2) s = .next (report { s with prt := { s.prt with prp := tset s.prt.prp (nodeKey pair mac) { tget s.prt.prp (nodeKey pair mac) with lostB := true } } } Ev.PRT_PATH_LOST (pairA pair + 1) 0))

/-- Ingress ports: enabling, draining, staging, counters and the steward port. Derived from 02_ingress.md, 01_fabric_and_flow.md. -/
def Obligations.PortServiceCommands : Prop :=
  (∀ (s : State) (r : Req) (n : Nat),
      Allowed s r (Reg.PRT_CTRL n) →
      unconfigured s n = false →
      (port s n).state ≠ 1 →
      (port s n).state ≠ 3 →
      exec (.portEnable r n) s = .next (setPort (setFld s (Reg.PRT_CTRL n) 0 0 1) n { port s n with state := 1, stopAt := none })) ∧
  (∀ (s : State) (r : Req) (n : Nat),
      Allowed s r (Reg.PRT_CTRL n) →
      (port s n).state = 1 →
      exec (.portDisable r n) s = .next (let s1 := setFld s (Reg.PRT_CTRL n) 0 0 0
        setPort s1 n { port s n with state := 2, stopAt := some (now s), drainAt := drainEnd s1 })) ∧
  (∀ (s : State) (n : Nat),
      (port s n).state = 2 →
      (port s n).buf = [] →
      (port s n).staging = [] →
      (port s n).rx.active = false →
      exec (.portDrainComplete n) s = .next (setPort s n { port s n with state := 0 })) ∧
  (∀ (s : State) (n : Nat),
      (port s n).state = 2 →
      (port s n).drainAt ≤ s.tim.boundaries →
      exec (.portDrainLimit n) s = .next (setPort (cntAdd s (Reg.PRT_CNT_DRAIN n) ((port s n).buf.length + (port s n).staging.length + b2n (port s n).rx.active)) n
        { port s n with state := 0, buf := [], staging := [], rx := default, overrun := false })) ∧
  (∀ (s : State) (n : Nat) (x : Sent) (rest : List Sent) (o : Bool),
      takeFirst (fun y => decide (y.hint = true)) (port s n).buf = some (x, rest) →
      credit (port s n).staging (stagingDepth n).1 (stagingDepth n).2 true = some o →
      exec (.portStagingEntry n) s = .next (let m := mirrorRec s (ingressRec n x)
        let s1 := cnt (setPort m.2 n { port s n with buf := rest, staging := (port s n).staging ++ [{ x with oasis := o, mirror := if shadowing m.2 then x.mirror else m.1 }] }) (Reg.PRT_CNT_GOOD n)
        pauseGen (if (port s1 n).overrun = true ∧ 2 * bufUse n (port s1 n).buf < bufSize n then setPort s1 n { port s1 n with overrun := false } else s1) n)) ∧
  (∀ (s : State) (n : Nat) (x : Sent) (rest : List Sent) (o : Bool),
      takeFirst (fun y => decide (y.hint = true)) (port s n).buf = none →
      takeFirst (fun y => decide (y.hint = false)) (port s n).buf = some (x, rest) →
      credit (port s n).staging (stagingDepth n).1 (stagingDepth n).2 false = some o →
      exec (.portStagingEntry n) s = .next (let m := mirrorRec s (ingressRec n x)
        let s1 := cnt (setPort m.2 n { port s n with buf := rest, staging := (port s n).staging ++ [{ x with oasis := o, mirror := if shadowing m.2 then x.mirror else m.1 }] }) (Reg.PRT_CNT_GOOD n)
        pauseGen (if (port s1 n).overrun = true ∧ 2 * bufUse n (port s1 n).buf < bufSize n then setPort s1 n { port s1 n with overrun := false } else s1) n)) ∧
  (∀ (s : State) (r : Req) (n : Nat),
      Allowed s r Reg.PRT_CNT_CLEAR →
      n < 105 →
      exec (.prtCntClearPort r n) s = .next (clearRegs s (Reg.PRT_CNT_GOOD n) (Reg.PRT_CNT_HINT n))) ∧
  (∀ (s : State) (r : Req),
      Allowed s r Reg.PRT_CNT_CLEAR →
      exec (.prtCntClearAll r) s = .next ((List.range 105).foldl (fun s n => clearRegs s (Reg.PRT_CNT_GOOD n) (Reg.PRT_CNT_HINT n)) s)) ∧
  (∀ (s : State) (tag : Nat) (payload : Bytes) (o : Bool),
      s.stw.state = 1 ∨ s.stw.state = 2 →
      isStandby s = false →
      credit (port s 110).staging 32 4 false = some o →
      exec (.stewardSentence tag payload) s = .next (let x := { newSent 110 (now s) (now s / 8 * 8) (mkKey 0x0B 110 (toBE 4 tag)) payload with oasis := o }
        let m := mirrorRec s (ingressRec 110 x)
        setPort m.2 110 { port s 110 with staging := (port s 110).staging ++ [{ x with mirror := m.1 }] }))

/-- Ethernet links going down and up, the hold time, pause frames and preemption verification. Derived from 02_ingress.md,
07_egress_and_journal.md. -/
def Obligations.LinkEvents : Prop :=
  (∀ (s : State) (n : Nat) (inFrame : Bool),
      isEth n = true →
      (port s n).link = true →
      exec (.linkDown n inFrame) s = .next (let s1 := if inFrame then framing s n else s
        let s2 := report (setPort s1 n { port s1 n with link := false }) Ev.PRT_LINK_DOWN n 0
        let p := eg s2 n
        let s3 := setEg s2 n { p with cur := none, preempted := none, paused := false, verify := 0, downSince := some (now s2), downHeld := false, downReported := false }
        let s4 := match p.cur with
          | some c => emit s3 (.wire n c.dep c.wire false)
          | none => s3
        let s5 := (p.cur.toList ++ p.preempted.toList).foldl (fun s c => freeCopy (downCount s n (otherCarries s4 n)) c) s4
        if otherCarries s4 n then downDiscard s5 n true (fun _ => true) else s5)) ∧
  (∀ (s : State) (n : Nat),
      isEth n = true →
      (port s n).link = false →
      isPrp s n = false →
      exec (.linkUp n) s = .next (let s1 := setPort s n { port s n with link := true }
        setEg s1 n { eg s n with downSince := none, downHeld := false, downReported := false, verify := if bit (rd s (Reg.EGR_PORT_CTRL n)) 1 then 1 else 0 })) ∧
  (∀ (s : State) (q t : Nat),
      (eg s q).downSince = some t →
      (eg s q).downHeld = false →
      fld s (Reg.EGR_PORT_CTRL q) 31 16 * usUnits ≤ since s t →
      exec (.linkDownHoldExpiry q) s = .next (downDiscard (setEg s q { eg s q with downHeld := true }) q false (fun _ => true))) ∧
  (∀ (s : State) (q : Nat) (ok : Bool),
      (eg s q).verify = 1 →
      exec (.preemptVerifyDone q ok) s = .next (setEg s q { eg s q with verify := if ok then 2 else 3 })) ∧
  (∀ (s : State) (n quanta : Nat),
      isEth n = true →
      (port s n).link = true →
      bit (rd s (Reg.EGR_PORT_CTRL n)) 2 = true →
      exec (.pauseFrameReceived n quanta) s = .next (setEg s n { eg s n with paused := decide (quanta ≠ 0) })) ∧
  (∀ (s : State) (n : Nat),
      (eg s n).paused = true →
      exec (.receivedPauseExpiry n) s = .next (setEg s n { eg s n with paused := false }))

/-- Listeners: enable, join, disable, leave, counters, drain, replay. Derived from 07_egress_and_journal.md. -/
def Obligations.ListenerCommands : Prop :=
  (∀ (s : State) (r : Req) (l : Nat),
      Allowed s r Reg.EGR_LISTENER_CMD →
      l < 16384 →
      exec (.listenerEnable r l) s = .next (setLst s l { lst s l with state := 1 })) ∧
  (∀ (s : State) (r : Req) (l : Nat),
      Allowed s r Reg.EGR_LISTENER_CMD →
      l < 16384 →
      (lst s l).state ≠ 2 →
      (lst s l).replaying = false →
      s.egr.replays.length < 4 →
      exec (.listenerJoin r l) s = .next (let s1 := setLst s l { lst s l with state := 1, replaying := true }
        { s1 with egr := { s1.egr with replays := s.egr.replays ++ [{ listener := l, upTo := lastIndex s, next := 0, since := s.tim.boundaries, skip := [] }] } })) ∧
  (∀ (s : State) (r : Req) (l : Nat),
      Allowed s r Reg.EGR_LISTENER_CMD →
      l < 16384 →
      (lst s l).state = 1 →
      exec (.listenerDisable r l) s = .next (setLst (stopReplay s l) l { lst (stopReplay s l) l with state := 2, drainAt := drainEnd (stopReplay s l) })) ∧
  (∀ (s : State) (r : Req) (l : Nat),
      Allowed s r Reg.EGR_LISTENER_CMD →
      l < 16384 →
      exec (.listenerLeave r l) s = .next (let s1 := if (lst s l).replaying then endReplay ((lst s l).joinQ.foldl freeCopy (setLst s l { lst s l with joinQ := [] })) l else s
        let g := pullQueued s1 (listenerPorts s1 l) (isFor l)
        let s2 := setLst g.2 l { lst g.2 l with state := 0 }
        if g.1.length + (lst s l).joinQ.length = 0 then s2
        else report (cntAdd s2 Reg.EGR_CNT_GONE (g.1.length + (lst s l).joinQ.length)) Ev.EGR_LISTENER_GONE noInst 0)) ∧
  (∀ (s : State) (r : Req) (l : Nat),
      Allowed s r Reg.EGR_LISTENER_CMD →
      l < 16384 →
      exec (.listenerClearCounters r l) s = .next (setLst s l { lst s l with sent := 0 })) ∧
  (∀ (s : State) (l : Nat),
      (lst s l).state = 2 →
      (listenerPorts s l).all (fun q => (copiesAt (eg s q)).all (fun c => !isFor l c)) = true →
      exec (.listenerDrainComplete l) s = .next (setLst s l { lst s l with state := 0 })) ∧
  (∀ (s : State) (l : Nat),
      (lst s l).state = 2 →
      (lst s l).drainAt ≤ s.tim.boundaries →
      exec (.listenerDrainLimit l) s = .next (let g := pullQueued s (listenerPorts s l) (isFor l)
        drainLoss (setLst g.2 l { lst g.2 l with state := 0 }) g.1.length noInst)) ∧
  (∀ (s : State) (l : Nat) (p : Replay),
      s.egr.replays.find? (fun r => decide (r.listener = l)) = some p →
      replayNext s p = none →
      exec (.replayCopy l) s = .next (endReplay s l)) ∧
  (∀ (s : State) (l : Nat) (p : Replay) (id : Nat),
      s.egr.replays.find? (fun r => decide (r.listener = l)) = some p →
      replayNext s p = some id →
      lsPort s l ≤ 104 →
      portTakes s (lsPort s l) = true →
      exec (.replayCopy l) s = .next (let s1 := { s with egr := { s.egr with replays := s.egr.replays.map (fun r => if r.listener = l then { r with next := id + 1 } else r) } }
        let x := replaySent s1 id
        let s2 := match makeCopy x.2 x.1 (lsPort s1 l) (some l) (lsTemplate s1 l) true with
          | (none, s) => s
          | (some c, s) => placeCopy s c (fun e => decide (e.state = 1))
        blkDrop s2 x.1.blk)) ∧
  (∀ (s : State) (l : Nat) (p : Replay),
      s.egr.replays.find? (fun r => decide (r.listener = l)) = some p →
      max 1 (fld s Reg.EGR_REPLAY_CTRL 23 16) ≤ s.tim.boundaries - p.since →
      exec (.replayLimitExpiry l) s = .next (endReplay (cnt s Reg.EGR_CNT_REPLAY_CUT) l))

/-- Egress ports: enabling, draining and counters. Derived from 07_egress_and_journal.md. -/
def Obligations.EgressPortCommands : Prop :=
  (∀ (s : State) (r : Req) (q : Nat),
      Allowed s r (Reg.EGR_PORT_CTRL q) →
      mayWrite r (Reg.EGR_PORT_CTRL q) 0 = true →
      q ≤ 104 →
      (eg s q).state ≠ 1 →
      (eg s q).state ≠ 3 →
      exec (.egressPortEnable r q) s = .next (setEg (setFld s (Reg.EGR_PORT_CTRL q) 0 0 1) q { eg s q with state := 1 })) ∧
  (∀ (s : State) (r : Req) (q : Nat),
      Allowed s r (Reg.EGR_PORT_CTRL q) →
      mayWrite r (Reg.EGR_PORT_CTRL q) 0 = true →
      q ≤ 104 →
      (eg s q).state = 1 →
      exec (.egressPortDisable r q) s = .next (let s1 := setFld s (Reg.EGR_PORT_CTRL q) 0 0 0
        setEg s1 q { eg s q with state := 2, drainAt := drainEnd s1 })) ∧
  (∀ (s : State) (q : Nat),
      (eg s q).state = 2 →
      copiesAt (eg s q) = [] →
      exec (.egressPortDrainComplete q) s = .next (setEg s q { eg s q with state := 0 })) ∧
  (∀ (s : State) (q : Nat),
      (eg s q).state = 2 →
      (eg s q).drainAt ≤ s.tim.boundaries →
      exec (.egressPortDrainLimit q) s = .next (let g := pullQueued s [q] (fun _ => true)
        drainLoss (setEg g.2 q { eg g.2 q with state := 0 }) g.1.length q)) ∧
  (∀ (s : State) (r : Req),
      Allowed s r Reg.EGR_CNT_CLEAR →
      exec (.egrCntClearGlobal r) s = .next (clearRegs s Reg.EGR_CNT_DROP Reg.EGR_CNT_REPLAY)) ∧
  (∀ (s : State) (r : Req),
      Allowed s r Reg.EGR_CNT_CLEAR →
      exec (.egrCntClearPorts r) s = .next ((List.range 105).foldl (fun s q => wr s (Reg.EGR_PORT_DROP q) 0#32) s))

/-- The classifier: a known key is admitted, a miss waits for the wildcard search, keys are inserted. Derived from 03_stream_table.md. -/
def Obligations.ClassifierCommands : Prop :=
  (∀ (s : State) (n e id : Nat) (x : Sent) (rest : List Sent) (t1 : State),
      engineOf s n = some e →
      serveNext (·.hint) (port s n).staging = some (x, rest) →
      findStream s (rekey s x).key = some id →
      admitSent (setPort s n { port s n with staging := rest }) n (rekey s x) id = some t1 →
      exec (.classify n) s = .next (classifierLose t1 (rekey s x))) ∧
  (∀ (s : State) (n e : Nat) (x : Sent) (rest : List Sent),
      engineOf s n = some e →
      serveNext (·.hint) (port s n).staging = some (x, rest) →
      findStream s (rekey s x).key = none →
      exec (.classify n) s = .next (let s1 := report (cnt (setPort s n { port s n with staging := rest }) Reg.STB_CNT_MISS) Ev.STB_MISS noInst 0
        if (s1.stb.misses.filter (fun m => decide (m.engine = e))).length ≥ 64 then classifierLose (cnt s1 Reg.STB_CNT_SHED) (rekey s x)
        else { s1 with stb := { s1.stb with misses := s1.stb.misses ++ [{ sent := rekey s x, port := n, engine := e, serial := s1.stb.missSerial }], missSerial := s1.stb.missSerial + 1 } })) ∧
  (∀ (s : State) (m : Miss) (rest : List Miss) (id : Nat) (t1 : State),
      s.stb.misses = m :: rest →
      learnedId { s with stb := { s.stb with misses := rest } } m.sent.key = some id →
      admitSent { s with stb := { s.stb with misses := rest } } m.port m.sent id = some t1 →
      exec (.wildcardSearch) s = .next (settlePending (classifierLose t1 m.sent))) ∧
  (∀ (s : State) (m : Miss) (rest : List Miss),
      s.stb.misses = m :: rest →
      learnedId { s with stb := { s.stb with misses := rest } } m.sent.key = none →
      (List.range 512).find? (ruleMatches { s with stb := { s.stb with misses := rest } } m.sent.key) = none →
      exec (.wildcardSearch) s = .next (settlePending (classifierLose { s with stb := { s.stb with misses := rest } } m.sent))) ∧
  (∀ (s : State) (p : PendKey) (ix : BIndex),
      s.stb.pending.find? (·.doneAt.isNone) = some p →
      insertKey (idDigest s) (bIndex s) (digestOf (hashSeed s) p.key) p.id = some ix →
      exec (.insertionComplete) s = .next (settlePending { s with stb := { s.stb with slots := ix.1, stash := ix.2, pending := s.stb.pending.map (fun q => if q.id = p.id then { q with doneAt := some s.stb.missSerial } else q) } })) ∧
  (∀ (s : State) (id : Nat),
      (strm s id).aging = true →
      beforeCommit s id = false →
      exec (.learnedEntryEmpty id) s = .next ({ s with stb := { s.stb with learned := tset s.stb.learned id none, streams := tset s.stb.streams id default, pending := s.stb.pending.filter (fun p => !decide (p.id = id)) } })) ∧
  (∀ (s : State),
      s.tim.lastSec < now s / secUnits →
      exec (.wholeSecond) s = .next (let s1 := agingSweep { s with tim := { s.tim with lastSec := now s / secUnits } }
        let s2 := { s1 with flt := { s1.flt with fstate := tmap (fun _ f => sweepState (now s / 4000 % 2 ^ 31) (now s / 4000 / 64 % 2 ^ 23) f) s1.flt.fstate } }
        if s2.tim.timeValid then { s2 with tim := { s2.tim with rtc := now s / secUnits * 32768 } } else s2))

/-- Stream commands: verdicts on learned entries, enable, disable, counters, last values, drain. Derived from 03_stream_table.md. -/
def Obligations.StreamCommands : Prop :=
  (∀ (s : State) (r : Req) (id : Nat) (g : StreamCfg),
      Allowed s r Reg.STB_ADMIT →
      tget s.stb.learned id = some g →
      (strm s id).aging = false →
      exec (.streamAdmit r id) s = .next (setStrm { s with stb := { s.stb with learned := tset s.stb.learned id (some { g with dset := (strmCfg s s.tag g.template).dset }) } } id { strm s id with admitted := true })) ∧
  (∀ (s : State) (r : Req) (id : Nat) (g : StreamCfg),
      Allowed s r Reg.STB_ADMIT →
      tget s.stb.learned id = some g →
      (strm s id).aging = false →
      exec (.streamReject r id) s = .next (setStrm s id { strm s id with state := 0 })) ∧
  (∀ (s : State) (r : Req) (id : Nat) (g : StreamCfg),
      Allowed s r Reg.STB_ADMIT →
      tget s.stb.learned id = some g →
      (strm s id).aging = false →
      exec (.streamRelease r id) s = .next (retireLearned (report (cnt s Reg.STB_CNT_AGED) Ev.STB_AGED id 0) id)) ∧
  (∀ (s : State) (r : Req) (id : Nat),
      Allowed s r Reg.STB_STREAM_CMD →
      r ≠ .steward →
      byteAt (strmCfg s s.tag id).key 0 ≠ 0 →
      id ≠ 0 →
      id ≤ 65535 →
      byteAt (strmCfg s s.tag id).key 0 ≠ 0xFE →
      partServes s id = true →
      (strm s id).aging = false →
      (strm s id).state = 0 →
      exec (.streamEnable r id) s = .next (clearFilterState (setStrm s id { strm s id with state := 1, seqValid := false }) id)) ∧
  (∀ (s : State) (r : Req) (id : Nat),
      Allowed s r Reg.STB_STREAM_CMD →
      r ≠ .steward →
      byteAt (strmCfg s s.tag id).key 0 ≠ 0 →
      id ≠ 0 →
      id ≤ 65535 →
      byteAt (strmCfg s s.tag id).key 0 ≠ 0xFE →
      partServes s id = true →
      (strm s id).state = 1 →
      exec (.streamDisable r id) s = .next (setStrm s id { strm s id with state := 2, drainAt := drainEnd s })) ∧
  (∀ (s : State) (r : Req) (id : Nat),
      Allowed s r Reg.STB_STREAM_CMD →
      r ≠ .steward →
      byteAt (strmCfg s s.tag id).key 0 ≠ 0 →
      id ≠ 0 →
      id ≤ 65535 →
      exec (.streamClearCounters r id) s = .next (setStrm s id { strm s id with matched := 0, refused := 0, seqAnomaly := 0 })) ∧
  (∀ (s : State) (r : Req) (id : Nat),
      Allowed s r Reg.STB_STREAM_CMD →
      r ≠ .steward →
      byteAt (strmCfg s s.tag id).key 0 ≠ 0 →
      id ≠ 0 →
      id ≤ 65535 →
      exec (.streamClearLastValue r id) s = .next (setStrm s id { strm s id with lvState := 0, lvHalf := false, lvStamp := 0, lvIndex := 0, lvLen := 0, line := [], ovf0 := [], ovf1 := [] })) ∧
  (∀ (s : State) (id : Nat),
      (strm s id).state = 2 →
      (strm s id).aging = false →
      beforeDispatch s id = false →
      exec (.streamDrainComplete id) s = .next (setStrm s id { strm s id with state := 0 })) ∧
  (∀ (s : State) (id : Nat),
      (strm s id).state = 2 →
      (strm s id).drainAt ≤ s.tim.boundaries →
      (strm s id).aging = false →
      exec (.streamDrainLimit id) s = .next (let lost := s.map.holds.filter (fun x => decide (x.stream = id))
        let s1 := { s with map := { s.map with holds := s.map.holds.filter (fun x => !decide (x.stream = id)) } }
        setStrm (lost.foldl sentFree s1) id { strm s id with state := 0, refused := satAdd 0xFFFFFFFF (strm s id).refused lost.length, drainLoss := satAdd 0xFFFFFFFF (strm s id).drainLoss lost.length })) ∧
  (∀ (s : State) (x : Sent) (rest : List Sent),
      s.stb.lvcQueue = x :: rest →
      exec (.lvcWrite) s = .next (setStrm { s with stb := { s.stb with lvcQueue := rest } } x.stream (writeLast (strmCfg s s.tag x.stream) (strm s x.stream) x))) ∧
  (∀ (s : State) (r : Req),
      Allowed s r Reg.STB_CNT_CLEAR →
      exec (.stbCntClearGlobal r) s = .next (clearRegs s Reg.STB_CNT_MISS Reg.STB_CNT_LVC_STALE)) ∧
  (∀ (s : State) (r : Req),
      Allowed s r Reg.STB_CNT_CLEAR →
      exec (.stbCntClearRules r) s = .next ({ s with stb := { s.stb with ruleHits := [] } })) ∧
  (∀ (s : State) (r : Req),
      Allowed s r Reg.STB_CNT_CLEAR →
      exec (.stbCntClearStreams r) s = .next ({ s with stb := { s.stb with streams := tmap (fun _ st => { st with matched := 0, refused := 0, seqAnomaly := 0 }) s.stb.streams } }))

/-- Filters, the bog and source groups. Derived from 04_filters_and_bog.md. -/
def Obligations.FilterCommands : Prop :=
  (∀ (s : State) (x : Sent) (rest : List Sent) (o : Bool),
      takeFirst (fun x => c0 x && !s.flt.verifying.any (fun v => decide (v.2.stream = x.stream))) s.stb.classified = some (x, rest) →
      credit (s.flt.filtered ++ s.flt.verifying.map (·.2)) 1024 128 (c0 x) = some o →
      exec (.filterEvaluate) s = .next (let s1 := { s with stb := { s.stb with classified := rest } }
        if fsBit s1 { x with oasis := o } 0 then sealBegin s1 { x with oasis := o } else filterTests s1 { x with oasis := o })) ∧
  (∀ (s : State) (x : Sent) (rest : List Sent) (o : Bool),
      takeFirst (fun x => c0 x && !s.flt.verifying.any (fun v => decide (v.2.stream = x.stream))) s.stb.classified = none →
      takeFirst (fun x => !s.flt.verifying.any (fun v => decide (v.2.stream = x.stream))) s.stb.classified = some (x, rest) →
      credit (s.flt.filtered ++ s.flt.verifying.map (·.2)) 1024 128 (c0 x) = some o →
      exec (.filterEvaluate) s = .next (let s1 := { s with stb := { s.stb with classified := rest } }
        if fsBit s1 { x with oasis := o } 0 then sealBegin s1 { x with oasis := o } else filterTests s1 { x with oasis := o })) ∧
  (∀ (s : State) (e : BogRec) (rest : List BogRec),
      s.flt.bogIntake = e :: rest →
      bit (rd s Reg.FLT_BOG_CTRL) 0 = false →
      s.flt.bogPtr + min e.length (fld s Reg.FLT_BOG_CTRL 27 16) ≤ 65536 →
      Gives (.bogWrite) s (fun t => t.flt.bogIntake = rest ∧ t.flt.bogNext = (s.flt.bogNext + 1) % 2 ^ 32 ∧ t.flt.bogPtr = s.flt.bogPtr + min e.length (fld s Reg.FLT_BOG_CTRL 27 16) ∧
        t.flt.bogStore = bogPut s.flt.bogStore s.flt.bogPtr (e.payload.take (min e.length (fld s Reg.FLT_BOG_CTRL 27 16))) ∧ t = { s with flt := t.flt })) ∧
  (∀ (s : State) (r : Req) (g m : Nat),
      Allowed s r Reg.FLT_SRC_FORCE →
      g ≠ 0 →
      g ≤ 255 →
      m ≤ 3 →
      exec (.sourceForce r g m) s = .next (setGroup s g (tget s.flt.groups g) { tget s.flt.groups g with forced := some m, selected := some m })) ∧
  (∀ (s : State) (r : Req) (g : Nat),
      Allowed s r Reg.FLT_SRC_FORCE →
      g ≠ 0 →
      g ≤ 255 →
      exec (.sourceRelease r g) s = .next ({ s with flt := { s.flt with groups := tmod s.flt.groups g (fun x => { x with forced := none }) } })) ∧
  (∀ (s : State) (r : Req),
      Allowed s r Reg.FLT_CNT_CLEAR →
      exec (.fltCntClearCounters r) s = .next (clearRegs s Reg.FLT_CNT_SEAL Reg.FLT_CNT_BOG_SHED)) ∧
  (∀ (s : State) (r : Req),
      Allowed s r Reg.FLT_CNT_CLEAR →
      reqGuard r = true →
      exec (.fltCntClearBog r) s = .next ({ s with flt := { s.flt with bogIntake := [], bog := [], bogStore := [], bogPtr := 0, bogNext := 0 } })) ∧
  (∀ (s : State) (user ident : Nat),
      user ≠ 255 →
      user ≠ 8 →
      exec (.kvtOpComplete user ident) s = .next ((opComplete s user ident).2)) ∧
  (∀ (s : State) (ident : Nat),
      exec (.kvtOpComplete 8 ident) s = .next (sealComplete s ident)) ∧
  (∀ (s : State) (c : KCmd),
      s.vault.cmd = some c →
      exec (.kvtOpComplete 255 0) s = .next (kvtCmdComplete s c))

/-- Micro-ops that load: constants, run values, binary and text fields, last values and source lists. Derived from 05_signal_mapping.md. -/
def Obligations.MapperLoads : Prop :=
  (∀ (s : State) (e w : Nat) (first : Bool) (r : Run),
      AtOp s e first r w 0x04 →
      exec (.opLdc e) s = .next (took s e first r (opRd w) (sext 48 (nbits w 47 0)))) ∧
  (∀ (s : State) (e w : Nat) (first : Bool) (r : Run),
      AtOp s e first r w 0x05 →
      exec (.opLds e) s = .next (loaded s e first r (opRd w) false ((runValue s r (nbits w 3 0)).map (fun v => sext 64 (twos 64 v))))) ∧
  (∀ (s : State) (e w : Nat) (first : Bool) (r : Run),
      AtOp s e first r w 0x06 →
      exec (.opLdb e) s = .next (loaded s e first r (opRd w) (opBit w 49) (binField (runArea s r) (nbits w 47 34) (nbits w 33 31) (nbits w 30 24) (opBit w 51) (opBit w 50)))) ∧
  (∀ (s : State) (e w : Nat) (first : Bool) (r : Run),
      AtOp s e first r w 0x07 →
      exec (.opLdt e) s = .next (loaded s e first r (opRd w) (opBit w 49) ((runText s r (nbits w 47 40)).bind (fun f => textDecimal f (nbits w 39 36))))) ∧
  (∀ (s : State) (e w : Nat) (first : Bool) (r : Run),
      AtOp s e first r w 0x08 →
      exec (.opLdtm e) s = .next (loaded s e first r (opRd w) (opBit w 49) ((runText s r (nbits w 47 40)).bind textTime))) ∧
  (∀ (s : State) (e w : Nat) (first : Bool) (r : Run),
      AtOp s e first r w 0x09 →
      exec (.opLdch e) s = .next (loaded s e first r (opRd w) (opBit w 49) ((runText s r (nbits w 47 40)).bind (fun f => f.head?.map (fun b => Int.ofNat b.toNat))))) ∧
  (∀ (s : State) (e w : Nat) (first : Bool) (r : Run),
      AtOp s e first r w 0x0A →
      lvStream s r w = 0 →
      exec (.opLdv e) s = .next (loaded s e first r (opRd w) (opBit w 49) none)) ∧
  (∀ (s : State) (e w : Nat) (first : Bool) (r : Run) (p : Snap × Run),
      AtOp s e first r w 0x0A →
      lvStream s r w ≠ 0 →
      snap s r (lvStream s r w) = some p →
      exec (.opLdv e) s = .next (applyOp s e first r (ldvField s p.2 w p.1))) ∧
  (∀ (s : State) (e w : Nat) (first : Bool) (r : Run) (p : Snap × Run),
      AtOp s e first r w 0x0B →
      lvStream s r w ≠ 0 →
      snap s r (lvStream s r w) = some p →
      exec (.opLva e) s = .next (loaded s e first p.2 (opRd w) false (if present p.1 then some (Int.ofNat (snapAge s p.1)) else none))) ∧
  (∀ (s : State) (e w : Nat) (first : Bool) (r : Run) (m : Nat) (r2 : Run),
      AtOp s e first r w 0x0C →
      freshMember s (nbits w 47 40) (leNat (cBytes s r.input.tag 4 (2363392 + 16 * nbits w 47 40 + 8) 4)) 4 0 r = some (some m, r2) →
      exec (.opSrcl e) s = .next (setCtx s e first (some { r2 with w := r2.w.set (opRd w) m, pc := r2.pc + 1, abs := false }))) ∧
  (∀ (s : State) (e w : Nat) (first : Bool) (r : Run) (r2 : Run),
      AtOp s e first r w 0x0C →
      freshMember s (nbits w 47 40) (leNat (cBytes s r.input.tag 4 (2363392 + 16 * nbits w 47 40 + 8) 4)) 4 0 r = some (none, r2) →
      exec (.opSrcl e) s = .next (setCtx s e first (some { r2 with w := r2.w.set (opRd w) (-1), pc := r2.pc + 1, abs := true })))

/-- Micro-ops that compute: the new value of rd, saturated to 64 bits where the result does not fit. Derived from 05_signal_mapping.md. -/
def Obligations.MapperArithmetic : Prop :=
  (∀ (s : State) (e w : Nat) (first : Bool) (r : Run),
      AtOp s e first r w 0x10 →
      exec (.opMov e) s = .next (took s e first r (opRd w) (reg r (opRs w)))) ∧
  (∀ (s : State) (e w : Nat) (first : Bool) (r : Run),
      AtOp s e first r w 0x11 →
      exec (.opAdd e) s = .next (tookSat s e first r (opRd w) (reg r (opRd w) + reg r (opRs w)))) ∧
  (∀ (s : State) (e w : Nat) (first : Bool) (r : Run),
      AtOp s e first r w 0x12 →
      exec (.opSub e) s = .next (tookSat s e first r (opRd w) (reg r (opRd w) - reg r (opRs w)))) ∧
  (∀ (s : State) (e w : Nat) (first : Bool) (r : Run),
      AtOp s e first r w 0x13 →
      exec (.opAddi e) s = .next (tookSat s e first r (opRd w) (reg r (opRd w) + sext 48 (nbits w 47 0)))) ∧
  (∀ (s : State) (e w : Nat) (first : Bool) (r : Run),
      AtOp s e first r w 0x14 →
      exec (.opMul e) s = .next (tookSat s e first r (opRd w) (roundDiv (nbits w 49 48) (reg r (opRd w) * reg r (opRs w)) (2 ^ nbits w 15 10)))) ∧
  (∀ (s : State) (e w : Nat) (first : Bool) (r : Run),
      AtOp s e first r w 0x15 →
      reg r (opRs w) ≠ 0 →
      exec (.opDiv e) s = .next (tookSat s e first r (opRd w) (roundQ (nbits w 49 48) (reg r (opRd w) * 2 ^ nbits w 15 10) (reg r (opRs w))))) ∧
  (∀ (s : State) (e w : Nat) (first : Bool) (r : Run),
      AtOp s e first r w 0x16 →
      exec (.opScale e) s = .next (tookSat s e first r (opRd w) (roundDiv (nbits w 49 48) (reg r (opRs w) * sext 32 (nbits w 47 16)) (2 ^ nbits w 15 10)))) ∧
  (∀ (s : State) (e w : Nat) (first : Bool) (r : Run),
      AtOp s e first r w 0x17 →
      exec (.opMin e) s = .next (took s e first r (opRd w) (min (reg r (opRd w)) (reg r (opRs w))))) ∧
  (∀ (s : State) (e w : Nat) (first : Bool) (r : Run),
      AtOp s e first r w 0x18 →
      exec (.opMax e) s = .next (took s e first r (opRd w) (max (reg r (opRd w)) (reg r (opRs w))))) ∧
  (∀ (s : State) (e w : Nat) (first : Bool) (r : Run),
      AtOp s e first r w 0x19 →
      exec (.opAbs e) s = .next (tookSat s e first r (opRd w) (Int.ofNat (reg r (opRs w)).natAbs))) ∧
  (∀ (s : State) (e w : Nat) (first : Bool) (r : Run),
      AtOp s e first r w 0x1A →
      exec (.opNeg e) s = .next (tookSat s e first r (opRd w) (-(reg r (opRs w)))))

/-- Micro-ops on bits, comparisons, range checks and interpolation. Derived from 05_signal_mapping.md. -/
def Obligations.MapperLogic : Prop :=
  (∀ (s : State) (e w : Nat) (first : Bool) (r : Run),
      AtOp s e first r w 0x1B →
      exec (.opAnd e) s = .next (took s e first r (opRd w) (sext 64 (twos 64 (reg r (opRd w)) &&& twos 64 (reg r (opRs w)))))) ∧
  (∀ (s : State) (e w : Nat) (first : Bool) (r : Run),
      AtOp s e first r w 0x1C →
      exec (.opOr e) s = .next (took s e first r (opRd w) (sext 64 (twos 64 (reg r (opRd w)) ||| twos 64 (reg r (opRs w)))))) ∧
  (∀ (s : State) (e w : Nat) (first : Bool) (r : Run),
      AtOp s e first r w 0x1D →
      exec (.opXor e) s = .next (took s e first r (opRd w) (sext 64 (twos 64 (reg r (opRd w)) ^^^ twos 64 (reg r (opRs w)))))) ∧
  (∀ (s : State) (e w : Nat) (first : Bool) (r : Run),
      AtOp s e first r w 0x1E →
      exec (.opAndi e) s = .next (took s e first r (opRd w) (sext 64 (twos 64 (reg r (opRd w)) &&& nbits w 47 0)))) ∧
  (∀ (s : State) (e w : Nat) (first : Bool) (r : Run),
      AtOp s e first r w 0x1F →
      exec (.opOri e) s = .next (took s e first r (opRd w) (sext 64 (twos 64 (reg r (opRd w)) ||| nbits w 47 0)))) ∧
  (∀ (s : State) (e w : Nat) (first : Bool) (r : Run),
      AtOp s e first r w 0x20 →
      exec (.opEqi e) s = .next (took s e first r (opRd w) (if reg r (opRd w) = sext 48 (nbits w 47 0) then 1 else 0))) ∧
  (∀ (s : State) (e w : Nat) (first : Bool) (r : Run),
      AtOp s e first r w 0x21 →
      sext 24 (nbits w 47 24) ≤ reg r (opRd w) →
      reg r (opRd w) ≤ sext 24 (nbits w 23 0) →
      exec (.opRchk e) s = .next (setCtx s e first (some { r with pc := r.pc + 1 }))) ∧
  (∀ (s : State) (e w : Nat) (first : Bool) (r : Run),
      AtOp s e first r w 0x21 →
      ¬ (sext 24 (nbits w 47 24) ≤ reg r (opRd w) ∧ reg r (opRd w) ≤ sext 24 (nbits w 23 0)) →
      exec (.opRchk e) s = .next (if opBit w 48 then abortRun s e first r 7 else setCtx s e first (some { r with pc := r.pc + 1, rng := true }))) ∧
  (∀ (s : State) (e w : Nat) (first : Bool) (r : Run) (below : Bool),
      AtOp s e first r w 0x22 →
      decide (reg r (opRs w) < (interpPoint s r.input.tag (nbits w 47 39) 0).1) = below →
      below = true ∨ decide (reg r (opRs w) > (interpPoint s r.input.tag (nbits w 47 39) (leNat (cBytes s r.input.tag 4 (2228224 + 264 * nbits w 47 39) 1) - 1)).1) = true →
      nbits w 49 48 = 0 →
      exec (.opInterp e) s = .next (tookSat s e first r (opRd w) (if below then (interpPoint s r.input.tag (nbits w 47 39) 0).2 else (interpPoint s r.input.tag (nbits w 47 39) (leNat (cBytes s r.input.tag 4 (2228224 + 264 * nbits w 47 39) 1) - 1)).2))) ∧
  (∀ (s : State) (e w : Nat) (first : Bool) (r : Run),
      AtOp s e first r w 0x22 →
      (interpPoint s r.input.tag (nbits w 47 39) 0).1 ≤ reg r (opRs w) →
      reg r (opRs w) < (interpPoint s r.input.tag (nbits w 47 39) (leNat (cBytes s r.input.tag 4 (2228224 + 264 * nbits w 47 39) 1) - 1)).1 →
      exec (.opInterp e) s = .next (tookSat s e first r (opRd w) (interpLine s r.input.tag (nbits w 47 39) (((List.range (leNat (cBytes s r.input.tag 4 (2228224 + 264 * nbits w 47 39) 1) - 1)).filter (fun i => decide ((interpPoint s r.input.tag (nbits w 47 39) i).1 ≤ reg r (opRs w)))).length - 1) (reg r (opRs w)))))

/-- Micro-ops that build outputs. Derived from 05_signal_mapping.md. -/
def Obligations.MapperOutputs : Prop :=
  (∀ (s : State) (e w : Nat) (first : Bool) (r : Run),
      AtOp s e first r w 0x28 →
      exec (.opNewo e) s = .next (setCtx s e first (some { r with outs := r.outs.set (nbits w 47 46) (some { bytes := List.replicate (nbits w 45 34) (BitVec.ofNat 8 (nbits w 33 26)), marks := [], csums := [] }), cur := some (nbits w 47 46), pc := r.pc + 1 }))) ∧
  (∀ (s : State) (e w : Nat) (first : Bool) (r : Run),
      AtOp s e first r w 0x29 →
      exec (.opSelo e) s = .next (setCtx s e first (some { r with cur := some (nbits w 47 46), pc := r.pc + 1 }))) ∧
  (∀ (s : State) (e w : Nat) (first : Bool) (r : Run) (o : Nat) (b : OutBuf),
      AtOp s e first r w 0x2A →
      curOut r = some (o, b) →
      nbits w 33 22 + nbits w 21 10 ≤ b.bytes.length →
      exec (.opCpy e) s = .next (setCtx s e first (some { r with outs := r.outs.set o (some { b with bytes := overlay b.bytes (nbits w 33 22) (padTo (nbits w 21 10) 0#8 (slice (runArea s r) (nbits w 47 34) (nbits w 21 10))) }), pc := r.pc + 1, abs := r.abs || decide ((slice (runArea s r) (nbits w 47 34) (nbits w 21 10)).length < nbits w 21 10) }))) ∧
  (∀ (s : State) (e w : Nat) (first : Bool) (r : Run) (o : Nat) (b : OutBuf),
      AtOp s e first r w 0x2B →
      curOut r = some (o, b) →
      8 * nbits w 47 34 + nbits w 33 31 + nbits w 30 24 ≤ 8 * b.bytes.length →
      exec (.opStb e) s = .next (let v := reg r (opRs w)
        let lo : Int := if opBit w 51 then -(2 : Int) ^ (nbits w 30 24 - 1) else 0
        let hi : Int := if opBit w 51 then (2 : Int) ^ (nbits w 30 24 - 1) - 1 else if nbits w 30 24 = 64 then (2 : Int) ^ 63 - 1 else (2 : Int) ^ nbits w 30 24 - 1
        let v1 := if opBit w 49 then v else clampZ lo hi v
        applyOp s e first r (.go (setOut r o { b with bytes := putField b.bytes (nbits w 47 34) (nbits w 33 31) (nbits w 30 24) (opBit w 50) (twos 64 v1) }) (decide (v1 ≠ v))))) ∧
  (∀ (s : State) (e w : Nat) (first : Bool) (r : Run) (o : Nat) (b : OutBuf),
      AtOp s e first r w 0x2C →
      curOut r = some (o, b) →
      opBit w 50 = true →
      r.abs = true →
      exec (.opStt e) s = .next (setCtx s e first (some { r with pc := r.pc + 1 }))) ∧
  (∀ (s : State) (e w : Nat) (first : Bool) (r : Run) (o : Nat) (b : OutBuf),
      AtOp s e first r w 0x2C →
      curOut r = some (o, b) →
      ¬ (opBit w 50 = true ∧ r.abs = true) →
      exec (.opStt e) s = .next (appended s e first r o b ((if reg r (opRs w) < 0 then [0x2D#8] else if reg r (opRs w) > 0 ∧ opBit w 51 = true then [0x2B#8] else []) ++ decimal (max 1 (nbits w 43 40)) ((reg r (opRs w)).natAbs / 10 ^ nbits w 47 44) ++
          (if nbits w 47 44 > 0 then [0x2E#8] ++ decimal (nbits w 47 44) ((reg r (opRs w)).natAbs % 10 ^ nbits w 47 44) else [])))) ∧
  (∀ (s : State) (e w : Nat) (first : Bool) (r : Run) (o : Nat) (b : OutBuf),
      AtOp s e first r w 0x2D →
      curOut r = some (o, b) →
      0 ≤ reg r (opRs w) →
      reg r (opRs w) ≤ 86400999 →
      exec (.opStm e) s = .next (appended s e first r o b ((if (reg r (opRs w)).toNat ≥ 86400000 then ascii "235960" else decimal 2 ((reg r (opRs w)).toNat / 3600000) ++ decimal 2 ((reg r (opRs w)).toNat / 60000 % 60) ++ decimal 2 ((reg r (opRs w)).toNat / 1000 % 60)) ++
          (if nbits w 47 44 > 0 then [0x2E#8] ++ (decimal 3 ((reg r (opRs w)).toNat % 1000)).take (nbits w 47 44) else [])))) ∧
  (∀ (s : State) (e w : Nat) (first : Bool) (r : Run) (o : Nat) (b : OutBuf),
      AtOp s e first r w 0x2E →
      curOut r = some (o, b) →
      exec (.opApc e) s = .next (appended s e first r o b ((toBE 6 (nbits w 47 0)).filter (fun c => !decide (c = 0#8))))) ∧
  (∀ (s : State) (e w : Nat) (first : Bool) (r : Run) (o : Nat) (b : OutBuf) (f : Bytes),
      AtOp s e first r w 0x2F →
      curOut r = some (o, b) →
      runText s r (nbits w 47 40) = some f →
      exec (.opApf e) s = .next (appended s e first r o b f)) ∧
  (∀ (s : State) (e w : Nat) (first : Bool) (r : Run) (o : Nat) (b : OutBuf),
      AtOp s e first r w 0x2F →
      curOut r = some (o, b) →
      runText s r (nbits w 47 40) = none →
      exec (.opApf e) s = .next (setCtx s e first (some { r with abs := true, pc := r.pc + 1 }))) ∧
  (∀ (s : State) (e w : Nat) (first : Bool) (r : Run) (o : Nat) (b : OutBuf),
      AtOp s e first r w 0x30 →
      curOut r = some (o, b) →
      nbits w 47 44 = 0 →
      exec (.opCsum e) s = .next (applyOp s e first r (csumIec s r o b))) ∧
  (∀ (s : State) (e w : Nat) (first : Bool) (r : Run) (o : Nat) (b : OutBuf) (fin : Nat) (code : Bytes),
      AtOp s e first r w 0x30 →
      curOut r = some (o, b) →
      nbits w 47 44 ≠ 0 →
      (if nbits w 31 20 = 0 then b.bytes.length else nbits w 31 20) = fin →
      checkCode (nbits w 47 44) (slice b.bytes (nbits w 43 32) (fin - nbits w 43 32)) = code →
      fin ≤ b.bytes.length →
      nbits w 19 8 + code.length ≤ b.bytes.length →
      overlaps (nbits w 43 32) (fin - nbits w 43 32) (nbits w 19 8) code.length = false →
      exec (.opCsum e) s = .next (setCtx s e first (some { r with outs := r.outs.set o (some { b with bytes := overlay b.bytes (nbits w 19 8) code, csums := b.csums ++ [(nbits w 47 44, nbits w 43 32, fin, nbits w 19 8)] }), pc := r.pc + 1 }))) ∧
  (∀ (s : State) (e w : Nat) (first : Bool) (r : Run) (o : Nat) (b : OutBuf),
      AtOp s e first r w 0x31 →
      curOut r = some (o, b) →
      b.marks.length < 2 →
      nbits w 43 32 + markLen (nbits w 47 44) ≤ b.bytes.length →
      exec (.opStmk e) s = .next (setCtx s e first (some { r with outs := r.outs.set o (some { b with bytes := overlay b.bytes (nbits w 43 32) (List.replicate (markLen (nbits w 47 44)) 0#8), marks := b.marks ++ [(nbits w 47 44, nbits w 43 32)] }), pc := r.pc + 1 })))

/-- Where a micro-op aborts its run, and with which cause. Derived from 05_signal_mapping.md. -/
def Obligations.MapperTraps : Prop :=
  (∀ (s : State) (e w : Nat) (first : Bool) (r : Run),
      AtOp s e first r w 0x15 →
      reg r (opRs w) = 0 →
      exec (.opDiv e) s = .next (abortRun s e first r 1)) ∧
  (∀ (s : State) (e w : Nat) (first : Bool) (r : Run) (o : Nat) (b : OutBuf),
      AtOp s e first r w 0x2A →
      curOut r = some (o, b) →
      b.bytes.length < nbits w 33 22 + nbits w 21 10 →
      exec (.opCpy e) s = .next (abortRun s e first r 2)) ∧
  (∀ (s : State) (e w : Nat) (first : Bool) (r : Run) (o : Nat) (b : OutBuf),
      AtOp s e first r w 0x2B →
      curOut r = some (o, b) →
      8 * b.bytes.length < 8 * nbits w 47 34 + nbits w 33 31 + nbits w 30 24 →
      exec (.opStb e) s = .next (abortRun s e first r 2)) ∧
  (∀ (s : State) (e w : Nat) (first : Bool) (r : Run),
      AtOp s e first r w 0x2A →
      curOut r = none →
      exec (.opCpy e) s = .next (abortRun s e first r 3)) ∧
  (∀ (s : State) (e w : Nat) (first : Bool) (r : Run),
      AtOp s e first r w 0x2B →
      curOut r = none →
      exec (.opStb e) s = .next (abortRun s e first r 3)) ∧
  (∀ (s : State) (e w : Nat) (first : Bool) (r : Run),
      AtOp s e first r w 0x2C →
      curOut r = none →
      exec (.opStt e) s = .next (abortRun s e first r 3)) ∧
  (∀ (s : State) (e w : Nat) (first : Bool) (r : Run),
      AtOp s e first r w 0x2D →
      curOut r = none →
      exec (.opStm e) s = .next (abortRun s e first r 3)) ∧
  (∀ (s : State) (e w : Nat) (first : Bool) (r : Run),
      AtOp s e first r w 0x2E →
      curOut r = none →
      exec (.opApc e) s = .next (abortRun s e first r 3)) ∧
  (∀ (s : State) (e w : Nat) (first : Bool) (r : Run),
      AtOp s e first r w 0x2F →
      curOut r = none →
      exec (.opApf e) s = .next (abortRun s e first r 3)) ∧
  (∀ (s : State) (e w : Nat) (first : Bool) (r : Run),
      AtOp s e first r w 0x30 →
      curOut r = none →
      exec (.opCsum e) s = .next (abortRun s e first r 3)) ∧
  (∀ (s : State) (e w : Nat) (first : Bool) (r : Run),
      AtOp s e first r w 0x31 →
      curOut r = none →
      exec (.opStmk e) s = .next (abortRun s e first r 3)) ∧
  (∀ (s : State) (e w : Nat) (first : Bool) (r : Run),
      AtOp s e first r w 0x0A →
      lvStream s r w ≠ 0 →
      snap s r (lvStream s r w) = none →
      exec (.opLdv e) s = .next (abortRun s e first r 5)) ∧
  (∀ (s : State) (e w : Nat) (first : Bool) (r : Run),
      AtOp s e first r w 0x0B →
      lvStream s r w ≠ 0 →
      snap s r (lvStream s r w) = none →
      exec (.opLva e) s = .next (abortRun s e first r 5)) ∧
  (∀ (s : State) (e w : Nat) (first : Bool) (r : Run) (o : Nat) (b : OutBuf),
      AtOp s e first r w 0x31 →
      curOut r = some (o, b) →
      b.marks.length ≥ 2 ∨ nbits w 43 32 + markLen (nbits w 47 44) > b.bytes.length →
      exec (.opStmk e) s = .next (abortRun s e first r 6)) ∧
  (∀ (s : State) (e w : Nat) (first : Bool) (r : Run) (o : Nat) (b : OutBuf),
      AtOp s e first r w 0x2D →
      curOut r = some (o, b) →
      reg r (opRs w) < 0 ∨ reg r (opRs w) > 86400999 →
      exec (.opStm e) s = .next (abortRun s e first r 7))

/-- Dispatch, run start, preemption, run end, overtime and hand-over. Derived from 05_signal_mapping.md. -/
def Obligations.MapperRunControl : Prop :=
  (∀ (s : State) (t1 : State),
      (tryCyc s true).orElse (fun _ => tryFiltered s true) = some t1 →
      exec (.mapperDispatch) s = .next (t1)) ∧
  (∀ (s : State) (t1 : State),
      (tryCyc s true).orElse (fun _ => tryFiltered s true) = none →
      s.flt.filtered.any c0 = false →
      (tryCyc s false).orElse (fun _ => (tryHolds s [] s.map.holds).orElse (fun _ => tryFiltered s false)) = some t1 →
      exec (.mapperDispatch) s = .next (t1)) ∧
  (∀ (s : State) (e : Nat) (x : Sent) (rest : List Sent),
      e ≤ 15 →
      (engine s e).state = 1 →
      (engine s e).c0 = none →
      (engine s e).sh = none →
      (engine s e).queue.any c0 = false →
      takeFirst (fun x => decide (c0 x = false)) (engine s e).queue = some (x, rest) →
      exec (.mapRunStart e false) s = .next (setCtx (setEngine s e { engine s e with queue := rest }) e false (some (newRun s x)))) ∧
  (∀ (s : State) (e : Nat) (x : Sent) (rest : List Sent),
      e ≤ 15 →
      (engine s e).state = 1 →
      (engine s e).c0 = none →
      (engine s e).sh = none →
      (engine s e).queue.any c0 = true →
      takeFirst (fun x => decide (c0 x = true)) (engine s e).queue = some (x, rest) →
      exec (.mapRunStart e true) s = .next (setCtx (setEngine s e { engine s e with queue := rest }) e true (some (newRun s x)))) ∧
  (∀ (s : State) (e t0 : Nat) (r : Run),
      e ≤ 15 →
      (engine s e).state = 1 →
      (engine s e).c0 = none →
      (engine s e).sh = some r →
      r.ended = none →
      r.waiting = none →
      r.since = some t0 →
      (engine s e).queue.any c0 = true →
      exec (.class0Preempt e) s = .next (startRun (setCtx s e false (some { r with metered := r.metered + since s t0, since := none })) e true)) ∧
  (∀ (s : State) (e w : Nat) (first : Bool) (r : Run),
      AtOp s e first r w 0x01 →
      exec (.opEnd e) s = .next (finishRun s e first r true)) ∧
  (∀ (s : State) (e w : Nat) (first : Bool) (r : Run),
      AtOp s e first r w 0x02 →
      exec (.opDrop e) s = .next (finishRun s e first r false)) ∧
  (∀ (s : State) (e w : Nat) (first : Bool) (r : Run),
      AtOp s e first r w 0x03 →
      exec (.opSkip e) s = .next (setCtx s e first (some { r with pc := (if skips r w then r.pc + nbits w 7 0 else r.pc) + 1 }))) ∧
  (∀ (s : State) (e : Nat) (r : Run),
      ctx s e true = some r →
      r.ended = none →
      r.since.isSome = true →
      meteredTime s r > r.tMax →
      exec (.mapOvertime e) s = .next (abortRun s e true r 8)) ∧
  (∀ (s : State) (e : Nat) (r : Run),
      ctx s e true = none →
      ctx s e false = some r →
      r.ended = none →
      r.since.isSome = true →
      meteredTime s r > r.tMax →
      exec (.mapOvertime e) s = .next (abortRun s e false r 8)) ∧
  (∀ (s : State) (e : Nat) (first : Bool) (g : RunEnd) (q : List Sent),
      (ctx s e first).bind (·.ended) = some g →
      intakeGroup (g.group.any c0) s.com.intake g.group = some q →
      exec (.commitGroupHandover e first) s = .next (resumeShared (setCtx { s with com := { s.com with intake := q } } e first none) e)) ∧
  (∀ (s : State) (e id : Nat) (r : Run) (p : Snap),
      ctx s e false = some r →
      r.waiting = some id →
      (r.snaps.map (fun p => if p.stream ≠ id then p else { p with deep := some (if tget s.map.commits id ≥ p.commits + 2 then [] else if p.lvHalf then (strm s id).ovf1 else (strm s id).ovf0) })).find? (fun p => decide (p.stream = id)) = some p →
      exec (.ldvDramReadComplete e) s = .next (let r2 := { r with waiting := none, snaps := r.snaps.map (fun p => if p.stream ≠ id then p else { p with deep := some (if tget s.map.commits id ≥ p.commits + 2 then [] else if p.lvHalf then (strm s id).ovf1 else (strm s id).ovf0) }) }
        resumeShared (applyOp (setCtx s e false (some r2)) e false r2 (ldvField s r2 (microOp s r.input.tag r.prog r.pc) p)) e)) ∧
  (∀ (s : State) (x : Sent) (rest : List Sent) (t : Nat),
      s.map.holds = x :: rest →
      ndPolicy s x.node = 2 →
      (nodeRt s x.node).fCredit < fabCharge s x →
      x.held = some t →
      ndGap s x.node * usUnits ≤ since s t →
      exec (.holdLimitExpiry none) s = .next (dispatchDrop { s with map := { s.map with holds := rest } } x)) ∧
  (∀ (s : State) (q : Nat) (c : Copy) (rest : List Copy) (t : Nat),
      (eg s q).waiting = c :: rest →
      ndPolicy s (copyLeaf s c) = 2 →
      (nodeRt s (copyLeaf s c)).eCredit < copyBytes s q c →
      c.held = some t →
      ndGap s (copyLeaf s c) * usUnits ≤ since s t →
      exec (.holdLimitExpiry (some q)) s = .next (budgetDrop (setEg s q { eg s q with waiting := rest }) c (copyLeaf s c)))

/-- Engines, programs, cyclic slots and mapper counters. Derived from 05_signal_mapping.md, 15_configuration_and_start.md. -/
def Obligations.MapperService : Prop :=
  (∀ (s : State) (r : Req) (e : Nat),
      Allowed s r Reg.MAP_ENGINE_CMD →
      e ≤ 15 →
      engServes s e = true →
      1 < enginesServing s →
      exec (.mapEngineTakeOut r e) s = .next (setEngine s e { engine s e with emptying := true })) ∧
  (∀ (s : State) (r : Req) (e : Nat),
      Allowed s r Reg.MAP_ENGINE_CMD →
      e ≤ 15 →
      (engine s e).state = 1 →
      (engine s e).emptying = true →
      exec (.mapEngineReturn r e) s = .next (setEngine s e { engine s e with emptying := false })) ∧
  (∀ (s : State) (r : Req) (e : Nat),
      Allowed s r Reg.MAP_ENGINE_CMD →
      e ≤ 15 →
      (engine s e).state = 2 →
      exec (.mapEngineReturn r e) s = .next (setEngine s e { engine s e with testing := true })) ∧
  (∀ (s : State) (e : Nat),
      (engine s e).emptying = true →
      (engine s e).queue = [] →
      (engine s e).c0 = none →
      (engine s e).sh = none →
      exec (.mapEngineEmptied e) s = .next (setEngine s e { engine s e with state := 2, emptying := false, testing := false })) ∧
  (∀ (s : State) (r : Req) (p : Nat),
      Allowed s r Reg.MAP_PROG_CMD →
      p ≠ 0 →
      p ≤ 4095 →
      progLen s s.tag p ≠ 0 →
      r ≠ .steward →
      (prog s p).state ≠ 3 →
      exec (.progEnable r p) s = .next (setProg s p { prog s p with state := 1 })) ∧
  (∀ (s : State) (r : Req) (p : Nat),
      Allowed s r Reg.MAP_PROG_CMD →
      p ≠ 0 →
      p ≤ 4095 →
      progLen s s.tag p ≠ 0 →
      r ≠ .steward →
      (prog s p).state = 3 →
      exec (.progEnable r p) s = .next (setProg s p { prog s p with state := 1, consecutive := 0 })) ∧
  (∀ (s : State) (r : Req) (p : Nat),
      Allowed s r Reg.MAP_PROG_CMD →
      p ≠ 0 →
      p ≤ 4095 →
      progLen s s.tag p ≠ 0 →
      r ≠ .steward →
      (prog s p).state = 1 →
      exec (.progDisable r p) s = .next (setProg s p (if progBusy s p then { prog s p with state := 2, drainAt := drainEnd s } else { prog s p with state := 0 }))) ∧
  (∀ (s : State) (r : Req) (p : Nat),
      Allowed s r Reg.MAP_PROG_CMD →
      p ≠ 0 →
      p ≤ 4095 →
      progLen s s.tag p ≠ 0 →
      r ≠ .steward →
      exec (.progClearCounters r p) s = .next (setProg s p { prog s p with runs := 0, aborts := 0, drain := 0 })) ∧
  (∀ (s : State) (p : Nat),
      (prog s p).state = 2 →
      progBusy s p = false →
      exec (.progDrainComplete p) s = .next (setProg s p { prog s p with state := 0 })) ∧
  (∀ (s : State) (p : Nat),
      (prog s p).state = 2 →
      (prog s p).drainAt ≤ s.tim.boundaries →
      exec (.progDrainLimit p) s = .next (let s1 := (List.range 16).foldl (dropQueued p) s
        let lost := s1.map.cycWait.filter (fun x => decide (x.prog = p))
        let s2 := lost.foldl sentFree { s1 with map := { s1.map with cycWait := s1.map.cycWait.filter (fun x => !decide (x.prog = p)) } }
        setProg s2 p { prog s2 p with state := 0, drain := satAdd 0xFFFFFFFF (prog s2 p).drain lost.length })) ∧
  (∀ (s : State) (r : Req) (i : Nat),
      Allowed s r Reg.MAP_CYC_CMD →
      i ≤ 255 →
      r ≠ .steward →
      exec (.cycEnable r i) s = .next ({ s with map := { s.map with cyc := tmod s.map.cyc i (fun c => { c with enabled := true }) } })) ∧
  (∀ (s : State) (r : Req) (i : Nat),
      Allowed s r Reg.MAP_CYC_CMD →
      i ≤ 255 →
      r ≠ .steward →
      exec (.cycDisable r i) s = .next ({ s with map := { s.map with cyc := tmod s.map.cyc i (fun c => { c with enabled := false }) } })) ∧
  (∀ (s : State) (r : Req) (i : Nat),
      Allowed s r Reg.MAP_CYC_CMD →
      i ≤ 255 →
      r ≠ .steward →
      exec (.cycClearOverlap r i) s = .next ({ s with map := { s.map with cyc := tmod s.map.cyc i (fun c => { c with overlap := 0 }) } })) ∧
  (∀ (s : State) (r : Req),
      Allowed s r Reg.MAP_CNT_CLEAR →
      exec (.mapCntClearGlobal r) s = .next (clearRegs s Reg.MAP_CNT_SATURATE Reg.MAP_CNT_CYC_SKIP)) ∧
  (∀ (s : State) (r : Req),
      Allowed s r Reg.MAP_CNT_CLEAR →
      exec (.mapCntClearPrograms r) s = .next ({ s with map := { s.map with progs := tmap (fun _ x => { x with runs := 0, aborts := 0, drain := 0 }) s.map.progs } }))

/-- Commit, replication, scheduling and transmission. Derived from 01_fabric_and_flow.md, 07_egress_and_journal.md. -/
def Obligations.CommitAndEgress : Prop :=
  (∀ (s : State) (x : Sent) (q : List Sent),
      shadowing s = false →
      nextCommit s = some (x, q) →
      exec (.commit) s = .next (let s1 := { s with com := { s.com with intake := q, openGroup := if decide (x.group ≠ 0) && q.any (fun y => decide (y.group = x.group)) then some x.group else none } }
        let s2 := commitAs s1 x (s.com.gen * 2 ^ 56 + s.com.count + 1)
        voterFlush (if s2.com.count ≥ maxCount then startGeneration s2 (genAfter s2.com.gen) else s2))) ∧
  (∀ (s : State) (e : LogEnt) (rest : List LogEnt) (x : Sent) (q : List Sent),
      shadowing s = true →
      s.red.logIn = e :: rest →
      takeFirst (fun x => decide (x.mirror = e.mirror ∧ x.outNo.getD 0xFF = e.outNo)) s.com.intake = some (x, q) →
      e.index / 2 ^ 56 = s.com.gen →
      exec (.commit) s = .next (commitAs { s with red := { s.red with logIn := rest }, com := { s.com with intake := q } } x e.index)) ∧
  (∀ (s : State) (x : Sent) (rest : List Sent),
      s.egr.replicate = x :: rest →
      exec (.replicate) s = .next (let s1 := { s with egr := { s.egr with replicate := rest } }
        let s2 := (dsPorts s1 x.dset).foldl (bitmapCopy (cf s1 6 (8 * x.dset + 5) 10 0) x) s1
        blkDrop ((dsList s2 x.dset).foldl (fun s l => listenerCopy s x l) s2) x.blk)) ∧
  (∀ (s : State) (q : Nat),
      q ≤ 104 →
      takeCopy (eg s q) (fun c => decide (c.deferred ≠ 0 ∧ c.deferred ≤ s.tim.boundaries)) = none →
      ((tryZero s q).orElse (fun _ => tryClasses s q [1, 2, 3, 4, 5, 6, 7])).isSome = true →
      Gives (.egressSchedule q) s (fun t => (tryZero s q).orElse (fun _ => tryClasses s q [1, 2, 3, 4, 5, 6, 7]) = some t)) ∧
  (∀ (s : State) (q : Nat) (c : Copy) (rest : List Copy),
      q ≤ 104 →
      mayStart s q = true →
      (eg s q).cur = none →
      takeFirst (fun c => decide (copyCls c = 0)) (eg s q).queue = some (c, rest) →
      exec (.copyStart q) s = .next (startCopy (setEg s q { eg s q with queue := rest }) q c)) ∧
  (∀ (s : State) (q : Nat) (c : Copy),
      (eg s q).cur = some c →
      c.sealOp = none →
      exec (.copyTransmissionEnd q) s = .next (finishCopy (emit (setEg s q { eg s q with cur := (eg s q).preempted, preempted := none }) (.wire q c.dep c.wire true)) c)) ∧
  (∀ (s : State) (q id tag : Nat) (c : Copy) (o : VOp),
      (eg s q).cur = some c →
      c.sealOp = some (id, tag) →
      s.vault.ops.find? (fun o => decide (o.user = 7 ∧ o.ident = id)) = some o →
      (opComplete s 7 id).1 = true →
      c.twin = 0 →
      exec (.sealTagComplete q) s = .next (putTag (opComplete s 7 id).2 q id (overlay (c.body.getD []) tag (o.out.take 16)))) ∧
  (∀ (s : State) (q : Nat) (c : Copy),
      pkind q = .cf →
      (eg s q).cur = some c →
      exec (.canArbitrationLost q) s = .next (setEg s q { eg s q with cur := none, queue := c :: (eg s q).queue })) ∧
  (∀ (s : State) (q t : Nat) (c : Copy) (rest : List Copy),
      pkind q = .cf →
      (eg s q).queue = c :: rest →
      c.firstTry = some t →
      2 * periodUnits s ≤ since s t →
      exec (.canArbitrationTimeout q) s = .next (dropEgress (setEg s q { eg s q with queue := rest }) q c))

/-- Budget nodes, pace and their counters. Derived from 06_classes_and_budgets.md. -/
def Obligations.BudgetCommands : Prop :=
  (∀ (s : State) (r : Req) (n : Nat),
      Allowed s r Reg.BGT_NODE_CMD →
      n ≠ 0 →
      n ≤ 8191 →
      ndUsed s n = true →
      r ≠ .steward →
      exec (.nodeEnable r n) s = .next (setNode s n { nodeRt s n with state := 1 })) ∧
  (∀ (s : State) (r : Req) (n : Nat),
      Allowed s r Reg.BGT_NODE_CMD →
      n ≠ 0 →
      n ≤ 8191 →
      ndUsed s n = true →
      r ≠ .steward →
      (nodeRt s n).state = 1 →
      exec (.nodeDisable r n) s = .next (setNode s n { nodeRt s n with state := 2, drainAt := drainEnd s })) ∧
  (∀ (s : State) (r : Req) (n : Nat),
      Allowed s r Reg.BGT_NODE_CMD →
      n ≠ 0 →
      n ≤ 8191 →
      ndUsed s n = true →
      r ≠ .steward →
      exec (.nodeClearCounters r n) s = .next ((subtree s n).foldl (fun s k => setNode s k { nodeRt s k with refused := 0, dropped := 0, sentences := 0, drain := 0 }) s)) ∧
  (∀ (s : State) (r : Req) (n : Nat),
      Allowed s r Reg.BGT_NODE_CMD →
      n ≠ 0 →
      n ≤ 8191 →
      ndUsed s n = true →
      r ≠ .steward →
      exec (.nodeTakeOut r n) s = .next (loseHeld (clearCredits (setNode s n { nodeRt s n with out := true }) n) n)) ∧
  (∀ (s : State) (r : Req) (n : Nat),
      Allowed s r Reg.BGT_NODE_CMD →
      n ≠ 0 →
      n ≤ 8191 →
      ndUsed s n = true →
      r ≠ .steward →
      (nodeRt s n).out = true →
      exec (.nodeReturn r n) s = .next (let s1 := (subtree s n).foldl (fun s k => setNode s k { nodeRt s k with state := ndF s k 0 17 16, fCredit := 0, eCredit := 0, fAdapt := default, eAdapt := default, settled := false, paceMax := 0 }) s
        setNode s1 n { nodeRt s1 n with out := false })) ∧
  (∀ (s : State) (n : Nat),
      (nodeRt s n).state = 2 →
      (nodeRt s n).drainAt ≤ s.tim.boundaries →
      exec (.nodeDrainLimit n) s = .next (clearCredits (setNode (loseHeld s n) n { nodeRt (loseHeld s n) n with state := 0 }) n)) ∧
  (∀ (s : State) (laps : List (Nat × Nat × Nat)),
      exec (.paceUpdate laps) s = .next (let s1 := [0, 1, 2, 3].foldl (setPace laps) s
        let s2 := { s1 with bgt := { s1.bgt with nodes := tmap (fun _ nd => if nd.fAdapt.lowSince.isSome then { nd with paceMax := max nd.paceMax (tget s1.bgt.pace 2) } else nd) s1.bgt.nodes, paceLowSeen := s1.bgt.paceLowSeen || decide (lowestPace s1 < paceFloor s1), belowBand := s1.bgt.belowBand || decide (lowestPace s1 < paceFloor s1 + 32), inBand := s1.bgt.inBand || decide (lowestPace s1 ≤ paceFloor s1 + 96) } }
        if lowestPace s1 < paceFloor s1 ∧ s2.bgt.paceLow = false then report { s2 with bgt := { s2.bgt with paceLow := true } } Ev.DEV_PACE_LOW noInst 0 else s2)) ∧
  (∀ (s : State) (r : Req),
      Allowed s r Reg.BGT_CNT_CLEAR →
      exec (.bgtCntClearGlobal r) s = .next (clearRegs s Reg.BGT_CNT_REFUSED_BUF Reg.BGT_CNT_HOLD_FULL)) ∧
  (∀ (s : State) (r : Req),
      Allowed s r Reg.BGT_CNT_CLEAR →
      exec (.bgtCntClearNodes r) s = .next ((tkeys s.bgt.nodes).foldl (fun s k => setNode s k { nodeRt s k with refused := 0, dropped := 0, sentences := 0, drain := 0 }) s)) ∧
  (∀ (s : State) (r : Req),
      Allowed s r Reg.BGT_CNT_CLEAR →
      exec (.bgtCntClearPace r) s = .next ({ s with bgt := { s.bgt with paceMin := [] } }))

/-- The journal: records, blocks, scan, export, service, counters. Derived from 07_egress_and_journal.md. -/
def Obligations.JournalCommands : Prop :=
  (∀ (s : State) (x : Sent) (rest : List JItem),
      s.jrn.scanning = false →
      s.jrn.state ≠ 0 →
      s.dev = .active →
      s.jrn.queue = .data x :: rest →
      exec (.journalRecord) s = .next (lossMark (blkDrop (recordData { s with jrn := { s.jrn with queue := rest } } x) x.blk))) ∧
  (∀ (s : State) (code a b stamp : Nat) (rest : List JItem),
      s.jrn.scanning = false →
      s.jrn.state ≠ 0 →
      s.dev = .active →
      s.jrn.queue = .mark code a b stamp :: rest →
      exec (.journalRecord) s = .next (let s1 := { s with jrn := { s.jrn with queue := rest } }
        lossMark (appendRecord (newGeneration s1 s1.com.gen) s1.com.gen (markDesc code (if code = 1 then now s1 else stamp) a b)))) ∧
  (∀ (s : State),
      s.jrn.recCount ≠ 0 →
      closeTime s ≤ since s s.jrn.openSince →
      exec (.journalCloseTimeout) s = .next (closeBlock s true)) ∧
  (∀ (s : State) (found : List Nat),
      s.jrn.scanning = true →
      s.jrn.area.filterMap (fun e => e.2.bind (fun b => if decide (e.1 < jrnPlaces s) && blockGood b then some b.number else none)) = found →
      exec (.journalScanDone) s = .next (lossMark { s with jrn := { s.jrn with scanning := false, chainStart := true, number := if found = [] then 0 else found.foldl max 0 + 1, newest := if found = [] then none else some (found.foldl max 0), oldest := found.foldl min (found.foldl max 0) } })) ∧
  (∀ (s : State) (r : Req) (value : Word) (k : JBlock),
      Allowed s r Reg.JRN_EXPORT_CMD →
      bit value 2 = true →
      bits value 1 0 ≠ 3 →
      s.jrn.expData = [] →
      heldBlock s (addr64 s Reg.JRN_EXPORT_BLOCK_LO Reg.JRN_EXPORT_BLOCK_HI) = some k →
      exec (.journalExport r value) s = .next ({ s with jrn := { s.jrn with expState := 1, expNumber := addr64 s Reg.JRN_EXPORT_BLOCK_LO Reg.JRN_EXPORT_BLOCK_HI, expLane := bits value 1 0, expAddr := addr64 s Reg.JRN_EXPORT_ADDR_LO Reg.JRN_EXPORT_ADDR_HI / 4096 * 4096, expData := k.bytes } })) ∧
  (∀ (s : State),
      s.jrn.expData ≠ [] →
      exec (.journalExportDone) s = .next (raise (emit { s with jrn := { s.jrn with expState := if (heldBlock s s.jrn.expNumber).isSome then 2 else 4, expData := [] } } (.lane s.jrn.expLane s.jrn.expAddr s.jrn.expData)) s.jrn.expLane false 9)) ∧
  (∀ (s : State) (r : Req),
      Allowed s r Reg.JRN_CTRL →
      mayWrite r Reg.JRN_CTRL 0 = true →
      exec (.journalEnable r) s = .next (let s1 := setFld s Reg.JRN_CTRL 0 0 1
        { s1 with jrn := { s1.jrn with state := 1 } })) ∧
  (∀ (s : State) (r : Req),
      Allowed s r Reg.JRN_CTRL →
      mayWrite r Reg.JRN_CTRL 0 = true →
      s.jrn.state = 1 →
      exec (.journalDisable r) s = .next (let s1 := setFld s Reg.JRN_CTRL 0 0 0
        { s1 with jrn := { s1.jrn with state := 2, drainAt := drainEnd s1 } })) ∧
  (∀ (s : State),
      s.jrn.state = 2 →
      s.jrn.queue = [] →
      exec (.journalDrainComplete) s = .next ({ s with jrn := { s.jrn with state := 0 } })) ∧
  (∀ (s : State),
      s.jrn.state = 2 →
      s.jrn.drainAt ≤ s.tim.boundaries →
      exec (.journalDrainLimit) s = .next (let s1 := (jnData s.jrn.queue).foldl (fun s x => blkDrop s x.blk) { s with jrn := { s.jrn with state := 0, queue := [] } }
        let n := (jnData s.jrn.queue).length
        if n = 0 then s1 else report (cntAdd (cntAdd s1 Reg.EGR_CNT_DRAIN n) Reg.JRN_CNT_LOST n) Ev.EGR_DRAIN_LOSS noInst 0)) ∧
  (∀ (s : State) (r : Req),
      Allowed s r Reg.JRN_CNT_CLEAR →
      exec (.jrnCntClearCounters r) s = .next (clearRegs s Reg.JRN_CNT_RECORDS Reg.JRN_CNT_SEAL_FAIL)) ∧
  (∀ (s : State) (r : Req),
      Allowed s r Reg.JRN_CNT_CLEAR →
      reqGuard r = true →
      exec (.journalRestart r) s = .next ({ s with jrn := { s.jrn with full := false, written := 0 } }))

/-- A period boundary runs its work in the order the spec lists. Derived from 01_fabric_and_flow.md, 10_time_unit.md. -/
def Obligations.PeriodBoundary : Prop :=
  (∀ (s : State) (q bound : Nat),
      boundaryDue s = some (q, bound) →
      exec (.periodBoundary) s = .next (let s1 := pathBoundary s.tim.q (countBoundary s q bound)
        let s2 := (List.range 64).foldl (periodTrigger s.tim.q) s1
        let s3 := heartbeat (clearAllApply (snapshotFreeze s2))
        leaveRelinquishing (shadowSeal (mirrorPeriod (checkpoint (digestOut s.tim.q s3))))))

/-- Delivery to a lane: copies, fences and marks, gaps, the ring tail, enabling, draining, links. Derived from 08_lanes_and_voting.md. -/
def Obligations.LaneDelivery : Prop :=
  (∀ (s : State) (k : Nat) (x : Sent) (rest : List LaneItem),
      (lane s k).list = .data x :: rest →
      (lane s k).state ≠ 0 →
      (lane s k).link = true →
      (lane s k).gap = none →
      s.dev = .active →
      laneRoom s k (.data x) = true →
      exec (.laneCopyWrite k) s = .next (let s1 := setLane s k { lane s k with list := rest, wait := none }
        let at_ := dataPlace s1 k x.payload.length
        let addr := addr64 s1 (Reg.LNI_RX_DATA_LO k) (Reg.LNI_RX_DATA_HI k) + at_.1
        let s2 := emit s1 (.lane k addr x.payload)
        let s3 := setLane s2 k { lane s2 k with dataOff := (at_.1 + up64 x.payload.length) % dataBytes s2 k }
        let s4 := cnt (writeDesc s3 k (dataDesc x addr) at_.2) (Reg.LNI_CNT_DELIVERED k)
        laneWait (afterBatch (blkDrop s4 x.blk) k false) k)) ∧
  (∀ (s : State) (k stamp index n c : Nat) (rest : List LaneItem),
      (lane s k).list = .fence stamp index n c :: rest →
      (lane s k).state ≠ 0 →
      (lane s k).link = true →
      (lane s k).gap = none →
      s.dev = .active →
      laneRoom s k (.fence stamp index n c) = true →
      exec (.laneCopyWrite k) s = .next (let s1 := writeDesc (setLane s k { lane s k with list := rest, wait := none }) k (fenceDesc stamp index n c) 0
        let s2 := setLane s1 k { lane s1 k with lastFence := c, fenceSinceGap := true }
        laneWait (raise (afterBatch s2 k true) k false 1) k)) ∧
  (∀ (s : State) (k code stamp a b : Nat) (rest : List LaneItem),
      (lane s k).list = .mark code stamp a b :: rest →
      (lane s k).state ≠ 0 →
      (lane s k).link = true →
      (lane s k).gap = none →
      s.dev = .active →
      laneRoom s k (.mark code stamp a b) = true →
      exec (.laneCopyWrite k) s = .next (laneWait (afterBatch (writeDesc (setLane s k { lane s k with list := rest, wait := none }) k (markDesc code stamp a b) 0) k false) k)) ∧
  (∀ (s : State) (k t : Nat) (it : LaneItem) (rest : List LaneItem),
      (lane s k).list = it :: rest →
      (lane s k).wait = some t →
      (lane s k).state = 1 →
      laneRoom s k it = false →
      holdUs s * usUnits ≤ since s t →
      exec (.laneHoldExpiry k) s = .next (gapBegin s k)) ∧
  (∀ (s : State) (k : Nat) (g : Gap),
      (lane s k).gap = some g →
      s.dev = .active →
      (lane s k).state ≠ 0 →
      (lane s k).link = true →
      quarterFree s k = true →
      exec (.gapWrite k) s = .next (writeGap s k g)) ∧
  (∀ (s : State) (r : Req) (k : Nat) (value : Word),
      Allowed s r (Reg.LNI_RX_TAIL k) →
      (value.toNat + 2 ^ 32 - (lane s k).tail) % 2 ^ 32 ≤ (lane s k).used.length →
      exec (.rxTailWrite r k value) s = .next (laneWait (setLane (wr s (Reg.LNI_RX_TAIL k) value) k { lane s k with tail := value.toNat, used := (lane s k).used.drop ((value.toNat + 2 ^ 32 - (lane s k).tail) % 2 ^ 32) }) k)) ∧
  (∀ (s : State) (r : Req) (k : Nat) (value : Word),
      Allowed s r (Reg.LNI_RX_TAIL k) →
      (lane s k).used.length < (value.toNat + 2 ^ 32 - (lane s k).tail) % 2 ^ 32 →
      exec (.rxTailWrite r k value) s = .next (cnt s (Reg.LNI_CNT_TAIL_BAD k))) ∧
  (∀ (s : State) (r : Req) (k : Nat),
      Allowed s r (Reg.LNI_CTRL k) →
      mayWrite r (Reg.LNI_CTRL k) 0 = true →
      (lane s k).link = true →
      (lane s k).state ≠ 1 →
      (lane s k).state ≠ 2 →
      ringEntries s k ≠ 0 →
      dataBytes s k ≠ 0 →
      (lane s k).gap = none →
      (lane s k).missed = none →
      exec (.laneDeliveryEnable r k) s = .next (setLane (wr (setFld s (Reg.LNI_CTRL k) 0 0 1) (Reg.LNI_RX_TAIL k) 0#32) k { lane s k with state := 1, head := 0, tail := 0, dataOff := 0, used := [], wait := none, gap := none, missed := none })) ∧
  (∀ (s : State) (r : Req) (k : Nat),
      Allowed s r (Reg.LNI_CTRL k) →
      mayWrite r (Reg.LNI_CTRL k) 0 = true →
      (lane s k).state = 1 →
      exec (.laneDeliveryDisable r k) s = .next (let s1 := setFld s (Reg.LNI_CTRL k) 0 0 0
        laneLeaves (setLane s1 k { lane s k with state := 2, drainAt := drainEnd s1 }) k)) ∧
  (∀ (s : State) (k : Nat),
      (lane s k).state = 2 →
      (lane s k).list = [] →
      exec (.laneDrainComplete k) s = .next (setLane s k { lane s k with state := 0, wait := none })) ∧
  (∀ (s : State) (k : Nat),
      (lane s k).state = 2 →
      (lane s k).drainAt ≤ s.tim.boundaries →
      exec (.laneDrainLimit k) s = .next (let m := (lane s k).list.foldl gapAdd ((lane s k).missed.getD (gapNone (now s)))
        let s1 := (lane s k).list.foldl (fun s it => laneLose s k true it) s
        setLane s1 k { lane s1 k with state := 0, list := [], wait := none, missed := some m })) ∧
  (∀ (s : State) (k : Nat),
      (lane s k).link = true →
      exec (.laneLinkDown k) s = .next (let s1 := report (setLane s k { lane s k with link := false, linkReported := true }) Ev.LNI_LINK_DOWN k 0
        let s2 := if (lane s k).state ≠ 0 ∧ (lane s k).gap = none then gapBegin s1 k else laneLeaves s1 k
        setFld (setLane s2 k { lane s2 k with state := 0, tx0 := false, tx1 := false }) (Reg.LNI_CTRL k) 2 0 0)) ∧
  (∀ (s : State) (k : Nat),
      k < 3 →
      exec (.laneLinkUp k) s = .next (setLane s k { lane s k with link := true, linkReported := false }))

/-- Transmit rings and lane counters. Derived from 08_lanes_and_voting.md. -/
def Obligations.LaneTransmission : Prop :=
  (∀ (s : State) (r : Req) (k : Nat) (on : Bool),
      Allowed s r (Reg.LNI_CTRL k) →
      mayWrite r (Reg.LNI_CTRL k) 1 = true →
      on = false ∨ (lane s k).link = true →
      exec (.tx0EnableWrite r k on) s = .next (setLane (setFld s (Reg.LNI_CTRL k) 1 1 (b2n on)) k { lane s k with tx0 := on })) ∧
  (∀ (s : State) (r : Req) (k : Nat) (on : Bool),
      Allowed s r (Reg.LNI_CTRL k) →
      mayWrite r (Reg.LNI_CTRL k) 2 = true →
      on = false ∨ (lane s k).link = true →
      exec (.tx1EnableWrite r k on) s = .next (setLane (setFld s (Reg.LNI_CTRL k) 2 2 (b2n on)) k { lane s k with tx1 := on })) ∧
  (∀ (s : State) (r : Req) (k : Nat) (ring1 : Bool) (value : Word),
      Allowed s r (txTailReg k ring1) →
      (value.toNat + 2 ^ 32 - txHead s k ring1) % 2 ^ 32 ≤ txEntries s k ring1 →
      exec (.txTailWrite r k ring1 value) s = .next (wr s (txTailReg k ring1) value)) ∧
  (∀ (s : State) (k : Nat) (ring1 : Bool) (desc payload : Bytes),
      isStandby s = false →
      (if ring1 then (lane s k).tx1 else (lane s k).tx0) = true →
      (lane s k).link = true →
      (rd s (txTailReg k ring1)).toNat ≠ txHead s k ring1 →
      exec (.txFetchComplete k ring1 desc payload) s = .next (let h := (txHead s k ring1 + 1) % 2 ^ 32
        let s1 := cnt (setLane s k (if ring1 then { lane s k with tx1Head := h } else { lane s k with tx0Head := h })) (Reg.LNI_CNT_FETCHED k)
        let vec := if ring1 then 0 else 3
        let s2 := if txMod s1 k = 0 ∨ (tget s1.moder (vecKey k ring1 vec)).running = false then writeWb s1 k else setLane s1 k { lane s1 k with wbDue := true }
        let s3 := raiseMod s2 k ring1 vec (txMod s2 k)
        let m := mirrorRec s3 (.lane k ring1 (leAt desc 0 8) (leAt desc 8 2 % 4096) (leAt desc 10 2) payload (now s3))
        judgeCopy m.2 k ring1 (leAt desc 0 8) (leAt desc 8 2 % 4096) (leAt desc 10 2) payload m.1 (now m.2))) ∧
  (∀ (s : State) (r : Req) (value : Word),
      Allowed s r Reg.LNI_CNT_CLEAR →
      exec (.lniCntClear r value) s = .next ([0, 1, 2].foldl (fun s k => if bit value k then clearRegs s (Reg.LNI_CNT_DELIVERED k) (Reg.LNI_CNT_TAIL_BAD k) else s) s))

/-- The voter: windows, lanes out and back, voter streams, counters. Derived from 08_lanes_and_voting.md. -/
def Obligations.VoterCommands : Prop :=
  (∀ (s : State) (v cycle index : Nat) (w : Window),
      s.vot.windows.find? (fun w => decide (w.vs = v ∧ w.cycle = cycle ∧ w.index = index)) = some w →
      vsF s v 1 15 0 * usUnits ≤ since s w.opened →
      exec (.windowTimeout v cycle index) s = .next (settleVote (closeWindow s w false))) ∧
  (∀ (s : State) (r : Req) (k : Nat),
      Allowed s r Reg.VOT_LANE_CMD →
      k ≤ 2 →
      reqLane r = k →
      exec (.laneOutCmd r k) s = .next (settleVote (setVote s k .out))) ∧
  (∀ (s : State) (r : Req) (k : Nat),
      Allowed s r Reg.VOT_LANE_CMD →
      k ≤ 2 →
      reqLane r ≠ k →
      (lane s k).outAsk.filter (fun a => decide (a.2 = fenceCycle s ∧ a.1 ≠ reqLane r)) = [] →
      exec (.laneOutCmd r k) s = .next (setLane s k { lane s k with outAsk := [(reqLane r, fenceCycle s)] })) ∧
  (∀ (s : State) (r : Req) (k : Nat),
      Allowed s r Reg.VOT_LANE_CMD →
      k ≤ 2 →
      reqLane r ≠ k →
      (lane s k).outAsk.filter (fun a => decide (a.2 = fenceCycle s ∧ a.1 ≠ reqLane r)) ≠ [] →
      exec (.laneOutCmd r k) s = .next (let s1 := setLane s k { lane s k with outAsk := (reqLane r, fenceCycle s) :: (lane s k).outAsk.filter (fun a => decide (a.2 = fenceCycle s ∧ a.1 ≠ reqLane r)) }
        settleVote (setVote (setLane s1 k { lane s1 k with outAsk := [] }) k .out))) ∧
  (∀ (s : State) (r : Req) (k : Nat),
      Allowed s r Reg.VOT_LANE_CMD →
      k ≤ 2 →
      reqLane r = k →
      (lane s k).fenceSinceGap = true →
      (lane s k).vote = .out →
      exec (.laneReturnCmd r k) s = .next (settleVote (setVote s k (if votingCount s ≥ 2 then .returning else .member)))) ∧
  (∀ (s : State) (r : Req) (v : Nat),
      Allowed s r Reg.VOT_STREAM_CMD →
      r ≠ .steward →
      v < 4096 →
      exec (.voterStreamEnable r v) s = .next (modVs s v (fun x => { x with state := 1 }))) ∧
  (∀ (s : State) (r : Req) (v : Nat),
      Allowed s r Reg.VOT_STREAM_CMD →
      r ≠ .steward →
      (tget s.vot.streams v).state = 1 →
      exec (.voterStreamDisable r v) s = .next (modVs s v (fun x => { x with state := 2, drainAt := drainEnd s }))) ∧
  (∀ (s : State) (r : Req) (v : Nat),
      Allowed s r Reg.VOT_STREAM_CMD →
      r ≠ .steward →
      exec (.voterStreamClear r v) s = .next (modVs s v (fun x => { x with released := 0, nomaj := 0 }))) ∧
  (∀ (s : State) (v : Nat),
      (tget s.vot.streams v).state = 2 →
      (tget s.vot.streams v).drainAt ≤ s.tim.boundaries →
      exec (.voterStreamDrainLimit v) s = .next (modVs ((s.vot.windows.filter (fun w => decide (w.vs = v))).foldl (fun s w => closeWindow s w true) s) v (fun x => { x with state := 0 }))) ∧
  (∀ (s : State) (r : Req),
      Allowed s r Reg.VOT_CNT_CLEAR →
      exec (.votCntClearGlobal r) s = .next (clearRegs s Reg.VOT_CNT_RELEASED Reg.VOT_CNT_DRAIN)) ∧
  (∀ (s : State) (r : Req),
      Allowed s r Reg.VOT_CNT_CLEAR →
      exec (.votCntClearLanes r) s = .next (clearRegs s (Reg.VOT_CNT_MINORITY 0) (Reg.VOT_CNT_BAD 2))) ∧
  (∀ (s : State) (r : Req),
      Allowed s r Reg.VOT_CNT_CLEAR →
      exec (.votCntClearStreams r) s = .next ({ s with vot := { s.vot with streams := tmap (fun _ x => { x with released := 0, nomaj := 0 }) s.vot.streams } }))

/-- Device time: increment, step, slew, set, leap second, holdover. Derived from 10_time.md. -/
def Obligations.TimeControl : Prop :=
  (∀ (s : State) (r : Req) (value : Word),
      Allowed s r Reg.TIM_INC_LO →
      (fld s Reg.TIM_CTRL 0 0 = 1 ↔ r = .steward) →
      exec (.incStage r value) s = .next ({ s with tim := { s.tim with staged := value.toNat } })) ∧
  (∀ (s : State) (r : Req) (value : Word) (want dev : Nat),
      Allowed s r Reg.TIM_INC_HI →
      (fld s Reg.TIM_CTRL 0 0 = 1 ↔ r = .steward) →
      want = bits value 7 0 * 2 ^ 32 + s.tim.staged →
      dev = nominalInc * incBound s / 1000000 →
      nominalInc - dev ≤ want →
      want ≤ nominalInc + dev →
      exec (.incCommit r value) s = .next (wr (wr s Reg.TIM_INC_HI (BitVec.ofNat 32 (want / 2 ^ 32))) Reg.TIM_INC_LO (BitVec.ofNat 32 want))) ∧
  (∀ (s : State) (r : Req) (value : Word) (want dev : Nat),
      Allowed s r Reg.TIM_INC_HI →
      (fld s Reg.TIM_CTRL 0 0 = 1 ↔ r = .steward) →
      want = bits value 7 0 * 2 ^ 32 + s.tim.staged →
      dev = nominalInc * incBound s / 1000000 →
      want < nominalInc - dev ∨ nominalInc + dev < want →
      exec (.incCommit r value) s = .next (let inc := if want < nominalInc - dev then nominalInc - dev else nominalInc + dev
        report (cnt (wr (wr s Reg.TIM_INC_HI (BitVec.ofNat 32 (inc / 2 ^ 32))) Reg.TIM_INC_LO (BitVec.ofNat 32 inc)) Reg.TIM_CNT_INC_LIMIT) Ev.TIM_INC_LIMIT noInst 0)) ∧
  (∀ (s : State) (r : Req) (value : Word),
      Allowed s r Reg.TIM_INC_LO →
      (¬(fld s Reg.TIM_CTRL 0 0 = 1 ↔ r = .steward)) →
      exec (.incStage r value) s = .next (cnt s Reg.TIM_CNT_FOREIGN)) ∧
  (∀ (s : State) (r : Req),
      Allowed s r Reg.TIM_ADJ_CMD →
      (fld s Reg.TIM_CTRL 0 0 = 1 ↔ r = .steward) →
      exec (.timeStep r) s = .next (stepTime s (Int.ofNat s.tim.dt + timAdj s * 2 ^ 30).toNat (timAdj s))) ∧
  (∀ (s : State) (r : Req),
      Allowed s r Reg.TIM_ADJ_CMD →
      (fld s Reg.TIM_CTRL 0 0 = 1 ↔ r = .steward) →
      exec (.timeSlew r) s = .next ({ s with tim := { s.tim with slew := s.tim.slew + timAdj s * 2 ^ 30 } })) ∧
  (∀ (s : State) (r : Req),
      Allowed s r Reg.TIM_ADJ_CMD →
      (fld s Reg.TIM_CTRL 0 0 = 1 ↔ r = .steward) →
      exec (.timeSet r) s = .next (stepTime s (addr64 s Reg.TIM_SET_LO Reg.TIM_SET_HI * 2 ^ 30) (Int.ofNat (addr64 s Reg.TIM_SET_LO Reg.TIM_SET_HI) - Int.ofNat (now s)))) ∧
  (∀ (s : State),
      exec (.slewComplete) s = .next ({ s with tim := { s.tim with dt := (Int.ofNat s.tim.dt + s.tim.slew).toNat, slew := 0 } })) ∧
  (∀ (s : State) (r : Req) (value : Word),
      Allowed s r Reg.TIM_LEAP_CTRL →
      exec (.leapArm r value) s = .next (let tl := (rd s Reg.TIM_LEAP_AT).toNat
        setFld s Reg.TIM_LEAP_CTRL 1 0 (if bits value 1 0 = 0 ∨ bits value 1 0 = 3 ∨ ((Int.ofNat tl - leapOffset s (bits value 1 0)) % 86400 = 0 ∧ tl * secUnits ≥ now s + 2 * secUnits) then bits value 1 0 else 0))) ∧
  (∀ (s : State),
      leapKind s ≠ 0 →
      (rd s Reg.TIM_LEAP_AT).toNat * secUnits ≤ now s →
      exec (.leapApply) s = .next (setFld (setFld s Reg.TIM_UTC_OFFSET 15 0 (twos 16 (leapOffset s (leapKind s)))) Reg.TIM_LEAP_CTRL 1 0 0)) ∧
  (∀ (s : State),
      exec (.refclkReturned) s = .next ({ s with tim := { s.tim with refLost := false } })) ∧
  (∀ (s : State),
      s.tim.refLost = false →
      exec (.holdoverEnd) s = .next ({ s with tim := { s.tim with holdover := false, holdoverLong := false } })) ∧
  (∀ (s : State),
      s.tim.holdover = true →
      s.tim.holdoverLong = false →
      max 1 (fld s Reg.TIM_CTRL 31 26) * secUnits ≤ since s s.tim.holdSince →
      exec (.holdoverLong) s = .next (let s1 := { s with tim := { s.tim with holdoverLong := true } }
        if (s1.stw.state = 1 ∨ s1.stw.state = 2) ∧ cf s1 15 6 7 0 = 1 ∧ s1.dev = .active then relinquish s1 false else s1)) ∧
  (∀ (s : State) (r : Req),
      Allowed s r Reg.TIM_CNT_CLEAR →
      exec (.timCntClearGlobal r) s = .next (clearRegs (clearRegs s Reg.TIM_CNT_FOREIGN Reg.TIM_CNT_FOREIGN) Reg.TIM_CNT_STEP Reg.TIM_CNT_DEP_LOST)) ∧
  (∀ (s : State) (r : Req),
      Allowed s r Reg.TIM_CNT_CLEAR →
      exec (.timCntClearTriggers r) s = .next ({ s with tim := { s.tim with trig := tmap (fun _ x => { x with missed := 0, fired := 0 }) s.tim.trig } })) ∧
  (∀ (s : State) (r : Req),
      Allowed s r Reg.TIM_CNT_CLEAR →
      exec (.timCntClearCaptures r) s = .next ({ s with tim := { s.tim with capt := tmap (fun _ x => { x with lost := 0 }) s.tim.capt } }))

/-- Triggers, captures and the departure log. Derived from 10_time.md. -/
def Obligations.TriggersAndCaptures : Prop :=
  (∀ (s : State) (r : Req) (t : Nat),
      Allowed s r Reg.TIM_TRG_CMD →
      t ≤ 63 →
      r ≠ .steward →
      exec (.triggerArm r t) s = .next (armTrig s t)) ∧
  (∀ (s : State) (r : Req) (t : Nat),
      Allowed s r Reg.TIM_TRG_CMD →
      t ≤ 63 →
      r = .steward →
      firesClass0 s t = true →
      exec (.triggerArm r t) s = .next (report s Ev.CFG_SWAP_REJECT noInst 0)) ∧
  (∀ (s : State) (r : Req) (t : Nat),
      Allowed s r Reg.TIM_TRG_CMD →
      t ≤ 63 →
      r ≠ .steward →
      exec (.triggerDisarm r t) s = .next (setTrig s t { trig s t with armed := false, due := none })) ∧
  (∀ (s : State) (t d : Nat),
      (trig s t).due = some d →
      (trig s t).armed = true →
      d ≤ now s →
      trigPeriod s t = false →
      trigStep s t = 0 →
      exec (.triggerFire t) s = .next (let s1 := setTrig s t { trig s t with due := none, armed := false, fired := ((trig s t).fired + 1) % 2 ^ 32, pulseEnd := if bit (trigCfg s t) 1 then some (d + 40 * bits (trigCfg s t) 15 8) else (trig s t).pulseEnd }
        let s2 := if bit (trigCfg s t) 1 then emit s1 (.pin 0 (bits (trigCfg s t) 4 2) (!bit (trigCfg s t) 5)) else s1
        let s3 := if isStandby s2 then s2 else fireSlots s2 t d
        if bit (trigCfg s t) 6 then raiseAll s3 false 11 else s3)) ∧
  (∀ (s : State) (t d : Nat),
      (trig s t).due = some d →
      (trig s t).armed = true →
      d ≤ now s →
      trigPeriod s t = false →
      trigStep s t ≠ 0 →
      exec (.triggerFire t) s = .next (let n := (now s - d) / trigStep s t
        let at1 := if n = 0 then d else now s
        let s1 := missTrig (setTrig s t { trig s t with due := some (d + (n + 1) * trigStep s t), armed := true, fired := ((trig s t).fired + 1) % 2 ^ 32, pulseEnd := if bit (trigCfg s t) 1 then some (at1 + 40 * bits (trigCfg s t) 15 8) else (trig s t).pulseEnd }) t n
        let s2 := if bit (trigCfg s t) 1 then emit s1 (.pin 0 (bits (trigCfg s t) 4 2) (!bit (trigCfg s t) 5)) else s1
        let s3 := if isStandby s2 then s2 else fireSlots s2 t at1
        if bit (trigCfg s t) 6 then raiseAll s3 false 11 else s3)) ∧
  (∀ (s : State) (t e : Nat),
      (trig s t).pulseEnd = some e →
      e ≤ now s →
      exec (.triggerPulseEnd t) s = .next (emit (setTrig s t { trig s t with pulseEnd := none }) (.pin 0 (bits (trigCfg s t) 4 2) (bit (trigCfg s t) 5)))) ∧
  (∀ (s : State) (c : Nat) (level : Bool) (t : Nat),
      c ≤ 7 →
      ¬(if level then bits (rd s (Reg.TIM_CAP_CFG c)) 1 0 = 1 ∨ bits (rd s (Reg.TIM_CAP_CFG c)) 1 0 = 3 else bits (rd s (Reg.TIM_CAP_CFG c)) 1 0 = 2 ∨ bits (rd s (Reg.TIM_CAP_CFG c)) 1 0 = 3) →
      exec (.captureEdge c level t) s = .next ({ s with tim := { s.tim with capt := tset s.tim.capt c { tget s.tim.capt c with level := level } } })) ∧
  (∀ (s : State) (c : Nat) (level : Bool) (t p : Nat),
      c ≤ 7 →
      (if level then bits (rd s (Reg.TIM_CAP_CFG c)) 1 0 = 1 ∨ bits (rd s (Reg.TIM_CAP_CFG c)) 1 0 = 3 else bits (rd s (Reg.TIM_CAP_CFG c)) 1 0 = 2 ∨ bits (rd s (Reg.TIM_CAP_CFG c)) 1 0 = 3) →
      (tget s.tim.capt c).last = some p →
      t < p + 64 →
      exec (.captureEdge c level t) s = .next (loseEdge { s with tim := { s.tim with capt := tset s.tim.capt c { tget s.tim.capt c with level := level } } } c)) ∧
  (∀ (s : State) (c : Nat) (level : Bool) (t : Nat),
      c ≤ 7 →
      (if level then bits (rd s (Reg.TIM_CAP_CFG c)) 1 0 = 1 ∨ bits (rd s (Reg.TIM_CAP_CFG c)) 1 0 = 3 else bits (rd s (Reg.TIM_CAP_CFG c)) 1 0 = 2 ∨ bits (rd s (Reg.TIM_CAP_CFG c)) 1 0 = 3) →
      (tget s.tim.capt c).last = none →
      fld s Reg.TIM_CTRL 2 2 ≠ 1 →
      (tget s.tim.capt c).queue.length < 16 →
      exec (.captureEdge c level t) s = .next (let x := tget s.tim.capt c
        let s1 := { s with tim := { s.tim with capt := tset (tset s.tim.capt c { x with level := level }) c { x with level := level, last := some t, queue := x.queue ++ [(Int.ofNat t - 14 - sext 16 (bits (rd s (Reg.TIM_CAP_CFG c)) 31 16)).toNat] } } }
        if bit (rd s (Reg.TIM_CAP_CFG c)) 2 then raiseAll s1 false 12 else s1)) ∧
  (∀ (s : State) (r : Req) (c : Nat),
      c ≤ 7 →
      domainOn s 3 = true →
      exec (.captureRead r c) s = .next (let s1 := { s with tim := { s.tim with capt := tset s.tim.capt c { tget s.tim.capt c with queue := (tget s.tim.capt c).queue.tail } } }
        emit (latchHalf s1 r (Reg.TIM_CAP_HI c) ((tget s.tim.capt c).queue.headD 0 / 2 ^ 32)) (.readData r (Reg.TIM_CAP_LO c) (BitVec.ofNat 32 ((tget s.tim.capt c).queue.headD 0))))) ∧
  (∀ (s : State) (r : Req) (e : DepEntry) (rest : List DepEntry),
      domainOn s 3 = true →
      s.tim.depLog = e :: rest →
      exec (.departureLogRead r) s = .next (emit (latchHalf (latchHalf { s with tim := { s.tim with depLog := rest } } r Reg.TIM_DEP_LO e.stamp) r Reg.TIM_DEP_HI (e.stamp / 2 ^ 32)) (.readData r Reg.TIM_DEP_INFO (BitVec.ofNat 32 (e.sel % 4 + e.port * 4 + e.tag * 2 ^ 16))))) ∧
  (∀ (s : State) (r : Req),
      domainOn s 3 = true →
      s.tim.depLog = [] →
      exec (.departureLogRead r) s = .next (emit (latchHalf (latchHalf s r Reg.TIM_DEP_LO 0) r Reg.TIM_DEP_HI 0) (.readData r Reg.TIM_DEP_INFO 0#32)))

/-- The field bridge takes requests: direct accesses and commands. Derived from 09_field_bridge.md. -/
def Obligations.BridgeRequests : Prop :=
  (∀ (s : State) (lane : Nat) (guard : Bool) (w offset len tag c : Nat),
      brgReached s lane w = true →
      reqRefusal s guard w false = some c ∨ (reqRefusal s guard w false = none ∧ rangeOk s w offset len true = false ∧ c = 4) →
      exec (.bridgeDirectRead lane guard w offset len tag) s = .next (readFails (countStatus s c) lane guard tag w offset c)) ∧
  (∀ (s : State) (lane : Nat) (guard : Bool) (w offset len tag : Nat) (e : CacheEnt) (rest : List CacheEnt),
      brgReached s lane w = true →
      reqRefusal s guard w false = none →
      rangeOk s w offset len true = true →
      (winW s w 0).testBit 5 = true →
      cacheHit s w offset len = some (e, rest) →
      exec (.bridgeDirectRead lane guard w offset len tag) s = .next (emit (cnt { s with brg := { s.brg with cache := e :: rest } } Reg.BRG_CNT_CACHE_HIT) (.completion lane guard tag true (slice e.data (offset - e.offset) len)))) ∧
  (∀ (s : State) (lane : Nat) (guard : Bool) (w offset len tag : Nat),
      brgReached s lane w = true →
      reqRefusal s guard w false = none →
      rangeOk s w offset len true = true →
      (winW s w 0).testBit 5 = false →
      queued s lane guard false < 64 →
      exec (.bridgeDirectRead lane guard w offset len tag) s = .next (takeReq s { (default : BReq) with kind := .dread, window := w, lane := lane, guard := guard, ident := tag, offset := offset, length := len, want := len })) ∧
  (∀ (s : State) (lane : Nat) (guard : Bool) (w offset : Nat) (data : Bytes) (x : RingSet),
      brgReached s lane w = true →
      reqRefusal s guard w true = none →
      rangeOk s w offset data.length true = true →
      (winW s w 0).testBit 4 = true →
      queued s lane guard true < 256 →
      (win s w).fenced.contains lane = false →
      x = ring s (kwOf lane guard) →
      exec (.bridgeDirectWrite lane guard w offset data) s = .next (let s1 := setRing s (kwOf lane guard) { x with post := (x.post + 1) % 2 ^ 32 }
        takeReq s1 { (default : BReq) with kind := .posted, window := w, lane := lane, guard := guard, ident := (x.post + 1) % 2 ^ 32, offset := offset, length := data.length, want := data.length, data := data })) ∧
  (∀ (s : State) (lane : Nat) (guard : Bool) (w offset : Nat) (data : Bytes) (x : RingSet),
      brgReached s lane w = true →
      reqRefusal s guard w true = none →
      rangeOk s w offset data.length true = true →
      (winW s w 0).testBit 4 = true →
      queued s lane guard true < 256 →
      (win s w).fenced.contains lane = true →
      x = ring s (kwOf lane guard) →
      exec (.bridgeDirectWrite lane guard w offset data) s = .next (cnt (setRing s (kwOf lane guard) { x with post := (x.post + 1) % 2 ^ 32 }) Reg.BRG_CNT_FENCED)) ∧
  (∀ (s : State) (lane : Nat) (guard : Bool) (w tag offset len buffer : Nat),
      canFetch s lane guard = true →
      w ≤ 255 →
      exec (.brgCmdRead lane guard 1 w tag offset len buffer) s = .next (command (setRing s (kwOf lane guard) { ring s (kwOf lane guard) with head := ((ring s (kwOf lane guard)).head + 1) % 2 ^ 32 }) { (default : BReq) with kind := .cread, window := w, lane := lane, guard := guard, ident := tag, offset := offset, length := len, want := len, buffer := buffer } 1)) ∧
  (∀ (s : State) (lane : Nat) (guard : Bool) (w tag offset len : Nat) (data : Bytes),
      canFetch s lane guard = true →
      w ≤ 255 →
      data.length = len →
      exec (.brgCmdWrite lane guard w tag offset len data) s = .next (command (setRing s (kwOf lane guard) { ring s (kwOf lane guard) with head := ((ring s (kwOf lane guard)).head + 1) % 2 ^ 32 }) { (default : BReq) with kind := .cwrite, window := w, lane := lane, guard := guard, ident := tag, offset := offset, length := len, want := len, data := data } 2)) ∧
  (∀ (s : State) (r : Req) (kw : Nat) (value : Word),
      Allowed s r (Reg.BRG_CR_CTRL kw) →
      kw ≤ 5 →
      bit (rd s (Reg.BRG_CR_CTRL kw)) 0 = false →
      bit value 0 = true →
      exec (.brgRingEnable r kw value) s = .next (let s1 := dropRing (setFld (setFld s (Reg.BRG_CR_CTRL kw) 15 8 (bits value 15 8)) (Reg.BRG_CR_CTRL kw) 0 0 (bits value 0 0)) (kw / 2) (decide (kw % 2 = 1))
        wr (wr (setRing s1 kw { ring s1 kw with head := 0, cplHead := 0 }) (Reg.BRG_CR_TAIL kw) 0#32) (Reg.BRG_CPL_TAIL kw) 0#32)) ∧
  (∀ (s : State) (r : Req) (kw : Nat) (cpl : Bool) (value : Word),
      Allowed s r (if cpl then Reg.BRG_CPL_TAIL kw else Reg.BRG_CR_TAIL kw) →
      kw ≤ 5 →
      exec (.brgCompletionTailWrite r kw cpl value) s = .next (wr s (if cpl then Reg.BRG_CPL_TAIL kw else Reg.BRG_CR_TAIL kw) value))

/-- The field bridge at work: exchanges, answers, retries, cache. Derived from 09_field_bridge.md. -/
def Obligations.BridgeExchanges : Prop :=
  (∀ (s : State) (r : BReq),
      s.dev = .active →
      s.brg.talker = [] →
      (credit (port s 111).staging 32 4 false).isSome = true →
      firstIssue s true [] s.brg.reqs = some r ∨ (firstIssue s true [] s.brg.reqs = none ∧ firstIssue s false [] s.brg.reqs = some r) →
      exec (.exchangeIssue) s = .next (issue s r)) ∧
  (∀ (s : State) (gone : Bool) (x : Sent) (rest : List Sent),
      s.brg.intake = x :: rest →
      exec (.responseMatch gone) s = .next (let s1 := mirrorUpdate { s with brg := { s.brg with intake := rest } } x
        let s2 := (respWindows s1 x true).foldl mirrorReply s1
        (firstAnswer s2 x gone s2.brg.reqs).getD (if (List.range 64).any (fun m => decide ((mirrorRecOf { s with brg := { s.brg with intake := rest } } m).2 ≠ 0 ∧ (mirrorRecOf { s with brg := { s.brg with intake := rest } } m).1 = x.stream)) = true ∨ respWindows s1 x true ≠ [] ∨ ((respWindows s2 x false).any (fun w => decide (winKind s2 w = 2)) && !sdoResponse (sentArea s2 x)) = true then s2 else cnt s2 Reg.BRG_CNT_UNMATCHED))) ∧
  (∀ (s : State) (ex : Nat) (r : BReq),
      s.brg.reqs.find? (fun r => decide (r.ex = ex)) = some r →
      ex ≠ 0 →
      r.deadline ≤ now s →
      winKind s r.window ≠ 2 →
      writes r = false →
      r.retries > 0 →
      exec (.exchangeTimeout ex) s = .next (putReq s { r with ex := 0, retries := r.retries - 1 })) ∧
  (∀ (s : State) (ex : Nat) (r : BReq),
      s.brg.reqs.find? (fun r => decide (r.ex = ex)) = some r →
      ex ≠ 0 →
      r.deadline ≤ now s →
      winKind s r.window ≠ 2 →
      writes r = true ∨ r.retries = 0 →
      exec (.exchangeTimeout ex) s = .next (failReq s r 1 0)) ∧
  (∀ (s : State) (p : BReq),
      s.brg.reqs.find? (·.full) = some p →
      p.noKeep = true →
      exec (.prefetchComplete) s = .next (dropReq s p.uid)) ∧
  (∀ (s : State) (p : BReq),
      s.brg.reqs.find? (·.full) = some p →
      p.noKeep = false →
      exec (.prefetchComplete) s = .next (let s1 := dropReq s p.uid
        let s2 := { s1 with brg := { s1.brg with cache := List.take 256 (({ window := p.window, offset := p.offset, data := p.got, filled := now s1 } : CacheEnt) :: s1.brg.cache) } }
        (s2.brg.reqs.filter (fun r => decide (r.kind = .dread ∧ r.window = p.window) && unissued r && decide (p.offset ≤ r.offset ∧ r.offset + r.want ≤ p.offset + p.got.length))).foldl (fun s r => emit (dropReq s r.uid) (.completion r.lane r.guard r.ident true (slice p.got (r.offset - p.offset) r.want))) s2)) ∧
  (∀ (s : State) (r : Req) (k : Nat) (value : Word),
      Allowed s r (Reg.BRG_LATE_ACK k) →
      k ≤ 2 →
      exec (.lateLogRelease r k value) s = .next (let n := min (bits value 6 0) (tget s.brg.late k).length
        { s with brg := { s.brg with late := tset s.brg.late k ((tget s.brg.late k).drop n), latePlace := tmod s.brg.latePlace k (fun p => (p + n) % 64) } })) ∧
  (∀ (s : State) (r : Req) (k : Nat) (value : Word),
      Allowed s r (Reg.BRG_LATE_ACK k) →
      k ≤ 2 →
      bit value 16 = true →
      exec (.lateUnfence r k value) s = .next (setWin s (bits value 15 8) { win s (bits value 15 8) with fenced := (win s (bits value 15 8)).fenced.filter (fun j => !decide (j = k)) }))

/-- The bridge: semaphores, windows and counters. Derived from 09_field_bridge.md. -/
def Obligations.BridgeSemaphoresAndWindows : Prop :=
  (∀ (s : State) (lane : Nat) (guard : Bool) (n tag : Nat),
      canFetch s lane guard = true →
      exec (.brgCmdSemAcquire lane guard n tag) s = .next (let s1 := setRing s (kwOf lane guard) { ring s (kwOf lane guard) with head := ((ring s (kwOf lane guard)).head + 1) % 2 ^ 32 }
        semCommand s1 lane guard n tag 3 (fun s => acquire s lane guard n))) ∧
  (∀ (s : State) (lane : Nat) (guard : Bool) (n tag : Nat),
      canFetch s lane guard = true →
      exec (.brgCmdSemRelease lane guard n tag) s = .next (let s1 := setRing s (kwOf lane guard) { ring s (kwOf lane guard) with head := ((ring s (kwOf lane guard)).head + 1) % 2 ^ 32 }
        semCommand s1 lane guard n tag 4 (fun s => release s lane guard n))) ∧
  (∀ (s : State) (lane : Nat) (guard : Bool) (n : Nat),
      Allowed s (.fn lane guard) Reg.BRG_SEM_CMD →
      s.dev = .active →
      n ≤ 127 →
      (sem s n).owner = none ∨ (sem s n).owner = some (lane, guard) →
      exec (.semAcquireReg (.fn lane guard) n) s = .next (setSem s n { owner := some (lane, guard), expiry := now s + semLease s n * msUnits })) ∧
  (∀ (s : State) (lane : Nat) (guard : Bool) (n : Nat),
      Allowed s (.fn lane guard) Reg.BRG_SEM_CMD →
      (sem s n).owner ≠ none →
      (sem s n).owner ≠ some (lane, guard) →
      exec (.semAcquireReg (.fn lane guard) n) s = .next (s)) ∧
  (∀ (s : State) (lane : Nat) (guard : Bool) (n : Nat),
      Allowed s (.fn lane guard) Reg.BRG_SEM_CMD →
      s.dev = .active →
      n ≤ 127 →
      (sem s n).owner = some (lane, guard) →
      exec (.semReleaseReg (.fn lane guard) n) s = .next (setSem s n default)) ∧
  (∀ (s : State) (n lane : Nat) (guard : Bool),
      (sem s n).owner = some (lane, guard) →
      (sem s n).expiry ≤ now s →
      exec (.semLeaseExpiry n) s = .next (raise (report (setSem s n default) Ev.BRG_SEM_EXPIRED n 0) lane guard (if guard then 5 else 7))) ∧
  (∀ (s : State) (r : Req) (w : Nat),
      Allowed s r Reg.BRG_WIN_CMD →
      w < 256 →
      exec (.windowEnable r w) s = .next (setWin s w { win s w with state := 1 })) ∧
  (∀ (s : State) (r : Req) (w : Nat),
      Allowed s r Reg.BRG_WIN_CMD →
      w < 256 →
      (win s w).state = 1 →
      exec (.windowDisable r w) s = .next (setWin (invalidate s w 0 65536) w { win s w with state := 2, drainAt := drainEnd s })) ∧
  (∀ (s : State) (r : Req) (w : Nat),
      Allowed s r Reg.BRG_WIN_CMD →
      w < 256 →
      exec (.windowClearCounters r w) s = .next (setWin s w { win s w with count := 0 })) ∧
  (∀ (s : State) (w : Nat),
      (win s w).state = 2 →
      (win s w).drainAt ≤ s.tim.boundaries →
      exec (.windowDrainLimit w) s = .next (let left := s.brg.reqs.filter (fun r => decide (r.window = w))
        let s1 := left.foldl (fun s r => failReq s r 3 0) s
        let s2 := if left = [] then s1 else report s1 Ev.BRG_ABORT w 0
        setWin s2 w { win s2 w with state := 0 })) ∧
  (∀ (s : State) (r : Req),
      Allowed s r Reg.BRG_CNT_CLEAR →
      exec (.brgCntClearGlobal r) s = .next (clearRegs s Reg.BRG_CNT_REQUESTS Reg.BRG_CNT_MIRROR_EMPTY)) ∧
  (∀ (s : State) (r : Req),
      Allowed s r Reg.BRG_CNT_CLEAR →
      exec (.brgCntClearWindows r) s = .next ({ s with brg := { s.brg with wins := tmap (fun _ w => { w with count := 0 }) s.brg.wins } }))

/-- The cadence bus engine: cycles, corrections and its states. Derived from 11_cadence_bus.md. -/
def Obligations.CadenceStates : Prop :=
  (∀ (s : State),
      s.cdb.state = .off ∨ s.cdb.state = .listen →
      exec (.cdbCycleStart) s = .next (s)) ∧
  (∀ (s : State),
      s.cdb.state = .integrate →
      exec (.cdbCycleStart) s = .next (if s.cdb.adoptedSeen then capturePair (rollCycle s) else toListen s)) ∧
  (∀ (s : State),
      s.cdb.state = .coldstart ∨ s.cdb.state = .sync ∨ s.cdb.state = .passive →
      exec (.cdbCycleStart) s = .next (let s1 := guardJudge (capturePair (rollCycle s))
        autoClaim (cycleBoundary { s1 with cdb := { s1.cdb with openSlots := reportedSlots s1 } }))) ∧
  (∀ (s : State) (off rate : Int) (fo fr : Bool),
      s.cdb.idleDone = false →
      s.cdb.state ≠ .off →
      s.cdb.state ≠ .listen →
      clampTo (bits (rd s Reg.CDB_SYNC_CFG) 20 11) ((midpoint (devSet s s.cdb.devs)).getD 0) = (off, fo) →
      clampTo (bits (rd s Reg.CDB_SYNC_CFG) 28 21) (if ((midpoint (rateTerms s)).getD 0).natAbs ≤ bits (rd s Reg.CDB_SYNC_CFG) 31 29 then s.cdb.r else s.cdb.r + (midpoint (rateTerms s)).getD 0) = (rate, fr) →
      exec (.cdbIdleSegment) s = .next (let s1 := cntAdd s Reg.CDB_CNT_CLAMP (b2n fo + b2n fr)
        let s2 := setCdb s1 { s1.cdb with o := off, r := rate, terms := rateTerms s1, idleDone := true, flagged := if fo || fr then s1.cdb.flagged + 1 else 0, clear := if fo || fr then 0 else if 1 ≤ s1.cdb.inState then s1.cdb.clear + 1 else s1.cdb.clear }
        if s2.cdb.state = .sync ∧ 2 ≤ s2.cdb.flagged then enter (leaveSync s2) .passive else s2)) ∧
  (∀ (s : State),
      s.cdb.state = .listen →
      bit (rd s Reg.CDB_CONFIG) 6 = false ∨ s.dev ≠ .active →
      (fld s Reg.CDB_TIMING 31 26 + cdbNode s) * cycleUnits s ≤ since s s.cdb.listenFrom →
      exec (.listenTimeout) s = .next ({ s with cdb := { s.cdb with listenFrom := now s } })) ∧
  (∀ (s : State),
      s.cdb.state = .listen →
      bit (rd s Reg.CDB_CONFIG) 6 = true →
      s.dev = .active →
      (fld s Reg.CDB_TIMING 31 26 + cdbNode s) * cycleUnits s ≤ since s s.cdb.listenFrom →
      exec (.listenTimeout) s = .next (let s1 := enter s .coldstart
        guardJudge (capturePair (setCdb s1 { s1.cdb with cycle := 0, start := now s1, rCycle := 0, idleDone := false, devs := [], prevDevs := [], nextDevs := [], slotsSeen := [], sent := [], seenNow := 0, syncMiss := 0, guardFirst := true })))) ∧
  (∀ (s : State),
      s.cdb.state = .coldstart →
      3 ≤ s.cdb.inState →
      s.cdb.idleDone = true →
      exec (.startupComplete) s = .next (toSync s)) ∧
  (∀ (s : State),
      s.cdb.state = .integrate →
      2 ≤ s.cdb.inState →
      s.cdb.syncOk = true →
      s.cdb.adoptedSeen = true →
      s.cdb.idleDone = true →
      exec (.integrationComplete) s = .next (toSync s)) ∧
  (∀ (s : State),
      s.cdb.state = .passive →
      4 ≤ s.cdb.clear →
      exec (.passiveRecovery) s = .next (toSync s)) ∧
  (∀ (s : State),
      s.cdb.state = .passive →
      16 ≤ s.cdb.inState →
      s.cdb.idleDone = true →
      exec (.passiveTimeout) s = .next (toListen s)) ∧
  (∀ (s : State),
      s.cdb.state = .sync ∨ s.cdb.state = .passive →
      isSyncNode s = false →
      syncLimit s ≤ s.cdb.syncMiss →
      exec (.syncLostTimeout) s = .next (toListen s)) ∧
  (∀ (s : State) (chB : Bool),
      (if chB then s.cdb.chbLost else s.cdb.chaLost) = false →
      max 1 (fld s Reg.CDB_LIMITS 23 16) ≤ (if chB then s.cdb.chbMiss else s.cdb.chaMiss) →
      exec (.channelLost chB) s = .next (let s1 := setCdb s { s.cdb with chaLost := s.cdb.chaLost || !chB, chbLost := s.cdb.chbLost || chB }
        report (cnt s1 Reg.CDB_CNT_CHANNEL) Ev.PRT_PATH_LOST 104 0)) ∧
  (∀ (s : State) (r : Req),
      Allowed s r Reg.CDB_CTRL →
      mayWrite r Reg.CDB_CTRL 0 = true →
      exec (.engineEnable r) s = .next (let s1 := setFld s Reg.CDB_CTRL 0 0 1
        if s1.cdb.state = .off then toListen s1 else s1)) ∧
  (∀ (s : State) (r : Req),
      Allowed s r Reg.CDB_CTRL →
      mayWrite r Reg.CDB_CTRL 0 = true →
      exec (.engineDisable r) s = .next (enter (leaveSync (setFld s Reg.CDB_CTRL 0 0 0)) .off)) ∧
  (∀ (s : State) (r : Req),
      Allowed s r Reg.CDB_CMD →
      s.cdb.state ≠ .off →
      exec (.cdbRestart r) s = .next (toListen s)) ∧
  (∀ (s : State),
      s.tim.refLost = false →
      s.tim.holdover = false →
      exec (.refclkLost) s = .next (let s1 := { s with tim := { s.tim with refLost := true }, cdb := { s.cdb with guardHold := true, resync := true, guardHit := true } }
        let s2 := if s1.cdb.state = .off then s1 else guardReport s1
        report (cnt { s2 with tim := { s2.tim with holdover := true, holdSince := now s2 } } Reg.TIM_CNT_REF_LOST) Ev.TIM_REF_LOST noInst 0))

/-- The cadence bus: frames in, slots out, claims and the guardian. Derived from 11_cadence_bus.md. -/
def Obligations.CadenceFramesAndSlots : Prop :=
  (∀ (s : State) (chB : Bool) (bs : Bytes) (raw rawEnd : Nat) (good : Bool),
      s.cdb.state = .off →
      exec (.cbFrameEnd chB bs raw rawEnd good) s = .next (s)) ∧
  (∀ (s : State) (chB : Bool) (bs : Bytes) (raw rawEnd : Nat) (good : Bool),
      s.cdb.state = .listen →
      exec (.cbFrameEnd chB bs raw rawEnd good) s = .next (listenFrame s (stampAt s 104 raw (stampComp s 104 raw + (if chB then chbComp s raw else 0))) good bs)) ∧
  (∀ (s : State) (chB : Bool) (bs : Bytes) (raw rawEnd : Nat) (k t : Nat),
      s.cdb.state = .sync ∨ s.cdb.state = .passive ∨ s.cdb.state = .integrate →
      t = stampAt s 104 raw (stampComp s 104 raw + (if chB then chbComp s raw else 0)) →
      slotAt s t = some k →
      exec (.cbFrameEnd chB bs raw rawEnd false) s = .next (spoiled (framing s 104) k true)) ∧
  (∀ (s : State) (chB : Bool) (bs : Bytes) (raw rawEnd : Nat) (k t : Nat),
      s.cdb.state = .sync ∨ s.cdb.state = .passive ∨ s.cdb.state = .integrate →
      t = stampAt s 104 raw (stampComp s 104 raw + (if chB then chbComp s raw else 0)) →
      slotAt s t = some k →
      cdbPi s * utUnits < (Int.ofNat t - actionPoint s k).natAbs →
      exec (.cbFrameEnd chB bs raw rawEnd true) s = .next (let s1 := report (cnt s Reg.CDB_CNT_EDGE) Ev.CDB_EDGE 104 k
        if (schedWord s1 k).testBit 2 = true ∧ nbits (schedWord s1 k) 1 0 = 0 then arrival s1 (nbits (schedWord s1 k) 9 4) true none else s1)) ∧
  (∀ (s : State) (chB : Bool) (bs : Bytes) (raw rawEnd : Nat) (k t : Nat) (f : CbFrame),
      s.cdb.state = .sync ∨ s.cdb.state = .passive ∨ s.cdb.state = .integrate →
      t = stampAt s 104 raw (stampComp s 104 raw + (if chB then chbComp s raw else 0)) →
      slotAt s t = some k →
      (Int.ofNat t - actionPoint s k).natAbs ≤ cdbPi s * utUnits →
      Int.ofNat (stampAt s 104 rawEnd (stampComp s 104 raw + (if chB then chbComp s raw else 0))) ≤ slotStart s (k + 1) →
      cbJudge s k bs = .accepted f →
      exec (.cbFrameEnd chB bs raw rawEnd true) s = .next (cbAccept s k chB raw t (endAt s 104 rawEnd (stampComp s 104 raw + (if chB then chbComp s raw else 0))) f bs)) ∧
  (∀ (s : State) (k : Nat) (f : CbFrame) (s1 : State),
      engineSends s k = true →
      guardPermits s k = true →
      buildFrame s k = (f, s1) →
      exec (.cdbSlotTransmit k false) s = .next (let s2 := { s1 with cdb := { s1.cdb with sent := tset s1.cdb.sent k (some (cbBytes f)) } }
        let s3 := emit (emit s2 (.cadence 0 k (cbBytes f))) (.cadence 1 k (cbBytes f))
        if cbFlag f 1 then freeSpare s3 k else s3)) ∧
  (∀ (s : State) (k : Nat),
      engineSends s k = true →
      guardPermits s k = true →
      exec (.cdbSlotTransmit k true) s = .next (intervene s)) ∧
  (∀ (s : State) (k : Nat) (outside : Bool),
      engineSends s k = false ∨ guardPermits s k = false →
      exec (.cdbSlotTransmit k outside) s = .next (s)) ∧
  (∀ (s : State) (r : Req) (k : Nat),
      Allowed s r Reg.CDB_CLAIM_CMD →
      slotUse s k = 2 →
      k ≤ cdbSlots s →
      (spare s k).state = .free →
      claimCount s < fld s Reg.CDB_LIMITS 27 24 →
      exec (.slotClaim r k) s = .next (setSpare s k { spare s k with state := .claiming, holder := cdbNode s, clean := 0, releasing := false })) ∧
  (∀ (s : State) (r : Req) (k : Nat),
      Allowed s r Reg.CDB_CLAIM_CMD →
      slotUse s k = 2 →
      mine (spare s k) = true →
      exec (.slotRelease r k) s = .next (setSpare s k { spare s k with releasing := true })) ∧
  (∀ (s : State) (k : Nat),
      (spare s k).state = .claiming →
      3 ≤ (spare s k).clean →
      exec (.claimConfirmed k) s = .next (setSpare s k { spare s k with state := .held })) ∧
  (∀ (s : State) (k : Nat),
      (spare s k).state = .backoff →
      (spare s k).backoff = 0 →
      exec (.claimBackoffEnd k) s = .next (setSpare s k { spare s k with state := .claiming, clean := 0 })) ∧
  (∀ (s : State) (k : Nat),
      (spare s k).state = .taken →
      max 16 (fld s Reg.CDB_LIMITS 15 8) ≤ (spare s k).silent →
      exec (.claimLapse k) s = .next (freeSpare s k)) ∧
  (∀ (s : State) (r : Req),
      Allowed s r Reg.CDB_CNT_CLEAR →
      exec (.cdbCntClearGlobal r) s = .next (clearRegs s Reg.CDB_CNT_EDGE Reg.CDB_CNT_SLOT_DROP)) ∧
  (∀ (s : State) (r : Req),
      Allowed s r Reg.CDB_CNT_CLEAR →
      exec (.cdbCntClearNodes r) s = .next ({ s with cdb := { s.cdb with arrivals := tmap (fun _ a => driftEnd { a with late := [], edge := false }) s.cdb.arrivals } }))

/-- The lease: grants, witness, revocation, lapse. Derived from 12_unit_pair.md. -/
def Obligations.LeaseGrants : Prop :=
  (∀ (s : State) (k : Nat),
      k < 3 →
      s.dev = .relinquishing ∨ s.dev = .reset →
      exec (.leaseGrant (.fn k true) k) s = .next (rejectGrant (setGrant s k { grant s k with heard := some s.red.leaseTimer }) k)) ∧
  (∀ (s : State) (k : Nat),
      k < 3 →
      s.dev ≠ .relinquishing →
      s.dev ≠ .reset →
      (rd s (Reg.RED_GRANT_EPOCH k)).toNat ≠ 0 →
      (rd s (Reg.RED_GRANT_EPOCH k)).toNat = s.red.epoch →
      renewing s = true →
      grantOver (setGrant s k { grant s k with heard := some s.red.leaseTimer }) k = false →
      exec (.leaseGrant (.fn k true) k) s = .next (makeCurrent (setGrant s k { grant s k with heard := some s.red.leaseTimer }) k ((rd s (Reg.RED_GRANT_EPOCH k)).toNat))) ∧
  (∀ (s : State) (k : Nat),
      k < 3 →
      s.dev ≠ .relinquishing →
      s.dev ≠ .reset →
      s.red.seen < (rd s (Reg.RED_GRANT_EPOCH k)).toNat →
      (rd s (Reg.RED_GRANT_EPOCH k)).toNat ≠ s.red.epoch →
      addr64 s (Reg.RED_GRANT_NB_LO k) (Reg.RED_GRANT_NB_HI k) ≤ now s →
      exec (.leaseGrant (.fn k true) k) s = .next (makeCurrent (seeEpoch (setGrant s k { grant s k with heard := some s.red.leaseTimer }) ((rd s (Reg.RED_GRANT_EPOCH k)).toNat)) k ((rd s (Reg.RED_GRANT_EPOCH k)).toNat))) ∧
  (∀ (s : State) (k : Nat),
      k < 3 →
      s.dev ≠ .relinquishing →
      s.dev ≠ .reset →
      s.red.seen < (rd s (Reg.RED_GRANT_EPOCH k)).toNat →
      (rd s (Reg.RED_GRANT_EPOCH k)).toNat ≠ s.red.epoch →
      now s < addr64 s (Reg.RED_GRANT_NB_LO k) (Reg.RED_GRANT_NB_HI k) →
      exec (.leaseGrant (.fn k true) k) s = .next (let s1 := seeEpoch (setGrant s k { grant s k with heard := some s.red.leaseTimer }) ((rd s (Reg.RED_GRANT_EPOCH k)).toNat)
        setGrant s1 k { grant s1 k with pend := some ((rd s (Reg.RED_GRANT_EPOCH k)).toNat, addr64 s (Reg.RED_GRANT_NB_LO k) (Reg.RED_GRANT_NB_HI k)) })) ∧
  (∀ (s : State) (k : Nat),
      k < 3 →
      s.dev ≠ .relinquishing →
      s.dev ≠ .reset →
      exec (.leaseWitness (.fn k true) k) s = .next (let s1 := setGrant s k { grant s k with heard := some s.red.leaseTimer }
        higherEpoch (setGrant s1 k { grant s1 k with witness := some (now s) }) ((rd s (Reg.RED_GRANT_EPOCH k)).toNat))) ∧
  (∀ (s : State) (k : Nat),
      k < 3 →
      (grant (setGrant s k { grant s k with heard := some s.red.leaseTimer }) k).current = true ∨ (grant (setGrant s k { grant s k with heard := some s.red.leaseTimer }) k).pend ≠ none →
      exec (.leaseRevoke (.fn k true) k) s = .next (let s1 := setGrant s k { grant s k with heard := some s.red.leaseTimer }
        grantEnded (setGrant s1 k { grant s1 k with current := false, lapsed := true, pend := none }))) ∧
  (∀ (s : State) (k e nb : Nat),
      (grant s k).pend = some (e, nb) →
      nb ≤ now s →
      s.dev ≠ .relinquishing →
      s.dev ≠ .reset →
      exec (.grantBecomesCurrent k) s = .next (makeCurrent s k e)) ∧
  (∀ (s : State) (k : Nat),
      (grant s k).current = true →
      (grant s k).lapse ≤ s.red.leaseTimer →
      exec (.grantLapse k) s = .next (lapseGrant s k)) ∧
  (∀ (s : State) (r : Req),
      Allowed s r Reg.RED_CMD →
      s.dev = .active →
      exec (.relinquishCmd r) s = .next (relinquish s false)) ∧
  (∀ (s : State) (r : Req),
      Allowed s r Reg.RED_CMD →
      isStandby s = true →
      exec (.joinCmd r) s = .next (sendJoin s)) ∧
  (∀ (s : State) (r : Req),
      Allowed s r Reg.RED_CNT_CLEAR →
      exec (.redCntClear r) s = .next (clearRegs s Reg.RED_CNT_TAKEOVER Reg.RED_CNT_IU_MIRAGE))

/-- The inter-unit link: what an accepted frame does, and a path's loss. Derived from 12_unit_pair.md. -/
def Obligations.InterUnitFrames : Prop :=
  (∀ (s : State),
      s.dev ≠ .reset →
      s.dev ≠ .haltSafe →
      exec (.heartbeatSend) s = .next (let n := (s.red.txSeq + 1) % 2 ^ 32
        emit { s with red := { s.red with txSeq := n } } (.iu n (devCode s.dev) s.red.seen (.heartbeat (now s) (s.red.beat.map (fun b => (b.tx, b.rx))))))) ∧
  (∀ (s : State) (h : IuHead) (tx rx : Nat),
      s.dev ≠ .reset →
      s.dev ≠ .haltSafe →
      h.path ≤ 1 →
      s.red.rxSeqs.contains h.seq = false →
      exec (.heartbeatReceived h tx rx none) s = .next (let s1 := acceptIu s h (fun s => s)
        higherEpoch (setRed s1 { s1.red with beat := some { tx := tx, rx := rx } }) h.epoch)) ∧
  (∀ (s : State) (h : IuHead) (tx rx a b : Nat),
      s.dev ≠ .reset →
      s.dev ≠ .haltSafe →
      h.path ≤ 1 →
      s.red.rxSeqs.contains h.seq = false →
      exec (.heartbeatReceived h tx rx (some (a, b))) s = .next (let s1 := acceptIu s h (fun s => s)
        higherEpoch (setRed s1 { s1.red with beat := some { tx := tx, rx := rx }, offset := Int.tdiv ((Int.ofNat b - Int.ofNat a) + (Int.ofNat tx - Int.ofNat rx)) 2, delay := Int.tdiv ((Int.ofNat rx - Int.ofNat a) - (Int.ofNat tx - Int.ofNat b)) 2 }) h.epoch)) ∧
  (∀ (s : State) (h : IuHead),
      s.dev ≠ .reset →
      s.dev ≠ .haltSafe →
      h.path ≤ 1 →
      s.red.rxSeqs.contains h.seq = false →
      exec (.relinquishReceived h) s = .next (let s1 := acceptIu s h (fun s => s)
        raiseAll (raiseAll (setRed s1 { s1.red with peerRelinquished := true }) true 7) false 8)) ∧
  (∀ (s : State) (h : IuHead),
      s.dev ≠ .reset →
      s.dev ≠ .haltSafe →
      h.path ≤ 1 →
      s.red.rxSeqs.contains h.seq = false →
      (acceptIu s h (fun s => s)).dev = .active →
      exec (.joinReceived h) s = .next (let s1 := acceptIu s h (fun s => s)
        setRed s1 { s1.red with fullDue := true })) ∧
  (∀ (s : State) (h : IuHead) (stamp : Nat) (payload : Bytes),
      s.dev ≠ .reset →
      s.dev ≠ .haltSafe →
      h.path ≤ 1 →
      s.red.rxSeqs.contains h.seq = false →
      (acceptIu s h (fun s => s)).stw.intake.length < 256 →
      exec (.iuCopyReceived h stamp payload) s = .next (let s1 := acceptIu s h (fun s => s)
        { s1 with stw := { s1.stw with intake := s1.stw.intake ++ [{ (default : Sent) with payload := payload, stamp := stamp, endT := stamp, src := 108, srcKind := 7 }] } })) ∧
  (∀ (s : State) (h : IuHead),
      s.dev ≠ .reset →
      s.dev ≠ .haltSafe →
      h.path ≤ 1 →
      s.red.rxSeqs.contains h.seq = false →
      exec (.divergenceTestRequestReceived h none) s = .next (let s1 := acceptIu s h (fun s => s)
        beginDivergence s1 false)) ∧
  (∀ (s : State) (h : IuHead) (f : Bool),
      s.dev ≠ .reset →
      s.dev ≠ .haltSafe →
      h.path ≤ 1 →
      s.red.rxSeqs.contains h.seq = false →
      (acceptIu s h (fun s => s)).red.divState = 1 →
      exec (.divergenceTestRequestReceived h (some f)) s = .next (let s1 := acceptIu s h (fun s => s)
        setRed s1 { s1.red with peerFail := some f })) ∧
  (∀ (s : State) (h : IuHead) (q d own : Nat),
      s.dev ≠ .reset →
      s.dev ≠ .haltSafe →
      h.path ≤ 1 →
      s.red.rxSeqs.contains h.seq = false →
      (acceptIu s h (fun s => s)).dev = .active →
      ownDigest (acceptIu s h (fun s => s)) q = some own →
      exec (.digestReceived h q d) s = .next (let s1 := acceptIu s h (fun s => s)
        let s2 := setRed s1 { s1.red with digests := s1.red.digests.map (fun e => if e.1 = q then (q, e.2.1, some d) else e) }
        if own = d then s2 else mismatch s2)) ∧
  (∀ (s : State),
      s.red.divState = 1 →
      s.red.ownFail = some true →
      s.red.peerFail = some false →
      s.dev = .active →
      exec (.divergenceDecide) s = .next (relinquish { s with red := { s.red with divState := 2, ownFail := some true, peerFail := some false } } false)) ∧
  (∀ (s : State),
      s.red.divState = 1 →
      s.red.ownFail = some false →
      s.red.peerFail = some true →
      exec (.divergenceDecide) s = .next ({ s with red := { s.red with divState := 2, ownFail := some false, peerFail := some true } })) ∧
  (∀ (s : State) (b : Bool),
      (if b then s.red.pathB else s.red.pathA) = true →
      msUnits ≤ since s (if b then s.red.lastB else s.red.lastA) →
      exec (.iuPathLost b) s = .next (let s1 := setRed s (if b then { s.red with pathB := false } else { s.red with pathA := false })
        let s2 := report s1 Ev.PRT_PATH_LOST 108 (b2n b)
        if s2.red.pathA = false ∧ s2.red.pathB = false ∧ s2.red.linkUp = true then linkLost s2 else s2))

/-- Mirroring, the peat and takeover. Derived from 12_unit_pair.md. -/
def Obligations.MirroringAndTakeover : Prop :=
  (∀ (s : State) (h : IuHead) (n : Nat) (m : MirrorRec),
      s.dev ≠ .reset →
      s.dev ≠ .haltSafe →
      h.path ≤ 1 →
      s.red.rxSeqs.contains h.seq = false →
      (acceptIu s h (fun s => s)).dev = .standbyShadow →
      (acceptIu s h (fun s => s)).red.mirrorSeq = 0 ∨ n = (acceptIu s h (fun s => s)).red.mirrorSeq + 1 →
      exec (.mirrorReceived h n m) s = .next (let s1 := acceptIu s h (fun s => s)
        mirrorIn (setRed s1 { s1.red with mirrorSeq := n }) n m)) ∧
  (∀ (s : State) (h : IuHead) (n : Nat) (m : MirrorRec),
      s.dev ≠ .reset →
      s.dev ≠ .haltSafe →
      h.path ≤ 1 →
      s.red.rxSeqs.contains h.seq = false →
      (acceptIu s h (fun s => s)).dev = .standbyShadow →
      (acceptIu s h (fun s => s)).red.mirrorSeq ≠ 0 →
      n ≠ (acceptIu s h (fun s => s)).red.mirrorSeq + 1 →
      exec (.mirrorReceived h n m) s = .next (let s1 := acceptIu s h (fun s => s)
        leaveShadow s1)) ∧
  (∀ (s : State) (h : IuHead) (e : LogEnt),
      s.dev ≠ .reset →
      s.dev ≠ .haltSafe →
      h.path ≤ 1 →
      s.red.rxSeqs.contains h.seq = false →
      isStandby (acceptIu s h (fun s => s)) = true →
      exec (.commitLogReceived h e) s = .next (let s1 := acceptIu s h (fun s => s)
        let s2 := setRed s1 { s1.red with logIn := s1.red.logIn ++ [e] }
        if shadowing s2 then drainLog s2.red.logIn.length s2 else s2)) ∧
  (∀ (s : State) (h : IuHead) (b : Nat) (x : PeatBlk),
      s.dev ≠ .reset →
      s.dev ≠ .haltSafe →
      h.path ≤ 1 →
      s.red.rxSeqs.contains h.seq = false →
      isStandby (acceptIu s h (fun s => s)) = true →
      x.unit ≠ peatUnit (acceptIu s h (fun s => s)) →
      b ≤ 383 →
      exec (.peatBlockReceived h b x) s = .next (let s1 := acceptIu s h (fun s => s)
        setRed s1 { s1.red with staging := tset (tfilter (fun _ y => match y with | some y => decide (y.q = x.q ∧ y.counter = x.counter) | none => true) s1.red.staging) b (some x) })) ∧
  (∀ (s : State) (h : IuHead) (q : Nat) (blocks : List Nat) (full : Bool),
      s.dev ≠ .reset →
      s.dev ≠ .haltSafe →
      h.path ≤ 1 →
      s.red.rxSeqs.contains h.seq = false →
      isStandby (acceptIu s h (fun s => s)) = true →
      (acceptIu s h (fun s => s)).red.copying = none →
      exec (.peatCommitReceived h q blocks full) s = .next (let s1 := acceptIu s h (fun s => s)
        peatCommit s1 q blocks full)) ∧
  (∀ (s : State) (q : Nat) (full : Bool) (list : Tab (Option PeatBlk)),
      s.red.copying = some (q, full, list) →
      full = false ∨ s.dev ≠ .standbyCold →
      exec (.peatImageCopyDone) s = .next (copyDone s q full list)) ∧
  (∀ (s : State) (h : IuHead) (q : Nat) (c : Ckpt),
      s.dev ≠ .reset →
      s.dev ≠ .haltSafe →
      h.path ≤ 1 →
      s.red.rxSeqs.contains h.seq = false →
      (acceptIu s h (fun s => s)).red.ckpt = some c →
      c.q = q →
      (acceptIu s h (fun s => s)).red.unsent = false →
      exec (.peatConfirmationReceived h q) s = .next (let s1 := acceptIu s h (fun s => s)
        setRed s1 { s1.red with ckpt := none, base := tover s1.red.base c.parts })) ∧
  (∀ (s : State) (c : Ckpt),
      s.red.ckpt = some c →
      s.red.unsent = true →
      ckptEvery s ≤ 2 * (s.tim.boundaries - c.at_) →
      exec (.checkpointLate) s = .next (ckptAbandon s)) ∧
  (∀ (s : State),
      isStandby s = true →
      s.red.imageQ.isSome = true →
      s.red.stale = false →
      s.red.imageAt + 2 * (ckptEvery s * periodUnits s) ≤ now s →
      2 ≤ ((List.range 3).filter (fun k => match (grant s k).witness with | some t => decide (2 * t > 2 * s.red.imageAt + 3 * (ckptEvery s * periodUnits s)) | none => false)).length →
      exec (.peatStale) s = .next (raiseAll (raiseAll (report (setRed s { s.red with stale := true }) Ev.RED_PEAT_STALE noInst 0) true 7) false 8)) ∧
  (∀ (s : State) (banks : List Nat) (other : Bool),
      majority s = true →
      s.red.taking = some .shadow →
      s.dev = .standbyShadow →
      s.red.takeAt < s.tim.boundaries →
      exec (.takeoverComplete banks other) s = .next (becomeActive (jumpCounters (startGeneration s (genAfter s.com.gen)) (fun _ => 1) (fun _ => 1) (fun _ => 1)))) ∧
  (∀ (s : State) (banks : List Nat) (other : Bool),
      majority s = true →
      s.red.taking = some .cold →
      s.dev = .starting →
      exec (.takeoverComplete banks other) s = .next (becomeActive (startDone s)))

/-- Key slots: generate, derive, unwrap, load, commit, and the rest. Derived from 13_key_vault.md. -/
def Obligations.VaultCommands : Prop :=
  (∀ (s : State) (r : Req) (k : Nat),
      Allowed s r Reg.KVT_CMD →
      s.vault.cmd ≠ none →
      exec (.kvtDiscard r k) s = .next (kvtDone s r k 3 9)) ∧
  (∀ (s : State) (r : Req) (k : Nat),
      Allowed s r Reg.KVT_CMD →
      s.vault.cmd = none →
      2 ≤ k →
      k ≤ 255 →
      attrMaster s k (masterOf r) = false →
      exec (.kvtZeroize r k) s = .next (kvtDone (attrDeny s k) r k 3 1)) ∧
  (∀ (s : State) (r : Req) (k : Nat),
      Allowed s r Reg.KVT_CMD →
      s.vault.cmd = none →
      2 ≤ k →
      k ≤ 255 →
      attrMaster s k (masterOf r) = true →
      exec (.kvtGenerate r k) s = .next (let d := takeDrbg s (if slotSize s k then 32 else 16)
        cnt (kvtDone (loadPend d.2 k d.1 none 0 0) r k 2 0) Reg.KVT_CNT_OPS)) ∧
  (∀ (s : State) (r : Req) (k source label : Nat),
      Allowed s r Reg.KVT_CMD →
      s.vault.cmd = none →
      2 ≤ k →
      k ≤ 255 →
      attrMaster s k (masterOf r) = true →
      source ≠ 0 →
      attrUse s source (masterOf r) useDerive = true →
      slotServes s source = true →
      slotDepth s.vault 9 source + 1 ≤ 8 →
      exec (.kvtDerive r k source label) s = .next (let g := (tget s.vault.slots source).gen
        kvtBusy (loadPend s k (kdf (slotKey s.vault source) (labelOf s label) k g (slotSize s k)) (some source) g label) r 2 k source [])) ∧
  (∀ (s : State) (r : Req) (k source : Nat) (blob : Bytes),
      Allowed s r Reg.KVT_CMD →
      s.vault.cmd = none →
      2 ≤ k →
      k ≤ 255 →
      attrMaster s k (masterOf r) = true →
      source ≠ 0 →
      attrUse s source (masterOf r) useUnwrap = true →
      slotServes s source = true →
      exec (.kvtUnwrap r k source blob) s = .next (match Config.keyUnwrap (slotKey s.vault source) (blob.take (if slotSize s k then 40 else 24)) with
        | none => kvtDone (clearPend s k) r k 3 4
        | some new => kvtBusy (loadPend s k (new.take ((if slotSize s k then 40 else 24) - 8)) none 0 0) r 3 k source [])) ∧
  (∀ (s : State) (r : Req) (k : Nat),
      Allowed s r Reg.KVT_CMD →
      s.vault.cmd = none →
      2 ≤ k →
      k ≤ 255 →
      attrMaster s k (masterOf r) = true →
      s.vault.lc = 1 ∨ rootState s.vault = 3 →
      exec (.kvtLoad r k) s = .next (kvtDone (loadPend s k ((List.range (if slotSize s k then 8 else 4)).map (fun i => toBE 4 (tget s.vault.load i).toNat)).flatten none 0 0) r k 2 0)) ∧
  (∀ (s : State) (r : Req) (k : Nat),
      Allowed s r Reg.KVT_CMD →
      s.vault.cmd = none →
      2 ≤ k →
      k ≤ 255 →
      attrMaster s k (masterOf r) = true →
      (tget s.vault.slots k).pend = 2 →
      exec (.kvtCommit r k) s = .next (let s1 := modSlot s k (fun x => { x with state := .valid, pend := 0, key := x.pendKey, pendKey := [], kcv := kcvOf (slotPend s.vault k), gen := (x.gen + 1) % 65536, parent := x.pParent, parentGen := x.pParentGen, label := x.pLabel, send := 1, fromImage := false })
        let s2 := { s1 with flt := { s1.flt with fresh := tset s1.flt.fresh k default } }
        let s3 := if fld s2 Reg.RED_CONFIG 26 19 = k then { s2 with red := { s2.red with sealCounter := 0 } } else s2
        kvtDone (startSweep s3) r k 2 0)) ∧
  (∀ (s : State) (r : Req) (k : Nat),
      Allowed s r Reg.KVT_CMD →
      s.vault.cmd = none →
      2 ≤ k →
      k ≤ 255 →
      attrMaster s k (masterOf r) = true →
      exec (.kvtDiscard r k) s = .next (kvtDone (clearPend s k) r k 2 0)) ∧
  (∀ (s : State) (r : Req) (k : Nat),
      Allowed s r Reg.KVT_CMD →
      s.vault.cmd = none →
      2 ≤ k →
      k ≤ 255 →
      attrMaster s k (masterOf r) = true →
      exec (.kvtInvalidate r k) s = .next (kvtDone (startSweep (modSlot s k (fun x => { x with gen := (x.gen + 1) % 65536 }))) r k 2 0)) ∧
  (∀ (s : State) (r : Req) (k : Nat),
      Allowed s r Reg.KVT_CMD →
      s.vault.cmd = none →
      2 ≤ k →
      k ≤ 255 →
      attrMaster s k (masterOf r) = true →
      exec (.kvtZeroize r k) s = .next (let s1 := abortOps s (fun j => decide (j = k))
        kvtDone (startSweep (modSlot s1 k (fun x => { clearSlot x .zeroized with gen := (x.gen + 1) % 65536 }))) r k 2 0)) ∧
  (∀ (s : State) (r : Req) (k : Nat),
      Allowed s r Reg.KVT_CMD →
      s.vault.cmd = none →
      2 ≤ k →
      k ≤ 255 →
      attrMaster s k (masterOf r) = true →
      (tget s.vault.slots k).state = .orphaned ∨ (tget s.vault.slots k).state = .zeroized →
      exec (.kvtClear r k) s = .next (kvtDone (modSlot s k (fun x => { x with state := .empty })) r k 2 0)) ∧
  (∀ (s : State) (r : Req) (k source : Nat),
      Allowed s r Reg.KVT_CMD →
      s.vault.cmd = none →
      2 ≤ k →
      k ≤ 255 →
      attrMaster s k (masterOf r) = true →
      source ≠ 0 →
      attrUse s source (masterOf r) useWrap = true →
      slotServes s source = true →
      s.vault.lc = 1 →
      (slotAttr s k).testBit useWrap = true →
      slotServes s k = true →
      exec (.kvtWrap r k source) s = .next (kvtBusy s r 10 k source (Config.keyWrap (slotKey s.vault source) (slotKey s.vault k))))

/-- The vault: root, lifecycle, debug, tamper, supplies. Derived from 13_key_vault.md. -/
def Obligations.VaultRootAndTamper : Prop :=
  (∀ (s : State) (r : Req),
      Allowed s r Reg.KVT_CMD →
      s.vault.cmd = none →
      rootState s.vault = 0 →
      s.vault.lc = 1 ∨ s.vault.lc = 2 →
      exec (.newRoot r) s = .next (match genRoot 8 s with
        | (none, s1) => kvtDone s1 r 0 3 8
        | (some key, s1) => kvtDone { s1 with vault := { s1.vault with root := key, rootNew := true } } r 0 2 0)) ∧
  (∀ (s : State) (r : Req),
      Allowed s r Reg.KVT_CMD →
      s.vault.cmd = none →
      rootState s.vault ≠ 0 →
      exec (.newRoot r) s = .next (kvtDone s r 0 3 2)) ∧
  (∀ (s : State) (r : Req) (k value : Nat),
      Allowed s r Reg.KVT_KCV_CHECK →
      2 ≤ k →
      k ≤ 255 →
      attrMaster s k (masterOf r) = true →
      (tget s.vault.slots k).pend ≠ 0 →
      exec (.kcvCheck r k value) s = .next (if kcvOf (slotPend s.vault k) = value % 2 ^ 24 then modSlot s k (fun x => { x with pend := 2 }) else cnt (report (clearPend s k) Ev.KVT_KCV_FAIL k 0) Reg.KVT_CNT_KCV_FAIL)) ∧
  (∀ (s : State),
      s.vault.sweep = true →
      exec (.orphanSweepDone) s = .next ({ s with vault := { s.vault with slots := orphanAll s.vault, sweep := false } })) ∧
  (∀ (s : State),
      domainOn s 11 = true →
      10 * secUnits ≤ since s s.vault.remaskAt →
      Gives (.remask) s (fun t => let n := s.vault.drbgN + 1
      let order := permBy ((List.range 256).map (fun i => beAt ((Config.drbg s.vault.drbgN 512).take 512) (2 * i) 2)) (List.range 256)
      t = cnt { s with vault := { s.vault with slots := tmap (fun k x => if x = default then x else remaskSlot ((Config.drbg (n + k) 32).take 32) ((order[k]?).getD 0) x) s.vault.slots, drbgN := n + 256, remaskAt := now s } } Reg.KVT_CNT_REMASK)) ∧
  (∀ (s : State) (r : Req),
      Allowed s r Reg.KVT_LC_CMD →
      exec (.lifecycleMove r 0x4C430001#32) s = .next ({ s with vault := { s.vault with lcArmed := some (now s) } })) ∧
  (∀ (s : State) (r : Req) (value : Word) (a : Nat),
      Allowed s r Reg.KVT_LC_CMD →
      s.vault.lcArmed = some a →
      since s a ≤ msUnits →
      value.toNat = s.vault.lc + 1 →
      s.vault.lc + 1 ≤ 3 →
      (s.vault.lc + 1 = 1 → s.vault.anchors ≠ []) →
      exec (.lifecycleMove r value) s = .next (let s1 := clearImageRecord { s with vault := { s.vault with lcArmed := none, lcMove := some (s.vault.lc + 1) } }
        if s.vault.lc + 1 = 3 then { s1 with vault := { s1.vault with root := zeroKey, rootNew := false } } else s1)) ∧
  (∀ (s : State) (pubkey token sig : Bytes),
      s.vault.lc ≠ 2 →
      s.vault.debug = false →
      domainOn s 11 = true →
      exec (.debugOpen pubkey token sig) s = .next (report (clearImageRecord { s with vault := { s.vault with debug := true, testRoot := true } }) Ev.KVT_TEST_ROOT 0 0)) ∧
  (∀ (s : State) (code : Nat),
      exec (.tamperDetect code) s = .next (tamperDetect code s)) ∧
  (∀ (s : State) (code : Nat),
      code < 1 ∨ 5 < code ∨ s.vault.tamperCfg.testBit (code - 1) = false →
      exec (.tamperDetect code) s = .next (s)) ∧
  (∀ (s : State) (r : Req),
      Allowed s r Reg.KVT_TAMPER_CLEAR →
      rootState s.vault ≠ 0 →
      exec (.tamperStatusClear r) s = .next ({ s with vault := { s.vault with tamperStatus := 0 } })) ∧
  (∀ (s : State) (r : Req),
      Allowed s r Reg.KVT_TAMPER_CLEAR →
      exec (.tamperLogClear r) s = .next ({ s with vault := { s.vault with tamperLog := [], tamperNext := 0 } })) ∧
  (∀ (s : State) (r : Req),
      Allowed s r Reg.KVT_CNT_CLEAR →
      exec (.kvtCntClear r) s = .next (clearRegs s Reg.KVT_CNT_OPS Reg.KVT_CNT_REMASK)) ∧
  (∀ (s : State),
      exec (.vbatApplied) s = .next ({ s with vault := { s.vault with root := zeroKey, rootNew := false, tamperCfg := 0, tamperStatus := 0, tamperLog := [], tamperCount := 0, tamperNext := 0, lfsr := 0 } })) ∧
  (∀ (s : State),
      exec (.vbatLost) s = .next ({ s with vault := { s.vault with root := zeroKey, rootNew := false, tamperStatus := 0, tamperLog := [], tamperCount := 0, tamperNext := 0 }, tim := { s.tim with rtc := 0 } }))

/-- The safety supervisor's two channels: sampling, cross-link, checks. Derived from 14_safety_supervisor.md. -/
def Obligations.SafetyChannels : Prop :=
  (∀ (s : State) (i : SafIn),
      chRuns s.saf.h = true →
      exec (.safeHCycle i) s = .next (let s1 := evalChan (sampleChan s 1 i) 1 i.fb
        let s2 := { s1 with saf := { s1.saf with status := if s1.saf.status.length < 16 then s1.saf.status ++ [s1.saf.h.clk] else s1.saf.status.drop 1 ++ [s1.saf.h.clk] } }
        if s1.saf.status.length < 16 then s2 else cnt s2 Reg.SAF_CNT_H_OVERWRITE)) ∧
  (∀ (s : State) (is : List SafIn),
      chRuns s.saf.p = true →
      exec (.safePEvaluate is) s = .next (let fb := ((is.getLast?).map (·.fb)).getD s.saf.fb
        let s1 := evalChan (sampleAll s 2 is) 2 fb
        { s1 with saf := { s1.saf with fb := fb, hRun := decide (s1.saf.status ≠ []), status := [] } })) ∧
  (∀ (s : State) (a b : Bool) (sub : Nat),
      s.saf.p.lev1.testBit 0 = a →
      exec (.odoEdge 1 a b sub) s = .next (odoChan s 2 1 a b sub)) ∧
  (∀ (s : State) (a b : Bool) (sub : Nat),
      s.saf.p.lev0.testBit 0 = a →
      exec (.odoEdge 0 a b sub) s = .next (odoChan (odoChan s 1 0 a b sub) 2 0 a b sub)) ∧
  (∀ (s : State) (who : Nat),
      who = 1 ∨ who = 2 →
      chRuns (chan s who) = true →
      exec (.crosslinkFrameSend who) s = .next (setChan s who { chan s who with txSeq := ((chan s who).txSeq + 1) % 65536, frames := (frameOf (chan s who) :: (chan s who).frames).take 16 })) ∧
  (∀ (s : State) (who : Nat) (intact : Bool) (f : XFrame) (rest : List XFrame),
      who = 1 ∨ who = 2 →
      chRuns (chan s who) = true →
      (chan s (3 - who)).frames = f :: rest →
      intact = false →
      exec (.crosslinkFrameReceived who intact) s = .next (cnt s Reg.SAF_CNT_LINK_ERR)) ∧
  (∀ (s : State) (who : Nat) (f : XFrame) (rest : List XFrame),
      who = 1 ∨ who = 2 →
      chRuns (chan s who) = true →
      (chan s (3 - who)).frames = f :: rest →
      (chan s who).peer.seq = none →
      (chan s who).block = none →
      exec (.crosslinkFrameReceived who true) s = .next (let c := chan s who
        setChan s who (adoptFaults { c with peer := { c.peer with seq := some f.seq, lastGood := c.clk, good := c.peer.good + 1, stale := false, speed := f.speed, dir := f.dir, count0 := f.count0, count1 := f.count1, pairs := f.pairs, crc := some f.crc, accept := f.accept } } who f))) ∧
  (∀ (s : State) (who : Nat),
      who = 1 ∨ who = 2 →
      chRuns (chan s who) = true →
      4 ≤ (chan s who).clk - (chan s who).peer.lastGood →
      (chan s who).peer.stale = false →
      exec (.crosslinkStale who) s = .next (declare (setChan s who { chan s who with peer := { (chan s who).peer with stale := true } }) who (7, 0, 1))) ∧
  (∀ (s : State) (who : Nat),
      who = 1 ∨ who = 2 →
      chRuns (chan s who) = true →
      1000 ≤ (chan s who).clk - (chan s who).clockFrom →
      900 ≤ (chan s who).peer.good →
      (chan s who).peer.good ≤ 1100 →
      exec (.clockCheck who) s = .next (setChan s who { chan s who with clockFrom := (chan s who).clk, clockCount := (chan s who).peer.good, peer := { (chan s who).peer with good := 0 } })) ∧
  (∀ (s : State) (who : Nat),
      who = 1 ∨ who = 2 →
      chRuns (chan s who) = true →
      1000 ≤ (chan s who).clk - (chan s who).clockFrom →
      (chan s who).peer.good < 900 ∨ 1100 < (chan s who).peer.good →
      exec (.clockCheck who) s = .next (declare (setChan s who { chan s who with clockFrom := (chan s who).clk, clockCount := (chan s who).peer.good, peer := { (chan s who).peer with good := 0 } }) who (7, 0, 2))) ∧
  (∀ (s : State),
      chRuns s.saf.p = true →
      exec (.safePLockstepFault) s = .next (let s1 := declare (allLow s 2) 2 (7, 0, 3)
        setChan s1 2 { s1.saf.p with lockstep := true })) ∧
  (∀ (s : State),
      chRuns s.saf.p = true →
      exec (.safePWatchdogExpiry) s = .next (let s1 := declare (allLow s 2) 2 (7, 0, 4)
        setChan s1 2 { s1.saf.p with lockstep := true })) ∧
  (∀ (s : State) (who : Nat) (held : Bytes),
      who = 1 ∨ who = 2 →
      chRuns (chan s who) = true →
      (chan s who).block ≠ none →
      exec (.paramRecheck who held) s = .next (if sbCrc held = (chan s who).blockCrc then s else declare s who (10, 0, 0)))

/-- Safety outputs' test pulses, and the supervisor's start. Derived from 14_safety_supervisor.md. -/
def Obligations.SafetyOutputsAndStart : Prop :=
  (∀ (s : State) (who n : Nat),
      who = 1 ∨ who = 2 →
      chRuns (chan s who) = true →
      n ≤ 7 →
      (sbOut (chBlock (chan s who)) n 2).testBit 0 = true →
      (sbOut (chBlock (chan s who)) n 2).testBit 1 = true →
      testDue (chBlock (chan s who)) who n (tget (chan s who).outs n).intervals ≤ (chan s who).clk →
      (List.range 8).any (fun m => (tget (chan s who).outs m).pulse.isSome) = false →
      (chan s who).pulseFree ≤ (chan s who).clk →
      (tget (chan s who).outs n).drive = true →
      otherDrive s who n = true →
      exec (.testPulseStart who n) s = .next (let s1 := setChan s who { chan s who with outs := tset (chan s who).outs n { tget (chan s who).outs n with pulse := some (chan s who).clk } }
        drivePin s1 who n false)) ∧
  (∀ (s : State) (who n : Nat),
      who = 1 ∨ who = 2 →
      chRuns (chan s who) = true →
      n ≤ 7 →
      (sbOut (chBlock (chan s who)) n 2).testBit 0 = true →
      (sbOut (chBlock (chan s who)) n 2).testBit 1 = true →
      testDue (chBlock (chan s who)) who n (tget (chan s who).outs n).intervals ≤ (chan s who).clk →
      (List.range 8).any (fun m => (tget (chan s who).outs m).pulse.isSome) = false →
      (chan s who).pulseFree ≤ (chan s who).clk →
      (tget (chan s who).outs n).drive = false ∨ otherDrive s who n = false →
      exec (.testPulseStart who n) s = .next (setChan s who { chan s who with outs := tset (chan s who).outs n { tget (chan s who).outs n with intervals := (tget (chan s who).outs n).intervals + 1 } })) ∧
  (∀ (s : State) (who n : Nat) (low : Bool),
      who = 1 ∨ who = 2 →
      chRuns (chan s who) = true →
      n ≤ 7 →
      (tget (chan s who).outs n).pulse ≠ none →
      demand (chan s who) n = false →
      exec (.testPulseEnd who n low) s = .next (setChan s who { chan s who with outs := tset (chan s who).outs n { tget (chan s who).outs n with pulse := none, intervals := (tget (chan s who).outs n).intervals + 1, fellAt := none }, pulseFree := (chan s who).clk + 1 })) ∧
  (∀ (s : State) (who n : Nat),
      who = 1 ∨ who = 2 →
      chRuns (chan s who) = true →
      n ≤ 7 →
      (tget (chan s who).outs n).pulse ≠ none →
      demand (chan s who) n = true →
      exec (.testPulseEnd who n true) s = .next (let s1 := setChan s who { chan s who with outs := tset (chan s who).outs n { tget (chan s who).outs n with pulse := none, intervals := (tget (chan s who).outs n).intervals + 1, fellAt := none }, pulseFree := (chan s who).clk + 1 }
        cnt (drivePin s1 who n (!s1.saf.halt)) Reg.SAF_CNT_TESTS)) ∧
  (∀ (s : State) (who n : Nat),
      who = 1 ∨ who = 2 →
      chRuns (chan s who) = true →
      n ≤ 7 →
      (tget (chan s who).outs n).pulse ≠ none →
      demand (chan s who) n = true →
      exec (.testPulseEnd who n false) s = .next (let s1 := setChan s who { chan s who with outs := tset (chan s who).outs n { tget (chan s who).outs n with pulse := none, intervals := (tget (chan s who).outs n).intervals + 1, fellAt := none }, pulseFree := (chan s who).clk + 1 }
        declare s1 who (3, n, 0))) ∧
  (∀ (s : State) (r : Req),
      Allowed s r Reg.SAF_CNT_CLEAR →
      exec (.safCntClear r) s = .next (clearRegs s Reg.SAF_CNT_RESET_REFUSED Reg.SAF_CNT_H_OVERWRITE)) ∧
  (∀ (s : State),
      s.pwr.porst = false →
      exec (.safetyStart) s = .next (let s1 := { s with saf := { s.saf with srst := false, h := { s.saf.h with on := true }, p := { s.saf.p with on := true } } }
        safetyStartChan (safetyStartChan (safViewReset s1) 1) 2)) ∧
  (∀ (s : State),
      exec (.safePorstAssert) s = .next (let s1 := allLow (allLow s 1) 2
        { s1 with saf := { s1.saf with srst := true, h := { s1.saf.h with reset := true }, p := { s1.saf.p with reset := true } } })) ∧
  (∀ (s : State) (who : Nat),
      who = 1 ∨ who = 2 →
      (chan s who).on = false →
      exec (.safetyRailReturn who) s = .next (let s1 := setChan s who { chan s who with on := true }
        if s1.saf.srst = true ∨ s1.pwr.porst = true then s1 else safetyStartChan s1 who))

/-- Power: reset pin, sequence, clocks, monitors, supply commands. Derived from 17_power_electrical_package.md. -/
def Obligations.PowerCommands : Prop :=
  (∀ (s : State),
      exec (.porstAssert) s = .next (porstAssert s)) ∧
  (∀ (s : State),
      s.pwr.porst = true →
      exec (.porstRelease) s = .next ({ s with pwr := { s.pwr with porst := false, sequencing := true, step := 0, on := [1, 2, 4, 5] }, cfgs := { phase := .powering }, dev := .reset, saf := { s.saf with halt := false } })) ∧
  (∀ (s : State),
      s.pwr.sequencing = true →
      s.pwr.porst = false →
      s.pwr.step = 0 ∨ s.pwr.pllLocked = true →
      s.pwr.step ≤ 12 →
      exec (.domainPowerStep) s = .next (let s1 := switchOn s (stepDomains s.pwr.step)
        { s1 with pwr := { s1.pwr with step := s.pwr.step + 1 } })) ∧
  (∀ (s : State),
      s.pwr.sequencing = true →
      s.pwr.porst = false →
      s.pwr.pllLocked = true →
      12 < s.pwr.step →
      s.dev = .reset →
      exec (.domainPowerStep) s = .next (let s1 := { s with pwr := { s.pwr with sequencing := false } }
        setRole { powerFor s1 .loading with cfgs := { s1.cfgs with phase := .directory } } .loading)) ∧
  (∀ (s : State),
      domainOn s 3 = true →
      s.tim.running = false →
      exec (.pllLocked) s = .next ({ s with pwr := { s.pwr with pllLocked := true }, tim := { s.tim with running := true, dt := s.tim.rtc / 32768 * 1000000000 * 2 ^ 32, timeValid := false } })) ∧
  (∀ (s : State),
      s.pwr.sequencing = true →
      s.pwr.pllLocked = false →
      exec (.pllLockTimeout) s = .next (let s1 := domainFault s 3
        { s1 with pwr := { s1.pwr with sequencing := true, step := 0 } })) ∧
  (∀ (s : State) (low : Bool) (mv : Nat),
      exec (.powerMonitorTrip 2 low mv) s = .next (porstAssert s)) ∧
  (∀ (s : State) (mv : Nat),
      s.pwr.vbatLow = false →
      s.pwr.porst = false →
      exec (.powerMonitorTrip 1 true mv) s = .next (let s1 := { s with pwr := { s.pwr with vbatMv := mv, vbatOkSince := none, vbatLow := true } }
        report (cnt s1 Reg.PWR_CNT_VBAT_LOW) Ev.PWR_VBAT_LOW noInst mv)) ∧
  (∀ (s : State) (d mv : Nat) (low : Bool),
      s.pwr.porst = false →
      domainOn s d = true →
      d = 4 ∨ d = 5 →
      exec (.powerMonitorTrip d low mv) s = .next (let s1 := allLow s (d - 3)
        setChan s1 (d - 3) { chan s1 (d - 3) with on := false })) ∧
  (∀ (s : State) (d mv : Nat),
      s.pwr.porst = false →
      domainOn s d = true →
      7 ≤ d →
      d ≤ 10 →
      exec (.powerMonitorTrip d true mv) s = .next (report { wr s Reg.PWR_FAULT (putBit (rd s Reg.PWR_FAULT) 15 true) with pwr := { s.pwr with fabLow := true } } Ev.DEV_UNDERVOLT noInst mv)) ∧
  (∀ (s : State) (d mv : Nat) (low : Bool),
      s.pwr.porst = false →
      domainOn s d = true →
      d = 3 ∨ d = 6 ∨ (10 < d ∧ d ≤ 15) ∨ (7 ≤ d ∧ d ≤ 10 ∧ low = false) →
      exec (.powerMonitorTrip d low mv) s = .next (domainFault s d)) ∧
  (∀ (s : State) (mv : Nat),
      2500 ≤ mv →
      exec (.vbatLowEnd mv) s = .next ({ s with pwr := { s.pwr with vbatLow := false, vbatMv := mv } })) ∧
  (∀ (s : State) (mv : Nat),
      s.pwr.cmdBusy = true →
      mv ≤ s.pwr.command + 15 →
      s.pwr.command ≤ mv + 15 →
      s.pwr.alertPending = none →
      exec (.readVoutCheck true mv) s = .next ({ s with pwr := { s.pwr with readback := mv, history := ({ mv := s.pwr.command, back := mv } :: s.pwr.history).take 64, cmdBusy := false, tries := 0, failPeriods := 0 } })) ∧
  (∀ (s : State) (mv : Nat) (s1 : State),
      s.pwr.cmdBusy = true →
      s.pwr.tries < 3 →
      s1 = cnt { s with pwr := { s.pwr with readback := mv, history := ({ mv := s.pwr.command, back := mv } :: s.pwr.history).take 64, tries := s.pwr.tries + 1 } } Reg.PWR_CNT_PMB_FAIL →
      s.pwr.linked = true →
      s.pwr.avsFail = false →
      exec (.readVoutCheck false mv) s = .next (avsSend s1 s.pwr.command)) ∧
  (∀ (s : State) (word : Nat),
      domainOn s 6 = true →
      s.pwr.cmdBusy = true →
      exec (.pmbAlert word) s = .next ({ s with pwr := { s.pwr with alertPending := some word } })) ∧
  (∀ (s : State) (word : Nat),
      domainOn s 6 = true →
      s.pwr.cmdBusy = false →
      exec (.pmbAlert word) s = .next (alertServe s word)) ∧
  (∀ (s : State) (r : Req),
      Allowed s r Reg.PWR_CNT_CLEAR →
      exec (.pwrCntClear r) s = .next (clearRegs s Reg.PWR_CNT_PMB_FAIL Reg.PWR_CNT_VBAT_LOW)) ∧
  (∀ (s : State),
      exec (.aonPowerLost) s = .next (let s1 := porstAssert s
        { s1 with aon := {}, regs := [], red := { sealCounter := s1.red.sealCounter }, saf := { s1.saf with bufOk := false, bufA := [], bufB := [] }, pwr := { porst := true, on := [1], vbatMv := s1.pwr.vbatMv } }))

/-- Starting: directory, tests, memory, body, completion, restart. Derived from 15_configuration_and_start.md. -/
def Obligations.StartSequence : Prop :=
  (∀ (s : State),
      s.dev = .loading →
      s.cfgs.phase = .directory →
      directory s = none →
      exec (.directoryRead) s = .next (haltSafe (recordReport s Ev.CFG_CRC_BAD noInst 0))) ∧
  (∀ (s : State) (d : Bytes) (second : Bool) (slot : Nat),
      s.dev = .loading →
      s.cfgs.phase = .directory →
      directory s = some (d, second) →
      chooseSlot s = some slot →
      exec (.directoryRead) s = .next (let s1 := forgiveTamper (countStart s slot)
        let h := nvmBytes s1 (dirSlot d slot).1 512
        let s2 := { s1 with cfgs := { s1.cfgs with startSlot := slot, startBase := (dirSlot d slot).1, startHeader := h, dirCopy := second, dir := d, phase := .bist, unsigned := decide (s1.vault.lc = 0) } }
        let s3 := if slot ≠ fld s2 Reg.CFG_BOOT_PREF 0 0 then report s2 Ev.CFG_START_FALLBACK noInst slot else s2
        match headerFault s3 h slot with
        | 0 => s3
        | 2 => report s3 Ev.CFG_SIG_BAD noInst slot
        | _ => report s3 Ev.CFG_CRC_BAD noInst slot)) ∧
  (∀ (s : State),
      s.dev = .loading →
      s.cfgs.phase = .bist →
      exec (.sramBistDone [] false) s = .next ({ s with aon := { s.aon with bistRtc := some (s.tim.rtc / 32768) }, cfgs := { s.cfgs with phase := .body } })) ∧
  (∀ (s : State) (banks : List Nat),
      s.dev = .loading →
      s.cfgs.phase = .bist →
      exec (.sramBistDone banks true) s = .next (failStart s)) ∧
  (∀ (s : State) (ok : Bool),
      s.dev = .loading →
      exec (.dramTrained ok) s = .next (if ok then { s with cfgs := { s.cfgs with dramReady := true } } else failStart s)) ∧
  (∀ (s : State) (vout fw : Nat) (image : Bytes),
      s.dev = .loading →
      s.cfgs.phase = .body →
      s.cfgs.dramReady = true →
      image = s.cfgs.startHeader ++ nvmBytes s (s.cfgs.startBase + 0x200) (leAt s.cfgs.startHeader 24 4) →
      exec (.bodyReadDone vout fw) s = .next (match imageFault s image false with
        | some code =>
          let s1 := report s code noInst 0
          if s1.dev = .loading then failStart s1 else s1
        | none =>
          let s1 := startGeneration (takeImage (clearPath s) image) (genAfter s.aon.lastGen)
          let s2 := initRuntime (startSends (keyUnseal (avsStart (avsLink { s1 with stw := { s1.stw with state := 1, fwVersion := fw } } vout))))
          setRole (powerFor { s2 with cfgs := { s2.cfgs with phase := .running, startAt := now s2 } } .starting) .starting)) ∧
  (∀ (s : State),
      s.dev = .starting →
      majority s = true →
      exec (.startComplete) s = .next (becomeActive (startDone s))) ∧
  (∀ (s : State),
      s.dev = .starting →
      majority s = false →
      leaseWait s * msUnits ≤ since s s.cfgs.startAt →
      exec (.startComplete) s = .next (becomeStandby (startDone s))) ∧
  (∀ (s : State) (t : Nat),
      s.cfgs.completeAt = some t →
      s.cfgs.settled = false →
      10 * secUnits ≤ since s t →
      s.aon.countedKind = 4 →
      exec (.startSettled) s = .next ({ s with aon := { s.aon with warm := 0, countedKind := 0 }, cfgs := { s.cfgs with settled := true } })) ∧
  (∀ (s : State) (r : Req),
      Allowed s r Reg.CFG_START_CMD →
      exec (.startClearCounters r) s = .next (clearStarts s)) ∧
  (∀ (s : State) (r : Req),
      Allowed s r Reg.CFG_START_CMD →
      exec (.startRestart r) s = .next (commandedRestart s)) ∧
  (∀ (s : State) (r : Req),
      Allowed s r Reg.CFG_START_CMD →
      exec (.startClearAndRestart r) s = .next (commandedRestart (clearStarts s))) ∧
  (∀ (s : State) (r : Req),
      Allowed s r Reg.CFG_SEC_CMD →
      exec (.secverRaise r 0x53560001#32) s = .next (clearImageRecord { s with secver := max s.secver (min 32 (rd s Reg.CFG_IMAGE_SECVER).toNat) })) ∧
  (∀ (s : State) (r : Req) (value : Word),
      Allowed s r Reg.CFG_SEC_CMD →
      value.toNat ≠ 0x53560001 →
      exec (.secverRaise r value) s = .next (s)) ∧
  (∀ (s : State),
      s.dev = .standbyCold →
      s.aon.bistRtc = none →
      s.pwr.sequencing = false →
      exec (.standbyBistStart) s = .next (let s1 := switchOn s [7, 8, 9, 10, 11, 6, 12]
        { s1 with stw := { s1.stw with state := 1 } })) ∧
  (∀ (s : State),
      s.dev = .standbyCold →
      s.pwr.on.contains 10 = true →
      s.pwr.sequencing = false →
      s.red.taking = none →
      exec (.standbyBistDone) s = .next (let s1 := powerFor s .standbyCold
        { s1 with aon := { s1.aon with bistRtc := some (s1.tim.rtc / 32768) }, stw := { s1.stw with state := 2 } }))

/-- Shadows, validation, swaps and merge. Derived from 15_configuration_and_start.md. -/
def Obligations.ConfigurationCommands : Prop :=
  (∀ (s : State) (r : Req) (fetched : Option Bytes) (g : CfgRun),
      Allowed s r Reg.CFG_STAGE_CMD →
      s.cfgs.run = some g →
      exec (.stageDelta r fetched) s = .next (cfgEnd s r 1 1 0)) ∧
  (∀ (s : State) (r : Req) (d : Bytes),
      Allowed s r Reg.CFG_STAGE_CMD →
      s.cfgs.run = none →
      d.length = (rd s Reg.CFG_STAGE_LEN).toNat →
      exec (.stageDelta r (some d)) s = .next (match readDelta d with
        | none => cfgBegin s r 1 3 0 none
        | some rs => match stageAll s (ownerOf r) rs with
          | .ok s1 => cfgBegin s1 r 1 0 0 none
          | .error e => cfgBegin s r 1 e.1 e.2 none)) ∧
  (∀ (s : State) (r : Req),
      Allowed s r Reg.CFG_STAGE_CMD →
      s.cfgs.run = none →
      exec (.stageDelta r none) s = .next (cfgBegin s r 1 6 0 none)) ∧
  (∀ (s : State) (r : Req),
      Allowed s r Reg.CFG_STAGE_CMD →
      s.cfgs.run = none →
      ownedBy s (ownerOf r) = [] →
      exec (.validateShadows r) s = .next (cfgEnd s r 2 7 0)) ∧
  (∀ (s : State) (r : Req),
      Allowed s r Reg.CFG_STAGE_CMD →
      s.cfgs.run = none →
      ownedBy s (ownerOf r) ≠ [] →
      exec (.validateShadows r) s = .next (beginValidate s r 2 (ownerOf r) none)) ∧
  (∀ (s : State) (r : Req),
      Allowed s r Reg.CFG_STAGE_CMD →
      exec (.discardShadows r) s = .next (setShadows s ((ownedBy s (ownerOf r)).filter (fun i => decide ((shadow s i).state ≠ 2))) (fun _ => default))) ∧
  (∀ (s : State),
      s.cfgs.run = none →
      exec (.cfgCmdDone) s = .next (s)) ∧
  (∀ (s : State) (g : CfgRun),
      s.cfgs.run = some g →
      exec (.cfgCmdDone) s = .next (if g.by_ < 6 then raise (cfgFinish s g) (g.by_ / 2) true 9 else cfgFinish s g)) ∧
  (∀ (s : State) (r : Req),
      Allowed s r Reg.CFG_SWAP_CMD →
      (maskRegions (fld s Reg.CFG_SWAP_MASK 16 0)).find? (forbidden s) = none →
      swapLate s (swapQReg s) = false →
      exec (.swapGlobal r) s = .next (cfgEnd { s with cfgs := { s.cfgs with swaps := s.cfgs.swaps ++ [{ mask := fld s Reg.CFG_SWAP_MASK 16 0, q := swapQReg s, profile := none }] } } r 3 0 0)) ∧
  (∀ (s : State) (r : Req),
      Allowed s r Reg.CFG_SWAP_CMD →
      (maskRegions (fld s Reg.CFG_SWAP_MASK 16 0)).find? (forbidden s) = none →
      swapLate s (swapQReg s) = true →
      exec (.swapGlobal r) s = .next (cfgEnd (swapReject s) r 3 4 0)) ∧
  (∀ (s : State) (r : Req),
      Allowed s r Reg.CFG_SWAP_CMD →
      (maskRegions (fld s Reg.CFG_SWAP_MASK 16 0)).find? (forbidden s) = none →
      exec (.swapPerRegion r) s = .next (cfgEnd (setShadows s (maskRegions (fld s Reg.CFG_SWAP_MASK 16 0)) (fun x => { x with pending := true, perRegion := true, swapQ := swapQReg s })) r 3 0 0)) ∧
  (∀ (s : State) (r : Req) (i : Nat),
      Allowed s r Reg.CFG_SWAP_CMD →
      (maskRegions (fld s Reg.CFG_SWAP_MASK 16 0)).find? (forbidden s) = some i →
      exec (.swapPerRegion r) s = .next (cfgEnd (swapReject s) r 3 5 i)) ∧
  (∀ (s : State) (r : Req),
      Allowed s r Reg.CFG_SWAP_CMD →
      exec (.swapCancel r) s = .next (let s1 := setShadows s ((tkeys s.cfgs.shadows).filter (fun i => decide ((shadow s i).owner ≠ 5))) (fun x => { x with pending := false, perRegion := false, swapQ := 0 })
        cfgEnd { s1 with cfgs := { s1.cfgs with swaps := [] } } r 3 0 0)) ∧
  (∀ (s : State) (r : Req) (n : Nat),
      Allowed s r Reg.CFG_PROFILE_CMD →
      s.cfgs.run = none →
      profileRec s (n % 8) = none →
      exec (.profileStageSwap r n) s = .next (cfgEnd s r 4 3 0)) ∧
  (∀ (s : State) (r : Req) (n : Nat),
      Allowed s r Reg.CFG_PROFILE_CMD →
      s.cfgs.run = none →
      exec (.profileStageSwap r n) s = .next (match profileRec s (n % 8) with
        | none => cfgEnd s r 4 3 0
        | some p => match readDelta (slice s.cfgs.image (leAt p 4 4) (leAt p 8 4)) with
          | none => cfgEnd s r 4 3 0
          | some rs => match stageAll s 1 rs with
            | .error e => cfgBegin s r 4 e.1 e.2 none
            | .ok s1 => match (maskRegions (leAt p 24 4)).find? (forbidden s1) with
              | some i => cfgEnd (swapReject (setShadows s1 (ownedBy s1 1) (fun _ => default))) r 4 5 i
              | none => beginValidate s1 r 4 1 (some { mask := leAt p 24 4, q := swapQReg s, profile := some (n % 8) }))) ∧
  (∀ (s : State),
      mergeFront s = none →
      exec (.mergeStart) s = .next (s)) ∧
  (∀ (s : State) (b : Nat),
      mergeFront s = some b →
      s.cfgs.mergeBegun = false →
      b + 2 ≤ s.tim.boundaries →
      exec (.mergeStart) s = .next ({ s with prev := s.prev.filter (fun e => decide (b < e.since)), cfgs := { s.cfgs with mergeBegun := true } })) ∧
  (∀ (s : State) (b : Nat),
      mergeFront s = some b →
      s.cfgs.mergeBegun = true →
      exec (.mergeDone) s = .next (let s1 := setShadows s ((List.range 17).filter (fun i => decide ((shadow s i).state = 4 ∧ (shadow s i).mergeSince = b))) (fun _ => default)
        { s1 with cfgs := { s1.cfgs with mergeBegun := false } })) ∧
  (∀ (s : State) (r : Req),
      Allowed s r Reg.CFG_CNT_CLEAR →
      exec (.cfgCntClear r) s = .next (clearRegs s Reg.CFG_CNT_SWAP Reg.CFG_CNT_INVALID))

/-- Live repair and the flash. Derived from 15_configuration_and_start.md. -/
def Obligations.RepairCommands : Prop :=
  (∀ (s : State) (r : Req) (p : Nat),
      Allowed s r Reg.CFG_REPAIR_CMD →
      104 < p →
      exec (.repairPortOut r p) s = .next (cfgEnd s r 5 3 0)) ∧
  (∀ (s : State) (r : Req) (p : Nat),
      Allowed s r Reg.CFG_REPAIR_CMD →
      p ≤ 104 →
      exec (.repairPortOut r p) s = .next (cfgEnd (portOut s p) r 5 0 0)) ∧
  (∀ (s : State) (r : Req) (p : Nat),
      Allowed s r Reg.CFG_REPAIR_CMD →
      p ≤ 104 →
      exec (.repairPortReturn r p) s = .next (cfgEnd (portReturn s p) r 5 0 0)) ∧
  (∀ (s : State) (r : Req) (p : Nat),
      Allowed s r Reg.CFG_REPAIR_CMD →
      p ≤ 15 →
      exec (.repairPartitionOut r p) s = .next (cfgEnd (partitionOut s p) r 5 0 0)) ∧
  (∀ (s : State) (r : Req) (p : Nat),
      Allowed s r Reg.CFG_REPAIR_CMD →
      p ≤ 15 →
      exec (.repairPartitionReturn r p) s = .next (cfgEnd (partitionReturn s p) r 5 0 0)) ∧
  (∀ (s : State) (r : Req) (e : Nat),
      Allowed s r Reg.CFG_REPAIR_CMD →
      e ≤ 15 →
      exec (.repairMapEngineOut r e) s = .next (cfgEnd (engineOut s e) r 5 0 0)) ∧
  (∀ (s : State) (r : Req) (e : Nat),
      Allowed s r Reg.CFG_REPAIR_CMD →
      e ≤ 15 →
      exec (.repairMapEngineReturn r e) s = .next (cfgEnd (engineBack s e) r 5 0 0)) ∧
  (∀ (s : State) (r : Req) (e : Nat),
      Allowed s r Reg.CFG_REPAIR_CMD →
      e ≤ 4 →
      clsEngine s e ≠ 1 →
      exec (.repairClassifierOut r e) s = .next (cfgEnd (setCls s e 3) r 5 0 0)) ∧
  (∀ (s : State) (r : Req) (e : Nat),
      Allowed s r Reg.CFG_REPAIR_CMD →
      e ≤ 4 →
      clsEngine s e = 3 ∨ clsEngine s e = 4 →
      exec (.repairClassifierReturn r e) s = .next (cfgEnd { s with stb := { s.stb with returning := e :: s.stb.returning } } r 5 0 0)) ∧
  (∀ (s : State) (r : Req),
      Allowed s r Reg.CFG_REPAIR_CMD →
      s.cfgs.bankSpare ≤ 16 →
      s.cfgs.bankCopy = none →
      exec (.repairBankOut r s.cfgs.bankSpare) s = .next (cfgEnd { s with cfgs := { s.cfgs with bankSpare := 31 } } r 5 0 0)) ∧
  (∀ (s : State) (r : Req) (b : Nat),
      Allowed s r Reg.CFG_REPAIR_CMD →
      b ≤ 16 →
      s.cfgs.bankSpare ≤ 16 →
      s.cfgs.bankCopy = none →
      b ≠ s.cfgs.bankSpare →
      s.cfgs.bankServing.testBit b = true →
      exec (.repairBankOut r b) s = .next (cfgEnd { s with cfgs := { s.cfgs with bankCopy := some (b, s.cfgs.bankSpare), bankCopyRepair := true } } r 5 0 0)) ∧
  (∀ (s : State) (r : Req) (b : Nat),
      Allowed s r Reg.CFG_REPAIR_CMD →
      b ≤ 16 →
      s.cfgs.bankServing.testBit b = false →
      s.cfgs.bankSpare ≠ b →
      exec (.repairBankReturn r b) s = .next (cfgEnd { s with cfgs := { s.cfgs with bankReturning := some b } } r 5 0 0)) ∧
  (∀ (s : State) (a b : Nat),
      s.cfgs.bankCopy = some (a, b) →
      exec (.bankRemapDone) s = .next (let s1 := bankMove s a b
        { s1 with cfgs := { s1.cfgs with bankCopy := none, bankSpare := if s1.cfgs.bankCopyRepair then 31 else a, bankCopyRepair := false } })) ∧
  (∀ (s : State) (r : Req) (n : Nat),
      Allowed s r Reg.CFG_REPAIR_CMD →
      1 ≤ n →
      n ≤ 8191 →
      ndUsed s n = true →
      r ≠ .steward →
      exec (.repairSubtreeOut r n) s = .next (cfgEnd (nodeOut s n) r 5 0 0)) ∧
  (∀ (s : State) (r : Req) (n : Nat),
      Allowed s r Reg.CFG_REPAIR_CMD →
      1 ≤ n →
      n ≤ 8191 →
      ndUsed s n = true →
      r ≠ .steward →
      exec (.repairSubtreeReturn r n) s = .next (cfgEnd (nodeReturn s n) r 5 0 0)) ∧
  (∀ (s : State) (r : Req),
      Allowed s r Reg.CFG_NVM_CMD →
      s.cfgs.nvmRun = none →
      0 < 1 →
      (rd s Reg.CFG_NVM_ADDR).toNat / 0x10000 * 0x10000 + 0x10000 ≤ 2 ^ 32 →
      nvmProtected s ((rd s Reg.CFG_NVM_ADDR).toNat / 0x10000 * 0x10000) (0x10000) = false →
      exec (.nvmErase r) s = .next (let s1 := nvmTouch s ((rd s Reg.CFG_NVM_ADDR).toNat / 0x10000 * 0x10000) (0x10000)
        { s1 with cfgs := { s1.cfgs with nvmState := 1, nvmReason := 0, nvmRun := some { op := .erase, addr := (rd s Reg.CFG_NVM_ADDR).toNat / 0x10000 * 0x10000, by_ := reqKey r } } })) ∧
  (∀ (s : State) (r : Req) (data : Bytes),
      Allowed s r Reg.CFG_NVM_CMD →
      s.cfgs.nvmRun = none →
      nvmLen data.length ≠ 0 →
      (rd s Reg.CFG_NVM_ADDR).toNat + nvmLen data.length ≤ 2 ^ 32 →
      nvmProtected s ((rd s Reg.CFG_NVM_ADDR).toNat) (nvmLen data.length) = false →
      exec (.nvmProgram r data) s = .next (let s1 := nvmTouch s ((rd s Reg.CFG_NVM_ADDR).toNat) (nvmLen data.length)
        { s1 with cfgs := { s1.cfgs with nvmState := 1, nvmReason := 0, nvmRun := some { op := .program data, addr := (rd s Reg.CFG_NVM_ADDR).toNat, by_ := reqKey r } } })) ∧
  (∀ (s : State) (r : Req) (len : Nat),
      Allowed s r Reg.CFG_NVM_CMD →
      s.cfgs.nvmRun = none →
      nvmLen len ≠ 0 →
      (rd s Reg.CFG_NVM_ADDR).toNat + nvmLen len ≤ 2 ^ 32 →
      nvmProtected s ((rd s Reg.CFG_NVM_ADDR).toNat) (nvmLen len) = false →
      exec (.nvmRead r len) s = .next (let s1 := s
        { s1 with cfgs := { s1.cfgs with nvmState := 1, nvmReason := 0, nvmRun := some { op := .read len (addr64 s Reg.CFG_NVM_SRC_LO Reg.CFG_NVM_SRC_HI), addr := (rd s Reg.CFG_NVM_ADDR).toNat, by_ := reqKey r } } })) ∧
  (∀ (s : State) (ok : Bool) (g : NvmRun),
      s.cfgs.nvmRun = some g →
      exec (.nvmOpDone ok) s = .next (let s1 := { s with cfgs := { s.cfgs with nvmRun := none } }
        if ok then nvmEnd (nvmApply s1 g) g.by_ 0 else nvmEnd (nvmBroken s1 g) g.by_ 3))

/-- Diagnosis: the error journal, snapshot, temperature, watchdogs. Derived from 16_diagnostics_and_survey.md. -/
def Obligations.DiagnosticRecords : Prop :=
  (∀ (s : State) (q d : Nat),
      queueDomain q = some d →
      domainOn s d = true →
      exec (.watchdogExpiry q false) s = .next (stall s q)) ∧
  (∀ (s : State) (q d : Nat),
      queueDomain q = some d →
      domainOn s d = true →
      exec (.watchdogExpiry q true) s = .next (spareFails s false q)) ∧
  (∀ (s : State) (e : ErrRec) (rest : List ErrRec) (place : Nat) (d : Dgn),
      s.dgn.intake = e :: rest →
      e.sev < 2 →
      recordPlace { s with dgn := { s.dgn with intake := rest, folding := s.dgn.folding && decide (rest.length > 16) } } e.sev = some (place, d) →
      exec (.errorRecordWrite) s = .next (let x := { e with seq := d.nextSeq, stamp := if e.loss then now s else e.stamp }
        { s with dgn := { d with store := tset d.store place x, nextSeq := d.nextSeq + 1 } })) ∧
  (∀ (s : State) (e : ErrRec) (rest : List ErrRec) (place : Nat) (d : Dgn),
      s.dgn.intake = e :: rest →
      3 ≤ e.sev →
      recordPlace { s with dgn := { s.dgn with intake := rest, folding := s.dgn.folding && decide (rest.length > 16) } } e.sev = some (place, d) →
      exec (.errorRecordWrite) s = .next (let x := { e with seq := d.nextSeq, stamp := if e.loss then now s else e.stamp }
        (List.range 3).foldl (fun s k => raiseMod s k false 10 100) (raiseAll { s with dgn := { d with store := tset d.store place x, nextSeq := d.nextSeq + 1, lastSfCode := e.code, lastSfSev := e.sev, lastSfSeq := d.nextSeq } } true 8))) ∧
  (∀ (s : State) (r : Req),
      Allowed s r Reg.DGN_EJ_CMD →
      exec (.ejClearRecords r) s = .next (clearRecords s)) ∧
  (∀ (s : State) (r : Req),
      Allowed s r Reg.DGN_EJ_CMD →
      exec (.ejClearSources r) s = .next (clearSources s)) ∧
  (∀ (s : State) (r : Req),
      Allowed s r Reg.DGN_EJ_CMD →
      exec (.ejClearBoth r) s = .next (clearSources (clearRecords s))) ∧
  (∀ (s : State) (r : Req),
      Allowed s r Reg.DGN_CLEAR_ALL →
      exec (.clearAll r 0x434C0001#32) s = .next ({ s with dgn := { s.dgn with clearAllPending := true } })) ∧
  (∀ (s : State) (r : Req) (block : Nat),
      Allowed s r Reg.DGN_SNAP_CMD →
      block % 32 ≠ 0 →
      s.dgn.snapState ≠ 1 →
      s.dgn.snapPending = false →
      exec (.snapshotCmd r block) s = .next ({ s with dgn := { s.dgn with snapBlock := block % 32, snapPending := true, snapBusy := false } })) ∧
  (∀ (s : State) (r : Req) (block : Nat),
      Allowed s r Reg.DGN_SNAP_CMD →
      block % 32 ≠ 0 →
      s.dgn.snapState = 1 ∨ s.dgn.snapPending = true →
      exec (.snapshotCmd r block) s = .next ({ s with dgn := { s.dgn with snapBusy := true } })) ∧
  (∀ (s : State),
      s.dgn.snapState = 1 →
      exec (.snapshotDone false) s = .next (raiseAll { s with dgn := { s.dgn with snapState := 2 } } false 13)) ∧
  (∀ (s : State),
      s.dgn.snapState = 1 →
      exec (.snapshotDone true) s = .next (raiseAll (cnt { s with dgn := { s.dgn with snapState := 3, snapRegs := [] } } Reg.DGN_CNT_SNAP_ABANDON) false 13)) ∧
  (∀ (s : State) (c : Int),
      c ≤ 120 →
      s.dgn.overTemp = false →
      exec (.tempSample [c]) s = .next ({ s with dgn := { s.dgn with tempNow := c, tempMax := max s.dgn.tempMax c, coolSince := some (s.dgn.coolSince.getD (now s)) } })) ∧
  (∀ (s : State) (c : Int),
      125 < c →
      s.dgn.overTemp = false →
      exec (.tempSample [c]) s = .next (report { s with dgn := { s.dgn with tempNow := c, tempMax := max s.dgn.tempMax c, coolSince := none, overTemp := true } } Ev.DEV_OVERTEMP noInst c.natAbs)) ∧
  (∀ (s : State) (r : Req),
      Allowed s r Reg.DGN_CNT_CLEAR →
      exec (.dgnCntClear r) s = .next ({ clearRegs s Reg.DGN_CNT_FOLDED Reg.DGN_CNT_SNAP_ABANDON with dgn := { s.dgn with tempMax := s.dgn.tempNow } })) ∧
  (∀ (s : State),
      s.stw.state ≠ 0 →
      s.stw.state ≠ 3 →
      exec (.stewardWatchdogExpiry) s = .next (report { s with stw := { s.stw with state := 3 } } Ev.STW_WATCHDOG noInst 0)) ∧
  (∀ (s : State),
      s.stw.state ≠ 0 →
      s.stw.state ≠ 3 →
      exec (.stewardLockstepFault) s = .next (report { s with stw := { s.stw with state := 3 } } Ev.STW_LOCKSTEP noInst 0))

/-- Self-tests, spare rotation and memory scrubbing. Derived from 16_diagnostics_and_survey.md. -/
def Obligations.SelfTestsAndScrub : Prop :=
  (∀ (s : State) (r : Req) (target element : Nat),
      Allowed s r Reg.DGN_ST_CMD →
      target ≤ 6 →
      exec (.selftestRequest r target element true) s = .next ({ s with dgn := { s.dgn with tests := tmod s.dgn.tests (testKey target element) (fun x => if x.state = 1 then x else { x with state := 1, progress := 0 }) } })) ∧
  (∀ (s : State) (target element ns progress : Nat) (s1 : State),
      ns ≤ 2000 →
      target ≤ 6 →
      nodePay s (fld s Reg.DGN_ST_NODE 12 0) ns = some s1 →
      exec (.selftestSlice target element ns progress) s = .next ({ s1 with dgn := { s1.dgn with tests := tmod s1.dgn.tests (testKey target element) (fun x => { x with state := 1, progress := progress % 256 }) } })) ∧
  (∀ (s : State) (target element : Nat) (pass : Bool),
      target ≤ 6 →
      exec (.selftestPassComplete target element pass) s = .next (let s1 := { s with dgn := { s.dgn with tests := tmod s.dgn.tests (testKey target element) (fun x => { x with state := if pass then 2 else 3, progress := 0, passes := satAdd (2 ^ 22 - 1) x.passes (b2n pass), last := now s }) } }
        let s2 := ownResult (cnt s1 (if pass then Reg.DGN_CNT_ST_PASS else Reg.DGN_CNT_ST_FAIL)) (!pass)
        if pass then testPassed s2 target element else testFailed s2 target element)) ∧
  (∀ (s : State) (b : Nat),
      s.cfgs.bankSpare ≤ 16 →
      (tget s.dgn.tests (testKey 1 s.cfgs.bankSpare)).state = 2 →
      s.cfgs.bankCopy = none →
      s.cfgs.bankReturning = none →
      nextServing (fun b => s.cfgs.bankServing.testBit b) 17 s.cfgs.bankSpare = some b →
      exec (.spareRotation true) s = .next (testAnew { s with cfgs := { s.cfgs with bankCopy := some (b, s.cfgs.bankSpare), bankCopyRepair := false } } 1 b)) ∧
  (∀ (s : State) (e : Nat),
      clsEngine s s.stb.spare = 2 →
      (tget s.dgn.tests (testKey 0 s.stb.spare)).state = 2 →
      s.stb.returning = [] →
      nextServing (fun e => decide (clsEngine s e = 1)) 5 s.stb.spare = some e →
      exec (.spareRotation false) s = .next (let s1 := setCls (takePosition s e s.stb.spare) e 2
        testAnew { s1 with stb := { s1.stb with spare := e } } 0 e)) ∧
  (∀ (s : State) (dram : Bool),
      exec (.scrubLine .clean dram false) s = .next (s)) ∧
  (∀ (s : State),
      exec (.scrubLine .clean true true) s = .next ({ s with dgn := { s.dgn with dramPasses := (s.dgn.dramPasses + 1) % 65536 } })) ∧
  (∀ (s : State) (dram : Bool),
      exec (.scrubLine .corrected dram false) s = .next (cnt (report s Ev.DGN_ECC_CORRECTED noInst 0) Reg.DGN_CNT_ECC_CORR)) ∧
  (∀ (s : State) (dram bank : Bool),
      exec (.scrubLine (.spare bank) dram false) s = .next (spareFails s bank 0)) ∧
  (∀ (s : State) (dram : Bool) (place : Nat),
      exec (.scrubLine (.journalBlock place) dram false) s = .next (cnt { s with jrn := { s.jrn with area := tmod s.jrn.area place (fun b => b.map (fun x => { x with bad := true })) } } Reg.DGN_CNT_ECC_JOURNAL)) ∧
  (∀ (s : State) (dram : Bool) (id : Nat),
      exec (.scrubLine (.overflowSlot id) dram false) s = .next (cnt { s with stb := { s.stb with streams := tmod s.stb.streams id (fun x => { x with lvState := 3 }) } } Reg.DGN_CNT_ECC_JOURNAL)) ∧
  (∀ (s : State) (dram : Bool),
      exec (.scrubLine .peatStaging dram false) s = .next ({ s with red := { s.red with staging := [] } })) ∧
  (∀ (s : State) (dram : Bool),
      exec (.scrubLine .elsewhere dram false) s = .next (cnt (report s Ev.DGN_ECC_FATAL noInst 0) Reg.DGN_CNT_ECC_FATAL))

/-- Register writes and reads, the MSI-X table, moderation. Derived from 18_register_index.md. -/
def Obligations.RegisterAccess : Prop :=
  (∀ (s : State) (r : Req) (off width value c : Nat),
      off < 2 ^ 24 →
      inMsix off = false →
      discardCause s r off width = some c →
      exec (.registerWrite r off width value) s = .next (discard s r off c)) ∧
  (∀ (s : State) (r : Req) (off width value : Nat) (a : Acc),
      off < 2 ^ 24 →
      inMsix off = false →
      discardCause s r off width = none →
      accOf off = some a →
      a.world ≠ .m →
      exec (.registerWrite r off width value) s = .next (setFields s a off (allowedMask r a &&& (allBits - ownFields off)) value)) ∧
  (∀ (s : State) (r : Req) (off width value : Nat) (a : Acc),
      off < 2 ^ 24 →
      inMsix off = false →
      discardCause s r off width = none →
      accOf off = some a →
      a.world = .m →
      (fld s Reg.TIM_CTRL 0 0 = 1 ↔ r = .steward) →
      exec (.registerWrite r off width value) s = .next (setFields s a off (allowedMask r a &&& (allBits - ownFields off)) value)) ∧
  (∀ (s : State) (lane : Nat) (guard : Bool) (v i value : Nat),
      v < 64 →
      i < 4 →
      exec (.registerWrite (.fn lane guard) (0xF00000 + 16 * v + 4 * i) 32 value) s = .next (putMsix s lane guard v i (BitVec.ofNat 32 value))) ∧
  (∀ (s : State) (lane vec : Nat) (guard : Bool),
      vec < 64 →
      exec (.msixUnmask (.fn lane guard) vec) s = .next (putMsix s lane guard vec 3 0#32)) ∧
  (∀ (s : State) (r : Req) (off : Nat),
      off < 2 ^ 24 →
      off % 4 = 0 →
      off < 0xE0000 →
      latches s off = [] →
      exec (.latchingRead r off 32) s = .next (emit s (.readData r off (BitVec.ofNat 32 (readReg s r off))))) ∧
  (∀ (s : State) (r : Req),
      domainOn s (domainOf Reg.TIM_NOW_LO) = true →
      exec (.latchingRead r Reg.TIM_NOW_LO 32) s = .next (let s1 := latchHalf s r Reg.TIM_NOW_HI (hi32 (now s))
        emit s1 (.readData r Reg.TIM_NOW_LO (BitVec.ofNat 32 (readReg s r Reg.TIM_NOW_LO))))) ∧
  (∀ (s : State) (r : Req) (off : Nat),
      off < 2 ^ 24 →
      off % 4 ≠ 0 →
      exec (.latchingRead r off 32) s = .next (emit s (.readData r off 0#32))) ∧
  (∀ (s : State) (k vec : Nat) (guard : Bool),
      k ≤ 2 →
      vec ≤ 63 →
      vec ≠ 0 →
      vec ≠ 3 →
      (tget s.moder (vecKey k guard vec)).running = true →
      (tget s.moder (vecKey k guard vec)).until_ ≤ now s →
      exec (.moderationIntervalExpiry k guard vec) s = .next (let s1 := { s with moder := tset s.moder (vecKey k guard vec) default }
        if (tget s.moder (vecKey k guard vec)).due then raiseMod s1 k guard vec (modInterval s1 k guard vec) else s1))

/-- A step takes the command at the front of the queue and executes it on the rest. Derived from 00_scope.md. -/
def Obligations.StepRunsFrontCommand : Prop :=
  ∀ (c : Instr) (rest : List Instr) (s : State),
    step { s with pending := c :: rest } = exec c { s with pending := rest }

/-- A step with no command waiting is one tick of 2 ns. Derived from 10_time_unit.md, 12_unit_pair.md. -/
def Obligations.IdleStep : Prop :=
  ∀ s : State, s.pending = [] →
    ∃ t, step s = .next t ∧ t.pending = [] ∧ t.red = { s.red with leaseTimer := s.red.leaseTimer + 1 } ∧
      (s.tim.running = false → t.tim.dt = s.tim.dt) ∧
      (s.tim.running = true → t.tim.dt = (Int.ofNat (s.tim.dt + increment s) + slewPart s).toNat ∧ t.tim.slew = s.tim.slew - slewPart s) ∧
      t.regs = s.regs ∧ t.out = s.out ∧ t.dev = s.dev

/-- The state after reset: every register at its reset value, nothing running. Derived from 18_register_index.md,
17_power_electrical_package.md. -/
def Obligations.ResetState : Prop :=
  (∀ off, rd State.reset off = Reg.resetOf off) ∧ State.reset.dev = .reset ∧ State.reset.pwr.porst = true ∧ State.reset.red.gate = false ∧
    (∀ n, (tget State.reset.saf.h.outs n).drive = false ∧ (tget State.reset.saf.p.outs n).drive = false) ∧
    State.reset.pending = [] ∧ State.reset.out = [] ∧ (∀ a, nvmByte State.reset a = 0xFF#8)

/-- After reset every table of words is in canonical form. Derived from 18_register_index.md. -/
def Obligations.ResetIsCanonical : Prop :=
  Canonical State.reset

/-- Every step keeps every table of words in canonical form. Derived from 18_register_index.md, 15_configuration_and_start.md. -/
def Obligations.StepKeepsCanonical : Prop :=
  ∀ s t : State, Canonical s → step s = .next t → Canonical t

/-- No step takes back what has left the block, a free value, or the security version. Derived from 15_configuration_and_start.md,
00_scope.md. -/
def Obligations.StepGoesOnward : Prop :=
  ∀ s t : State, step s = .next t →
    t.pending = s.pending.tail ∧ s.out <:+ t.out ∧ s.free ≤ t.free ∧ s.secver ≤ t.secver

/-- Every run goes on, and a queue of n commands is empty after n steps. Derived from 00_scope.md. -/
def Obligations.QueueDrains : Prop :=
  (∀ (n : Nat) (s : State), SafeRun n s) ∧
    (∀ s : State, ∃ t, core.run s.pending.length s = .next t ∧ t.pending = [])

/-- A masked vector that falls due any number of times sends one message when it is unmasked. Derived from 18_register_index.md. -/
def Obligations.MaskedVectorSendsOneMessage : Prop :=
  ∀ (s : State) (lane vec n : Nat) (guard : Bool), Canonical s → vec < 64 → bit (msixWord s lane guard vec 3) 0 = true →
    (∀ t, (List.range (n + 1)).foldl (fun s _ => raise s lane guard vec) s = t →
      t.out = s.out ∧ tget t.pba (vecKey lane guard vec) = true ∧
      Gives (.msixUnmask (.fn lane guard) vec) t (fun u => u.out = .msix lane guard vec :: s.out ∧ tget u.pba (vecKey lane guard vec) = false)) ∧
    (tget s.pba (vecKey lane guard vec) = false →
      Gives (.msixUnmask (.fn lane guard) vec) s (fun u => u.out = s.out ∧ (raise u lane guard vec).out = .msix lane guard vec :: s.out))

/-- The registers of a lane block take writes only through their lane's endpoint. States R241. -/
def Obligations.LaneRegistersThroughTheirEndpoint : Prop :=
  ∀ (s : State) (k lane : Nat) (guard : Bool) (off : Nat), k < 3 → Reg.LNI_CTRL k ≤ off → off ≤ Reg.LNI_CNT_TAIL_BAD k →
    (lane ≠ k → ∀ (width value : Nat) (on ring1 : Bool) (v : Word) (i : Instr),
      i ∈ [.registerWrite (.fn lane guard) off width value, .laneDeliveryEnable (.fn lane guard) k, .laneDeliveryDisable (.fn lane guard) k, .rxTailWrite (.fn lane guard) k v, .tx0EnableWrite (.fn lane guard) k on,
        .tx1EnableWrite (.fn lane guard) k on, .txTailWrite (.fn lane guard) k ring1 v] →
      Gives i s (fun t => t = s ∨ ∃ o c, t = discard s (.fn lane guard) o c)) ∧
    (∀ (lane2 : Nat) (guard2 : Bool), off % 4 = 0 → ∃ v,
      exec (.latchingRead (.fn lane guard) off 32) s = .next (emit s (.readData (.fn lane guard) off v)) ∧
      exec (.latchingRead (.fn lane2 guard2) off 32) s = .next (emit s (.readData (.fn lane2 guard2) off v)))

/-- A witness or a heartbeat of a higher epoch makes an active unit lose the lease at once. States R379. -/
def Obligations.HigherEpochClosesTheGate : Prop :=
  (∀ (s : State) (k e : Nat), k < 3 → s.dev = .active → e = (rd s (Reg.RED_GRANT_EPOCH k)).toNat → s.red.epoch < e →
      let s1 := setGrant s k { grant s k with heard := some s.red.leaseTimer }
      let s2 := seeEpoch (setGrant s1 k { grant s1 k with witness := some (now s) }) e
      let t := relinquish (leaseVector (leaseVector (leaseVector (report (cnt s2 Reg.RED_CNT_LEASE_LOST) Ev.RED_LEASE_LOST noInst 0) 0) 1) 2) false
      exec (.leaseWitness (.fn k true) k) s = .next t ∧ t.dev = .relinquishing ∧ gateOpen t = false) ∧
    (∀ (s : State) (h : IuHead) (tx rx : Nat), s.dev = .active → h.path ≤ 1 → s.red.rxSeqs.contains h.seq = false → s.red.epoch < h.epoch →
      let s1 := acceptIu s h (fun s => s)
      let s2 := seeEpoch (setRed s1 { s1.red with beat := some { tx := tx, rx := rx } }) h.epoch
      let t := relinquish (leaseVector (leaseVector (leaseVector (report (cnt s2 Reg.RED_CNT_LEASE_LOST) Ev.RED_LEASE_LOST noInst 0) 0) 1) 2) false
      exec (.heartbeatReceived h tx rx none) s = .next t ∧ t.dev = .relinquishing ∧ gateOpen t = false)

/-- Captures of the input that serves the pulse per second go to the steward's servo alone. States R330. -/
def Obligations.PpsCapturesGoToTheServo : Prop :=
  ∀ (s : State) (c t : Nat) (level : Bool), c ≤ 7 →
    fld s Reg.TIM_CTRL 2 2 = 1 → fld s Reg.TIM_CTRL 0 0 = 1 → fld s Reg.TIM_CTRL 5 3 = c →
    (if level then bit (rd s (Reg.TIM_CAP_CFG c)) 0 else bit (rd s (Reg.TIM_CAP_CFG c)) 1) = true →
    (∀ p, (tget s.tim.capt c).last = some p → p + 64 ≤ t) →
    let x := { tget s.tim.capt c with level := level, last := some t }
    let stamp := (Int.ofNat t - 14 - sext 16 (bits (rd s (Reg.TIM_CAP_CFG c)) 31 16)).toNat
    exec (.captureEdge c level t) s =
      .next { s with tim := { s.tim with capt := tset (tset s.tim.capt c { tget s.tim.capt c with level := level }) c x,
                                         servoCaps := s.tim.servoCaps ++ [stamp] } } ∧
    x.queue = (tget s.tim.capt c).queue

/-- A leap second is armed only at the end of a UTC day, two seconds ahead. States R320. -/
def Obligations.LeapSecondArm : Prop :=
  ∀ (s : State) (r : Req) (value : Word), Canonical s → Allowed s r Reg.TIM_LEAP_CTRL →
    bits value 1 0 = 1 ∨ bits value 1 0 = 2 →
    Gives (.leapArm r value) s (fun t =>
      (leapKind t = if (Int.ofNat (rd s Reg.TIM_LEAP_AT).toNat - leapOffset s (bits value 1 0)) % 86400 = 0 ∧
          now s + 2 * secUnits ≤ (rd s Reg.TIM_LEAP_AT).toNat * secUnits then bits value 1 0 else 0) ∧
      ∀ off, off ≠ Reg.TIM_LEAP_CTRL → rd t off = rd s off)

/-- No read answers anything that depends on a key, a mask or which root there is. Derived from 13_key_vault.md. -/
def Obligations.KeysNotReadable : Prop :=
  ∀ (s : State) (r : Req) (off width : Nat) (key pend mask : Nat → Bytes) (root : Bytes), (root = zeroKey ↔ s.vault.root = zeroKey) →
    let s2 := { s with vault := { s.vault with
      root := root, slots := s.vault.slots.map (fun e => (e.1, { e.2 with key := key e.1, pendKey := pend e.1, mask := mask e.1 })) } }
    ∀ t u, exec (.latchingRead r off width) s = .next t → exec (.latchingRead r off width) s2 = .next u →
      t.out = u.out ∧ t.latch = u.latch ∧ t.regs = u.regs

/-- The fault-tolerant midpoint is formed of the sorted values. States R349. -/
def Obligations.MidpointOfSortedValues : Prop :=
  ∀ (l v : List Int), v.Perm l → v.Pairwise (· ≤ ·) →
    Machine.midpoint l = if v.length = 0 then none
      else
        let k := if v.length ≤ 2 then 0 else if v.length ≤ 6 then 1 else 2
        some (Int.tdiv (v.getD k 0 + v.getD (v.length - 1 - k) 0) 2)

/-- The midpoint lies among the good values whatever one, or two, faulty nodes say. Derived from 11_cadence_bus.md. -/
def Obligations.MidpointToleratesFaults : Prop :=
  ∀ (good bad l : List Int) (lo hi : Int), l.Perm (good ++ bad) → 3 ≤ l.length →
    bad.length ≤ (if l.length ≤ 6 then 1 else 2) → (∀ x ∈ good, lo ≤ x ∧ x ≤ hi) →
    ∃ m, Machine.midpoint l = some m ∧ lo ≤ m ∧ m ≤ hi
end

