-- ==== Sys2Proof/Laws/Tab.lean ====
section
/-! SUPPORT. Laws of the sparse tables: the canonical form is kept by every operation on a table, a write reads back, and it leaves every other key. -/

namespace Sys2Proof.Laws

open Sys2Proof Sys2Proof.Machine

theorem tabWfFrom_mono {α : Type} [DecidableEq α] {d : Nat → α} {t : Tab α} {a b : Nat} (h : b ≤ a) (w : tabWfFrom d a t = true) :
    tabWfFrom d b t = true := by
  cases t with
  | nil => rfl
  | cons e t => simp [tabWfFrom] at *; exact ⟨⟨by omega, w.1.2⟩, w.2⟩

theorem tabWfFrom_set {α : Type} [DecidableEq α] {d : Nat → α} {t : Tab α} {a k : Nat} {v : α} (h : a ≤ k)
    (w : tabWfFrom d a t = true) : tabWfFrom d a (tsetD d t k v) = true := by
  induction t generalizing a with
  | nil => unfold tsetD; split <;> simp_all [tabWfFrom]
  | cons e t ih =>
    simp only [tabWfFrom, Bool.and_eq_true, decide_eq_true_eq] at w
    unfold tsetD
    split
    · split
      · simp [tabWfFrom, w.1.1, w.1.2, w.2]
      · simp [tabWfFrom, *]
    · split
      · split
        · exact tabWfFrom_mono (by omega) w.2
        · simp_all [tabWfFrom]
      · simp [tabWfFrom, w.1.1, w.1.2]; exact ih (by omega) w.2

theorem tabWf_set {α : Type} [DecidableEq α] {d : Nat → α} {t : Tab α} (k : Nat) (v : α) (w : tabWf d t = true) :
    tabWf d (tsetD d t k v) = true := tabWfFrom_set (Nat.zero_le _) w

theorem tabWfFrom_filter {α : Type} [DecidableEq α] {d : Nat → α} {t : Tab α} {a : Nat} (p : Nat × α → Bool)
    (w : tabWfFrom d a t = true) : tabWfFrom d a (t.filter p) = true := by
  induction t generalizing a with
  | nil => exact w
  | cons e t ih =>
    simp only [tabWfFrom, Bool.and_eq_true, decide_eq_true_eq] at w
    rw [List.filter_cons]; split
    · simp [tabWfFrom, w.1.1, w.1.2, ih w.2]
    · exact ih (tabWfFrom_mono (by omega) w.2)

theorem tabWf_filter {α : Type} [DecidableEq α] {d : Nat → α} {t : Tab α} (p : Nat → α → Bool) (w : tabWf d t = true) :
    tabWf d (tfilter p t) = true := tabWfFrom_filter _ w

theorem tabWf_setAll {α β : Type} [DecidableEq α] {d : Nat → α} (f : β → Nat) (g : β → α) (l : List β) {t : Tab α} (w : tabWf d t = true) :
    tabWf d (l.foldl (fun t e => tsetD d t (f e) (g e)) t) = true := by
  induction l generalizing t with
  | nil => exact w
  | cons x l ih => exact ih (tabWf_set _ _ w)


/-- A write leaves every other key as it reads. -/
theorem tgetD_tsetD_ne {α : Type} [DecidableEq α] (d : Nat → α) (t : Tab α) {k j : Nat} (v : α) (h : j ≠ k) :
    tgetD d (tsetD d t k v) j = tgetD d t j := by
  induction t with
  | nil => unfold tsetD; split <;> simp [tgetD, h]
  | cons e t ih => unfold tsetD; repeat' split
                   all_goals simp_all [tgetD]

theorem tgetD_below {α : Type} [DecidableEq α] {d : Nat → α} {t : Tab α} {a k : Nat} (h : k < a) (w : tabWfFrom d a t = true) :
    tgetD d t k = d k := by
  induction t generalizing a with
  | nil => rfl
  | cons e t ih =>
    simp only [tabWfFrom, Bool.and_eq_true, decide_eq_true_eq] at w
    unfold tgetD; split
    · omega
    · exact ih (a := e.1 + 1) (by omega) w.2

theorem tgetD_tsetD_from {α : Type} [DecidableEq α] {d : Nat → α} {t : Tab α} {a k : Nat} {v : α} (w : tabWfFrom d a t = true) :
    tgetD d (tsetD d t k v) k = v := by
  induction t generalizing a with
  | nil => unfold tsetD; split <;> simp_all [tgetD]
  | cons e t ih =>
    simp only [tabWfFrom, Bool.and_eq_true, decide_eq_true_eq] at w
    unfold tsetD
    split
    · split
      · rename_i hk hv; subst hv; unfold tgetD; rw [if_neg (by omega)]; exact tgetD_below (a := e.1 + 1) (by omega) w.2
      · simp [tgetD]
    · split
      · split
        · rename_i hk hv; subst hv; exact tgetD_below (a := e.1 + 1) (by omega) w.2
        · simp [tgetD]
      · rename_i hk; unfold tgetD; rw [if_neg hk]; exact ih w.2

/-- In a canonical table a write reads back. -/
theorem tgetD_tsetD {α : Type} [DecidableEq α] {d : Nat → α} {t : Tab α} (k : Nat) (v : α) (w : tabWf d t = true) :
    tgetD d (tsetD d t k v) k = v := tgetD_tsetD_from w

end Sys2Proof.Laws
end

