-- ==== Sys2Proof/Laws/Grows.lean ====
section
/-! SUPPORT. What every operation of the block keeps, said once: the queue, the record of outputs, the free-value counter, the security version and the canonical forms. -/

namespace Sys2Proof.Laws

open Sys2Proof Sys2Proof.Machine

/-- What every operation of the block keeps. -/
structure Grows (b s : State) : Prop where
  pending : s.pending = b.pending
  free : b.free ≤ s.free
  out : b.out <:+ s.out
  secver : b.secver ≤ s.secver
  regs : tabWf Reg.resetOf b.regs = true → tabWf Reg.resetOf s.regs = true
  nvm : tabWf nvmErased b.nvm = true → tabWf nvmErased s.nvm = true
  msix : tabWf msixReset b.msix = true → tabWf msixReset s.msix = true
  pba : tabWf (fun _ => default) b.pba = true → tabWf (fun _ => default) s.pba = true
  latch : tabWf (fun _ => default) b.latch = true → tabWf (fun _ => default) s.latch = true
  moder : tabWf (fun _ => default) b.moder = true → tabWf (fun _ => default) s.moder = true

theorem Grows.refl (s : State) : Grows s s := ⟨rfl, Nat.le_refl _, List.suffix_refl _, Nat.le_refl _, id, id, id, id, id, id⟩

@[simp] theorem grows_foldl {α : Type} {b s : State} (g : State → α → State) (l : List α) (h : Grows b s)
    (hg : ∀ s x, Grows b s → Grows b (g s x)) : Grows b (l.foldl g s) := by
  induction l generalizing s with
  | nil => exact h
  | cons x l ih => exact ih (hg _ _ h)

@[simp] theorem grows_mk (b s : State) (x_cfg) (x_prev) (x_tag) (x_dev) (x_tim) (x_prt) (x_stb) (x_flt) (x_map) (x_com) (x_bgt) (x_egr) (x_jrn) (x_lni) (x_vot) (x_brg) (x_cdb) (x_red) (x_vault) (x_saf) (x_dgn) (x_cfgs) (x_aon) (x_pwr) (x_stw) :
    Grows b (State.mk s.pending s.regs s.latch x_cfg x_prev x_tag x_dev s.msix s.pba s.moder s.nvm s.secver x_tim x_prt x_stb x_flt x_map x_com x_bgt x_egr x_jrn x_lni x_vot x_brg x_cdb x_red x_vault x_saf x_dgn x_cfgs x_aon x_pwr x_stw s.free s.out) = Grows b s :=
  propext ⟨fun h => ⟨h.pending, h.free, h.out, h.secver, h.regs, h.nvm, h.msix, h.pba, h.latch, h.moder⟩, fun h => ⟨h.pending, h.free, h.out, h.secver, h.regs, h.nvm, h.msix, h.pba, h.latch, h.moder⟩⟩
@[simp] theorem grows_ite (b s t : State) (c : Prop) [Decidable c] (h1 : Grows b s) (h2 : Grows b t) : Grows b (if c then s else t) := by
  split <;> assumption
@[simp] theorem grows_mkOut (b s : State) (o : Out) (x_cfg) (x_prev) (x_tag) (x_dev) (x_tim) (x_prt) (x_stb) (x_flt) (x_map) (x_com) (x_bgt) (x_egr) (x_jrn) (x_lni) (x_vot) (x_brg) (x_cdb) (x_red) (x_vault) (x_saf) (x_dgn) (x_cfgs) (x_aon) (x_pwr) (x_stw) (h : Grows b s) :
    Grows b (State.mk s.pending s.regs s.latch x_cfg x_prev x_tag x_dev s.msix s.pba s.moder s.nvm s.secver x_tim x_prt x_stb x_flt x_map x_com x_bgt x_egr x_jrn x_lni x_vot x_brg x_cdb x_red x_vault x_saf x_dgn x_cfgs x_aon x_pwr x_stw s.free (o :: s.out)) :=
  ⟨h.pending, h.free, h.out.trans (List.suffix_cons _ _), h.secver, h.regs, h.nvm, h.msix, h.pba, h.latch, h.moder⟩
@[simp] theorem grows_mkFree (b s : State) (n : Nat) (x_cfg) (x_prev) (x_tag) (x_dev) (x_tim) (x_prt) (x_stb) (x_flt) (x_map) (x_com) (x_bgt) (x_egr) (x_jrn) (x_lni) (x_vot) (x_brg) (x_cdb) (x_red) (x_vault) (x_saf) (x_dgn) (x_cfgs) (x_aon) (x_pwr) (x_stw) (h : Grows b s) :
    Grows b (State.mk s.pending s.regs s.latch x_cfg x_prev x_tag x_dev s.msix s.pba s.moder s.nvm s.secver x_tim x_prt x_stb x_flt x_map x_com x_bgt x_egr x_jrn x_lni x_vot x_brg x_cdb x_red x_vault x_saf x_dgn x_cfgs x_aon x_pwr x_stw (s.free + n) s.out) :=
  ⟨h.pending, Nat.le_trans h.free (Nat.le_add_right _ _), h.out, h.secver, h.regs, h.nvm, h.msix, h.pba, h.latch, h.moder⟩
@[simp] theorem grows_mkSec (b s : State) (n : Nat) (x_cfg) (x_prev) (x_tag) (x_dev) (x_tim) (x_prt) (x_stb) (x_flt) (x_map) (x_com) (x_bgt) (x_egr) (x_jrn) (x_lni) (x_vot) (x_brg) (x_cdb) (x_red) (x_vault) (x_saf) (x_dgn) (x_cfgs) (x_aon) (x_pwr) (x_stw) (h : Grows b s) :
    Grows b (State.mk s.pending s.regs s.latch x_cfg x_prev x_tag x_dev s.msix s.pba s.moder s.nvm (max s.secver n) x_tim x_prt x_stb x_flt x_map x_com x_bgt x_egr x_jrn x_lni x_vot x_brg x_cdb x_red x_vault x_saf x_dgn x_cfgs x_aon x_pwr x_stw s.free s.out) :=
  ⟨h.pending, h.free, h.out, Nat.le_trans h.secver (Nat.le_max_left _ _), h.regs, h.nvm, h.msix, h.pba, h.latch, h.moder⟩
@[simp] theorem grows_regsSet (b s : State) (k : Nat) (v : Word) (x_cfg) (x_prev) (x_tag) (x_dev) (x_tim) (x_prt) (x_stb) (x_flt) (x_map) (x_com) (x_bgt) (x_egr) (x_jrn) (x_lni) (x_vot) (x_brg) (x_cdb) (x_red) (x_vault) (x_saf) (x_dgn) (x_cfgs) (x_aon) (x_pwr) (x_stw) (h : Grows b s) :
    Grows b (State.mk s.pending (tsetD Reg.resetOf s.regs k v) s.latch x_cfg x_prev x_tag x_dev s.msix s.pba s.moder s.nvm s.secver x_tim x_prt x_stb x_flt x_map x_com x_bgt x_egr x_jrn x_lni x_vot x_brg x_cdb x_red x_vault x_saf x_dgn x_cfgs x_aon x_pwr x_stw s.free s.out) :=
  ⟨h.pending, h.free, h.out, h.secver, fun w => tabWf_set _ _ (h.regs w), h.nvm, h.msix, h.pba, h.latch, h.moder⟩
@[simp] theorem grows_regsFilter (b s : State) (p : Nat → Word → Bool) (x_cfg) (x_prev) (x_tag) (x_dev) (x_tim) (x_prt) (x_stb) (x_flt) (x_map) (x_com) (x_bgt) (x_egr) (x_jrn) (x_lni) (x_vot) (x_brg) (x_cdb) (x_red) (x_vault) (x_saf) (x_dgn) (x_cfgs) (x_aon) (x_pwr) (x_stw) (h : Grows b s) :
    Grows b (State.mk s.pending (tfilter p s.regs) s.latch x_cfg x_prev x_tag x_dev s.msix s.pba s.moder s.nvm s.secver x_tim x_prt x_stb x_flt x_map x_com x_bgt x_egr x_jrn x_lni x_vot x_brg x_cdb x_red x_vault x_saf x_dgn x_cfgs x_aon x_pwr x_stw s.free s.out) :=
  ⟨h.pending, h.free, h.out, h.secver, fun w => tabWf_filter _ (h.regs w), h.nvm, h.msix, h.pba, h.latch, h.moder⟩
@[simp] theorem grows_nvmSet (b s : State) (k : Nat) (v : Byte) (x_cfg) (x_prev) (x_tag) (x_dev) (x_tim) (x_prt) (x_stb) (x_flt) (x_map) (x_com) (x_bgt) (x_egr) (x_jrn) (x_lni) (x_vot) (x_brg) (x_cdb) (x_red) (x_vault) (x_saf) (x_dgn) (x_cfgs) (x_aon) (x_pwr) (x_stw) (h : Grows b s) :
    Grows b (State.mk s.pending s.regs s.latch x_cfg x_prev x_tag x_dev s.msix s.pba s.moder (tsetD nvmErased s.nvm k v) s.secver x_tim x_prt x_stb x_flt x_map x_com x_bgt x_egr x_jrn x_lni x_vot x_brg x_cdb x_red x_vault x_saf x_dgn x_cfgs x_aon x_pwr x_stw s.free s.out) :=
  ⟨h.pending, h.free, h.out, h.secver, h.regs, fun w => tabWf_set _ _ (h.nvm w), h.msix, h.pba, h.latch, h.moder⟩
@[simp] theorem grows_nvmFilter (b s : State) (p : Nat → Byte → Bool) (x_cfg) (x_prev) (x_tag) (x_dev) (x_tim) (x_prt) (x_stb) (x_flt) (x_map) (x_com) (x_bgt) (x_egr) (x_jrn) (x_lni) (x_vot) (x_brg) (x_cdb) (x_red) (x_vault) (x_saf) (x_dgn) (x_cfgs) (x_aon) (x_pwr) (x_stw) (h : Grows b s) :
    Grows b (State.mk s.pending s.regs s.latch x_cfg x_prev x_tag x_dev s.msix s.pba s.moder (tfilter p s.nvm) s.secver x_tim x_prt x_stb x_flt x_map x_com x_bgt x_egr x_jrn x_lni x_vot x_brg x_cdb x_red x_vault x_saf x_dgn x_cfgs x_aon x_pwr x_stw s.free s.out) :=
  ⟨h.pending, h.free, h.out, h.secver, h.regs, fun w => tabWf_filter _ (h.nvm w), h.msix, h.pba, h.latch, h.moder⟩
@[simp] theorem grows_msixSet (b s : State) (k : Nat) (v : Word) (x_cfg) (x_prev) (x_tag) (x_dev) (x_tim) (x_prt) (x_stb) (x_flt) (x_map) (x_com) (x_bgt) (x_egr) (x_jrn) (x_lni) (x_vot) (x_brg) (x_cdb) (x_red) (x_vault) (x_saf) (x_dgn) (x_cfgs) (x_aon) (x_pwr) (x_stw) (h : Grows b s) :
    Grows b (State.mk s.pending s.regs s.latch x_cfg x_prev x_tag x_dev (tsetD msixReset s.msix k v) s.pba s.moder s.nvm s.secver x_tim x_prt x_stb x_flt x_map x_com x_bgt x_egr x_jrn x_lni x_vot x_brg x_cdb x_red x_vault x_saf x_dgn x_cfgs x_aon x_pwr x_stw s.free s.out) :=
  ⟨h.pending, h.free, h.out, h.secver, h.regs, h.nvm, fun w => tabWf_set _ _ (h.msix w), h.pba, h.latch, h.moder⟩
@[simp] theorem grows_msixFilter (b s : State) (p : Nat → Word → Bool) (x_cfg) (x_prev) (x_tag) (x_dev) (x_tim) (x_prt) (x_stb) (x_flt) (x_map) (x_com) (x_bgt) (x_egr) (x_jrn) (x_lni) (x_vot) (x_brg) (x_cdb) (x_red) (x_vault) (x_saf) (x_dgn) (x_cfgs) (x_aon) (x_pwr) (x_stw) (h : Grows b s) :
    Grows b (State.mk s.pending s.regs s.latch x_cfg x_prev x_tag x_dev (tfilter p s.msix) s.pba s.moder s.nvm s.secver x_tim x_prt x_stb x_flt x_map x_com x_bgt x_egr x_jrn x_lni x_vot x_brg x_cdb x_red x_vault x_saf x_dgn x_cfgs x_aon x_pwr x_stw s.free s.out) :=
  ⟨h.pending, h.free, h.out, h.secver, h.regs, h.nvm, fun w => tabWf_filter _ (h.msix w), h.pba, h.latch, h.moder⟩
@[simp] theorem grows_pbaSet (b s : State) (k : Nat) (v : Bool) (x_cfg) (x_prev) (x_tag) (x_dev) (x_tim) (x_prt) (x_stb) (x_flt) (x_map) (x_com) (x_bgt) (x_egr) (x_jrn) (x_lni) (x_vot) (x_brg) (x_cdb) (x_red) (x_vault) (x_saf) (x_dgn) (x_cfgs) (x_aon) (x_pwr) (x_stw) (h : Grows b s) :
    Grows b (State.mk s.pending s.regs s.latch x_cfg x_prev x_tag x_dev s.msix (tset s.pba k v) s.moder s.nvm s.secver x_tim x_prt x_stb x_flt x_map x_com x_bgt x_egr x_jrn x_lni x_vot x_brg x_cdb x_red x_vault x_saf x_dgn x_cfgs x_aon x_pwr x_stw s.free s.out) :=
  ⟨h.pending, h.free, h.out, h.secver, h.regs, h.nvm, h.msix, fun w => tabWf_set _ _ (h.pba w), h.latch, h.moder⟩
@[simp] theorem grows_latchSet (b s : State) (k : Nat) (v : Word) (x_cfg) (x_prev) (x_tag) (x_dev) (x_tim) (x_prt) (x_stb) (x_flt) (x_map) (x_com) (x_bgt) (x_egr) (x_jrn) (x_lni) (x_vot) (x_brg) (x_cdb) (x_red) (x_vault) (x_saf) (x_dgn) (x_cfgs) (x_aon) (x_pwr) (x_stw) (h : Grows b s) :
    Grows b (State.mk s.pending s.regs (tset s.latch k v) x_cfg x_prev x_tag x_dev s.msix s.pba s.moder s.nvm s.secver x_tim x_prt x_stb x_flt x_map x_com x_bgt x_egr x_jrn x_lni x_vot x_brg x_cdb x_red x_vault x_saf x_dgn x_cfgs x_aon x_pwr x_stw s.free s.out) :=
  ⟨h.pending, h.free, h.out, h.secver, h.regs, h.nvm, h.msix, h.pba, fun w => tabWf_set _ _ (h.latch w), h.moder⟩
@[simp] theorem grows_moderSet (b s : State) (k : Nat) (v : Moder) (x_cfg) (x_prev) (x_tag) (x_dev) (x_tim) (x_prt) (x_stb) (x_flt) (x_map) (x_com) (x_bgt) (x_egr) (x_jrn) (x_lni) (x_vot) (x_brg) (x_cdb) (x_red) (x_vault) (x_saf) (x_dgn) (x_cfgs) (x_aon) (x_pwr) (x_stw) (h : Grows b s) :
    Grows b (State.mk s.pending s.regs s.latch x_cfg x_prev x_tag x_dev s.msix s.pba (tset s.moder k v) s.nvm s.secver x_tim x_prt x_stb x_flt x_map x_com x_bgt x_egr x_jrn x_lni x_vot x_brg x_cdb x_red x_vault x_saf x_dgn x_cfgs x_aon x_pwr x_stw s.free s.out) :=
  ⟨h.pending, h.free, h.out, h.secver, h.regs, h.nvm, h.msix, h.pba, h.latch, fun w => tabWf_set _ _ (h.moder w)⟩

end Sys2Proof.Laws
end

