-- ==== Sys2Proof/Laws/GrowsCore.lean ====
section
/-! SUPPORT. One lemma per operation of the shared operations, the vault, the supervisor, the power unit, the nodes and the votes: what it keeps. -/

namespace Sys2Proof.Laws

open Sys2Proof Sys2Proof.Machine

@[simp] theorem wr_grows {b0 : State} (s : State) (off : Nat) (v : Word)  (h0 : Grows b0 s) : Grows b0 (Machine.wr s off v) := by
  simp [Machine.wr, *]
@[simp] theorem setFld_grows {b0 : State} (s : State) (off hi lo v : Nat)  (h0 : Grows b0 s) : Grows b0 (Machine.setFld s off hi lo v) := by
  simp [Machine.setFld, *]
@[simp] theorem cntAdd_grows {b0 : State} (s : State) (off n : Nat)  (h0 : Grows b0 s) : Grows b0 (Machine.cntAdd s off n) := by
  simp [Machine.cntAdd, *]
@[simp] theorem cnt_grows {b0 : State} (s : State) (off : Nat)  (h0 : Grows b0 s) : Grows b0 (Machine.cnt s off) := by
  simp [Machine.cnt, *]
@[simp] theorem clearRegs_grows {b0 : State} (s : State) (lo hi : Nat)  (h0 : Grows b0 s) : Grows b0 (Machine.clearRegs s lo hi) := by
  simp [Machine.clearRegs, *]
@[simp] theorem emit_grows {b0 : State} (s : State) (o : Out)  (h0 : Grows b0 s) : Grows b0 (Machine.emit s o) := by
  simp [Machine.emit, *]
@[simp] theorem discard_grows {b0 : State} (s : State) (r : Req) (off cause : Nat)  (h0 : Grows b0 s) : Grows b0 (Machine.discard s r off cause) := by
  simp [Machine.discard, *]
@[simp] theorem gated_grows {b0 : State} (s : State) (r : Req) (off : Nat) (k : State → State) (h_k : ∀ x, Grows b0 x → Grows b0 (k x)) (h0 : Grows b0 s) : Grows b0 (Machine.gated s r off k) := by
  unfold Machine.gated; split <;> simp [*]
@[simp] theorem gatedBit_grows {b0 : State} (s : State) (r : Req) (off bitNo : Nat) (k : State → State) (h_k : ∀ x, Grows b0 x → Grows b0 (k x)) (h0 : Grows b0 s) : Grows b0 (Machine.gatedBit s r off bitNo k) := by
  unfold Machine.gatedBit
  repeat' (first | with_reducible assumption | with_reducible refine grows_foldl _ _ ?_ (fun _ _ _ => ?_) | split)
  all_goals (try simp (maxDischargeDepth := 30) [*])
  all_goals first | (simp (maxDischargeDepth := 30) [*]; done) | simp (maxDischargeDepth := 30) +contextual [*]
@[simp] theorem raise_grows {b0 : State} (s : State) (lane : Nat) (guard : Bool) (vec : Nat)  (h0 : Grows b0 s) : Grows b0 (Machine.raise s lane guard vec) := by
  simp [Machine.raise, *]
@[simp] theorem raiseAll_grows {b0 : State} (s : State) (guard : Bool) (vec : Nat)  (h0 : Grows b0 s) : Grows b0 (Machine.raiseAll s guard vec) := by
  simp (maxDischargeDepth := 30) [Machine.raiseAll, *]
@[simp] theorem raiseMod_grows {b0 : State} (s : State) (lane : Nat) (guard : Bool) (vec interval : Nat)  (h0 : Grows b0 s) : Grows b0 (Machine.raiseMod s lane guard vec interval) := by
  unfold Machine.raiseMod; dsimp only
  repeat' split
  · simp [h0]
  · exact ⟨h0.pending, h0.free, h0.out, h0.secver, h0.regs, h0.nvm, h0.msix, h0.pba, h0.latch, fun w => tabWf_set _ _ (h0.moder w)⟩
  · simp [h0]
@[simp] theorem sendIu_grows {b0 : State} (s : State) (f : IuFrame)  (h0 : Grows b0 s) : Grows b0 (Machine.sendIu s f) := by
  simp [Machine.sendIu, *]
@[simp] theorem mirrorSend_grows {b0 : State} (l : List (Nat × Nat × MirrorRec)) (s : State) (h0 : Grows b0 s) : Grows b0 (Machine.mirrorSend l s) := by
  induction l generalizing s with
  | nil => simp [Machine.mirrorSend, h0]
  | cons e t ih => obtain ⟨q, n, m⟩ := e; unfold Machine.mirrorSend; split <;> simp [h0, ih]
theorem freeVal_snd {b0 : State} (s : State) (h0 : Grows b0 s) : Grows b0 (Machine.freeVal s).2 := by
  unfold Machine.freeVal; (try dsimp only)
  all_goals (try simp (maxDischargeDepth := 30) [*])
theorem freeVal_eq {b0 : State} {s : State} {v : _} {s' : State} (e : Machine.freeVal s = (v, s')) (h0 : Grows b0 s) : Grows b0 s' := by
  have := freeVal_snd (b0 := b0) s h0; rw [e] at this; exact this
theorem mirrorRec_snd {b0 : State} (s : State) (m : MirrorRec) (h0 : Grows b0 s) : Grows b0 (Machine.mirrorRec s m).2 := by
  unfold Machine.mirrorRec; (try dsimp only)
  repeat' (first | with_reducible assumption | with_reducible refine grows_foldl _ _ ?_ (fun _ _ _ => ?_) | split)
  all_goals (try dsimp only)
  all_goals (try simp (maxDischargeDepth := 30) [*])
theorem mirrorRec_eq {b0 : State} {s : State} {m : MirrorRec} {v : _} {s' : State} (e : Machine.mirrorRec s m = (v, s')) (h0 : Grows b0 s) : Grows b0 s' := by
  have := mirrorRec_snd (b0 := b0) s m h0; rw [e] at this; exact this
@[simp] theorem intakeReport_grows {b0 : State} (s : State) (code inst detail src count : Nat)  (h0 : Grows b0 s) : Grows b0 (Machine.intakeReport s code inst detail src count) := by
  simp (maxDischargeDepth := 30) [Machine.intakeReport, *]
theorem touchSource_snd {b0 : State} (s : State) (code inst : Nat) (h0 : Grows b0 s) : Grows b0 (Machine.touchSource s code inst).2.2 := by
  unfold Machine.touchSource; dsimp only; (repeat' split) <;> simp [h0]
@[simp] theorem recordReport_grows {b0 : State} (s : State) (code inst detail : Nat)  (h0 : Grows b0 s) : Grows b0 (Machine.recordReport s code inst detail) := by
  unfold Machine.recordReport; dsimp only
  have h1 : ∀ x code inst, Grows b0 x → Grows b0 (Machine.touchSource x code inst).2.2 := fun x c i h => touchSource_snd x c i h
  repeat' split
  all_goals simp (maxDischargeDepth := 30) [*]
@[simp] theorem setRole_grows {b0 : State} (s : State) (d : DevState)  (h0 : Grows b0 s) : Grows b0 (Machine.setRole s d) := by
  simp (maxDischargeDepth := 30) [Machine.setRole, *]
@[simp] theorem setWin_grows {b0 : State} (s : State) (w : Nat) (x : Win)  (h0 : Grows b0 s) : Grows b0 (Machine.setWin s w x) := by
  simp [Machine.setWin, *]
@[simp] theorem setRing_grows {b0 : State} (s : State) (kw : Nat) (x : RingSet)  (h0 : Grows b0 s) : Grows b0 (Machine.setRing s kw x) := by
  simp [Machine.setRing, *]
@[simp] theorem writeCpl_grows {b0 : State} (s : State) (lane : Nat) (guard : Bool) (tag status op done detail : Nat)  (h0 : Grows b0 s) : Grows b0 (Machine.writeCpl s lane guard tag status op done detail) := by
  simp (maxDischargeDepth := 30) [Machine.writeCpl, *]
@[simp] theorem countStatus_grows {b0 : State} (s : State) (status : Nat)  (h0 : Grows b0 s) : Grows b0 (Machine.countStatus s status) := by
  unfold Machine.countStatus; split <;> simp [*]
@[simp] theorem fence_grows {b0 : State} (s : State) (lane w : Nat)  (h0 : Grows b0 s) : Grows b0 (Machine.fence s lane w) := by
  simp [Machine.fence, *]
@[simp] theorem lateFault_grows {b0 : State} (s : State) (e : LateEntry)  (h0 : Grows b0 s) : Grows b0 (Machine.lateFault s e) := by
  simp (maxDischargeDepth := 30) [Machine.lateFault, *]
@[simp] theorem readFails_grows {b0 : State} (s : State) (lane : Nat) (guard : Bool) (tag w offset status : Nat)  (h0 : Grows b0 s) : Grows b0 (Machine.readFails s lane guard tag w offset status) := by
  simp (maxDischargeDepth := 30) [Machine.readFails, *]
@[simp] theorem dropReq_grows {b0 : State} (s : State) (uid : Nat)  (h0 : Grows b0 s) : Grows b0 (Machine.dropReq s uid) := by
  simp [Machine.dropReq, *]
@[simp] theorem putReq_grows {b0 : State} (s : State) (r : BReq)  (h0 : Grows b0 s) : Grows b0 (Machine.putReq s r) := by
  simp [Machine.putReq, *]
@[simp] theorem failReq_grows {b0 : State} (s : State) (r : BReq) (status detail : Nat)  (h0 : Grows b0 s) : Grows b0 (Machine.failReq s r status detail) := by
  unfold Machine.failReq; (repeat' split) <;> simp (maxDischargeDepth := 30) [*]
@[simp] theorem abortAll_grows {b0 : State} (s : State)  (h0 : Grows b0 s) : Grows b0 (Machine.abortAll s) := by
  unfold Machine.abortAll
  repeat' (first | with_reducible assumption | with_reducible refine grows_foldl _ _ ?_ (fun _ _ _ => ?_) | split)
  all_goals (try simp (maxDischargeDepth := 30) [*])
@[simp] theorem finishReq_grows {b0 : State} (s : State) (r : BReq)  (h0 : Grows b0 s) : Grows b0 (Machine.finishReq s r) := by
  unfold Machine.finishReq; (repeat' split) <;> simp (maxDischargeDepth := 30) [*]
@[simp] theorem partDone_grows {b0 : State} (s : State) (r : BReq) (bytes : Bytes)  (h0 : Grows b0 s) : Grows b0 (Machine.partDone s r bytes) := by
  simp (maxDischargeDepth := 30) [Machine.partDone, *]
@[simp] theorem brgLose_grows {b0 : State} (s : State) (x : Sent) (stage : Nat)  (h0 : Grows b0 s) : Grows b0 (Machine.brgLose s x stage) := by
  unfold Machine.brgLose; (repeat' split) <;> simp [*]
@[simp] theorem mvSent_grows {b0 : State} (s : State) (n addr : Nat)  (h0 : Grows b0 s) : Grows b0 (Machine.mvSent s n addr) := by
  unfold Machine.mvSent; (try dsimp only)
  repeat' (first | with_reducible assumption | with_reducible refine grows_foldl _ _ ?_ (fun _ _ _ => ?_) | split)
  all_goals (try simp (maxDischargeDepth := 30) [*])
@[simp] theorem mvStatus_grows {b0 : State} (s : State) (n device : Nat) (data : Bytes)  (h0 : Grows b0 s) : Grows b0 (Machine.mvStatus s n device data) := by
  unfold Machine.mvStatus; (try dsimp only)
  repeat' (first | with_reducible assumption | with_reducible refine grows_foldl _ _ ?_ (fun _ _ _ => ?_) | split)
  all_goals (try simp (maxDischargeDepth := 30) [*])
@[simp] theorem closeGate_grows {b0 : State} (s : State)  (h0 : Grows b0 s) : Grows b0 (Machine.closeGate s) := by
  unfold Machine.closeGate; (try dsimp only)
  all_goals (try simp (maxDischargeDepth := 30) [*])
  all_goals repeat' (first | with_reducible assumption | with_reducible refine grows_foldl _ _ ?_ (fun _ _ _ => ?_) | split)
  all_goals simp (maxDischargeDepth := 30) [*]
@[simp] theorem clearPath_grows {b0 : State} (s : State)  (h0 : Grows b0 s) : Grows b0 (Machine.clearPath s) := by
  simp [Machine.clearPath, *]
@[simp] theorem relinquish_grows {b0 : State} (s : State) (fatal : Bool)  (h0 : Grows b0 s) : Grows b0 (Machine.relinquish s fatal) := by
  simp (maxDischargeDepth := 30) [Machine.relinquish, *]
@[simp] theorem powerFor_grows {b0 : State} (s : State) (d : DevState)  (h0 : Grows b0 s) : Grows b0 (Machine.powerFor s d) := by
  simp [Machine.powerFor, *]
@[simp] theorem restartUnit_grows {b0 : State} (s : State)  (h0 : Grows b0 s) : Grows b0 (Machine.restartUnit s) := by
  unfold Machine.restartUnit; dsimp only
  refine setRole_grows _ _ ?_
  have h := clearPath_grows _ (closeGate_grows _ h0)
  generalize clearPath (closeGate s) = s1 at *
  refine (grows_mk ..).mpr (powerFor_grows _ _ ?_)
  exact Grows.mk h.pending h.free h.out h.secver (fun w => tabWf_filter (fun k _ => keepsOff k) (h.regs w)) h.nvm h.msix (fun _ => rfl) (fun _ => rfl) (fun _ => rfl)
@[simp] theorem failStart_grows {b0 : State} (s : State)  (h0 : Grows b0 s) : Grows b0 (Machine.failStart s) := by
  simp [Machine.failStart, *]
@[simp] theorem fatalReaction_grows {b0 : State} (s : State) (code : Nat)  (h0 : Grows b0 s) : Grows b0 (Machine.fatalReaction s code) := by
  unfold Machine.fatalReaction; (repeat' split) <;> simp [*]
@[simp] theorem report_grows {b0 : State} (s : State) (code inst detail : Nat)  (h0 : Grows b0 s) : Grows b0 (Machine.report s code inst detail) := by
  simp (maxDischargeDepth := 30) [Machine.report, *]
@[simp] theorem attrDeny_grows {b0 : State} (s : State) (k : Nat)  (h0 : Grows b0 s) : Grows b0 (Machine.attrDeny s k) := by
  simp [Machine.attrDeny, *]
@[simp] theorem modSlot_grows {b0 : State} (s : State) (k : Nat) (f : Slot → Slot)  (h0 : Grows b0 s) : Grows b0 (Machine.modSlot s k f) := by
  simp [Machine.modSlot, *]
@[simp] theorem orphanSlot_grows {b0 : State} (s : State) (k : Nat)  (h0 : Grows b0 s) : Grows b0 (Machine.orphanSlot s k) := by
  simp [Machine.orphanSlot, *]
@[simp] theorem suppressed_grows {b0 : State} (s : State) (k : Nat)  (h0 : Grows b0 s) : Grows b0 (Machine.suppressed s k) := by
  simp (maxDischargeDepth := 30) [Machine.suppressed, *]
@[simp] theorem loadPend_grows {b0 : State} (s : State) (k : Nat) (key : Bytes) (parent : Option Nat) (parentGen label : Nat)  (h0 : Grows b0 s) : Grows b0 (Machine.loadPend s k key parent parentGen label) := by
  simp [Machine.loadPend, *]
@[simp] theorem clearPend_grows {b0 : State} (s : State) (k : Nat)  (h0 : Grows b0 s) : Grows b0 (Machine.clearPend s k) := by
  simp [Machine.clearPend, *]
@[simp] theorem kvtEnd_grows {b0 : State} (s : State) (by_ : Nat)  (h0 : Grows b0 s) : Grows b0 (Machine.kvtEnd s by_) := by
  simp [Machine.kvtEnd, *]
@[simp] theorem kvtDone_grows {b0 : State} (s : State) (r : Req) (k st reason : Nat)  (h0 : Grows b0 s) : Grows b0 (Machine.kvtDone s r k st reason) := by
  simp [Machine.kvtDone, *]
@[simp] theorem kvtBusy_grows {b0 : State} (s : State) (r : Req) (code k source : Nat) (blob : Bytes)  (h0 : Grows b0 s) : Grows b0 (Machine.kvtBusy s r code k source blob) := by
  simp [Machine.kvtBusy, *]
@[simp] theorem kvtCmd_grows {b0 : State} (s : State) (r : Req) (k : Nat) (act : State → State) (h_act : ∀ x, Grows b0 x → Grows b0 (act x)) (h0 : Grows b0 s) : Grows b0 (Machine.kvtCmd s r k act) := by
  unfold Machine.kvtCmd
  repeat' (first | with_reducible assumption | with_reducible refine grows_foldl _ _ ?_ (fun _ _ _ => ?_) | split)
  all_goals (try simp (maxDischargeDepth := 30) [*])
  all_goals first | (simp (maxDischargeDepth := 30) [*]; done) | simp (maxDischargeDepth := 30) +contextual [*]
@[simp] theorem startSweep_grows {b0 : State} (s : State)  (h0 : Grows b0 s) : Grows b0 (Machine.startSweep s) := by
  simp [Machine.startSweep, *]
@[simp] theorem abortOps_grows {b0 : State} (s : State) (p : Nat → Bool)  (h0 : Grows b0 s) : Grows b0 (Machine.abortOps s p) := by
  simp [Machine.abortOps, *]
@[simp] theorem kvtCmdComplete_grows {b0 : State} (s : State) (c : KCmd)  (h0 : Grows b0 s) : Grows b0 (Machine.kvtCmdComplete s c) := by
  simp (maxDischargeDepth := 30) [Machine.kvtCmdComplete, *]
@[simp] theorem clearImageRecord_grows {b0 : State} (s : State)  (h0 : Grows b0 s) : Grows b0 (Machine.clearImageRecord s) := by
  simp [Machine.clearImageRecord, *]
@[simp] theorem tamperVbat_grows {b0 : State} (s : State) (code : Nat)  (h0 : Grows b0 s) : Grows b0 (Machine.tamperVbat s code) := by
  simp [Machine.tamperVbat, *]
@[simp] theorem withdrawStart_grows {b0 : State} (s : State)  (h0 : Grows b0 s) : Grows b0 (Machine.withdrawStart s) := by
  simp [Machine.withdrawStart, *]
@[simp] theorem tamperDetect_grows {b0 : State} (code : Nat) (s : State)  (h0 : Grows b0 s) : Grows b0 (Machine.tamperDetect code s) := by
  simp (maxDischargeDepth := 30) [Machine.tamperDetect, *]
theorem takeKey_snd {b0 : State} (s : State) (k master usage : Nat) (h0 : Grows b0 s) : Grows b0 (Machine.takeKey s k master usage).2 := by
  unfold Machine.takeKey
  repeat' (first | with_reducible assumption | with_reducible refine grows_foldl _ _ ?_ (fun _ _ _ => ?_) | split)
  all_goals (try dsimp only)
  all_goals (try simp (maxDischargeDepth := 30) [*])
theorem takeKey_eq {b0 : State} {s : State} {k master usage : Nat} {v : _} {s' : State} (e : Machine.takeKey s k master usage = (v, s')) (h0 : Grows b0 s) : Grows b0 s' := by
  have := takeKey_snd (b0 := b0) s k master usage h0; rw [e] at this; exact this
theorem takeDrbg_snd {b0 : State} (s : State) (len : Nat) (h0 : Grows b0 s) : Grows b0 (Machine.takeDrbg s len).2 := by
  simp [Machine.takeDrbg, h0]
theorem takeDrbg_eq {b0 : State} {s : State} {len : Nat} {v : _} {s' : State} (e : Machine.takeDrbg s len = (v, s')) (h0 : Grows b0 s) : Grows b0 s' := by
  have := takeDrbg_snd (b0 := b0) s len h0; rw [e] at this; exact this
@[simp] theorem unsealSlot_grows {b0 : State} (s : State) (k : Nat)  (h0 : Grows b0 s) : Grows b0 (Machine.unsealSlot s k) := by
  unfold Machine.unsealSlot; dsimp only
  split
  · exact h0
  · split
    · simp (maxDischargeDepth := 30) [h0]
    · exact modSlot_grows _ _ _ ((grows_mk ..).mpr (takeDrbg_snd _ _ h0))
@[simp] theorem keyUnseal_grows {b0 : State} (s : State)  (h0 : Grows b0 s) : Grows b0 (Machine.keyUnseal s) := by
  unfold Machine.keyUnseal; dsimp only
  refine (grows_mk ..).mpr (grows_foldl _ _ ?_ (fun x i hx => unsealSlot_grows _ _ hx))
  split
  · simp [h0]
  · exact modSlot_grows _ _ _ (takeDrbg_snd _ _ (by simp [h0]))
@[simp] theorem safReport_grows {b0 : State} (s : State) (who : Nat) (d : Decl)  (h0 : Grows b0 s) : Grows b0 (Machine.safReport s who d) := by
  unfold Machine.safReport; split <;> simp [*]
@[simp] theorem setChan_grows {b0 : State} (s : State) (who : Nat) (c : Chan)  (h0 : Grows b0 s) : Grows b0 (Machine.setChan s who c) := by
  simp [Machine.setChan, *]
@[simp] theorem declare_grows {b0 : State} (s : State) (who : Nat) (d : Decl)  (h0 : Grows b0 s) : Grows b0 (Machine.declare s who d) := by
  simp (maxDischargeDepth := 30) [Machine.declare, *]
@[simp] theorem declareAll_grows {b0 : State} (s : State) (who : Nat) (ds : List Decl)  (h0 : Grows b0 s) : Grows b0 (Machine.declareAll s who ds) := by
  unfold Machine.declareAll
  repeat' (first | with_reducible assumption | with_reducible refine grows_foldl _ _ ?_ (fun _ _ _ => ?_) | split)
  all_goals (try simp (maxDischargeDepth := 30) [*])
@[simp] theorem sampleChan_grows {b0 : State} (s : State) (who : Nat) (i : SafIn)  (h0 : Grows b0 s) : Grows b0 (Machine.sampleChan s who i) := by
  unfold Machine.sampleChan; dsimp only
  have key : ∀ (f : State × List Decl → Nat → State × List Decl) (l : List Nat) (a : State × List Decl),
      (∀ a n, Grows b0 a.1 → Grows b0 (f a n).1) → Grows b0 a.1 → Grows b0 (l.foldl f a).1 := by
    intro f l
    induction l with
    | nil => intro a _ h; exact h
    | cons x l ih => intro a hf h; exact ih _ hf (hf _ _ h)
  have h1 := key (fun acc n => if sbPair (chBlock (chan s who)) n 0 % 4 = 0 then (acc.1, acc.2) else
      (if (pairSample (chBlock (chan s who)) n (chan acc.1 who).clk (decide ((chan s who).clk = 0)) i (tget (chan acc.1 who).pairs n)).2.2 = true ∧ who = 2 then
        cnt (setChan acc.1 who { chan acc.1 who with pairs := tset (chan acc.1 who).pairs n { (pairSample (chBlock (chan s who)) n (chan acc.1 who).clk (decide ((chan s who).clk = 0)) i (tget (chan acc.1 who).pairs n)).1 with fault := (tget (chan acc.1 who).pairs n).fault } }) Reg.SAF_CNT_DISAGREE
      else setChan acc.1 who { chan acc.1 who with pairs := tset (chan acc.1 who).pairs n { (pairSample (chBlock (chan s who)) n (chan acc.1 who).clk (decide ((chan s who).clk = 0)) i (tget (chan acc.1 who).pairs n)).1 with fault := (tget (chan acc.1 who).pairs n).fault } },
      match (pairSample (chBlock (chan s who)) n (chan acc.1 who).clk (decide ((chan s who).clk = 0)) i (tget (chan acc.1 who).pairs n)).2.1 with
        | some d => acc.2 ++ [d] | none => acc.2)) (List.range 8) (s, []) (by
      intro a n h; dsimp only; split
      · exact h
      · dsimp only; split <;> simp (maxDischargeDepth := 30) [h]) h0
  dsimp only at h1
  refine setChan_grows _ _ _ (declareAll_grows _ _ _ ?_)
  split
  · exact cnt_grows _ _ (setChan_grows _ _ _ h1)
  · exact setChan_grows _ _ _ h1
@[simp] theorem drivePin_grows {b0 : State} (s : State) (who n : Nat) (level : Bool)  (h0 : Grows b0 s) : Grows b0 (Machine.drivePin s who n level) := by
  simp (maxDischargeDepth := 30) [Machine.drivePin, *]
@[simp] theorem allLow_grows {b0 : State} (s : State) (who : Nat)  (h0 : Grows b0 s) : Grows b0 (Machine.allLow s who) := by
  unfold Machine.allLow
  repeat' (first | with_reducible assumption | with_reducible refine grows_foldl _ _ ?_ (fun _ _ _ => ?_) | split)
  all_goals (try simp (maxDischargeDepth := 30) [*])
@[simp] theorem readback_grows {b0 : State} (s : State) (who n fb : Nat)  (h0 : Grows b0 s) : Grows b0 (Machine.readback s who n fb) := by
  simp (maxDischargeDepth := 30) [Machine.readback, *]
@[simp] theorem resetStep_grows {b0 : State} (s : State) (who : Nat)  (h0 : Grows b0 s) : Grows b0 (Machine.resetStep s who) := by
  unfold Machine.resetStep; dsimp only
  cases (chan s who).accepted with
  | none => exact h0
  | some t =>
    dsimp only
    cases (chan s who).peer.fresh with
    | none => dsimp only; split <;> simp [h0]
    | some f => dsimp only; (repeat' split) <;> simp (maxDischargeDepth := 30) [h0]
@[simp] theorem evalChan_grows {b0 : State} (s : State) (who fb : Nat)  (h0 : Grows b0 s) : Grows b0 (Machine.evalChan s who fb) := by
  unfold Machine.evalChan; (try dsimp only)
  repeat' (first | with_reducible assumption | with_reducible refine grows_foldl _ _ ?_ (fun _ _ _ => ?_) | split)
  all_goals (try simp (maxDischargeDepth := 30) [*])
@[simp] theorem sampleAll_grows {b0 : State} (s : State) (who : Nat) (is : List SafIn)  (h0 : Grows b0 s) : Grows b0 (Machine.sampleAll s who is) := by
  unfold Machine.sampleAll
  repeat' (first | with_reducible assumption | with_reducible refine grows_foldl _ _ ?_ (fun _ _ _ => ?_) | split)
  all_goals (try simp (maxDischargeDepth := 30) [*])
@[simp] theorem odoChan_grows {b0 : State} (s : State) (who odo : Nat) (a b : Bool) (sub : Nat)  (h0 : Grows b0 s) : Grows b0 (Machine.odoChan s who odo a b sub) := by
  simp (maxDischargeDepth := 30) [Machine.odoChan, *]
@[simp] theorem safetyStartChan_grows {b0 : State} (s : State) (who : Nat)  (h0 : Grows b0 s) : Grows b0 (Machine.safetyStartChan s who) := by
  simp (maxDischargeDepth := 30) [Machine.safetyStartChan, *]
@[simp] theorem safViewReset_grows {b0 : State} (s : State)  (h0 : Grows b0 s) : Grows b0 (Machine.safViewReset s) := by
  simp [Machine.safViewReset, *]
@[simp] theorem porstAssert_grows {b0 : State} (s : State)  (h0 : Grows b0 s) : Grows b0 (Machine.porstAssert s) := by
  unfold Machine.porstAssert; dsimp only
  have h := allLow_grows _ 2 (allLow_grows _ 1 (closeGate_grows _ h0))
  generalize allLow (allLow (closeGate s) 1) 2 = s1 at *
  exact Grows.mk h.pending h.free h.out h.secver (fun w => tabWf_filter (fun k _ => keepsPorst k) (h.regs w)) h.nvm (fun _ => rfl) (fun _ => rfl) (fun _ => rfl) (fun _ => rfl)
@[simp] theorem switchOn_grows {b0 : State} (s : State) (ds : List Nat)  (h0 : Grows b0 s) : Grows b0 (Machine.switchOn s ds) := by
  simp [Machine.switchOn, *]
@[simp] theorem domainFault_grows {b0 : State} (s : State) (d : Nat)  (h0 : Grows b0 s) : Grows b0 (Machine.domainFault s d) := by
  simp (maxDischargeDepth := 30) [Machine.domainFault, *]
@[simp] theorem pmbWrite_grows {b0 : State} (s : State) (code : Nat) (data : Bytes)  (h0 : Grows b0 s) : Grows b0 (Machine.pmbWrite s code data) := by
  simp (maxDischargeDepth := 30) [Machine.pmbWrite, *]
@[simp] theorem avsSend_grows {b0 : State} (s : State) (mv : Nat)  (h0 : Grows b0 s) : Grows b0 (Machine.avsSend s mv) := by
  simp [Machine.avsSend, *]
@[simp] theorem avsLink_grows {b0 : State} (s : State) (mode : Nat)  (h0 : Grows b0 s) : Grows b0 (Machine.avsLink s mode) := by
  simp [Machine.avsLink, *]
@[simp] theorem alertServe_grows {b0 : State} (s : State) (word : Nat)  (h0 : Grows b0 s) : Grows b0 (Machine.alertServe s word) := by
  simp [Machine.alertServe, *]
@[simp] theorem setNode_grows {b0 : State} (s : State) (n : Nat) (nd : Node)  (h0 : Grows b0 s) : Grows b0 (Machine.setNode s n nd) := by
  simp [Machine.setNode, *]
@[simp] theorem bufAdd_grows {b0 : State} (s : State) (n b : Nat)  (h0 : Grows b0 s) : Grows b0 (Machine.bufAdd s n b) := by
  simp [Machine.bufAdd, *]
@[simp] theorem bufSub_grows {b0 : State} (s : State) (n b : Nat)  (h0 : Grows b0 s) : Grows b0 (Machine.bufSub s n b) := by
  simp [Machine.bufSub, *]
@[simp] theorem shortfall_grows {b0 : State} (s : State) (fab : Bool) (n : Nat)  (h0 : Grows b0 s) : Grows b0 (Machine.shortfall s fab n) := by
  simp (maxDischargeDepth := 30) [Machine.shortfall, *]
@[simp] theorem charge_grows {b0 : State} (s : State) (fab : Bool) (n amount : Nat)  (h0 : Grows b0 s) : Grows b0 (Machine.charge s fab n amount) := by
  simp [Machine.charge, *]
@[simp] theorem policyDrop_grows {b0 : State} (s : State) (n : Nat)  (h0 : Grows b0 s) : Grows b0 (Machine.policyDrop s n) := by
  simp (maxDischargeDepth := 30) [Machine.policyDrop, *]
@[simp] theorem contractAtNode_grows {b0 : State} (s : State) (n : Nat)  (h0 : Grows b0 s) : Grows b0 (Machine.contractAtNode s n) := by
  simp (maxDischargeDepth := 30) [Machine.contractAtNode, *]
@[simp] theorem blkRef_grows {b0 : State} (s : State) (b : Nat)  (h0 : Grows b0 s) : Grows b0 (Machine.blkRef s b) := by
  simp [Machine.blkRef, *]
@[simp] theorem blkDrop_grows {b0 : State} (s : State) (b : Nat)  (h0 : Grows b0 s) : Grows b0 (Machine.blkDrop s b) := by
  simp [Machine.blkDrop, *]
@[simp] theorem sentFree_grows {b0 : State} (s : State) (x : Sent)  (h0 : Grows b0 s) : Grows b0 (Machine.sentFree s x) := by
  simp [Machine.sentFree, *]
@[simp] theorem setStrm_grows {b0 : State} (s : State) (id : Nat) (x : Stream)  (h0 : Grows b0 s) : Grows b0 (Machine.setStrm s id x) := by
  simp [Machine.setStrm, *]
@[simp] theorem clearFilterState_grows {b0 : State} (s : State) (id : Nat)  (h0 : Grows b0 s) : Grows b0 (Machine.clearFilterState s id) := by
  simp [Machine.clearFilterState, *]
@[simp] theorem voterFlush_grows {b0 : State} (s : State)  (h0 : Grows b0 s) : Grows b0 (Machine.voterFlush s) := by
  simp [Machine.voterFlush, *]
@[simp] theorem setLane_grows {b0 : State} (s : State) (k : Nat) (l : Lane)  (h0 : Grows b0 s) : Grows b0 (Machine.setLane s k l) := by
  simp [Machine.setLane, *]
@[simp] theorem laneLose_grows {b0 : State} (s : State) (k : Nat) (lost : Bool) (it : LaneItem)  (h0 : Grows b0 s) : Grows b0 (Machine.laneLose s k lost it) := by
  unfold Machine.laneLose; (repeat' split) <;> simp [*]
@[simp] theorem laneMiss_grows {b0 : State} (s : State) (k : Nat) (it : LaneItem)  (h0 : Grows b0 s) : Grows b0 (Machine.laneMiss s k it) := by
  unfold Machine.laneMiss; (try dsimp only)
  repeat' (first | with_reducible assumption | with_reducible refine grows_foldl _ _ ?_ (fun _ _ _ => ?_) | split)
  all_goals (try simp (maxDischargeDepth := 30) [*])
@[simp] theorem laneWait_grows {b0 : State} (s : State) (k : Nat)  (h0 : Grows b0 s) : Grows b0 (Machine.laneWait s k) := by
  unfold Machine.laneWait; (try dsimp only)
  repeat' (first | with_reducible assumption | with_reducible refine grows_foldl _ _ ?_ (fun _ _ _ => ?_) | split)
  all_goals (try simp (maxDischargeDepth := 30) [*])
@[simp] theorem laneControl_grows {b0 : State} (s : State) (k : Nat) (it : LaneItem)  (h0 : Grows b0 s) : Grows b0 (Machine.laneControl s k it) := by
  simp (maxDischargeDepth := 30) [Machine.laneControl, *]
@[simp] theorem placeControl_grows {b0 : State} (s : State) (it : LaneItem)  (h0 : Grows b0 s) : Grows b0 (Machine.placeControl s it) := by
  simp (maxDischargeDepth := 30) [Machine.placeControl, *]
@[simp] theorem placeMark_grows {b0 : State} (s : State) (code a b : Nat)  (h0 : Grows b0 s) : Grows b0 (Machine.placeMark s code a b) := by
  simp [Machine.placeMark, *]
@[simp] theorem setVote_grows {b0 : State} (s : State) (k : Nat) (v : LaneVote)  (h0 : Grows b0 s) : Grows b0 (Machine.setVote s k v) := by
  unfold Machine.setVote; (repeat' split) <;> simp (maxDischargeDepth := 30) [*]
@[simp] theorem releaseCopy_grows {b0 : State} (s : State) (w : Window) (c : VCopy)  (h0 : Grows b0 s) : Grows b0 (Machine.releaseCopy s w c) := by
  simp [Machine.releaseCopy, *]
@[simp] theorem chargeLane_grows {b0 : State} (s : State) (w : Window) (k : Nat) (missing : Bool)  (h0 : Grows b0 s) : Grows b0 (Machine.chargeLane s w k missing) := by
  simp (maxDischargeDepth := 30) [Machine.chargeLane, *]
@[simp] theorem judgeLane_grows {b0 : State} (w : Window) (rel : VCopy) (s : State) (k : Nat)  (h0 : Grows b0 s) : Grows b0 (Machine.judgeLane w rel s k) := by
  unfold Machine.judgeLane; split <;> simp [*]
@[simp] theorem closeWindow_grows {b0 : State} (s : State) (w : Window) (quiet : Bool)  (h0 : Grows b0 s) : Grows b0 (Machine.closeWindow s w quiet) := by
  unfold Machine.closeWindow; (try dsimp only)
  repeat' (first | with_reducible assumption | with_reducible refine grows_foldl _ _ ?_ (fun _ _ _ => ?_) | split)
  all_goals (try simp (maxDischargeDepth := 30) [*])
  all_goals repeat' (first | with_reducible assumption | with_reducible refine grows_foldl _ _ ?_ (fun _ _ _ => ?_) | split)
  all_goals first | (simp (maxDischargeDepth := 30) [*]; done) | simp (maxDischargeDepth := 30) +contextual [*]
@[simp] theorem voteLoop_grows {b0 : State} (n : Nat) (s : State) (h0 : Grows b0 s) : Grows b0 (Machine.voteLoop n s) := by
  induction n generalizing s with
  | zero => simpa [Machine.voteLoop] using h0
  | succ n ih =>
    unfold Machine.voteLoop; split
    · exact h0
    · split
      · exact ih _ (by simp [h0])
      · exact ih _ (by simp [h0])
@[simp] theorem settleVote_grows {b0 : State} (s : State)  (h0 : Grows b0 s) : Grows b0 (Machine.settleVote s) := by
  simp [Machine.settleVote, *]
@[simp] theorem gapBegin_grows {b0 : State} (s : State) (k : Nat)  (h0 : Grows b0 s) : Grows b0 (Machine.gapBegin s k) := by
  unfold Machine.gapBegin; (try dsimp only)
  all_goals first | (simp (maxDischargeDepth := 30) [*]; done) | simp (maxDischargeDepth := 30) +contextual [*]
@[simp] theorem laneData_grows {b0 : State} (s : State) (k : Nat) (x : Sent)  (h0 : Grows b0 s) : Grows b0 (Machine.laneData s k x) := by
  simp (maxDischargeDepth := 30) [Machine.laneData, *]
@[simp] theorem judgeCycle_grows {b0 : State} (cy : Nat) (s : State) (k : Nat)  (h0 : Grows b0 s) : Grows b0 (Machine.judgeCycle cy s k) := by
  unfold Machine.judgeCycle; (try dsimp only)
  repeat' (first | with_reducible assumption | with_reducible refine grows_foldl _ _ ?_ (fun _ _ _ => ?_) | split)
  all_goals (try simp (maxDischargeDepth := 30) [*])
@[simp] theorem placeFence_grows {b0 : State} (s : State) (stamp n : Nat) (c : Int)  (h0 : Grows b0 s) : Grows b0 (Machine.placeFence s stamp n c) := by
  unfold Machine.placeFence; dsimp only
  refine settleVote_grows _ (grows_foldl _ _ ?_ (fun x k hx => by split <;> simp [hx]))
  have h1 : Grows b0 (s.vot.windows.foldl (fun s w => s) s) := grows_foldl _ _ h0 (fun x w hx => hx)
  split
  · refine grows_foldl _ _ ((grows_mk ..).mpr (grows_foldl _ _ ((grows_mk ..).mpr (placeControl_grows _ _ h0)) (fun x w hx => ?_))) (fun x k hx => judgeCycle_grows _ _ _ hx)
    split
    · split
      · exact closeWindow_grows _ _ _ hx
      · exact hx
    · exact hx
  · refine (grows_mk ..).mpr (grows_foldl _ _ ((grows_mk ..).mpr (placeControl_grows _ _ h0)) (fun x w hx => ?_))
    split
    · split
      · exact closeWindow_grows _ _ _ hx
      · exact hx
    · exact hx
@[simp] theorem writeWb_grows {b0 : State} (s : State) (k : Nat)  (h0 : Grows b0 s) : Grows b0 (Machine.writeWb s k) := by
  simp [Machine.writeWb, *]
@[simp] theorem writeDesc_grows {b0 : State} (s : State) (k : Nat) (d : Bytes) (used : Nat)  (h0 : Grows b0 s) : Grows b0 (Machine.writeDesc s k d used) := by
  simp [Machine.writeDesc, *]
@[simp] theorem afterBatch_grows {b0 : State} (s : State) (k : Nat) (force : Bool)  (h0 : Grows b0 s) : Grows b0 (Machine.afterBatch s k force) := by
  simp (maxDischargeDepth := 30) [Machine.afterBatch, *]
@[simp] theorem writeGap_grows {b0 : State} (s : State) (k : Nat) (g : Gap)  (h0 : Grows b0 s) : Grows b0 (Machine.writeGap s k g) := by
  simp (maxDischargeDepth := 30) [Machine.writeGap, *]
@[simp] theorem laneLeaves_grows {b0 : State} (s : State) (k : Nat)  (h0 : Grows b0 s) : Grows b0 (Machine.laneLeaves s k) := by
  simp [Machine.laneLeaves, *]
@[simp] theorem masterGate_grows {b0 : State} (s : State) (r : Req) (off : Nat) (k : State → State) (h_k : ∀ x, Grows b0 x → Grows b0 (k x)) (h0 : Grows b0 s) : Grows b0 (Machine.masterGate s r off k) := by
  unfold Machine.masterGate
  all_goals first | (simp (maxDischargeDepth := 30) [*]; done) | simp (maxDischargeDepth := 30) +contextual [*]
@[simp] theorem journalMark_grows {b0 : State} (s : State) (code a b : Nat)  (h0 : Grows b0 s) : Grows b0 (Machine.journalMark s code a b) := by
  simp [Machine.journalMark, *]
@[simp] theorem stepTime_grows {b0 : State} (s : State) (dt : Nat) (step : Int)  (h0 : Grows b0 s) : Grows b0 (Machine.stepTime s dt step) := by
  simp (maxDischargeDepth := 30) [Machine.stepTime, *]
@[simp] theorem setTrig_grows {b0 : State} (s : State) (t : Nat) (x : Trig)  (h0 : Grows b0 s) : Grows b0 (Machine.setTrig s t x) := by
  simp [Machine.setTrig, *]
@[simp] theorem missTrig_grows {b0 : State} (s : State) (t n : Nat)  (h0 : Grows b0 s) : Grows b0 (Machine.missTrig s t n) := by
  simp (maxDischargeDepth := 30) [Machine.missTrig, *]
@[simp] theorem armTrig_grows {b0 : State} (s : State) (t : Nat)  (h0 : Grows b0 s) : Grows b0 (Machine.armTrig s t) := by
  simp (maxDischargeDepth := 30) [Machine.armTrig, *]
@[simp] theorem loseEdge_grows {b0 : State} (s : State) (c : Nat)  (h0 : Grows b0 s) : Grows b0 (Machine.loseEdge s c) := by
  simp [Machine.loseEdge, *]
@[simp] theorem latchHalf_grows {b0 : State} (s : State) (r : Req) (off v : Nat)  (h0 : Grows b0 s) : Grows b0 (Machine.latchHalf s r off v) := by
  simp [Machine.latchHalf, *]
@[simp] theorem tick_grows {b0 : State} (s : State)  (h0 : Grows b0 s) : Grows b0 (Machine.tick s) := by
  simp [Machine.tick, *]
@[simp] theorem setRed_grows {b0 : State} (s : State) (x : Red)  (h0 : Grows b0 s) : Grows b0 (Machine.setRed s x) := by
  simp [Machine.setRed, *]
@[simp] theorem setGrant_grows {b0 : State} (s : State) (k : Nat) (g : Grant)  (h0 : Grows b0 s) : Grows b0 (Machine.setGrant s k g) := by
  simp [Machine.setGrant, *]
@[simp] theorem leaseVector_grows {b0 : State} (s : State) (k : Nat)  (h0 : Grows b0 s) : Grows b0 (Machine.leaseVector s k) := by
  simp [Machine.leaseVector, *]
@[simp] theorem rejectGrant_grows {b0 : State} (s : State) (k : Nat)  (h0 : Grows b0 s) : Grows b0 (Machine.rejectGrant s k) := by
  simp [Machine.rejectGrant, *]
@[simp] theorem seeEpoch_grows {b0 : State} (s : State) (e : Nat)  (h0 : Grows b0 s) : Grows b0 (Machine.seeEpoch s e) := by
  simp [Machine.seeEpoch, *]
@[simp] theorem sendJoin_grows {b0 : State} (s : State)  (h0 : Grows b0 s) : Grows b0 (Machine.sendJoin s) := by
  simp [Machine.sendJoin, *]
@[simp] theorem powerDown_grows {b0 : State} (s : State)  (h0 : Grows b0 s) : Grows b0 (Machine.powerDown s) := by
  unfold Machine.powerDown; dsimp only
  refine powerFor_grows _ _ ?_
  have h := clearPath_grows _ h0
  generalize clearPath s = s1 at *
  exact Grows.mk h.pending h.free h.out h.secver (fun w => tabWf_filter (fun k _ => keepsCold k) (h.regs w)) h.nvm h.msix h.pba (fun _ => rfl) (fun _ => rfl)
@[simp] theorem becomeStandby_grows {b0 : State} (s : State)  (h0 : Grows b0 s) : Grows b0 (Machine.becomeStandby s) := by
  simp (maxDischargeDepth := 30) [Machine.becomeStandby, *]
@[simp] theorem leaveShadow_grows {b0 : State} (s : State)  (h0 : Grows b0 s) : Grows b0 (Machine.leaveShadow s) := by
  simp (maxDischargeDepth := 30) [Machine.leaveShadow, *]
@[simp] theorem startCold_grows {b0 : State} (s : State)  (h0 : Grows b0 s) : Grows b0 (Machine.startCold s) := by
  simp [Machine.startCold, *]
@[simp] theorem countWarm_grows {b0 : State} (s : State)  (h0 : Grows b0 s) : Grows b0 (Machine.countWarm s) := by
  simp [Machine.countWarm, *]
@[simp] theorem beginTakeover_grows {b0 : State} (s : State)  (h0 : Grows b0 s) : Grows b0 (Machine.beginTakeover s) := by
  unfold Machine.beginTakeover; (try dsimp only)
  repeat' (first | with_reducible assumption | with_reducible refine grows_foldl _ _ ?_ (fun _ _ _ => ?_) | split)
  all_goals (try simp (maxDischargeDepth := 30) [*])
@[simp] theorem adoptEpoch_grows {b0 : State} (s : State) (e : Nat)  (h0 : Grows b0 s) : Grows b0 (Machine.adoptEpoch s e) := by
  simp [Machine.adoptEpoch, *]
@[simp] theorem makeCurrent_grows {b0 : State} (s : State) (k e : Nat)  (h0 : Grows b0 s) : Grows b0 (Machine.makeCurrent s k e) := by
  simp [Machine.makeCurrent, *]
@[simp] theorem leaseLost_grows {b0 : State} (s : State)  (h0 : Grows b0 s) : Grows b0 (Machine.leaseLost s) := by
  simp (maxDischargeDepth := 30) [Machine.leaseLost, *]
@[simp] theorem grantEnded_grows {b0 : State} (s : State)  (h0 : Grows b0 s) : Grows b0 (Machine.grantEnded s) := by
  unfold Machine.grantEnded; (repeat' split) <;> simp [*]
@[simp] theorem lapseGrant_grows {b0 : State} (s : State) (k : Nat)  (h0 : Grows b0 s) : Grows b0 (Machine.lapseGrant s k) := by
  simp (maxDischargeDepth := 30) [Machine.lapseGrant, *]
@[simp] theorem laneGate_grows {b0 : State} (s : State) (r : Req) (k : Nat) (f : State → State) (h_f : ∀ x, Grows b0 x → Grows b0 (f x)) (h0 : Grows b0 s) : Grows b0 (Machine.laneGate s r k f) := by
  simp (maxDischargeDepth := 30) [Machine.laneGate, *]
@[simp] theorem higherEpoch_grows {b0 : State} (s : State) (e : Nat)  (h0 : Grows b0 s) : Grows b0 (Machine.higherEpoch s e) := by
  simp (maxDischargeDepth := 30) [Machine.higherEpoch, *]
@[simp] theorem acceptIu_grows {b0 : State} (s : State) (h : IuHead) (f : State → State) (h_f : ∀ x, Grows b0 x → Grows b0 (f x)) (h0 : Grows b0 s) : Grows b0 (Machine.acceptIu s h f) := by
  unfold Machine.acceptIu; (try dsimp only)
  repeat' (first | with_reducible assumption | with_reducible refine grows_foldl _ _ ?_ (fun _ _ _ => ?_) | split)
  all_goals (try simp (maxDischargeDepth := 30) [*])
@[simp] theorem linkLost_grows {b0 : State} (s : State)  (h0 : Grows b0 s) : Grows b0 (Machine.linkLost s) := by
  simp (maxDischargeDepth := 30) [Machine.linkLost, *]
@[simp] theorem beginDivergence_grows {b0 : State} (s : State) (ask : Bool)  (h0 : Grows b0 s) : Grows b0 (Machine.beginDivergence s ask) := by
  simp (maxDischargeDepth := 30) [Machine.beginDivergence, *]
@[simp] theorem mismatch_grows {b0 : State} (s : State)  (h0 : Grows b0 s) : Grows b0 (Machine.mismatch s) := by
  simp [Machine.mismatch, *]
@[simp] theorem ownResult_grows {b0 : State} (s : State) (failed : Bool)  (h0 : Grows b0 s) : Grows b0 (Machine.ownResult s failed) := by
  simp (maxDischargeDepth := 30) [Machine.ownResult, *]
@[simp] theorem closeDigest_grows {b0 : State} (s : State) (q : Nat)  (h0 : Grows b0 s) : Grows b0 (Machine.closeDigest s q) := by
  simp [Machine.closeDigest, *]

end Sys2Proof.Laws
end

