-- ==== Sys2Proof/Laws/GrowsFlow.lean ====
section
/-! SUPPORT. One lemma per operation of the path of a sentence, from reception to departure: what it keeps. -/

namespace Sys2Proof.Laws

open Sys2Proof Sys2Proof.Machine

@[simp] theorem setPort_grows {b0 : State} (s : State) (n : Nat) (p : Port)  (h0 : Grows b0 s) : Grows b0 (Machine.setPort s n p) := by
  simp [Machine.setPort, *]
@[simp] theorem framing_grows {b0 : State} (s : State) (n : Nat)  (h0 : Grows b0 s) : Grows b0 (Machine.framing s n) := by
  simp [Machine.framing, *]
@[simp] theorem checksum_grows {b0 : State} (s : State) (n : Nat)  (h0 : Grows b0 s) : Grows b0 (Machine.checksum s n) := by
  simp [Machine.checksum, *]
@[simp] theorem overrun_grows {b0 : State} (s : State) (n lost : Nat)  (h0 : Grows b0 s) : Grows b0 (Machine.overrun s n lost) := by
  simp (maxDischargeDepth := 30) [Machine.overrun, *]
@[simp] theorem pauseGen_grows {b0 : State} (s : State) (n : Nat)  (h0 : Grows b0 s) : Grows b0 (Machine.pauseGen s n) := by
  simp (maxDischargeDepth := 30) [Machine.pauseGen, *]
@[simp] theorem bufferIn_grows {b0 : State} (s : State) (n : Nat) (x : Sent)  (h0 : Grows b0 s) : Grows b0 (Machine.bufferIn s n x) := by
  simp (maxDischargeDepth := 30) [Machine.bufferIn, *]
@[simp] theorem receive_grows {b0 : State} (s : State) (n : Nat) (x : Sent)  (h0 : Grows b0 s) : Grows b0 (Machine.receive s n x) := by
  simp [Machine.receive, *]
@[simp] theorem rxClear_grows {b0 : State} (s : State) (n : Nat)  (h0 : Grows b0 s) : Grows b0 (Machine.rxClear s n) := by
  simp [Machine.rxClear, *]
@[simp] theorem rxFail_grows {b0 : State} (s : State) (n : Nat)  (h0 : Grows b0 s) : Grows b0 (Machine.rxFail s n) := by
  simp (maxDischargeDepth := 30) [Machine.rxFail, *]
@[simp] theorem spFinish_grows {b0 : State} (s : State) (n e : Nat)  (h0 : Grows b0 s) : Grows b0 (Machine.spFinish s n e) := by
  unfold Machine.spFinish; (try dsimp only)
  repeat' (first | with_reducible assumption | with_reducible refine grows_foldl _ _ ?_ (fun _ _ _ => ?_) | split)
  all_goals (try simp (maxDischargeDepth := 30) [*])
@[simp] theorem rxStart_grows {b0 : State} (s : State) (n : Nat) (first : Bytes) (t e : Nat)  (h0 : Grows b0 s) : Grows b0 (Machine.rxStart s n first t e) := by
  simp [Machine.rxStart, *]
@[simp] theorem rxIdle_grows {b0 : State} (s : State) (n : Nat) (ch : Byte) (t e : Nat)  (h0 : Grows b0 s) : Grows b0 (Machine.rxIdle s n ch t e) := by
  unfold Machine.rxIdle; (try dsimp only)
  repeat' (first | with_reducible assumption | with_reducible refine grows_foldl _ _ ?_ (fun _ _ _ => ?_) | split)
  all_goals (try simp (maxDischargeDepth := 30) [*])
@[simp] theorem rxMore_grows {b0 : State} (s : State) (n : Nat) (ch : Byte) (t e : Nat)  (h0 : Grows b0 s) : Grows b0 (Machine.rxMore s n ch t e) := by
  unfold Machine.rxMore; (try dsimp only)
  repeat' (first | with_reducible assumption | with_reducible refine grows_foldl _ _ ?_ (fun _ _ _ => ?_) | split)
  all_goals (try simp (maxDischargeDepth := 30) [*])
@[simp] theorem rxSettle_grows {b0 : State} (s : State) (n : Nat) (ch : Byte) (t : Nat)  (h0 : Grows b0 s) : Grows b0 (Machine.rxSettle s n ch t) := by
  unfold Machine.rxSettle; (try dsimp only)
  repeat' (first | with_reducible assumption | with_reducible refine grows_foldl _ _ ?_ (fun _ _ _ => ?_) | split)
  all_goals (try simp (maxDischargeDepth := 30) [*])
@[simp] theorem mvAnswer_grows {b0 : State} (s : State) (n addr code : Nat)  (h0 : Grows b0 s) : Grows b0 (Machine.mvAnswer s n addr code) := by
  unfold Machine.mvAnswer; dsimp only
  repeat' split
  · exact h0
  · simp (maxDischargeDepth := 30) [h0]
  · exact mvSent_grows _ _ _ (emit_grows _ _ (freeVal_snd _ h0))
@[simp] theorem portOn_grows {b0 : State} (s : State) (n : Nat)  (h0 : Grows b0 s) : Grows b0 (Machine.portOn s n) := by
  simp (maxDischargeDepth := 30) [Machine.portOn, *]
@[simp] theorem portOff_grows {b0 : State} (s : State) (n : Nat)  (h0 : Grows b0 s) : Grows b0 (Machine.portOff s n) := by
  simp (maxDischargeDepth := 30) [Machine.portOff, *]
@[simp] theorem takeReq_grows {b0 : State} (s : State) (r : BReq)  (h0 : Grows b0 s) : Grows b0 (Machine.takeReq s r) := by
  simp [Machine.takeReq, *]
@[simp] theorem fetched_grows {b0 : State} (s : State) (lane : Nat) (guard : Bool) (act : State → State) (h_act : ∀ x, Grows b0 x → Grows b0 (act x)) (h0 : Grows b0 s) : Grows b0 (Machine.fetched s lane guard act) := by
  simp (maxDischargeDepth := 30) [Machine.fetched, *]
@[simp] theorem command_grows {b0 : State} (s : State) (r : BReq) (op : Nat)  (h0 : Grows b0 s) : Grows b0 (Machine.command s r op) := by
  unfold Machine.command; (repeat' split) <;> simp [*]
@[simp] theorem setSem_grows {b0 : State} (s : State) (n : Nat) (x : Sem)  (h0 : Grows b0 s) : Grows b0 (Machine.setSem s n x) := by
  simp [Machine.setSem, *]
theorem acquire_snd {b0 : State} (s : State) (lane : Nat) (guard : Bool) (n : Nat) (h0 : Grows b0 s) : Grows b0 (Machine.acquire s lane guard n).2 := by
  unfold Machine.acquire; dsimp only; split <;> simp [h0]
theorem release_snd {b0 : State} (s : State) (lane : Nat) (guard : Bool) (n : Nat) (h0 : Grows b0 s) : Grows b0 (Machine.release s lane guard n).2 := by
  unfold Machine.release; split <;> simp [h0]
theorem semCommand_grows {b0 : State} (s : State) (lane : Nat) (guard : Bool) (n tag op : Nat) (f : State → Nat × State)
    (hf : ∀ x, Grows b0 x → Grows b0 (f x).2) (h0 : Grows b0 s) : Grows b0 (Machine.semCommand s lane guard n tag op f) := by
  unfold Machine.semCommand; dsimp only
  have h1 : Grows b0 (if s.dev ≠ .active then (7, s) else if n > 127 then (4, s) else f s).2 := by
    (repeat' split) <;> simp_all
  exact writeCpl_grows _ _ _ _ _ _ _ _ (countStatus_grows _ _ h1)
theorem semReg_grows {b0 : State} (s : State) (r : Req) (n : Nat) (f : State → Nat → Bool → Nat × State)
    (hf : ∀ x l g, Grows b0 x → Grows b0 (f x l g).2) (h0 : Grows b0 s) : Grows b0 (Machine.semReg s r n f) := by
  unfold Machine.semReg
  refine gated_grows _ _ _ _ (fun x hx => ?_) h0
  cases r with
  | steward => exact hx
  | fn lane guard => dsimp only; split <;> simp [hx, hf]
@[simp] theorem semExpire_grows {b0 : State} (s : State) (n : Nat)  (h0 : Grows b0 s) : Grows b0 (Machine.semExpire s n) := by
  unfold Machine.semExpire; (repeat' split) <;> simp (maxDischargeDepth := 30) [*]
@[simp] theorem dropRing_grows {b0 : State} (s : State) (lane : Nat) (guard : Bool)  (h0 : Grows b0 s) : Grows b0 (Machine.dropRing s lane guard) := by
  simp [Machine.dropRing, *]
@[simp] theorem bgFlush_grows {b0 : State} (l : List Sent) (s : State) (h0 : Grows b0 s) : Grows b0 (Machine.bgFlush l s) := by
  induction l generalizing s with
  | nil => simp [Machine.bgFlush, h0]
  | cons x t ih =>
    unfold Machine.bgFlush; dsimp only; split
    · simp [h0]
    · refine ih _ (setPort_grows _ _ _ (mirrorRec_snd _ _ h0))
@[simp] theorem bgSend_grows {b0 : State} (s : State) (x : Sent)  (h0 : Grows b0 s) : Grows b0 (Machine.bgSend s x) := by
  simp [Machine.bgSend, *]
@[simp] theorem invalidate_grows {b0 : State} (s : State) (w offset len : Nat)  (h0 : Grows b0 s) : Grows b0 (Machine.invalidate s w offset len) := by
  simp [Machine.invalidate, *]
@[simp] theorem startEx_grows {b0 : State} (s : State) (r : BReq)  (h0 : Grows b0 s) : Grows b0 (Machine.startEx s r) := by
  simp [Machine.startEx, *]
@[simp] theorem sendEx_grows {b0 : State} (s : State) (r : BReq) (tag : Nat) (payload : Bytes)  (h0 : Grows b0 s) : Grows b0 (Machine.sendEx s r tag payload) := by
  simp (maxDischargeDepth := 30) [Machine.sendEx, *]
theorem mvValue_eq {b0 s : State} {n addr : Nat} {b : Bytes} {s' : State} (e : Machine.mvValue s n addr = some (b, s')) (h0 : Grows b0 s) : Grows b0 s' := by
  have hf := freeVal_snd (b0 := b0) s h0
  unfold Machine.mvValue at e; dsimp only at e
  split at e
  · simp at e; exact e.2 ▸ h0
  · simp at e; exact e.2 ▸ hf
  · cases e
@[simp] theorem issueMv_grows {b0 : State} (s : State) (r : BReq)  (h0 : Grows b0 s) : Grows b0 (Machine.issueMv s r) := by
  unfold Machine.issueMv; dsimp only
  split
  · simp [h0]
  · rename_i b s' e
    have h := mvValue_eq e h0
    (repeat' split) <;> simp (maxDischargeDepth := 30) [h]
theorem cbData_snd {b0 : State} (s : State) (r : BReq) (h0 : Grows b0 s) : Grows b0 (Machine.cbData s r).2 := by
  unfold Machine.cbData; dsimp only; split
  · exact h0
  · exact freeVal_snd _ h0
@[simp] theorem issue_grows {b0 : State} (s : State) (r : BReq)  (h0 : Grows b0 s) : Grows b0 (Machine.issue s r) := by
  unfold Machine.issue; dsimp only
  split
  · simp [h0]
  · have h1 : Grows b0 (if writes r then invalidate s r.window (r.offset + partAt s r) (partLen s r) else s) := by split <;> simp [h0]
    generalize (if writes r then invalidate s r.window (r.offset + partAt s r) (partLen s r) else s) = s1 at *
    split
    · have h2 : Grows b0 (if writes r = true then cbData s1 r else (0, s1)).2 := by
        split
        · exact cbData_snd _ _ h1
        · exact h1
      simp (maxDischargeDepth := 30) [h2]
    all_goals simp (maxDischargeDepth := 30) [h1]
@[simp] theorem sdoOn_grows {b0 : State} (s : State) (r : BReq) (toggle : Bool)  (h0 : Grows b0 s) : Grows b0 (Machine.sdoOn s r toggle) := by
  simp [Machine.sdoOn, *]
@[simp] theorem mirrorUpdate_grows {b0 : State} (s : State) (x : Sent)  (h0 : Grows b0 s) : Grows b0 (Machine.mirrorUpdate s x) := by
  unfold Machine.mirrorUpdate; (try dsimp only)
  repeat' (first | with_reducible assumption | with_reducible refine grows_foldl _ _ ?_ (fun _ _ _ => ?_) | split)
  all_goals (try simp (maxDischargeDepth := 30) [*])
@[simp] theorem mirrorReply_grows {b0 : State} (s : State) (w : Nat)  (h0 : Grows b0 s) : Grows b0 (Machine.mirrorReply s w) := by
  unfold Machine.mirrorReply; (repeat' split) <;> simp [*]
@[simp] theorem winGate_grows {b0 : State} (s : State) (r : Req) (w : Nat) (f : State → State) (h_f : ∀ x, Grows b0 x → Grows b0 (f x)) (h0 : Grows b0 s) : Grows b0 (Machine.winGate s r w f) := by
  unfold Machine.winGate
  repeat' (first | with_reducible assumption | with_reducible refine grows_foldl _ _ ?_ (fun _ _ _ => ?_) | split)
  all_goals (try simp (maxDischargeDepth := 30) [*])
  all_goals first | (simp (maxDischargeDepth := 30) [*]; done) | simp (maxDischargeDepth := 30) +contextual [*]
@[simp] theorem restorePart_grows {b0 : State} (s : State) (b : Nat) (p : PeatPart)  (h0 : Grows b0 s) : Grows b0 (Machine.restorePart s b p) := by
  unfold Machine.restorePart; (try dsimp only)
  repeat' (first | with_reducible assumption | with_reducible refine grows_foldl _ _ ?_ (fun _ _ _ => ?_) | split)
  all_goals (try simp (maxDischargeDepth := 30) [*])
@[simp] theorem sealBegins_grows {b0 : State} (s : State)  (h0 : Grows b0 s) : Grows b0 (Machine.sealBegins s) := by
  simp [Machine.sealBegins, *]
@[simp] theorem ckptAbandon_grows {b0 : State} (s : State)  (h0 : Grows b0 s) : Grows b0 (Machine.ckptAbandon s) := by
  simp [Machine.ckptAbandon, *]
theorem peatKey_snd {b0 : State} (s : State) (usage : Nat) (h0 : Grows b0 s) : Grows b0 (Machine.peatKey s usage).2 := by
  unfold Machine.peatKey; exact takeKey_snd _ _ _ _ h0
theorem peatKey_eq {b0 : State} {s : State} {usage : Nat} {v : _} {s' : State} (e : Machine.peatKey s usage = (v, s')) (h0 : Grows b0 s) : Grows b0 s' := by
  have := peatKey_snd (b0 := b0) s usage h0; rw [e] at this; exact this
@[simp] theorem ckptSend_grows {b0 : State} (s : State) (c : Ckpt)  (h0 : Grows b0 s) : Grows b0 (Machine.ckptSend s c) := by
  unfold Machine.ckptSend; dsimp only
  split
  · rename_i e; exact ckptAbandon_grows _ (peatKey_eq e h0)
  · rename_i e; have h := peatKey_eq e h0
    refine setRed_grows _ _ (sendIu_grows _ _ (grows_foldl _ _ h (fun x e hx => by simp [hx])))
@[simp] theorem checkpoint_grows {b0 : State} (s : State)  (h0 : Grows b0 s) : Grows b0 (Machine.checkpoint s) := by
  simp (maxDischargeDepth := 30) [Machine.checkpoint, *]
@[simp] theorem peatCommit_grows {b0 : State} (s : State) (q : Nat) (blocks : List Nat) (full : Bool)  (h0 : Grows b0 s) : Grows b0 (Machine.peatCommit s q blocks full) := by
  simp [Machine.peatCommit, *]
@[simp] theorem copyDone_grows {b0 : State} (s : State) (q : Nat) (full : Bool) (list : Tab (Option PeatBlk))  (h0 : Grows b0 s) : Grows b0 (Machine.copyDone s q full list) := by
  unfold Machine.copyDone; (try dsimp only)
  repeat' (first | with_reducible assumption | with_reducible refine grows_foldl _ _ ?_ (fun _ _ _ => ?_) | split)
  all_goals (try simp (maxDischargeDepth := 30) [*])
@[simp] theorem shadowSeal_grows {b0 : State} (s : State)  (h0 : Grows b0 s) : Grows b0 (Machine.shadowSeal s) := by
  unfold Machine.shadowSeal; dsimp only
  split
  · exact h0
  · refine powerDown_grows _ ?_
    have h1 : Grows b0 (sealBegins (setRed s { s.red with shadowSeal := false })) := by simp [h0]
    split
    · rename_i e; exact cnt_grows _ _ (peatKey_eq e h1)
    · rename_i e; exact setRed_grows _ _ (peatKey_eq e h1)
@[simp] theorem loadRegions_grows {b0 : State} (s : State) (image : Bytes) (rs : List (Nat × Nat × Nat × Nat))  (h0 : Grows b0 s) : Grows b0 (Machine.loadRegions s image rs) := by
  unfold Machine.loadRegions; (try dsimp only)
  repeat' (first | with_reducible assumption | with_reducible refine grows_foldl _ _ ?_ (fun _ _ _ => ?_) | split)
  all_goals (try simp (maxDischargeDepth := 30) [*])
@[simp] theorem ethSentence_grows {b0 : State} (s : State) (n : Nat) (body : Bytes) (t e : Nat)  (h0 : Grows b0 s) : Grows b0 (Machine.ethSentence s n body t e) := by
  unfold Machine.ethSentence; (try dsimp only)
  repeat' (first | with_reducible assumption | with_reducible refine grows_foldl _ _ ?_ (fun _ _ _ => ?_) | split)
  all_goals (try simp (maxDischargeDepth := 30) [*])
@[simp] theorem prpYield_grows {b0 : State} (s : State) (n mac seq : Nat)  (h0 : Grows b0 s) : Grows b0 (Machine.prpYield s n mac seq) := by
  simp [Machine.prpYield, *]
@[simp] theorem removeKey_grows {b0 : State} (s : State) (id : Nat)  (h0 : Grows b0 s) : Grows b0 (Machine.removeKey s id) := by
  simp [Machine.removeKey, *]
@[simp] theorem refuse_grows {b0 : State} (s : State) (id leaf : Nat) (buf : Bool)  (h0 : Grows b0 s) : Grows b0 (Machine.refuse s id leaf buf) := by
  simp (maxDischargeDepth := 30) [Machine.refuse, *]
@[simp] theorem contractAtStream_grows {b0 : State} (s : State) (id leaf : Nat)  (h0 : Grows b0 s) : Grows b0 (Machine.contractAtStream s id leaf) := by
  simp (maxDischargeDepth := 30) [Machine.contractAtStream, *]
@[simp] theorem classifierLose_grows {b0 : State} (s : State) (x : Sent)  (h0 : Grows b0 s) : Grows b0 (Machine.classifierLose s x) := by
  simp [Machine.classifierLose, *]
@[simp] theorem settlePending_grows {b0 : State} (s : State)  (h0 : Grows b0 s) : Grows b0 (Machine.settlePending s) := by
  simp [Machine.settlePending, *]
@[simp] theorem createLearned_grows {b0 : State} (s : State) (key : Bytes) (id template probation : Nat)  (h0 : Grows b0 s) : Grows b0 (Machine.createLearned s key id template probation) := by
  simp (maxDischargeDepth := 30) [Machine.createLearned, *]
@[simp] theorem emptyLearned_grows {b0 : State} (s : State) (id : Nat)  (h0 : Grows b0 s) : Grows b0 (Machine.emptyLearned s id) := by
  simp [Machine.emptyLearned, *]
@[simp] theorem retireLearned_grows {b0 : State} (s : State) (id : Nat)  (h0 : Grows b0 s) : Grows b0 (Machine.retireLearned s id) := by
  simp (maxDischargeDepth := 30) [Machine.retireLearned, *]
@[simp] theorem ageLearned_grows {b0 : State} (s : State) (id : Nat)  (h0 : Grows b0 s) : Grows b0 (Machine.ageLearned s id) := by
  simp (maxDischargeDepth := 30) [Machine.ageLearned, *]
@[simp] theorem verdictGate_grows {b0 : State} (s : State) (r : Req) (id : Nat) (f : State → State) (h_f : ∀ x, Grows b0 x → Grows b0 (f x)) (h0 : Grows b0 s) : Grows b0 (Machine.verdictGate s r id f) := by
  unfold Machine.verdictGate; (try dsimp only)
  all_goals first | (simp (maxDischargeDepth := 30) [*]; done) | simp (maxDischargeDepth := 30) +contextual [*]
@[simp] theorem agingSweep_grows {b0 : State} (s : State)  (h0 : Grows b0 s) : Grows b0 (Machine.agingSweep s) := by
  unfold Machine.agingSweep; (try dsimp only)
  repeat' (first | with_reducible assumption | with_reducible refine grows_foldl _ _ ?_ (fun _ _ _ => ?_) | split)
  all_goals (try simp (maxDischargeDepth := 30) [*])
@[simp] theorem streamGate_grows {b0 : State} (s : State) (r : Req) (id : Nat) (f : State → State) (h_f : ∀ x, Grows b0 x → Grows b0 (f x)) (h0 : Grows b0 s) : Grows b0 (Machine.streamGate s r id f) := by
  unfold Machine.streamGate; (try dsimp only)
  all_goals (try simp (maxDischargeDepth := 30) [*])
  all_goals first | (simp (maxDischargeDepth := 30) [*]; done) | simp (maxDischargeDepth := 30) +contextual [*]
@[simp] theorem setGroup_grows {b0 : State} (s : State) (g : Nat) (old new : SrcGroup)  (h0 : Grows b0 s) : Grows b0 (Machine.setGroup s g old new) := by
  simp (maxDischargeDepth := 30) [Machine.setGroup, *]
@[simp] theorem reselectAll_grows {b0 : State} (s : State)  (h0 : Grows b0 s) : Grows b0 (Machine.reselectAll s) := by
  unfold Machine.reselectAll; (try dsimp only)
  repeat' (first | with_reducible assumption | with_reducible refine grows_foldl _ _ ?_ (fun _ _ _ => ?_) | split)
  all_goals (try simp (maxDischargeDepth := 30) [*])
@[simp] theorem memberFails_grows {b0 : State} (s : State) (x : Sent)  (h0 : Grows b0 s) : Grows b0 (Machine.memberFails s x) := by
  simp [Machine.memberFails, *]
@[simp] theorem bogEntry_grows {b0 : State} (s : State) (x : Sent) (egress recording : Bool) (f : Fail)  (h0 : Grows b0 s) : Grows b0 (Machine.bogEntry s x egress recording f) := by
  simp (maxDischargeDepth := 30) [Machine.bogEntry, *]
@[simp] theorem turnAway_grows {b0 : State} (s : State) (x : Sent) (f : Fail)  (h0 : Grows b0 s) : Grows b0 (Machine.turnAway s x f) := by
  unfold Machine.turnAway; (repeat' split) <;> simp (maxDischargeDepth := 30) [*]
theorem sourceTest_snd {b0 : State} (s : State) (x : Sent) (h0 : Grows b0 s) : Grows b0 (Machine.sourceTest s x).2 := by
  unfold Machine.sourceTest; (try dsimp only)
  repeat' (first | with_reducible assumption | with_reducible refine grows_foldl _ _ ?_ (fun _ _ _ => ?_) | split)
  all_goals (try dsimp only)
  all_goals (try simp (maxDischargeDepth := 30) [*])
theorem sourceTest_eq {b0 : State} {s : State} {x : Sent} {v : _} {s' : State} (e : Machine.sourceTest s x = (v, s')) (h0 : Grows b0 s) : Grows b0 s' := by
  have := sourceTest_snd (b0 := b0) s x h0; rw [e] at this; exact this
@[simp] theorem filterTests_grows {b0 : State} (s : State) (x : Sent)  (h0 : Grows b0 s) : Grows b0 (Machine.filterTests s x) := by
  unfold Machine.filterTests; dsimp only
  split
  · simp [h0]
  · split
    · rename_i e; have h := sourceTest_eq e h0; simp [h]
    · rename_i e; have h := sourceTest_eq e h0
      (repeat' split) <;> simp (maxDischargeDepth := 30) [h]
@[simp] theorem sealJudge_grows {b0 : State} (s : State) (x : Sent) (slot : Nat) (key : Bytes)  (h0 : Grows b0 s) : Grows b0 (Machine.sealJudge s x slot key) := by
  unfold Machine.sealJudge; (try dsimp only)
  repeat' (first | with_reducible assumption | with_reducible refine grows_foldl _ _ ?_ (fun _ _ _ => ?_) | split)
  all_goals (try simp (maxDischargeDepth := 30) [*])
@[simp] theorem sealBegin_grows {b0 : State} (s : State) (x : Sent)  (h0 : Grows b0 s) : Grows b0 (Machine.sealBegin s x) := by
  unfold Machine.sealBegin; dsimp only
  (repeat' split)
  · simp [h0]
  · simp [h0]
  · rename_i e; have h := takeKey_eq e h0; simp [h]
  · rename_i e; have h := takeKey_eq e h0; simp [h]
theorem opComplete_snd {b0 : State} (s : State) (user ident : Nat) (h0 : Grows b0 s) : Grows b0 (Machine.opComplete s user ident).2 := by
  unfold Machine.opComplete; (try dsimp only)
  repeat' (first | with_reducible assumption | with_reducible refine grows_foldl _ _ ?_ (fun _ _ _ => ?_) | split)
  all_goals (try dsimp only)
  all_goals (try simp (maxDischargeDepth := 30) [*])
theorem opComplete_eq {b0 : State} {s : State} {user ident : Nat} {v : _} {s' : State} (e : Machine.opComplete s user ident = (v, s')) (h0 : Grows b0 s) : Grows b0 s' := by
  have := opComplete_snd (b0 := b0) s user ident h0; rw [e] at this; exact this
@[simp] theorem sealComplete_grows {b0 : State} (s : State) (ident : Nat)  (h0 : Grows b0 s) : Grows b0 (Machine.sealComplete s ident) := by
  unfold Machine.sealComplete; dsimp only
  split
  · exact h0
  · split
    · simp [h0]
    · split
      · rename_i e; refine sealJudge_grows _ _ _ _ (opComplete_eq e ?_); simp [h0]
      · rename_i e; refine turnAway_grows _ _ _ (opComplete_eq e ?_); simp [h0]
@[simp] theorem setProg_grows {b0 : State} (s : State) (p : Nat) (x : Prog)  (h0 : Grows b0 s) : Grows b0 (Machine.setProg s p x) := by
  simp [Machine.setProg, *]
@[simp] theorem setEngine_grows {b0 : State} (s : State) (e : Nat) (x : Engine)  (h0 : Grows b0 s) : Grows b0 (Machine.setEngine s e x) := by
  simp [Machine.setEngine, *]
@[simp] theorem sendRun_grows {b0 : State} (s : State) (e : Nat) (o : Bool) (x : Sent)  (h0 : Grows b0 s) : Grows b0 (Machine.sendRun s e o x) := by
  simp [Machine.sendRun, *]
@[simp] theorem dispatchDrop_grows {b0 : State} (s : State) (x : Sent)  (h0 : Grows b0 s) : Grows b0 (Machine.dispatchDrop s x) := by
  simp (maxDischargeDepth := 30) [Machine.dispatchDrop, *]
@[simp] theorem park_grows {b0 : State} (s : State) (x : Sent)  (h0 : Grows b0 s) : Grows b0 (Machine.park s x) := by
  simp (maxDischargeDepth := 30) [Machine.park, *]
@[simp] theorem nodeDrainLoss_grows {b0 : State} (s : State) (n : Nat)  (h0 : Grows b0 s) : Grows b0 (Machine.nodeDrainLoss s n) := by
  simp [Machine.nodeDrainLoss, *]
@[simp] theorem fireSlot_grows {b0 : State} (s : State) (t i mirror : Nat)  (h0 : Grows b0 s) : Grows b0 (Machine.fireSlot s t i mirror) := by
  unfold Machine.fireSlot; (try dsimp only)
  repeat' (first | with_reducible assumption | with_reducible refine grows_foldl _ _ ?_ (fun _ _ _ => ?_) | split)
  all_goals (try simp (maxDischargeDepth := 30) [*])
@[simp] theorem fireSlots_grows {b0 : State} (s : State) (trigger t : Nat)  (h0 : Grows b0 s) : Grows b0 (Machine.fireSlots s trigger t) := by
  unfold Machine.fireSlots
  refine grows_foldl _ _ h0 (fun x i hx => ?_)
  split
  · exact fireSlot_grows _ _ _ _ (mirrorRec_snd _ _ hx)
  · exact hx
@[simp] theorem setCtx_grows {b0 : State} (s : State) (e : Nat) (first : Bool) (r : Option Run)  (h0 : Grows b0 s) : Grows b0 (Machine.setCtx s e first r) := by
  simp [Machine.setCtx, *]
@[simp] theorem pauseShared_grows {b0 : State} (s : State) (e : Nat)  (h0 : Grows b0 s) : Grows b0 (Machine.pauseShared s e) := by
  unfold Machine.pauseShared; (repeat' split) <;> simp [*]
@[simp] theorem resumeShared_grows {b0 : State} (s : State) (e : Nat)  (h0 : Grows b0 s) : Grows b0 (Machine.resumeShared s e) := by
  unfold Machine.resumeShared; (try dsimp only)
  repeat' (first | with_reducible assumption | with_reducible refine grows_foldl _ _ ?_ (fun _ _ _ => ?_) | split)
  all_goals (try simp (maxDischargeDepth := 30) [*])
@[simp] theorem startRun_grows {b0 : State} (s : State) (e : Nat) (first : Bool)  (h0 : Grows b0 s) : Grows b0 (Machine.startRun s e first) := by
  unfold Machine.startRun; split <;> simp [*]
@[simp] theorem endRun_grows {b0 : State} (s : State) (e : Nat) (first : Bool) (r : Run) (group : List Sent)  (h0 : Grows b0 s) : Grows b0 (Machine.endRun s e first r group) := by
  simp (maxDischargeDepth := 30) [Machine.endRun, *]
@[simp] theorem abortRun_grows {b0 : State} (s : State) (e : Nat) (first : Bool) (r : Run) (cause : Nat)  (h0 : Grows b0 s) : Grows b0 (Machine.abortRun s e first r cause) := by
  simp (maxDischargeDepth := 30) [Machine.abortRun, *]
@[simp] theorem finishRun_grows {b0 : State} (s : State) (e : Nat) (first : Bool) (r : Run) (emit : Bool)  (h0 : Grows b0 s) : Grows b0 (Machine.finishRun s e first r emit) := by
  simp (maxDischargeDepth := 30) [Machine.finishRun, *]
@[simp] theorem applyOp_grows {b0 : State} (s : State) (e : Nat) (first : Bool) (r : Run) (res : OpRes)  (h0 : Grows b0 s) : Grows b0 (Machine.applyOp s e first r res) := by
  unfold Machine.applyOp; (repeat' split) <;> simp (maxDischargeDepth := 30) [*]
@[simp] theorem stepOp_grows {b0 : State} (s : State) (e code : Nat) (f : Run → Nat → OpRes)  (h0 : Grows b0 s) : Grows b0 (Machine.stepOp s e code f) := by
  unfold Machine.stepOp; split <;> simp [*]
@[simp] theorem engineOut_grows {b0 : State} (s : State) (e : Nat)  (h0 : Grows b0 s) : Grows b0 (Machine.engineOut s e) := by
  simp [Machine.engineOut, *]
@[simp] theorem engineBack_grows {b0 : State} (s : State) (e : Nat)  (h0 : Grows b0 s) : Grows b0 (Machine.engineBack s e) := by
  simp (maxDischargeDepth := 30) [Machine.engineBack, *]
@[simp] theorem progGate_grows {b0 : State} (s : State) (r : Req) (p : Nat) (f : State → State) (h_f : ∀ x, Grows b0 x → Grows b0 (f x)) (h0 : Grows b0 s) : Grows b0 (Machine.progGate s r p f) := by
  unfold Machine.progGate
  all_goals (try simp (maxDischargeDepth := 30) [*])
  all_goals first | (simp (maxDischargeDepth := 30) [*]; done) | simp (maxDischargeDepth := 30) +contextual [*]
@[simp] theorem dropQueued_grows {b0 : State} (p : Nat) (s : State) (e : Nat)  (h0 : Grows b0 s) : Grows b0 (Machine.dropQueued p s e) := by
  unfold Machine.dropQueued; (try dsimp only)
  repeat' (first | with_reducible assumption | with_reducible refine grows_foldl _ _ ?_ (fun _ _ _ => ?_) | split)
  all_goals (try simp (maxDischargeDepth := 30) [*])
@[simp] theorem cycGate_grows {b0 : State} (s : State) (r : Req) (i : Nat) (f : CycSlot → CycSlot)  (h0 : Grows b0 s) : Grows b0 (Machine.cycGate s r i f) := by
  unfold Machine.cycGate; (try dsimp only)
  repeat' (first | with_reducible assumption | with_reducible refine grows_foldl _ _ ?_ (fun _ _ _ => ?_) | split)
  all_goals (try simp (maxDischargeDepth := 30) [*])
  all_goals first | (simp (maxDischargeDepth := 30) [*]; done) | simp (maxDischargeDepth := 30) +contextual [*]
@[simp] theorem startGeneration_grows {b0 : State} (s : State) (g : Nat)  (h0 : Grows b0 s) : Grows b0 (Machine.startGeneration s g) := by
  simp [Machine.startGeneration, *]
@[simp] theorem queueLast_grows {b0 : State} (s : State) (x : Sent)  (h0 : Grows b0 s) : Grows b0 (Machine.queueLast s x) := by
  simp (maxDischargeDepth := 30) [Machine.queueLast, *]
@[simp] theorem digestCommit_grows {b0 : State} (s : State) (x : Sent)  (h0 : Grows b0 s) : Grows b0 (Machine.digestCommit s x) := by
  simp [Machine.digestCommit, *]
@[simp] theorem logCommit_grows {b0 : State} (s : State) (x : Sent)  (h0 : Grows b0 s) : Grows b0 (Machine.logCommit s x) := by
  simp [Machine.logCommit, *]
@[simp] theorem commitAs_grows {b0 : State} (s : State) (x : Sent) (index : Nat)  (h0 : Grows b0 s) : Grows b0 (Machine.commitAs s x index) := by
  unfold Machine.commitAs; dsimp only [Machine.blkNew]
  simp (maxDischargeDepth := 30) [h0]
@[simp] theorem commitNext_grows {b0 : State} (s : State)  (h0 : Grows b0 s) : Grows b0 (Machine.commitNext s) := by
  unfold Machine.commitNext; (repeat' split) <;> simp (maxDischargeDepth := 30) [*]
theorem loggedRelease_eq {b0 s : State} {e : LogEnt} {x : Sent} {s' : State} (h : Machine.loggedRelease s e = some (x, s')) (h0 : Grows b0 s) : Grows b0 s' := by
  unfold Machine.loggedRelease at h
  split at h
  · cases h
  · simp only [Option.map_eq_some_iff] at h
    obtain ⟨c, _, hc⟩ := h
    simp at hc; rw [← hc.2]; simp [h0]
@[simp] theorem commitLogged_grows {b0 : State} (s : State)  (h0 : Grows b0 s) : Grows b0 (Machine.commitLogged s) := by
  unfold Machine.commitLogged; dsimp only
  split
  · exact h0
  · split
    · refine commitAs_grows _ _ _ ?_; split <;> simp [h0]
    · split
      · rename_i e; exact commitAs_grows _ _ _ (loggedRelease_eq e (by simp [h0]))
      · exact h0
@[simp] theorem setEg_grows {b0 : State} (s : State) (q : Nat) (p : EgPort)  (h0 : Grows b0 s) : Grows b0 (Machine.setEg s q p) := by
  simp [Machine.setEg, *]
@[simp] theorem freeCopy_grows {b0 : State} (s : State) (c : Copy)  (h0 : Grows b0 s) : Grows b0 (Machine.freeCopy s c) := by
  simp [Machine.freeCopy, *]
@[simp] theorem dropEgress_grows {b0 : State} (s : State) (q : Nat) (c : Copy)  (h0 : Grows b0 s) : Grows b0 (Machine.dropEgress s q c) := by
  simp (maxDischargeDepth := 30) [Machine.dropEgress, *]
@[simp] theorem downCount_grows {b0 : State} (s : State) (q : Nat) (quiet : Bool)  (h0 : Grows b0 s) : Grows b0 (Machine.downCount s q quiet) := by
  simp (maxDischargeDepth := 30) [Machine.downCount, *]
@[simp] theorem downDrop_grows {b0 : State} (s : State) (q : Nat) (quiet : Bool) (c : Copy)  (h0 : Grows b0 s) : Grows b0 (Machine.downDrop s q quiet c) := by
  simp (maxDischargeDepth := 30) [Machine.downDrop, *]
@[simp] theorem placeCopy_grows {b0 : State} (s : State) (c : Copy) (ok : EgPort → Bool)  (h0 : Grows b0 s) : Grows b0 (Machine.placeCopy s c ok) := by
  unfold Machine.placeCopy; (try dsimp only)
  repeat' (first | with_reducible assumption | with_reducible refine grows_foldl _ _ ?_ (fun _ _ _ => ?_) | split)
  all_goals (try simp (maxDischargeDepth := 30) [*])
  all_goals first | (simp (maxDischargeDepth := 30) [*]; done) | simp (maxDischargeDepth := 30) +contextual [*]
@[simp] theorem setLst_grows {b0 : State} (s : State) (l : Nat) (x : Listener)  (h0 : Grows b0 s) : Grows b0 (Machine.setLst s l x) := by
  simp [Machine.setLst, *]
theorem takeHandle_eq {b0 s : State} {first k : Bool} {s' : State} (h : Machine.takeHandle s first = some (k, s')) (h0 : Grows b0 s) : Grows b0 s' := by
  unfold Machine.takeHandle at h; dsimp only at h
  (repeat' split at h) <;> simp at h <;> (rw [← h.2]; simp [h0])
theorem makeCopy_eq {b0 s : State} {x : Sent} {q : Nat} {l : Option Nat} {t : Nat} {r : Bool} {c : Option Copy} {s' : State}
    (h : Machine.makeCopy s x q l t r = (c, s')) (h0 : Grows b0 s) : Grows b0 s' := by
  unfold Machine.makeCopy at h
  split at h
  · simp at h; rw [← h.2]; simp [h0]
  · rename_i e; simp at h; rw [← h.2]; exact blkRef_grows _ _ (takeHandle_eq e h0)
@[simp] theorem listenerCopy_grows {b0 : State} (s : State) (x : Sent) (l : Nat)  (h0 : Grows b0 s) : Grows b0 (Machine.listenerCopy s x l) := by
  unfold Machine.listenerCopy; dsimp only
  split
  · exact h0
  · split
    · rename_i e; exact makeCopy_eq e h0
    · rename_i e; have h := makeCopy_eq e h0
      (repeat' split) <;> simp (maxDischargeDepth := 30) [h]
@[simp] theorem jnMiss_grows {b0 : State} (s : State) (x : Sent)  (h0 : Grows b0 s) : Grows b0 (Machine.jnMiss s x) := by
  simp [Machine.jnMiss, *]
@[simp] theorem jnCopy_grows {b0 : State} (s : State) (x : Sent)  (h0 : Grows b0 s) : Grows b0 (Machine.jnCopy s x) := by
  unfold Machine.jnCopy; (try dsimp only)
  repeat' (first | with_reducible assumption | with_reducible refine grows_foldl _ _ ?_ (fun _ _ _ => ?_) | split)
  all_goals (try simp (maxDischargeDepth := 30) [*])
@[simp] theorem stCopy_grows {b0 : State} (s : State) (x : Sent)  (h0 : Grows b0 s) : Grows b0 (Machine.stCopy s x) := by
  simp [Machine.stCopy, *]
@[simp] theorem bitmapCopy_grows {b0 : State} (t : Nat) (x : Sent) (s : State) (q : Nat)  (h0 : Grows b0 s) : Grows b0 (Machine.bitmapCopy t x s q) := by
  unfold Machine.bitmapCopy; dsimp only
  split
  · split
    · exact h0
    · split
      · rename_i e; exact makeCopy_eq e h0
      · rename_i e; exact placeCopy_grows _ _ _ (makeCopy_eq e h0)
  · (repeat' split) <;> simp (maxDischargeDepth := 30) [h0]
@[simp] theorem moveCopy_grows {b0 : State} (s : State) (q : Nat) (p : EgPort) (c : Copy) (o : Bool) (n : Nat)  (h0 : Grows b0 s) : Grows b0 (Machine.moveCopy s q p c o n) := by
  simp (maxDischargeDepth := 30) [Machine.moveCopy, *]
@[simp] theorem dropMate_grows {b0 : State} (s : State) (c : Copy)  (h0 : Grows b0 s) : Grows b0 (Machine.dropMate s c) := by
  simp [Machine.dropMate, *]
@[simp] theorem budgetDrop_grows {b0 : State} (s : State) (c : Copy) (leaf : Nat)  (h0 : Grows b0 s) : Grows b0 (Machine.budgetDrop s c leaf) := by
  simp (maxDischargeDepth := 30) [Machine.budgetDrop, *]
@[simp] theorem nodeLose_grows {b0 : State} (s : State) (n : Nat) (c : Copy)  (h0 : Grows b0 s) : Grows b0 (Machine.nodeLose s n c) := by
  simp (maxDischargeDepth := 30) [Machine.nodeLose, *]
@[simp] theorem deferCopy_grows {b0 : State} (s : State) (q : Nat) (c : Copy)  (h0 : Grows b0 s) : Grows b0 (Machine.deferCopy s q c) := by
  unfold Machine.deferCopy; dsimp only
  have h1 : ∀ e, Grows b0 (cnt (setEg s q e) Reg.BGT_CNT_CONTRACT) := fun e => by simp [h0]
  split
  · exact h1 _
  · exact report_grows _ _ _ _ (setEg_grows _ _ _ (h1 _))
theorem budgetCopy_eq {b0 s0 s : State} {q : Nat} {p : EgPort} {c : Copy} {o : Bool} {t : State} (h : Machine.budgetCopy s0 s q p c o = some t)
    (h1 : Grows b0 s0) (h0 : Grows b0 s) : Grows b0 t := by
  unfold Machine.budgetCopy at h; dsimp only at h
  (repeat' split at h) <;> simp at h <;> (rw [← h]; simp (maxDischargeDepth := 30) [h0, h1])
theorem tryZero_eq {b0 s : State} {q : Nat} {t : State} (h : Machine.tryZero s q = some t) (h0 : Grows b0 s) : Grows b0 t := by
  unfold Machine.tryZero at h; dsimp only at h
  (repeat' split at h)
  · cases h
  · simp at h; rw [← h]; simp [h0]
  · simp only [Option.bind_eq_some_iff] at h
    obtain ⟨o, _, h⟩ := h
    exact budgetCopy_eq h h0 h0
theorem tryClass_eq {b0 s : State} {q k : Nat} {t : State} (h : Machine.tryClass s q k = some t) (h0 : Grows b0 s) : Grows b0 t := by
  unfold Machine.tryClass at h; dsimp only at h
  (repeat' split at h)
  · cases h
  · cases h
  · simp only [Option.bind_eq_some_iff] at h
    obtain ⟨o, _, h⟩ := h
    exact budgetCopy_eq h h0 h0
theorem tryClasses_eq {b0 s : State} {q : Nat} (l : List Nat) {t : State} (h : Machine.tryClasses s q l = some t) (h0 : Grows b0 s) : Grows b0 t := by
  induction l with
  | nil => cases h
  | cons k l ih =>
    unfold Machine.tryClasses at h
    cases e : Machine.tryClass s q k with
    | none => rw [e] at h; exact ih h
    | some u => rw [e] at h; simp at h; rw [← h]; exact tryClass_eq e h0
@[simp] theorem scheduleOne_grows {b0 : State} (s : State) (q : Nat)  (h0 : Grows b0 s) : Grows b0 (Machine.scheduleOne s q) := by
  unfold Machine.scheduleOne; dsimp only
  split
  · rename_i c p' _
    cases e : (egCredit (eg s q) true).bind (fun o => budgetCopy s s q p' c o) with
    | none => exact h0
    | some t =>
      simp only [Option.bind_eq_some_iff] at e
      obtain ⟨o, _, e⟩ := e
      exact budgetCopy_eq e h0 h0
  · cases e : tryZero s q with
    | some t => exact tryZero_eq e h0
    | none =>
      cases e' : tryClasses s q [1, 2, 3, 4, 5, 6, 7] with
      | none => exact h0
      | some t => exact tryClasses_eq _ e' h0
@[simp] theorem holdExpiry_grows {b0 : State} (s : State)  (h0 : Grows b0 s) : Grows b0 (Machine.holdExpiry s) := by
  unfold Machine.holdExpiry; (try dsimp only)
  repeat' (first | with_reducible assumption | with_reducible refine grows_foldl _ _ ?_ (fun _ _ _ => ?_) | split)
  all_goals (try simp (maxDischargeDepth := 30) [*])
@[simp] theorem copyExpiry_grows {b0 : State} (s : State) (q : Nat)  (h0 : Grows b0 s) : Grows b0 (Machine.copyExpiry s q) := by
  unfold Machine.copyExpiry; (try dsimp only)
  repeat' (first | with_reducible assumption | with_reducible refine grows_foldl _ _ ?_ (fun _ _ _ => ?_) | split)
  all_goals (try simp (maxDischargeDepth := 30) [*])
@[simp] theorem logDeparture_grows {b0 : State} (s : State) (q : Nat) (c : Copy) (d : Nat)  (h0 : Grows b0 s) : Grows b0 (Machine.logDeparture s q c d) := by
  simp (maxDischargeDepth := 30) [Machine.logDeparture, *]
@[simp] theorem finishCopy_grows {b0 : State} (s : State) (c : Copy)  (h0 : Grows b0 s) : Grows b0 (Machine.finishCopy s c) := by
  unfold Machine.finishCopy; (repeat' split) <;> simp (maxDischargeDepth := 30) [*]
@[simp] theorem endCur_grows {b0 : State} (s : State) (q : Nat)  (h0 : Grows b0 s) : Grows b0 (Machine.endCur s q) := by
  simp [Machine.endCur, *]
theorem placeCb_eq {b0 s : State} {c : Copy} {k : Nat} {v : Bytes} {t : State} (h : Machine.placeCb s c k v = some t) (h0 : Grows b0 s) : Grows b0 t := by
  unfold Machine.placeCb at h; dsimp only at h
  (repeat' split at h) <;> simp at h <;> (rw [← h]; simp [h0])
@[simp] theorem putOut_grows {b0 : State} (s : State) (q : Nat) (c : Copy) (body : Bytes)  (h0 : Grows b0 s) : Grows b0 (Machine.putOut s q c body) := by
  unfold Machine.putOut; dsimp only
  split
  · simp [h0]
  · split
    · rename_i e; exact finishCopy_grows _ _ (placeCb_eq e h0)
    · simp (maxDischargeDepth := 30) [h0]
  · simp [h0]
@[simp] theorem tellMate_grows {b0 : State} (s : State) (c : Copy)  (h0 : Grows b0 s) : Grows b0 (Machine.tellMate s c) := by
  simp [Machine.tellMate, *]
@[simp] theorem noKey_grows {b0 : State} (s : State) (q : Nat) (c : Copy)  (h0 : Grows b0 s) : Grows b0 (Machine.noKey s q c) := by
  simp (maxDischargeDepth := 30) [Machine.noKey, *]
@[simp] theorem consume_grows {b0 : State} (s : State) (q : Nat) (c : Copy) (t : Bytes) (isSealed : Bool)  (h0 : Grows b0 s) : Grows b0 (Machine.consume s q c t isSealed) := by
  simp (maxDischargeDepth := 30) [Machine.consume, *]
@[simp] theorem firstStart_grows {b0 : State} (s : State) (q : Nat) (c : Copy) (d : Nat)  (h0 : Grows b0 s) : Grows b0 (Machine.firstStart s q c d) := by
  unfold Machine.firstStart; dsimp only
  split
  · split <;> simp (maxDischargeDepth := 30) [h0]
  · split
    · simp [h0]
    · rename_i body place _ _
      have hk : ∀ v s', (match place with
          | some _ => takeKey s (byteAt (encIn s q c d).t 2) 7 useMacGen
          | none => (some [], s)) = (v, s') → Grows b0 s' := by
        intro v s' e
        split at e
        · exact takeKey_eq e h0
        · simp at e; exact e.2 ▸ h0
      split
      · rename_i e; exact noKey_grows _ _ _ (hk _ _ e)
      · rename_i e
        have h := hk _ _ e
        split <;> simp (maxDischargeDepth := 30) [h]
@[simp] theorem startCopy_grows {b0 : State} (s : State) (q : Nat) (c : Copy)  (h0 : Grows b0 s) : Grows b0 (Machine.startCopy s q c) := by
  unfold Machine.startCopy; (repeat' split) <;> simp (maxDischargeDepth := 30) [*]
@[simp] theorem endInvalid_grows {b0 : State} (s : State) (q : Nat) (c : Copy) (tag : Nat)  (h0 : Grows b0 s) : Grows b0 (Machine.endInvalid s q c tag) := by
  unfold Machine.endInvalid; split <;> simp [*]
@[simp] theorem removeSealed_grows {b0 : State} (s : State) (q id tag : Nat)  (h0 : Grows b0 s) : Grows b0 (Machine.removeSealed s q id tag) := by
  unfold Machine.removeSealed; (try dsimp only)
  repeat' (first | with_reducible assumption | with_reducible refine grows_foldl _ _ ?_ (fun _ _ _ => ?_) | split)
  all_goals (try simp (maxDischargeDepth := 30) [*])
@[simp] theorem sealFails_grows {b0 : State} (s : State) (q : Nat) (c : Copy) (id tag : Nat)  (h0 : Grows b0 s) : Grows b0 (Machine.sealFails s q c id tag) := by
  simp (maxDischargeDepth := 30) [Machine.sealFails, *]
@[simp] theorem putTag_grows {b0 : State} (s : State) (q id : Nat) (body : Bytes)  (h0 : Grows b0 s) : Grows b0 (Machine.putTag s q id body) := by
  unfold Machine.putTag; (try dsimp only)
  repeat' (first | with_reducible assumption | with_reducible refine grows_foldl _ _ ?_ (fun _ _ _ => ?_) | split)
  all_goals (try simp (maxDischargeDepth := 30) [*])
@[simp] theorem walkTime_grows {b0 : State} (s : State)  (h0 : Grows b0 s) : Grows b0 (Machine.walkTime s) := by
  unfold Machine.walkTime; dsimp only
  exact (grows_mk ..).mpr (freeVal_snd _ h0)
@[simp] theorem refillWalk_grows {b0 : State} (s : State)  (h0 : Grows b0 s) : Grows b0 (Machine.refillWalk s) := by
  unfold Machine.refillWalk; (try dsimp only)
  all_goals (try simp (maxDischargeDepth := 30) [*])
  all_goals first | (simp (maxDischargeDepth := 30) [*]; done) | simp (maxDischargeDepth := 30) +contextual [*]
@[simp] theorem adaptApply_grows {b0 : State} (s : State) (fab : Bool) (n : Nat)  (h0 : Grows b0 s) : Grows b0 (Machine.adaptApply s fab n) := by
  unfold Machine.adaptApply; (try dsimp only)
  repeat' (first | with_reducible assumption | with_reducible refine grows_foldl _ _ ?_ (fun _ _ _ => ?_) | split)
  all_goals (try simp (maxDischargeDepth := 30) [*])
@[simp] theorem adaptNode_grows {b0 : State} (busy may : Bool) (s : State) (n : Nat)  (h0 : Grows b0 s) : Grows b0 (Machine.adaptNode busy may s n) := by
  simp [Machine.adaptNode, *]
@[simp] theorem dropStaged_grows {b0 : State} (s : State)  (h0 : Grows b0 s) : Grows b0 (Machine.dropStaged s) := by
  simp [Machine.dropStaged, *]
@[simp] theorem adaptEvaluate_grows {b0 : State} (s : State)  (h0 : Grows b0 s) : Grows b0 (Machine.adaptEvaluate s) := by
  unfold Machine.adaptEvaluate; (try dsimp only)
  repeat' (first | with_reducible assumption | with_reducible refine grows_foldl _ _ ?_ (fun _ _ _ => ?_) | split)
  all_goals (try simp (maxDischargeDepth := 30) [*])
  all_goals repeat' (first | with_reducible assumption | with_reducible refine grows_foldl _ _ ?_ (fun _ _ _ => ?_) | split)
  all_goals simp (maxDischargeDepth := 30) [*]
@[simp] theorem setPace_grows {b0 : State} (laps : List (Nat × Nat × Nat)) (s : State) (r : Nat)  (h0 : Grows b0 s) : Grows b0 (Machine.setPace laps s r) := by
  unfold Machine.setPace; split <;> simp [*]
@[simp] theorem paceBoundary_grows {b0 : State} (s : State)  (h0 : Grows b0 s) : Grows b0 (Machine.paceBoundary s) := by
  simp [Machine.paceBoundary, *]
@[simp] theorem avsCommand_grows {b0 : State} (s : State) (mv : Nat)  (h0 : Grows b0 s) : Grows b0 (Machine.avsCommand s mv) := by
  simp [Machine.avsCommand, *]
@[simp] theorem avsStart_grows {b0 : State} (s : State)  (h0 : Grows b0 s) : Grows b0 (Machine.avsStart s) := by
  simp [Machine.avsStart, *]
@[simp] theorem avsAdjust_grows {b0 : State} (s : State)  (h0 : Grows b0 s) : Grows b0 (Machine.avsAdjust s) := by
  simp (maxDischargeDepth := 30) [Machine.avsAdjust, *]
@[simp] theorem nodeGate_grows {b0 : State} (s : State) (r : Req) (n : Nat) (f : State → State) (h_f : ∀ x, Grows b0 x → Grows b0 (f x)) (h0 : Grows b0 s) : Grows b0 (Machine.nodeGate s r n f) := by
  unfold Machine.nodeGate
  all_goals (try simp (maxDischargeDepth := 30) [*])
  all_goals first | (simp (maxDischargeDepth := 30) [*]; done) | simp (maxDischargeDepth := 30) +contextual [*]
@[simp] theorem clearNode_grows {b0 : State} (s : State) (n : Nat)  (h0 : Grows b0 s) : Grows b0 (Machine.clearNode s n) := by
  simp [Machine.clearNode, *]
@[simp] theorem clearCredits_grows {b0 : State} (s : State) (n : Nat)  (h0 : Grows b0 s) : Grows b0 (Machine.clearCredits s n) := by
  unfold Machine.clearCredits; (try dsimp only)
  repeat' (first | with_reducible assumption | with_reducible refine grows_foldl _ _ ?_ (fun _ _ _ => ?_) | split)
  all_goals (try simp (maxDischargeDepth := 30) [*])
@[simp] theorem loseHeld_grows {b0 : State} (s : State) (n : Nat)  (h0 : Grows b0 s) : Grows b0 (Machine.loseHeld s n) := by
  unfold Machine.loseHeld; dsimp only
  refine grows_foldl _ _ (grows_foldl _ _ (by simp [h0]) (fun x y hx => by simp (maxDischargeDepth := 30) [hx])) (fun x q hx => ?_)
  exact grows_foldl _ _ (by simp [hx]) (fun x y hx => by simp [hx])
@[simp] theorem nodeOut_grows {b0 : State} (s : State) (n : Nat)  (h0 : Grows b0 s) : Grows b0 (Machine.nodeOut s n) := by
  simp (maxDischargeDepth := 30) [Machine.nodeOut, *]
@[simp] theorem nodeReturn_grows {b0 : State} (s : State) (n : Nat)  (h0 : Grows b0 s) : Grows b0 (Machine.nodeReturn s n) := by
  unfold Machine.nodeReturn; (try dsimp only)
  repeat' (first | with_reducible assumption | with_reducible refine grows_foldl _ _ ?_ (fun _ _ _ => ?_) | split)
  all_goals first | (simp (maxDischargeDepth := 30) [*]; done) | simp (maxDischargeDepth := 30) +contextual [*]
@[simp] theorem downDiscard_grows {b0 : State} (s : State) (q : Nat) (quiet : Bool) (f : Copy → Bool)  (h0 : Grows b0 s) : Grows b0 (Machine.downDiscard s q quiet f) := by
  unfold Machine.downDiscard; (try dsimp only)
  repeat' (first | with_reducible assumption | with_reducible refine grows_foldl _ _ ?_ (fun _ _ _ => ?_) | split)
  all_goals (try simp (maxDischargeDepth := 30) [*])
@[simp] theorem egOn_grows {b0 : State} (s : State) (q : Nat)  (h0 : Grows b0 s) : Grows b0 (Machine.egOn s q) := by
  simp (maxDischargeDepth := 30) [Machine.egOn, *]
@[simp] theorem egOff_grows {b0 : State} (s : State) (q : Nat)  (h0 : Grows b0 s) : Grows b0 (Machine.egOff s q) := by
  simp (maxDischargeDepth := 30) [Machine.egOff, *]
@[simp] theorem drainLoss_grows {b0 : State} (s : State) (n inst : Nat)  (h0 : Grows b0 s) : Grows b0 (Machine.drainLoss s n inst) := by
  simp (maxDischargeDepth := 30) [Machine.drainLoss, *]
@[simp] theorem endReplay_grows {b0 : State} (s : State) (l : Nat)  (h0 : Grows b0 s) : Grows b0 (Machine.endReplay s l) := by
  unfold Machine.endReplay; (try dsimp only)
  repeat' (first | with_reducible assumption | with_reducible refine grows_foldl _ _ ?_ (fun _ _ _ => ?_) | split)
  all_goals (try simp (maxDischargeDepth := 30) [*])
@[simp] theorem stopReplay_grows {b0 : State} (s : State) (l : Nat)  (h0 : Grows b0 s) : Grows b0 (Machine.stopReplay s l) := by
  simp [Machine.stopReplay, *]
@[simp] theorem listenerGate_grows {b0 : State} (s : State) (r : Req) (l : Nat) (f : State → State) (h_f : ∀ x, Grows b0 x → Grows b0 (f x)) (h0 : Grows b0 s) : Grows b0 (Machine.listenerGate s r l f) := by
  unfold Machine.listenerGate
  repeat' (first | with_reducible assumption | with_reducible refine grows_foldl _ _ ?_ (fun _ _ _ => ?_) | split)
  all_goals (try simp (maxDischargeDepth := 30) [*])
  all_goals first | (simp (maxDischargeDepth := 30) [*]; done) | simp (maxDischargeDepth := 30) +contextual [*]
theorem pullQueued_snd {b0 : State} (s : State) (qs : List Nat) (f : Copy → Bool) (h0 : Grows b0 s) : Grows b0 (Machine.pullQueued s qs f).2 := by
  unfold Machine.pullQueued; dsimp only
  exact grows_foldl _ _ (grows_foldl _ _ h0 (fun x q hx => by simp [hx])) (fun x c hx => by simp [hx])
theorem replaySent_snd {b0 : State} (s : State) (id : Nat) (h0 : Grows b0 s) : Grows b0 (Machine.replaySent s id).2 := by
  unfold Machine.replaySent; dsimp only [Machine.blkNew]; simp (maxDischargeDepth := 30) [h0]
@[simp] theorem leaveListener_grows {b0 : State} (s : State) (l : Nat)  (h0 : Grows b0 s) : Grows b0 (Machine.leaveListener s l) := by
  unfold Machine.leaveListener; dsimp only
  have h1 : ∀ y, Grows b0 (endReplay (List.foldl freeCopy (setLst s l y) (lst s l).joinQ) l) := fun y =>
    endReplay_grows _ _ (grows_foldl _ _ (setLst_grows _ _ _ h0) (fun x c hx => by simp [hx]))
  have h2 : ∀ y, Grows b0 y → ∀ qs f z, Grows b0 (setLst (pullQueued y qs f).2 l z) := fun y hy qs f z => setLst_grows _ _ _ (pullQueued_snd _ _ _ hy)
  refine grows_ite _ _ _ _ ?_ (report_grows _ _ _ _ (cntAdd_grows _ _ _ ?_))
  · refine h2 _ (grows_ite _ _ _ _ (h1 _) h0) _ _ _
  · refine h2 _ (grows_ite _ _ _ _ (h1 _) h0) _ _ _
@[simp] theorem badCopy_grows {b0 : State} (s : State) (k : Nat)  (h0 : Grows b0 s) : Grows b0 (Machine.badCopy s k) := by
  simp [Machine.badCopy, *]
@[simp] theorem judgeCopy_grows {b0 : State} (s : State) (k : Nat) (ring1 : Bool) (cy v idx : Nat) (p : Bytes) (mirror t : Nat)  (h0 : Grows b0 s) : Grows b0 (Machine.judgeCopy s k ring1 cy v idx p mirror t) := by
  unfold Machine.judgeCopy; dsimp only
  refine grows_ite _ _ _ _ (badCopy_grows _ _ h0) ?_
  refine grows_ite _ _ _ _ (badCopy_grows _ _ h0) ?_
  refine grows_ite _ _ _ _ (badCopy_grows _ _ h0) ?_
  refine grows_ite _ _ _ _ (badCopy_grows _ _ h0) ?_
  refine grows_ite _ _ _ _ (badCopy_grows _ _ h0) ?_
  refine grows_ite _ _ _ _ (badCopy_grows _ _ h0) ?_
  refine grows_ite _ _ _ _ (report_grows _ _ _ _ (cnt_grows _ _ h0)) ?_
  generalize s.vot.windows.find? _ = win
  cases win with
  | some w =>
    refine grows_ite _ _ _ _ (badCopy_grows _ _ h0) (grows_ite _ _ _ _ h0 (grows_ite _ _ _ _ (cnt_grows _ _ h0) ?_))
    exact settleVote_grows _ ((grows_mk ..).mpr (bufAdd_grows _ _ _ h0))
  | none =>
    refine grows_ite _ _ _ _ (cnt_grows _ _ h0) (grows_ite _ _ _ _ (cnt_grows _ _ h0) ?_)
    exact settleVote_grows _ ((grows_mk ..).mpr (bufAdd_grows _ _ _ h0))
@[simp] theorem vsGate_grows {b0 : State} (r : Req) (v : Nat) (s : State) (f : State → State) (h_f : ∀ x, Grows b0 x → Grows b0 (f x)) (h0 : Grows b0 s) : Grows b0 (Machine.vsGate r v s f) := by
  unfold Machine.vsGate
  all_goals first | (simp (maxDischargeDepth := 30) [*]; done) | simp (maxDischargeDepth := 30) +contextual [*]
@[simp] theorem modVs_grows {b0 : State} (s : State) (v : Nat) (f : VStream → VStream)  (h0 : Grows b0 s) : Grows b0 (Machine.modVs s v f) := by
  simp [Machine.modVs, *]

end Sys2Proof.Laws
end

