-- ==== Sys2Proof/Laws/GrowsUnit.lean ====
section
/-! SUPPORT. One lemma per operation of configuration, start, takeover, the buses, the bridge and the rest of the unit: what it keeps. -/

namespace Sys2Proof.Laws

open Sys2Proof Sys2Proof.Machine

@[simp] theorem startPort_grows {b0 : State} (s : State) (p : Nat)  (h0 : Grows b0 s) : Grows b0 (Machine.startPort s p) := by
  simp [Machine.startPort, *]
@[simp] theorem portOut_grows {b0 : State} (s : State) (p : Nat)  (h0 : Grows b0 s) : Grows b0 (Machine.portOut s p) := by
  unfold Machine.portOut; dsimp only
  split
  · exact h0
  · refine drainLoss_grows _ _ _ ?_
    refine (grows_mk ..).mpr (setEg_grows _ _ _ (pullQueued_snd _ _ _ ?_))
    refine grows_foldl _ _ (setEg_grows _ _ _ ?_) (fun x c hx => by simp [hx])
    split
    · exact grows_foldl _ _ (by simp (maxDischargeDepth := 30) [h0]) (fun x c hx => by simp [hx])
    · simp (maxDischargeDepth := 30) [h0]
@[simp] theorem portReturn_grows {b0 : State} (s : State) (p : Nat)  (h0 : Grows b0 s) : Grows b0 (Machine.portReturn s p) := by
  simp [Machine.portReturn, *]
@[simp] theorem forgetLearned_grows {b0 : State} (s : State) (id : Nat)  (h0 : Grows b0 s) : Grows b0 (Machine.forgetLearned s id) := by
  simp [Machine.forgetLearned, *]
@[simp] theorem partitionOut_grows {b0 : State} (s : State) (p : Nat)  (h0 : Grows b0 s) : Grows b0 (Machine.partitionOut s p) := by
  unfold Machine.partitionOut; (try dsimp only)
  repeat' (first | with_reducible assumption | with_reducible refine grows_foldl _ _ ?_ (fun _ _ _ => ?_) | split)
  all_goals (try simp (maxDischargeDepth := 30) [*])
@[simp] theorem partitionReturn_grows {b0 : State} (s : State) (p : Nat)  (h0 : Grows b0 s) : Grows b0 (Machine.partitionReturn s p) := by
  unfold Machine.partitionReturn; (try dsimp only)
  repeat' (first | with_reducible assumption | with_reducible refine grows_foldl _ _ ?_ (fun _ _ _ => ?_) | split)
  all_goals (try simp (maxDischargeDepth := 30) [*])
@[simp] theorem setCls_grows {b0 : State} (s : State) (e c : Nat)  (h0 : Grows b0 s) : Grows b0 (Machine.setCls s e c) := by
  simp [Machine.setCls, *]
@[simp] theorem takePosition_grows {b0 : State} (s : State) (old e : Nat)  (h0 : Grows b0 s) : Grows b0 (Machine.takePosition s old e) := by
  simp [Machine.takePosition, *]
@[simp] theorem engineReturned_grows {b0 : State} (s : State) (e : Nat)  (h0 : Grows b0 s) : Grows b0 (Machine.engineReturned s e) := by
  unfold Machine.engineReturned; (try dsimp only)
  repeat' (first | with_reducible assumption | with_reducible refine grows_foldl _ _ ?_ (fun _ _ _ => ?_) | split)
  all_goals (try simp (maxDischargeDepth := 30) [*])
@[simp] theorem bankReturned_grows {b0 : State} (s : State) (b : Nat)  (h0 : Grows b0 s) : Grows b0 (Machine.bankReturned s b) := by
  simp [Machine.bankReturned, *]
@[simp] theorem mapEngineTested_grows {b0 : State} (s : State) (e : Nat) (pass : Bool)  (h0 : Grows b0 s) : Grows b0 (Machine.mapEngineTested s e pass) := by
  simp [Machine.mapEngineTested, *]
@[simp] theorem swapMark_grows {b0 : State} (s : State) (mask : Nat)  (h0 : Grows b0 s) : Grows b0 (Machine.swapMark s mask) := by
  simp [Machine.swapMark, *]
@[simp] theorem placeLearned_grows {b0 : State} (s : State) (id : Nat)  (h0 : Grows b0 s) : Grows b0 (Machine.placeLearned s id) := by
  unfold Machine.placeLearned; (repeat' split) <;> simp (maxDischargeDepth := 30) [*]
@[simp] theorem reindex_grows {b0 : State} (s : State)  (h0 : Grows b0 s) : Grows b0 (Machine.reindex s) := by
  unfold Machine.reindex; (try dsimp only)
  repeat' (first | with_reducible assumption | with_reducible refine grows_foldl _ _ ?_ (fun _ _ _ => ?_) | split)
  all_goals (try simp (maxDischargeDepth := 30) [*])
@[simp] theorem swapStreams_grows {b0 : State} (old s : State)  (h0 : Grows b0 s) : Grows b0 (Machine.swapStreams old s) := by
  unfold Machine.swapStreams
  extract_lets ids moved renew s1
  have h1 : Grows b0 s1 := grows_foldl _ _ h0 (fun s x h => by simp (maxDischargeDepth := 30) [renew, h])
  split
  · exact h1
  · split <;> simp [h1]
@[simp] theorem swapFilters_grows {b0 : State} (old s : State)  (h0 : Grows b0 s) : Grows b0 (Machine.swapFilters old s) := by
  unfold Machine.swapFilters; (try dsimp only)
  repeat' (first | with_reducible assumption | with_reducible refine grows_foldl _ _ ?_ (fun _ _ _ => ?_) | split)
  all_goals (try simp (maxDischargeDepth := 30) [*])
@[simp] theorem swapMapping_grows {b0 : State} (old s : State)  (h0 : Grows b0 s) : Grows b0 (Machine.swapMapping old s) := by
  unfold Machine.swapMapping; (try dsimp only)
  repeat' (first | with_reducible assumption | with_reducible refine grows_foldl _ _ ?_ (fun _ _ _ => ?_) | split)
  all_goals (try simp (maxDischargeDepth := 30) [*])
@[simp] theorem swapBudget_grows {b0 : State} (old s : State)  (h0 : Grows b0 s) : Grows b0 (Machine.swapBudget old s) := by
  unfold Machine.swapBudget; (try dsimp only)
  repeat' (first | with_reducible assumption | with_reducible refine grows_foldl _ _ ?_ (fun _ _ _ => ?_) | split)
  all_goals (try simp (maxDischargeDepth := 30) [*])
@[simp] theorem swapListeners_grows {b0 : State} (old s : State)  (h0 : Grows b0 s) : Grows b0 (Machine.swapListeners old s) := by
  unfold Machine.swapListeners; (try dsimp only)
  repeat' (first | with_reducible assumption | with_reducible refine grows_foldl _ _ ?_ (fun _ _ _ => ?_) | split)
  all_goals (try simp (maxDischargeDepth := 30) [*])
@[simp] theorem swapVoters_grows {b0 : State} (old s : State)  (h0 : Grows b0 s) : Grows b0 (Machine.swapVoters old s) := by
  unfold Machine.swapVoters; (try dsimp only)
  repeat' (first | with_reducible assumption | with_reducible refine grows_foldl _ _ ?_ (fun _ _ _ => ?_) | split)
  all_goals (try simp (maxDischargeDepth := 30) [*])
@[simp] theorem swapWindows_grows {b0 : State} (old s : State)  (h0 : Grows b0 s) : Grows b0 (Machine.swapWindows old s) := by
  unfold Machine.swapWindows; (try dsimp only)
  repeat' (first | with_reducible assumption | with_reducible refine grows_foldl _ _ ?_ (fun _ _ _ => ?_) | split)
  all_goals (try simp (maxDischargeDepth := 30) [*])
@[simp] theorem swapObjects_grows {b0 : State} (old : State) (s : State) (region : Nat)  (h0 : Grows b0 s) : Grows b0 (Machine.swapObjects old s region) := by
  unfold Machine.swapObjects; split <;> simp [*]
@[simp] theorem cfgShow_grows {b0 : State} (s : State) (state code reason region : Nat)  (h0 : Grows b0 s) : Grows b0 (Machine.cfgShow s state code reason region) := by
  simp [Machine.cfgShow, *]
@[simp] theorem cfgBegin_grows {b0 : State} (s : State) (r : Req) (code reason region : Nat) (swap : Option GlobalSwap)  (h0 : Grows b0 s) : Grows b0 (Machine.cfgBegin s r code reason region swap) := by
  simp [Machine.cfgBegin, *]
@[simp] theorem cfgEnd_grows {b0 : State} (s : State) (r : Req) (code reason region : Nat)  (h0 : Grows b0 s) : Grows b0 (Machine.cfgEnd s r code reason region) := by
  unfold Machine.cfgEnd; (repeat' split) <;> simp [*]
@[simp] theorem asIfSwapped_grows {b0 : State} (s : State) (regions : List Nat)  (h0 : Grows b0 s) : Grows b0 (Machine.asIfSwapped s regions) := by
  unfold Machine.asIfSwapped
  repeat' (first | with_reducible assumption | with_reducible refine grows_foldl _ _ ?_ (fun _ _ _ => ?_) | split)
  all_goals (try simp (maxDischargeDepth := 30) [*])
@[simp] theorem setShadows_grows {b0 : State} (s : State) (regions : List Nat) (f : Shadow → Shadow)  (h0 : Grows b0 s) : Grows b0 (Machine.setShadows s regions f) := by
  simp [Machine.setShadows, *]
@[simp] theorem beginValidate_grows {b0 : State} (s : State) (r : Req) (code owner : Nat) (swap : Option GlobalSwap)  (h0 : Grows b0 s) : Grows b0 (Machine.beginValidate s r code owner swap) := by
  unfold Machine.beginValidate; (try dsimp only)
  repeat' (first | with_reducible assumption | with_reducible refine grows_foldl _ _ ?_ (fun _ _ _ => ?_) | split)
  all_goals (try simp (maxDischargeDepth := 30) [*])
@[simp] theorem swapReject_grows {b0 : State} (s : State)  (h0 : Grows b0 s) : Grows b0 (Machine.swapReject s) := by
  simp [Machine.swapReject, *]
@[simp] theorem cfgFinish_grows {b0 : State} (s : State) (g : CfgRun)  (h0 : Grows b0 s) : Grows b0 (Machine.cfgFinish s g) := by
  unfold Machine.cfgFinish; (try dsimp only)
  repeat' (first | with_reducible assumption | with_reducible refine grows_foldl _ _ ?_ (fun _ _ _ => ?_) | split)
  all_goals (try simp (maxDischargeDepth := 30) [*])
@[simp] theorem swapPair_grows {b0 : State} (s : State) (off : Nat) (w : Word)  (h0 : Grows b0 s) : Grows b0 (Machine.swapPair s off w) := by
  simp (maxDischargeDepth := 30) [Machine.swapPair, *]
@[simp] theorem swapRecognition_grows {b0 : State} (s : State)  (h0 : Grows b0 s) : Grows b0 (Machine.swapRecognition s) := by
  simp [Machine.swapRecognition, *]
@[simp] theorem applyShadow_grows {b0 : State} (s : State) (region : Nat)  (h0 : Grows b0 s) : Grows b0 (Machine.applyShadow s region) := by
  unfold Machine.applyShadow; (try dsimp only)
  repeat' (first | with_reducible assumption | with_reducible refine grows_foldl _ _ ?_ (fun _ _ _ => ?_) | split)
  all_goals (try simp (maxDischargeDepth := 30) [*])
@[simp] theorem applyAdapt_grows {b0 : State} (s : State)  (h0 : Grows b0 s) : Grows b0 (Machine.applyAdapt s) := by
  unfold Machine.applyAdapt
  repeat' (first | with_reducible assumption | with_reducible refine grows_foldl _ _ ?_ (fun _ _ _ => ?_) | split)
  all_goals (try simp (maxDischargeDepth := 30) [*])
@[simp] theorem swapRegions_grows {b0 : State} (s : State) (regions : List Nat) (profile : Option Nat)  (h0 : Grows b0 s) : Grows b0 (Machine.swapRegions s regions profile) := by
  unfold Machine.swapRegions; (try dsimp only)
  repeat' (first | with_reducible assumption | with_reducible refine grows_foldl _ _ ?_ (fun _ _ _ => ?_) | split)
  all_goals (try simp (maxDischargeDepth := 30) [*])
  all_goals first | (simp (maxDischargeDepth := 30) [*]; done) | simp (maxDischargeDepth := 30) +contextual [*]
theorem dueGlobals_snd {b0 : State} (l : List GlobalSwap) (rs : List Nat) (p : Option Nat) (a : Bool) (s : State) (h0 : Grows b0 s) :
    Grows b0 (Machine.dueGlobals l rs p a s).2.2.2 := by
  induction l generalizing rs p a s with
  | nil => exact h0
  | cons g t ih =>
    unfold Machine.dueGlobals; dsimp only
    (repeat' split) <;> apply ih <;> simp (maxDischargeDepth := 30) [h0]
@[simp] theorem regionSwap_grows {b0 : State} (s : State)  (h0 : Grows b0 s) : Grows b0 (Machine.regionSwap s) := by
  unfold Machine.regionSwap; dsimp only
  have h1 := dueGlobals_snd s.cfgs.swaps [] none false { s with cfgs := { s.cfgs with swaps := [] } } ((grows_mk ..).mpr h0)
  split
  · exact h1
  · exact swapRegions_grows _ _ _ h1
theorem repair_grows {b0 : State} (s : State) (r : Req) (there : Bool) (act : State → Option State)
    (ha : ∀ x t, Grows b0 x → act x = some t → Grows b0 t) (h0 : Grows b0 s) : Grows b0 (Machine.repair s r there act) := by
  unfold Machine.repair
  refine gated_grows _ _ _ _ (fun x hx => ?_) h0
  split
  · simp [hx]
  · split
    · rename_i e; exact cfgEnd_grows _ _ _ _ _ (ha _ _ hx e)
    · simp [hx]
@[simp] theorem bankMove_grows {b0 : State} (s : State) (a b : Nat)  (h0 : Grows b0 s) : Grows b0 (Machine.bankMove s a b) := by
  simp [Machine.bankMove, *]
@[simp] theorem repairNode_grows {b0 : State} (s : State) (r : Req) (n : Nat) (act : State → State) (h_act : ∀ x, Grows b0 x → Grows b0 (act x)) (h0 : Grows b0 s) : Grows b0 (Machine.repairNode s r n act) := by
  unfold Machine.repairNode
  split
  · exact gated_grows _ _ _ _ (fun x hx => report_grows _ _ _ _ hx) h0
  · exact repair_grows _ _ _ _ (fun x t hx e => by simp at e; exact e ▸ h_act _ hx) h0
@[simp] theorem nvmEnd_grows {b0 : State} (s : State) (by_ reason : Nat)  (h0 : Grows b0 s) : Grows b0 (Machine.nvmEnd s by_ reason) := by
  simp [Machine.nvmEnd, *]
@[simp] theorem nvmTouch_grows {b0 : State} (s : State) (a n : Nat)  (h0 : Grows b0 s) : Grows b0 (Machine.nvmTouch s a n) := by
  unfold Machine.nvmTouch; split <;> simp [*]
@[simp] theorem nvmStart_grows {b0 : State} (s : State) (r : Req) (op : NvmOp) (a n : Nat) (touches : Bool)  (h0 : Grows b0 s) : Grows b0 (Machine.nvmStart s r op a n touches) := by
  simp (maxDischargeDepth := 30) [Machine.nvmStart, *]
@[simp] theorem nvmWrite_grows {b0 : State} (s : State) (a : Nat) (bs : Bytes)  (h0 : Grows b0 s) : Grows b0 (Machine.nvmWrite s a bs) := by
  unfold Machine.nvmWrite
  exact ⟨h0.pending, h0.free, h0.out, h0.secver, h0.regs, fun w => tabWf_setAll _ _ _ (h0.nvm w), h0.msix, h0.pba, h0.latch, h0.moder⟩
@[simp] theorem nvmApply_grows {b0 : State} (s : State) (g : NvmRun)  (h0 : Grows b0 s) : Grows b0 (Machine.nvmApply s g) := by
  unfold Machine.nvmApply; split <;> simp [*]
theorem freeBytes_snd {b0 : State} (s : State) (n : Nat) (h0 : Grows b0 s) : Grows b0 (Machine.freeBytes s n).2 := by
  simp [Machine.freeBytes, h0]
@[simp] theorem nvmBroken_grows {b0 : State} (s : State) (g : NvmRun)  (h0 : Grows b0 s) : Grows b0 (Machine.nvmBroken s g) := by
  unfold Machine.nvmBroken; dsimp only
  split
  · exact nvmWrite_grows _ _ _ (freeBytes_snd _ _ h0)
  · exact nvmWrite_grows _ _ _ (freeBytes_snd _ _ h0)
  · exact h0
@[simp] theorem stall_grows {b0 : State} (s : State) (q : Nat)  (h0 : Grows b0 s) : Grows b0 (Machine.stall s q) := by
  simp (maxDischargeDepth := 30) [Machine.stall, *]
@[simp] theorem spareFails_grows {b0 : State} (s : State) (bank : Bool) (detail : Nat)  (h0 : Grows b0 s) : Grows b0 (Machine.spareFails s bank detail) := by
  simp (maxDischargeDepth := 30) [Machine.spareFails, *]
@[simp] theorem clearRecords_grows {b0 : State} (s : State)  (h0 : Grows b0 s) : Grows b0 (Machine.clearRecords s) := by
  simp [Machine.clearRecords, *]
@[simp] theorem clearSources_grows {b0 : State} (s : State)  (h0 : Grows b0 s) : Grows b0 (Machine.clearSources s) := by
  simp [Machine.clearSources, *]
@[simp] theorem testFailed_grows {b0 : State} (s : State) (target element : Nat)  (h0 : Grows b0 s) : Grows b0 (Machine.testFailed s target element) := by
  unfold Machine.testFailed; (repeat' split) <;> simp [*]
@[simp] theorem testPassed_grows {b0 : State} (s : State) (target element : Nat)  (h0 : Grows b0 s) : Grows b0 (Machine.testPassed s target element) := by
  simp (maxDischargeDepth := 30) [Machine.testPassed, *]
@[simp] theorem testAnew_grows {b0 : State} (s : State) (target element : Nat)  (h0 : Grows b0 s) : Grows b0 (Machine.testAnew s target element) := by
  simp [Machine.testAnew, *]
@[simp] theorem setCdb_grows {b0 : State} (s : State) (c : Cdb)  (h0 : Grows b0 s) : Grows b0 (Machine.setCdb s c) := by
  simp [Machine.setCdb, *]
@[simp] theorem setSpare_grows {b0 : State} (s : State) (k : Nat) (x : Spare)  (h0 : Grows b0 s) : Grows b0 (Machine.setSpare s k x) := by
  simp [Machine.setSpare, *]
@[simp] theorem emptySlot_grows {b0 : State} (s : State) (k : Nat)  (h0 : Grows b0 s) : Grows b0 (Machine.emptySlot s k) := by
  simp [Machine.emptySlot, *]
@[simp] theorem freeSpare_grows {b0 : State} (s : State) (k : Nat)  (h0 : Grows b0 s) : Grows b0 (Machine.freeSpare s k) := by
  simp [Machine.freeSpare, *]
@[simp] theorem takeSpare_grows {b0 : State} (s : State) (k n : Nat)  (h0 : Grows b0 s) : Grows b0 (Machine.takeSpare s k n) := by
  simp [Machine.takeSpare, *]
@[simp] theorem leaveSync_grows {b0 : State} (s : State)  (h0 : Grows b0 s) : Grows b0 (Machine.leaveSync s) := by
  simp (maxDischargeDepth := 30) [Machine.leaveSync, *]
@[simp] theorem enter_grows {b0 : State} (s : State) (x : CdbState)  (h0 : Grows b0 s) : Grows b0 (Machine.enter s x) := by
  simp [Machine.enter, *]
@[simp] theorem toListen_grows {b0 : State} (s : State)  (h0 : Grows b0 s) : Grows b0 (Machine.toListen s) := by
  simp [Machine.toListen, *]
@[simp] theorem toSync_grows {b0 : State} (s : State)  (h0 : Grows b0 s) : Grows b0 (Machine.toSync s) := by
  simp [Machine.toSync, *]
@[simp] theorem guardReport_grows {b0 : State} (s : State)  (h0 : Grows b0 s) : Grows b0 (Machine.guardReport s) := by
  simp [Machine.guardReport, *]
@[simp] theorem intervene_grows {b0 : State} (s : State)  (h0 : Grows b0 s) : Grows b0 (Machine.intervene s) := by
  simp (maxDischargeDepth := 30) [Machine.intervene, *]
@[simp] theorem guardJudge_grows {b0 : State} (s : State)  (h0 : Grows b0 s) : Grows b0 (Machine.guardJudge s) := by
  simp (maxDischargeDepth := 30) [Machine.guardJudge, *]
@[simp] theorem rollCycle_grows {b0 : State} (s : State)  (h0 : Grows b0 s) : Grows b0 (Machine.rollCycle s) := by
  simp [Machine.rollCycle, *]
@[simp] theorem capturePair_grows {b0 : State} (s : State)  (h0 : Grows b0 s) : Grows b0 (Machine.capturePair s) := by
  simp [Machine.capturePair, *]
@[simp] theorem cycleBoundary_grows {b0 : State} (s : State)  (h0 : Grows b0 s) : Grows b0 (Machine.cycleBoundary s) := by
  simp (maxDischargeDepth := 30) [Machine.cycleBoundary, *]
@[simp] theorem claimSlot_grows {b0 : State} (s : State) (k : Nat)  (h0 : Grows b0 s) : Grows b0 (Machine.claimSlot s k) := by
  simp [Machine.claimSlot, *]
@[simp] theorem autoClaim_grows {b0 : State} (s : State)  (h0 : Grows b0 s) : Grows b0 (Machine.autoClaim s) := by
  unfold Machine.autoClaim; (try dsimp only)
  repeat' (first | with_reducible assumption | with_reducible refine grows_foldl _ _ ?_ (fun _ _ _ => ?_) | split)
  all_goals (try simp (maxDischargeDepth := 30) [*])
@[simp] theorem conflict_grows {b0 : State} (s : State) (k : Nat) (other : Option Nat)  (h0 : Grows b0 s) : Grows b0 (Machine.conflict s k other) := by
  unfold Machine.conflict; (repeat' split) <;> simp (maxDischargeDepth := 30) [*]
@[simp] theorem spoiled_grows {b0 : State} (s : State) (k : Nat) (coding : Bool)  (h0 : Grows b0 s) : Grows b0 (Machine.spoiled s k coding) := by
  simp [Machine.spoiled, *]
@[simp] theorem spareFrame_grows {b0 : State} (s : State) (k : Nat) (chB : Bool) (f : CbFrame) (bs : Bytes)  (h0 : Grows b0 s) : Grows b0 (Machine.spareFrame s k chB f bs) := by
  simp (maxDischargeDepth := 30) [Machine.spareFrame, *]
@[simp] theorem abandon_grows {b0 : State} (s : State)  (h0 : Grows b0 s) : Grows b0 (Machine.abandon s) := by
  simp (maxDischargeDepth := 30) [Machine.abandon, *]
@[simp] theorem arrival_grows {b0 : State} (s : State) (n : Nat) (edge : Bool) (dev : Option Int)  (h0 : Grows b0 s) : Grows b0 (Machine.arrival s n edge dev) := by
  simp [Machine.arrival, *]
@[simp] theorem useSync_grows {b0 : State} (s : State) (k : Nat) (chB : Bool) (t : Nat) (f : CbFrame) (again : Bool)  (h0 : Grows b0 s) : Grows b0 (Machine.useSync s k chB t f again) := by
  simp (maxDischargeDepth := 30) [Machine.useSync, *]
@[simp] theorem cbDeliver_grows {b0 : State} (s : State) (xs : List Sent)  (h0 : Grows b0 s) : Grows b0 (Machine.cbDeliver s xs) := by
  unfold Machine.cbDeliver; (repeat' split) <;> simp (maxDischargeDepth := 30) [*]
@[simp] theorem cbAccept_grows {b0 : State} (s : State) (k : Nat) (chB : Bool) (raw t e : Nat) (f : CbFrame) (bs : Bytes)  (h0 : Grows b0 s) : Grows b0 (Machine.cbAccept s k chB raw t e f bs) := by
  simp (maxDischargeDepth := 30) [Machine.cbAccept, *]
@[simp] theorem adopt_grows {b0 : State} (s : State) (k t : Nat) (f : CbFrame)  (h0 : Grows b0 s) : Grows b0 (Machine.adopt s k t f) := by
  simp [Machine.adopt, *]
@[simp] theorem listenFrame_grows {b0 : State} (s : State) (t : Nat) (good : Bool) (bs : Bytes)  (h0 : Grows b0 s) : Grows b0 (Machine.listenFrame s t good bs) := by
  unfold Machine.listenFrame; (try dsimp only)
  repeat' (first | with_reducible assumption | with_reducible refine grows_foldl _ _ ?_ (fun _ _ _ => ?_) | split)
  all_goals (try simp (maxDischargeDepth := 30) [*])
@[simp] theorem haltSafe_grows {b0 : State} (s : State)  (h0 : Grows b0 s) : Grows b0 (Machine.haltSafe s) := by
  simp (maxDischargeDepth := 30) [Machine.haltSafe, *]
@[simp] theorem countStart_grows {b0 : State} (s : State) (slot : Nat)  (h0 : Grows b0 s) : Grows b0 (Machine.countStart s slot) := by
  simp [Machine.countStart, *]
@[simp] theorem forgiveTamper_grows {b0 : State} (s : State)  (h0 : Grows b0 s) : Grows b0 (Machine.forgiveTamper s) := by
  simp [Machine.forgiveTamper, *]
@[simp] theorem bankFails_grows {b0 : State} (s : State) (b : Nat)  (h0 : Grows b0 s) : Grows b0 (Machine.bankFails s b) := by
  simp [Machine.bankFails, *]
@[simp] theorem takeImage_grows {b0 : State} (s : State) (image : Bytes)  (h0 : Grows b0 s) : Grows b0 (Machine.takeImage s image) := by
  simp (maxDischargeDepth := 30) [Machine.takeImage, *]
@[simp] theorem initObjects_grows {b0 : State} (s : State)  (h0 : Grows b0 s) : Grows b0 (Machine.initObjects s) := by
  unfold Machine.initObjects
  repeat' (first | with_reducible assumption | with_reducible refine grows_foldl _ _ ?_ (fun _ _ _ => ?_) | split)
  all_goals (try simp (maxDischargeDepth := 30) [*])
@[simp] theorem initEngines_grows {b0 : State} (s : State)  (h0 : Grows b0 s) : Grows b0 (Machine.initEngines s) := by
  unfold Machine.initEngines; (try dsimp only)
  repeat' (first | with_reducible assumption | with_reducible refine grows_foldl _ _ ?_ (fun _ _ _ => ?_) | split)
  all_goals (try simp (maxDischargeDepth := 30) [*])
@[simp] theorem initTrigger_grows {b0 : State} (s : State) (t : Nat)  (h0 : Grows b0 s) : Grows b0 (Machine.initTrigger s t) := by
  simp [Machine.initTrigger, *]
@[simp] theorem initCadence_grows {b0 : State} (s : State)  (h0 : Grows b0 s) : Grows b0 (Machine.initCadence s) := by
  simp (maxDischargeDepth := 30) [Machine.initCadence, *]
@[simp] theorem initRuntime_grows {b0 : State} (s : State)  (h0 : Grows b0 s) : Grows b0 (Machine.initRuntime s) := by
  unfold Machine.initRuntime
  all_goals first | (simp (maxDischargeDepth := 30) [*]; done) | simp (maxDischargeDepth := 30) +contextual [*]
@[simp] theorem startSends_grows {b0 : State} (s : State)  (h0 : Grows b0 s) : Grows b0 (Machine.startSends s) := by
  simp [Machine.startSends, *]
@[simp] theorem becomeActive_grows {b0 : State} (s : State)  (h0 : Grows b0 s) : Grows b0 (Machine.becomeActive s) := by
  unfold Machine.becomeActive; (try dsimp only)
  repeat' (first | with_reducible assumption | with_reducible refine grows_foldl _ _ ?_ (fun _ _ _ => ?_) | split)
  all_goals (try simp (maxDischargeDepth := 30) [*])
@[simp] theorem startDone_grows {b0 : State} (s : State)  (h0 : Grows b0 s) : Grows b0 (Machine.startDone s) := by
  simp [Machine.startDone, *]
@[simp] theorem clearStarts_grows {b0 : State} (s : State)  (h0 : Grows b0 s) : Grows b0 (Machine.clearStarts s) := by
  simp [Machine.clearStarts, *]
@[simp] theorem commandedRestart_grows {b0 : State} (s : State)  (h0 : Grows b0 s) : Grows b0 (Machine.commandedRestart s) := by
  simp [Machine.commandedRestart, *]
@[simp] theorem jumpCounters_grows {b0 : State} (s : State) (seq : Nat → Nat) (prp : Nat → Nat) (send : Nat → Nat)  (h0 : Grows b0 s) : Grows b0 (Machine.jumpCounters s seq prp send) := by
  simp [Machine.jumpCounters, *]
@[simp] theorem warmJumps_grows {b0 : State} (s : State) (from_ : Nat)  (h0 : Grows b0 s) : Grows b0 (Machine.warmJumps s from_) := by
  simp [Machine.warmJumps, *]
@[simp] theorem afterRestore_grows {b0 : State} (s : State)  (h0 : Grows b0 s) : Grows b0 (Machine.afterRestore s) := by
  simp [Machine.afterRestore, *]
theorem reload_eq {b0 s t : State} (h : Machine.reload s = some t) (h0 : Grows b0 s) : Grows b0 t := by
  unfold Machine.reload at h; dsimp only at h
  split at h
  · cases h
  · split at h
    · cases h
    · simp at h; rw [← h]; simp [h0]
theorem restorePeat_eq {b0 s t : State} {p : PeatPart} (h : Machine.restorePeat s = some (p, t)) (h0 : Grows b0 s) : Grows b0 t := by
  unfold Machine.restorePeat at h
  split at h
  · cases h
  · rename_i e
    have h1 := peatKey_eq e h0
    split at h
    · cases h
    · simp only [Option.some.injEq, Prod.mk.injEq] at h
      rw [← h.2]
      refine grows_foldl _ _ ?_ (fun x i hx => by simp [hx])
      exact reindex_grows _ (afterRestore_grows _ (grows_foldl _ _ (initRuntime_grows _ h1) (fun x i hx => by simp [hx])))
@[simp] theorem warmTakeover_grows {b0 : State} (s : State)  (h0 : Grows b0 s) : Grows b0 (Machine.warmTakeover s) := by
  unfold Machine.warmTakeover; dsimp only
  split
  · simp [h0]
  · rename_i e
    have h1 := forgiveTamper_grows _ (keyUnseal_grows _ (reload_eq e h0))
    split
    · simp [h0]
    · rename_i e
      have h2 := restorePeat_eq e h1
      simp (maxDischargeDepth := 30) [h2]
@[simp] theorem mirrorIn_grows {b0 : State} (s : State) (n : Nat) (m : MirrorRec)  (h0 : Grows b0 s) : Grows b0 (Machine.mirrorIn s n m) := by
  unfold Machine.mirrorIn; (try dsimp only)
  repeat' (first | with_reducible assumption | with_reducible refine grows_foldl _ _ ?_ (fun _ _ _ => ?_) | split)
  all_goals (try simp (maxDischargeDepth := 30) [*])
@[simp] theorem applyPeat_grows {b0 : State} (s : State)  (h0 : Grows b0 s) : Grows b0 (Machine.applyPeat s) := by
  unfold Machine.applyPeat; dsimp only
  split
  · exact h0
  · rename_i e
    have h1 := keyUnseal_grows _ (reload_eq e (powerFor_grows _ _ h0))
    split
    · exact h0
    · rename_i e
      have h2 := restorePeat_eq e h1
      refine grows_foldl _ _ ?_ (fun x i hx => by simp [hx])
      simp (maxDischargeDepth := 30) [h2]
@[simp] theorem countBoundary_grows {b0 : State} (s : State) (q bound : Nat)  (h0 : Grows b0 s) : Grows b0 (Machine.countBoundary s q bound) := by
  simp [Machine.countBoundary, *]
@[simp] theorem periodTrigger_grows {b0 : State} (was : Nat) (s : State) (t : Nat)  (h0 : Grows b0 s) : Grows b0 (Machine.periodTrigger was s t) := by
  simp (maxDischargeDepth := 30) [Machine.periodTrigger, *]
@[simp] theorem fenceDue_grows {b0 : State} (was : Nat) (s : State)  (h0 : Grows b0 s) : Grows b0 (Machine.fenceDue was s) := by
  simp [Machine.fenceDue, *]
@[simp] theorem newShares_grows {b0 : State} (s : State)  (h0 : Grows b0 s) : Grows b0 (Machine.newShares s) := by
  simp [Machine.newShares, *]
@[simp] theorem snapshotFreeze_grows {b0 : State} (s : State)  (h0 : Grows b0 s) : Grows b0 (Machine.snapshotFreeze s) := by
  simp [Machine.snapshotFreeze, *]
@[simp] theorem clearObjects_grows {b0 : State} (s : State)  (h0 : Grows b0 s) : Grows b0 (Machine.clearObjects s) := by
  unfold Machine.clearObjects; (try dsimp only)
  repeat' (first | with_reducible assumption | with_reducible refine grows_foldl _ _ ?_ (fun _ _ _ => ?_) | split)
  all_goals (try simp (maxDischargeDepth := 30) [*])
@[simp] theorem clearRest_grows {b0 : State} (s : State)  (h0 : Grows b0 s) : Grows b0 (Machine.clearRest s) := by
  simp [Machine.clearRest, *]
@[simp] theorem clearAllApply_grows {b0 : State} (s : State)  (h0 : Grows b0 s) : Grows b0 (Machine.clearAllApply s) := by
  unfold Machine.clearAllApply
  repeat' (first | with_reducible assumption | with_reducible refine grows_foldl _ _ ?_ (fun _ _ _ => ?_) | split)
  all_goals first | (simp (maxDischargeDepth := 30) [*]; done) | simp (maxDischargeDepth := 30) +contextual [*]
@[simp] theorem digestOut_grows {b0 : State} (was : Nat) (s : State)  (h0 : Grows b0 s) : Grows b0 (Machine.digestOut was s) := by
  simp (maxDischargeDepth := 30) [Machine.digestOut, *]
@[simp] theorem mirrorPeriod_grows {b0 : State} (s : State)  (h0 : Grows b0 s) : Grows b0 (Machine.mirrorPeriod s) := by
  simp (maxDischargeDepth := 30) [Machine.mirrorPeriod, *]
@[simp] theorem pathBoundary_grows {b0 : State} (was : Nat) (s : State)  (h0 : Grows b0 s) : Grows b0 (Machine.pathBoundary was s) := by
  simp (maxDischargeDepth := 30) [Machine.pathBoundary, *]
@[simp] theorem leaveRelinquishing_grows {b0 : State} (s : State)  (h0 : Grows b0 s) : Grows b0 (Machine.leaveRelinquishing s) := by
  simp (maxDischargeDepth := 30) [Machine.leaveRelinquishing, *]
@[simp] theorem heartbeat_grows {b0 : State} (s : State)  (h0 : Grows b0 s) : Grows b0 (Machine.heartbeat s) := by
  simp [Machine.heartbeat, *]
@[simp] theorem putMask_grows {b0 : State} (s : State) (off mask value : Nat)  (h0 : Grows b0 s) : Grows b0 (Machine.putMask s off mask value) := by
  simp [Machine.putMask, *]
@[simp] theorem setFields_grows {b0 : State} (s : State) (a : Acc) (off mask value : Nat)  (h0 : Grows b0 s) : Grows b0 (Machine.setFields s a off mask value) := by
  simp (maxDischargeDepth := 30) [Machine.setFields, *]
@[simp] theorem putMsix_grows {b0 : State} (s : State) (lane : Nat) (guard : Bool) (vec i : Nat) (w : Word)  (h0 : Grows b0 s) : Grows b0 (Machine.putMsix s lane guard vec i w) := by
  unfold Machine.putMsix; dsimp only
  have h1 : ∀ w, Grows b0 { s with msix := tsetD msixReset s.msix (vecKey lane guard vec * 4 + i) w } := fun w => by simp [h0]
  generalize (if i = 3 then w &&& 1#32 else if i = 0 then w &&& 0xFFFFFFFC#32 else w) = w1
  split
  · refine emit_grows _ _ ?_
    have h := h1 w1
    exact Grows.mk h.pending h.free h.out h.secver h.regs h.nvm h.msix (fun w => tabWf_set _ _ (h.pba w)) h.latch h.moder
  · exact h1 _
@[simp] theorem writeMsix_grows {b0 : State} (s : State) (r : Req) (off width value : Nat)  (h0 : Grows b0 s) : Grows b0 (Machine.writeMsix s r off width value) := by
  unfold Machine.writeMsix; (repeat' split) <;> simp [*]
@[simp] theorem readWord_grows {b0 : State} (s : State) (r : Req) (off : Nat)  (h0 : Grows b0 s) : Grows b0 (Machine.readWord s r off) := by
  unfold Machine.readWord; (try dsimp only)
  repeat' (first | with_reducible assumption | with_reducible refine grows_foldl _ _ ?_ (fun _ _ _ => ?_) | split)
  all_goals (try simp (maxDischargeDepth := 30) [*])
  all_goals first | (simp (maxDischargeDepth := 30) [*]; done) | simp (maxDischargeDepth := 30) +contextual [*]
@[simp] theorem jrnShow_grows {b0 : State} (s : State) (b : Nat)  (h0 : Grows b0 s) : Grows b0 (Machine.jrnShow s b) := by
  simp [Machine.jrnShow, *]
@[simp] theorem closeBlock_grows {b0 : State} (s : State) (timed : Bool)  (h0 : Grows b0 s) : Grows b0 (Machine.closeBlock s timed) := by
  unfold Machine.closeBlock; dsimp only
  split
  · exact h0
  · have h1 := takeKey_snd s (fld s Reg.JRN_CTRL 19 12) 9 useMacGen h0
    generalize takeKey s (fld s Reg.JRN_CTRL 19 12) 9 useMacGen = p at *
    split <;> split <;> simp (maxDischargeDepth := 30) [h1]
@[simp] theorem appendRecord_grows {b0 : State} (s : State) (gen : Nat) (r : Bytes)  (h0 : Grows b0 s) : Grows b0 (Machine.appendRecord s gen r) := by
  simp (maxDischargeDepth := 30) [Machine.appendRecord, *]
@[simp] theorem newGeneration_grows {b0 : State} (s : State) (gen : Nat)  (h0 : Grows b0 s) : Grows b0 (Machine.newGeneration s gen) := by
  simp [Machine.newGeneration, *]
@[simp] theorem recordData_grows {b0 : State} (s : State) (x : Sent)  (h0 : Grows b0 s) : Grows b0 (Machine.recordData s x) := by
  simp (maxDischargeDepth := 30) [Machine.recordData, *]
@[simp] theorem lossMark_grows {b0 : State} (s : State)  (h0 : Grows b0 s) : Grows b0 (Machine.lossMark s) := by
  simp [Machine.lossMark, *]
@[simp] theorem idle_grows {b0 : State} (s : State)  (h0 : Grows b0 s) : Grows b0 (Machine.idle s) := by
  simp [Machine.idle, *]

end Sys2Proof.Laws
end

