-- ==== Sys2Proof/Laws/State.lean ====
section
/-! SUPPORT. What an update of the state leaves: one lemma per field and update, so that no proof unfolds a record update. -/

namespace Sys2Proof.Laws

open Sys2Proof Sys2Proof.Machine

-- What `wr` leaves.
@[simp] theorem wr_pending (s : State) (off : Nat) (v : Word) : (wr s off v).pending = s.pending := rfl
@[simp] theorem wr_latch (s : State) (off : Nat) (v : Word) : (wr s off v).latch = s.latch := rfl
@[simp] theorem wr_cfg (s : State) (off : Nat) (v : Word) : (wr s off v).cfg = s.cfg := rfl
@[simp] theorem wr_prev (s : State) (off : Nat) (v : Word) : (wr s off v).prev = s.prev := rfl
@[simp] theorem wr_tag (s : State) (off : Nat) (v : Word) : (wr s off v).tag = s.tag := rfl
@[simp] theorem wr_dev (s : State) (off : Nat) (v : Word) : (wr s off v).dev = s.dev := rfl
@[simp] theorem wr_msix (s : State) (off : Nat) (v : Word) : (wr s off v).msix = s.msix := rfl
@[simp] theorem wr_pba (s : State) (off : Nat) (v : Word) : (wr s off v).pba = s.pba := rfl
@[simp] theorem wr_moder (s : State) (off : Nat) (v : Word) : (wr s off v).moder = s.moder := rfl
@[simp] theorem wr_nvm (s : State) (off : Nat) (v : Word) : (wr s off v).nvm = s.nvm := rfl
@[simp] theorem wr_secver (s : State) (off : Nat) (v : Word) : (wr s off v).secver = s.secver := rfl
@[simp] theorem wr_tim (s : State) (off : Nat) (v : Word) : (wr s off v).tim = s.tim := rfl
@[simp] theorem wr_prt (s : State) (off : Nat) (v : Word) : (wr s off v).prt = s.prt := rfl
@[simp] theorem wr_stb (s : State) (off : Nat) (v : Word) : (wr s off v).stb = s.stb := rfl
@[simp] theorem wr_flt (s : State) (off : Nat) (v : Word) : (wr s off v).flt = s.flt := rfl
@[simp] theorem wr_map (s : State) (off : Nat) (v : Word) : (wr s off v).map = s.map := rfl
@[simp] theorem wr_com (s : State) (off : Nat) (v : Word) : (wr s off v).com = s.com := rfl
@[simp] theorem wr_bgt (s : State) (off : Nat) (v : Word) : (wr s off v).bgt = s.bgt := rfl
@[simp] theorem wr_egr (s : State) (off : Nat) (v : Word) : (wr s off v).egr = s.egr := rfl
@[simp] theorem wr_jrn (s : State) (off : Nat) (v : Word) : (wr s off v).jrn = s.jrn := rfl
@[simp] theorem wr_lni (s : State) (off : Nat) (v : Word) : (wr s off v).lni = s.lni := rfl
@[simp] theorem wr_vot (s : State) (off : Nat) (v : Word) : (wr s off v).vot = s.vot := rfl
@[simp] theorem wr_brg (s : State) (off : Nat) (v : Word) : (wr s off v).brg = s.brg := rfl
@[simp] theorem wr_cdb (s : State) (off : Nat) (v : Word) : (wr s off v).cdb = s.cdb := rfl
@[simp] theorem wr_red (s : State) (off : Nat) (v : Word) : (wr s off v).red = s.red := rfl
@[simp] theorem wr_vault (s : State) (off : Nat) (v : Word) : (wr s off v).vault = s.vault := rfl
@[simp] theorem wr_saf (s : State) (off : Nat) (v : Word) : (wr s off v).saf = s.saf := rfl
@[simp] theorem wr_dgn (s : State) (off : Nat) (v : Word) : (wr s off v).dgn = s.dgn := rfl
@[simp] theorem wr_cfgs (s : State) (off : Nat) (v : Word) : (wr s off v).cfgs = s.cfgs := rfl
@[simp] theorem wr_aon (s : State) (off : Nat) (v : Word) : (wr s off v).aon = s.aon := rfl
@[simp] theorem wr_pwr (s : State) (off : Nat) (v : Word) : (wr s off v).pwr = s.pwr := rfl
@[simp] theorem wr_stw (s : State) (off : Nat) (v : Word) : (wr s off v).stw = s.stw := rfl
@[simp] theorem wr_free (s : State) (off : Nat) (v : Word) : (wr s off v).free = s.free := rfl
@[simp] theorem wr_out (s : State) (off : Nat) (v : Word) : (wr s off v).out = s.out := rfl

-- What `setFld` leaves.
@[simp] theorem setFld_pending (s : State) (off hi lo v : Nat) : (setFld s off hi lo v).pending = s.pending := rfl
@[simp] theorem setFld_latch (s : State) (off hi lo v : Nat) : (setFld s off hi lo v).latch = s.latch := rfl
@[simp] theorem setFld_cfg (s : State) (off hi lo v : Nat) : (setFld s off hi lo v).cfg = s.cfg := rfl
@[simp] theorem setFld_prev (s : State) (off hi lo v : Nat) : (setFld s off hi lo v).prev = s.prev := rfl
@[simp] theorem setFld_tag (s : State) (off hi lo v : Nat) : (setFld s off hi lo v).tag = s.tag := rfl
@[simp] theorem setFld_dev (s : State) (off hi lo v : Nat) : (setFld s off hi lo v).dev = s.dev := rfl
@[simp] theorem setFld_msix (s : State) (off hi lo v : Nat) : (setFld s off hi lo v).msix = s.msix := rfl
@[simp] theorem setFld_pba (s : State) (off hi lo v : Nat) : (setFld s off hi lo v).pba = s.pba := rfl
@[simp] theorem setFld_moder (s : State) (off hi lo v : Nat) : (setFld s off hi lo v).moder = s.moder := rfl
@[simp] theorem setFld_nvm (s : State) (off hi lo v : Nat) : (setFld s off hi lo v).nvm = s.nvm := rfl
@[simp] theorem setFld_secver (s : State) (off hi lo v : Nat) : (setFld s off hi lo v).secver = s.secver := rfl
@[simp] theorem setFld_tim (s : State) (off hi lo v : Nat) : (setFld s off hi lo v).tim = s.tim := rfl
@[simp] theorem setFld_prt (s : State) (off hi lo v : Nat) : (setFld s off hi lo v).prt = s.prt := rfl
@[simp] theorem setFld_stb (s : State) (off hi lo v : Nat) : (setFld s off hi lo v).stb = s.stb := rfl
@[simp] theorem setFld_flt (s : State) (off hi lo v : Nat) : (setFld s off hi lo v).flt = s.flt := rfl
@[simp] theorem setFld_map (s : State) (off hi lo v : Nat) : (setFld s off hi lo v).map = s.map := rfl
@[simp] theorem setFld_com (s : State) (off hi lo v : Nat) : (setFld s off hi lo v).com = s.com := rfl
@[simp] theorem setFld_bgt (s : State) (off hi lo v : Nat) : (setFld s off hi lo v).bgt = s.bgt := rfl
@[simp] theorem setFld_egr (s : State) (off hi lo v : Nat) : (setFld s off hi lo v).egr = s.egr := rfl
@[simp] theorem setFld_jrn (s : State) (off hi lo v : Nat) : (setFld s off hi lo v).jrn = s.jrn := rfl
@[simp] theorem setFld_lni (s : State) (off hi lo v : Nat) : (setFld s off hi lo v).lni = s.lni := rfl
@[simp] theorem setFld_vot (s : State) (off hi lo v : Nat) : (setFld s off hi lo v).vot = s.vot := rfl
@[simp] theorem setFld_brg (s : State) (off hi lo v : Nat) : (setFld s off hi lo v).brg = s.brg := rfl
@[simp] theorem setFld_cdb (s : State) (off hi lo v : Nat) : (setFld s off hi lo v).cdb = s.cdb := rfl
@[simp] theorem setFld_red (s : State) (off hi lo v : Nat) : (setFld s off hi lo v).red = s.red := rfl
@[simp] theorem setFld_vault (s : State) (off hi lo v : Nat) : (setFld s off hi lo v).vault = s.vault := rfl
@[simp] theorem setFld_saf (s : State) (off hi lo v : Nat) : (setFld s off hi lo v).saf = s.saf := rfl
@[simp] theorem setFld_dgn (s : State) (off hi lo v : Nat) : (setFld s off hi lo v).dgn = s.dgn := rfl
@[simp] theorem setFld_cfgs (s : State) (off hi lo v : Nat) : (setFld s off hi lo v).cfgs = s.cfgs := rfl
@[simp] theorem setFld_aon (s : State) (off hi lo v : Nat) : (setFld s off hi lo v).aon = s.aon := rfl
@[simp] theorem setFld_pwr (s : State) (off hi lo v : Nat) : (setFld s off hi lo v).pwr = s.pwr := rfl
@[simp] theorem setFld_stw (s : State) (off hi lo v : Nat) : (setFld s off hi lo v).stw = s.stw := rfl
@[simp] theorem setFld_free (s : State) (off hi lo v : Nat) : (setFld s off hi lo v).free = s.free := rfl
@[simp] theorem setFld_out (s : State) (off hi lo v : Nat) : (setFld s off hi lo v).out = s.out := rfl

-- What `cntAdd` leaves.
@[simp] theorem cntAdd_pending (s : State) (off n : Nat) : (cntAdd s off n).pending = s.pending := rfl
@[simp] theorem cntAdd_latch (s : State) (off n : Nat) : (cntAdd s off n).latch = s.latch := rfl
@[simp] theorem cntAdd_cfg (s : State) (off n : Nat) : (cntAdd s off n).cfg = s.cfg := rfl
@[simp] theorem cntAdd_prev (s : State) (off n : Nat) : (cntAdd s off n).prev = s.prev := rfl
@[simp] theorem cntAdd_tag (s : State) (off n : Nat) : (cntAdd s off n).tag = s.tag := rfl
@[simp] theorem cntAdd_dev (s : State) (off n : Nat) : (cntAdd s off n).dev = s.dev := rfl
@[simp] theorem cntAdd_msix (s : State) (off n : Nat) : (cntAdd s off n).msix = s.msix := rfl
@[simp] theorem cntAdd_pba (s : State) (off n : Nat) : (cntAdd s off n).pba = s.pba := rfl
@[simp] theorem cntAdd_moder (s : State) (off n : Nat) : (cntAdd s off n).moder = s.moder := rfl
@[simp] theorem cntAdd_nvm (s : State) (off n : Nat) : (cntAdd s off n).nvm = s.nvm := rfl
@[simp] theorem cntAdd_secver (s : State) (off n : Nat) : (cntAdd s off n).secver = s.secver := rfl
@[simp] theorem cntAdd_tim (s : State) (off n : Nat) : (cntAdd s off n).tim = s.tim := rfl
@[simp] theorem cntAdd_prt (s : State) (off n : Nat) : (cntAdd s off n).prt = s.prt := rfl
@[simp] theorem cntAdd_stb (s : State) (off n : Nat) : (cntAdd s off n).stb = s.stb := rfl
@[simp] theorem cntAdd_flt (s : State) (off n : Nat) : (cntAdd s off n).flt = s.flt := rfl
@[simp] theorem cntAdd_map (s : State) (off n : Nat) : (cntAdd s off n).map = s.map := rfl
@[simp] theorem cntAdd_com (s : State) (off n : Nat) : (cntAdd s off n).com = s.com := rfl
@[simp] theorem cntAdd_bgt (s : State) (off n : Nat) : (cntAdd s off n).bgt = s.bgt := rfl
@[simp] theorem cntAdd_egr (s : State) (off n : Nat) : (cntAdd s off n).egr = s.egr := rfl
@[simp] theorem cntAdd_jrn (s : State) (off n : Nat) : (cntAdd s off n).jrn = s.jrn := rfl
@[simp] theorem cntAdd_lni (s : State) (off n : Nat) : (cntAdd s off n).lni = s.lni := rfl
@[simp] theorem cntAdd_vot (s : State) (off n : Nat) : (cntAdd s off n).vot = s.vot := rfl
@[simp] theorem cntAdd_brg (s : State) (off n : Nat) : (cntAdd s off n).brg = s.brg := rfl
@[simp] theorem cntAdd_cdb (s : State) (off n : Nat) : (cntAdd s off n).cdb = s.cdb := rfl
@[simp] theorem cntAdd_red (s : State) (off n : Nat) : (cntAdd s off n).red = s.red := rfl
@[simp] theorem cntAdd_vault (s : State) (off n : Nat) : (cntAdd s off n).vault = s.vault := rfl
@[simp] theorem cntAdd_saf (s : State) (off n : Nat) : (cntAdd s off n).saf = s.saf := rfl
@[simp] theorem cntAdd_dgn (s : State) (off n : Nat) : (cntAdd s off n).dgn = s.dgn := rfl
@[simp] theorem cntAdd_cfgs (s : State) (off n : Nat) : (cntAdd s off n).cfgs = s.cfgs := rfl
@[simp] theorem cntAdd_aon (s : State) (off n : Nat) : (cntAdd s off n).aon = s.aon := rfl
@[simp] theorem cntAdd_pwr (s : State) (off n : Nat) : (cntAdd s off n).pwr = s.pwr := rfl
@[simp] theorem cntAdd_stw (s : State) (off n : Nat) : (cntAdd s off n).stw = s.stw := rfl
@[simp] theorem cntAdd_free (s : State) (off n : Nat) : (cntAdd s off n).free = s.free := rfl
@[simp] theorem cntAdd_out (s : State) (off n : Nat) : (cntAdd s off n).out = s.out := rfl

-- What `cnt` leaves.
@[simp] theorem cnt_pending (s : State) (off : Nat) : (cnt s off).pending = s.pending := rfl
@[simp] theorem cnt_latch (s : State) (off : Nat) : (cnt s off).latch = s.latch := rfl
@[simp] theorem cnt_cfg (s : State) (off : Nat) : (cnt s off).cfg = s.cfg := rfl
@[simp] theorem cnt_prev (s : State) (off : Nat) : (cnt s off).prev = s.prev := rfl
@[simp] theorem cnt_tag (s : State) (off : Nat) : (cnt s off).tag = s.tag := rfl
@[simp] theorem cnt_dev (s : State) (off : Nat) : (cnt s off).dev = s.dev := rfl
@[simp] theorem cnt_msix (s : State) (off : Nat) : (cnt s off).msix = s.msix := rfl
@[simp] theorem cnt_pba (s : State) (off : Nat) : (cnt s off).pba = s.pba := rfl
@[simp] theorem cnt_moder (s : State) (off : Nat) : (cnt s off).moder = s.moder := rfl
@[simp] theorem cnt_nvm (s : State) (off : Nat) : (cnt s off).nvm = s.nvm := rfl
@[simp] theorem cnt_secver (s : State) (off : Nat) : (cnt s off).secver = s.secver := rfl
@[simp] theorem cnt_tim (s : State) (off : Nat) : (cnt s off).tim = s.tim := rfl
@[simp] theorem cnt_prt (s : State) (off : Nat) : (cnt s off).prt = s.prt := rfl
@[simp] theorem cnt_stb (s : State) (off : Nat) : (cnt s off).stb = s.stb := rfl
@[simp] theorem cnt_flt (s : State) (off : Nat) : (cnt s off).flt = s.flt := rfl
@[simp] theorem cnt_map (s : State) (off : Nat) : (cnt s off).map = s.map := rfl
@[simp] theorem cnt_com (s : State) (off : Nat) : (cnt s off).com = s.com := rfl
@[simp] theorem cnt_bgt (s : State) (off : Nat) : (cnt s off).bgt = s.bgt := rfl
@[simp] theorem cnt_egr (s : State) (off : Nat) : (cnt s off).egr = s.egr := rfl
@[simp] theorem cnt_jrn (s : State) (off : Nat) : (cnt s off).jrn = s.jrn := rfl
@[simp] theorem cnt_lni (s : State) (off : Nat) : (cnt s off).lni = s.lni := rfl
@[simp] theorem cnt_vot (s : State) (off : Nat) : (cnt s off).vot = s.vot := rfl
@[simp] theorem cnt_brg (s : State) (off : Nat) : (cnt s off).brg = s.brg := rfl
@[simp] theorem cnt_cdb (s : State) (off : Nat) : (cnt s off).cdb = s.cdb := rfl
@[simp] theorem cnt_red (s : State) (off : Nat) : (cnt s off).red = s.red := rfl
@[simp] theorem cnt_vault (s : State) (off : Nat) : (cnt s off).vault = s.vault := rfl
@[simp] theorem cnt_saf (s : State) (off : Nat) : (cnt s off).saf = s.saf := rfl
@[simp] theorem cnt_dgn (s : State) (off : Nat) : (cnt s off).dgn = s.dgn := rfl
@[simp] theorem cnt_cfgs (s : State) (off : Nat) : (cnt s off).cfgs = s.cfgs := rfl
@[simp] theorem cnt_aon (s : State) (off : Nat) : (cnt s off).aon = s.aon := rfl
@[simp] theorem cnt_pwr (s : State) (off : Nat) : (cnt s off).pwr = s.pwr := rfl
@[simp] theorem cnt_stw (s : State) (off : Nat) : (cnt s off).stw = s.stw := rfl
@[simp] theorem cnt_free (s : State) (off : Nat) : (cnt s off).free = s.free := rfl
@[simp] theorem cnt_out (s : State) (off : Nat) : (cnt s off).out = s.out := rfl

-- What `clearRegs` leaves.
@[simp] theorem clearRegs_pending (s : State) (lo hi : Nat) : (clearRegs s lo hi).pending = s.pending := rfl
@[simp] theorem clearRegs_latch (s : State) (lo hi : Nat) : (clearRegs s lo hi).latch = s.latch := rfl
@[simp] theorem clearRegs_cfg (s : State) (lo hi : Nat) : (clearRegs s lo hi).cfg = s.cfg := rfl
@[simp] theorem clearRegs_prev (s : State) (lo hi : Nat) : (clearRegs s lo hi).prev = s.prev := rfl
@[simp] theorem clearRegs_tag (s : State) (lo hi : Nat) : (clearRegs s lo hi).tag = s.tag := rfl
@[simp] theorem clearRegs_dev (s : State) (lo hi : Nat) : (clearRegs s lo hi).dev = s.dev := rfl
@[simp] theorem clearRegs_msix (s : State) (lo hi : Nat) : (clearRegs s lo hi).msix = s.msix := rfl
@[simp] theorem clearRegs_pba (s : State) (lo hi : Nat) : (clearRegs s lo hi).pba = s.pba := rfl
@[simp] theorem clearRegs_moder (s : State) (lo hi : Nat) : (clearRegs s lo hi).moder = s.moder := rfl
@[simp] theorem clearRegs_nvm (s : State) (lo hi : Nat) : (clearRegs s lo hi).nvm = s.nvm := rfl
@[simp] theorem clearRegs_secver (s : State) (lo hi : Nat) : (clearRegs s lo hi).secver = s.secver := rfl
@[simp] theorem clearRegs_tim (s : State) (lo hi : Nat) : (clearRegs s lo hi).tim = s.tim := rfl
@[simp] theorem clearRegs_prt (s : State) (lo hi : Nat) : (clearRegs s lo hi).prt = s.prt := rfl
@[simp] theorem clearRegs_stb (s : State) (lo hi : Nat) : (clearRegs s lo hi).stb = s.stb := rfl
@[simp] theorem clearRegs_flt (s : State) (lo hi : Nat) : (clearRegs s lo hi).flt = s.flt := rfl
@[simp] theorem clearRegs_map (s : State) (lo hi : Nat) : (clearRegs s lo hi).map = s.map := rfl
@[simp] theorem clearRegs_com (s : State) (lo hi : Nat) : (clearRegs s lo hi).com = s.com := rfl
@[simp] theorem clearRegs_bgt (s : State) (lo hi : Nat) : (clearRegs s lo hi).bgt = s.bgt := rfl
@[simp] theorem clearRegs_egr (s : State) (lo hi : Nat) : (clearRegs s lo hi).egr = s.egr := rfl
@[simp] theorem clearRegs_jrn (s : State) (lo hi : Nat) : (clearRegs s lo hi).jrn = s.jrn := rfl
@[simp] theorem clearRegs_lni (s : State) (lo hi : Nat) : (clearRegs s lo hi).lni = s.lni := rfl
@[simp] theorem clearRegs_vot (s : State) (lo hi : Nat) : (clearRegs s lo hi).vot = s.vot := rfl
@[simp] theorem clearRegs_brg (s : State) (lo hi : Nat) : (clearRegs s lo hi).brg = s.brg := rfl
@[simp] theorem clearRegs_cdb (s : State) (lo hi : Nat) : (clearRegs s lo hi).cdb = s.cdb := rfl
@[simp] theorem clearRegs_red (s : State) (lo hi : Nat) : (clearRegs s lo hi).red = s.red := rfl
@[simp] theorem clearRegs_vault (s : State) (lo hi : Nat) : (clearRegs s lo hi).vault = s.vault := rfl
@[simp] theorem clearRegs_saf (s : State) (lo hi : Nat) : (clearRegs s lo hi).saf = s.saf := rfl
@[simp] theorem clearRegs_dgn (s : State) (lo hi : Nat) : (clearRegs s lo hi).dgn = s.dgn := rfl
@[simp] theorem clearRegs_cfgs (s : State) (lo hi : Nat) : (clearRegs s lo hi).cfgs = s.cfgs := rfl
@[simp] theorem clearRegs_aon (s : State) (lo hi : Nat) : (clearRegs s lo hi).aon = s.aon := rfl
@[simp] theorem clearRegs_pwr (s : State) (lo hi : Nat) : (clearRegs s lo hi).pwr = s.pwr := rfl
@[simp] theorem clearRegs_stw (s : State) (lo hi : Nat) : (clearRegs s lo hi).stw = s.stw := rfl
@[simp] theorem clearRegs_free (s : State) (lo hi : Nat) : (clearRegs s lo hi).free = s.free := rfl
@[simp] theorem clearRegs_out (s : State) (lo hi : Nat) : (clearRegs s lo hi).out = s.out := rfl

-- What `emit` leaves.
@[simp] theorem emit_pending (s : State) (o : Out) : (emit s o).pending = s.pending := rfl
@[simp] theorem emit_regs (s : State) (o : Out) : (emit s o).regs = s.regs := rfl
@[simp] theorem emit_latch (s : State) (o : Out) : (emit s o).latch = s.latch := rfl
@[simp] theorem emit_cfg (s : State) (o : Out) : (emit s o).cfg = s.cfg := rfl
@[simp] theorem emit_prev (s : State) (o : Out) : (emit s o).prev = s.prev := rfl
@[simp] theorem emit_tag (s : State) (o : Out) : (emit s o).tag = s.tag := rfl
@[simp] theorem emit_dev (s : State) (o : Out) : (emit s o).dev = s.dev := rfl
@[simp] theorem emit_msix (s : State) (o : Out) : (emit s o).msix = s.msix := rfl
@[simp] theorem emit_pba (s : State) (o : Out) : (emit s o).pba = s.pba := rfl
@[simp] theorem emit_moder (s : State) (o : Out) : (emit s o).moder = s.moder := rfl
@[simp] theorem emit_nvm (s : State) (o : Out) : (emit s o).nvm = s.nvm := rfl
@[simp] theorem emit_secver (s : State) (o : Out) : (emit s o).secver = s.secver := rfl
@[simp] theorem emit_tim (s : State) (o : Out) : (emit s o).tim = s.tim := rfl
@[simp] theorem emit_prt (s : State) (o : Out) : (emit s o).prt = s.prt := rfl
@[simp] theorem emit_stb (s : State) (o : Out) : (emit s o).stb = s.stb := rfl
@[simp] theorem emit_flt (s : State) (o : Out) : (emit s o).flt = s.flt := rfl
@[simp] theorem emit_map (s : State) (o : Out) : (emit s o).map = s.map := rfl
@[simp] theorem emit_com (s : State) (o : Out) : (emit s o).com = s.com := rfl
@[simp] theorem emit_bgt (s : State) (o : Out) : (emit s o).bgt = s.bgt := rfl
@[simp] theorem emit_egr (s : State) (o : Out) : (emit s o).egr = s.egr := rfl
@[simp] theorem emit_jrn (s : State) (o : Out) : (emit s o).jrn = s.jrn := rfl
@[simp] theorem emit_lni (s : State) (o : Out) : (emit s o).lni = s.lni := rfl
@[simp] theorem emit_vot (s : State) (o : Out) : (emit s o).vot = s.vot := rfl
@[simp] theorem emit_brg (s : State) (o : Out) : (emit s o).brg = s.brg := rfl
@[simp] theorem emit_cdb (s : State) (o : Out) : (emit s o).cdb = s.cdb := rfl
@[simp] theorem emit_red (s : State) (o : Out) : (emit s o).red = s.red := rfl
@[simp] theorem emit_vault (s : State) (o : Out) : (emit s o).vault = s.vault := rfl
@[simp] theorem emit_saf (s : State) (o : Out) : (emit s o).saf = s.saf := rfl
@[simp] theorem emit_dgn (s : State) (o : Out) : (emit s o).dgn = s.dgn := rfl
@[simp] theorem emit_cfgs (s : State) (o : Out) : (emit s o).cfgs = s.cfgs := rfl
@[simp] theorem emit_aon (s : State) (o : Out) : (emit s o).aon = s.aon := rfl
@[simp] theorem emit_pwr (s : State) (o : Out) : (emit s o).pwr = s.pwr := rfl
@[simp] theorem emit_stw (s : State) (o : Out) : (emit s o).stw = s.stw := rfl
@[simp] theorem emit_free (s : State) (o : Out) : (emit s o).free = s.free := rfl

-- What `discard` leaves.
@[simp] theorem discard_pending (s : State) (r : Req) (off cause : Nat) : (discard s r off cause).pending = s.pending := rfl
@[simp] theorem discard_latch (s : State) (r : Req) (off cause : Nat) : (discard s r off cause).latch = s.latch := rfl
@[simp] theorem discard_cfg (s : State) (r : Req) (off cause : Nat) : (discard s r off cause).cfg = s.cfg := rfl
@[simp] theorem discard_prev (s : State) (r : Req) (off cause : Nat) : (discard s r off cause).prev = s.prev := rfl
@[simp] theorem discard_tag (s : State) (r : Req) (off cause : Nat) : (discard s r off cause).tag = s.tag := rfl
@[simp] theorem discard_dev (s : State) (r : Req) (off cause : Nat) : (discard s r off cause).dev = s.dev := rfl
@[simp] theorem discard_msix (s : State) (r : Req) (off cause : Nat) : (discard s r off cause).msix = s.msix := rfl
@[simp] theorem discard_pba (s : State) (r : Req) (off cause : Nat) : (discard s r off cause).pba = s.pba := rfl
@[simp] theorem discard_moder (s : State) (r : Req) (off cause : Nat) : (discard s r off cause).moder = s.moder := rfl
@[simp] theorem discard_nvm (s : State) (r : Req) (off cause : Nat) : (discard s r off cause).nvm = s.nvm := rfl
@[simp] theorem discard_secver (s : State) (r : Req) (off cause : Nat) : (discard s r off cause).secver = s.secver := rfl
@[simp] theorem discard_tim (s : State) (r : Req) (off cause : Nat) : (discard s r off cause).tim = s.tim := rfl
@[simp] theorem discard_prt (s : State) (r : Req) (off cause : Nat) : (discard s r off cause).prt = s.prt := rfl
@[simp] theorem discard_stb (s : State) (r : Req) (off cause : Nat) : (discard s r off cause).stb = s.stb := rfl
@[simp] theorem discard_flt (s : State) (r : Req) (off cause : Nat) : (discard s r off cause).flt = s.flt := rfl
@[simp] theorem discard_map (s : State) (r : Req) (off cause : Nat) : (discard s r off cause).map = s.map := rfl
@[simp] theorem discard_com (s : State) (r : Req) (off cause : Nat) : (discard s r off cause).com = s.com := rfl
@[simp] theorem discard_bgt (s : State) (r : Req) (off cause : Nat) : (discard s r off cause).bgt = s.bgt := rfl
@[simp] theorem discard_egr (s : State) (r : Req) (off cause : Nat) : (discard s r off cause).egr = s.egr := rfl
@[simp] theorem discard_jrn (s : State) (r : Req) (off cause : Nat) : (discard s r off cause).jrn = s.jrn := rfl
@[simp] theorem discard_lni (s : State) (r : Req) (off cause : Nat) : (discard s r off cause).lni = s.lni := rfl
@[simp] theorem discard_vot (s : State) (r : Req) (off cause : Nat) : (discard s r off cause).vot = s.vot := rfl
@[simp] theorem discard_brg (s : State) (r : Req) (off cause : Nat) : (discard s r off cause).brg = s.brg := rfl
@[simp] theorem discard_cdb (s : State) (r : Req) (off cause : Nat) : (discard s r off cause).cdb = s.cdb := rfl
@[simp] theorem discard_red (s : State) (r : Req) (off cause : Nat) : (discard s r off cause).red = s.red := rfl
@[simp] theorem discard_vault (s : State) (r : Req) (off cause : Nat) : (discard s r off cause).vault = s.vault := rfl
@[simp] theorem discard_saf (s : State) (r : Req) (off cause : Nat) : (discard s r off cause).saf = s.saf := rfl
@[simp] theorem discard_dgn (s : State) (r : Req) (off cause : Nat) : (discard s r off cause).dgn = s.dgn := rfl
@[simp] theorem discard_cfgs (s : State) (r : Req) (off cause : Nat) : (discard s r off cause).cfgs = s.cfgs := rfl
@[simp] theorem discard_aon (s : State) (r : Req) (off cause : Nat) : (discard s r off cause).aon = s.aon := rfl
@[simp] theorem discard_pwr (s : State) (r : Req) (off cause : Nat) : (discard s r off cause).pwr = s.pwr := rfl
@[simp] theorem discard_stw (s : State) (r : Req) (off cause : Nat) : (discard s r off cause).stw = s.stw := rfl
@[simp] theorem discard_free (s : State) (r : Req) (off cause : Nat) : (discard s r off cause).free = s.free := rfl
@[simp] theorem discard_out (s : State) (r : Req) (off cause : Nat) : (discard s r off cause).out = s.out := rfl

-- What `setCls` leaves.
@[simp] theorem setCls_pending (s : State) (e c : Nat) : (setCls s e c).pending = s.pending := rfl
@[simp] theorem setCls_regs (s : State) (e c : Nat) : (setCls s e c).regs = s.regs := rfl
@[simp] theorem setCls_latch (s : State) (e c : Nat) : (setCls s e c).latch = s.latch := rfl
@[simp] theorem setCls_cfg (s : State) (e c : Nat) : (setCls s e c).cfg = s.cfg := rfl
@[simp] theorem setCls_prev (s : State) (e c : Nat) : (setCls s e c).prev = s.prev := rfl
@[simp] theorem setCls_tag (s : State) (e c : Nat) : (setCls s e c).tag = s.tag := rfl
@[simp] theorem setCls_dev (s : State) (e c : Nat) : (setCls s e c).dev = s.dev := rfl
@[simp] theorem setCls_msix (s : State) (e c : Nat) : (setCls s e c).msix = s.msix := rfl
@[simp] theorem setCls_pba (s : State) (e c : Nat) : (setCls s e c).pba = s.pba := rfl
@[simp] theorem setCls_moder (s : State) (e c : Nat) : (setCls s e c).moder = s.moder := rfl
@[simp] theorem setCls_nvm (s : State) (e c : Nat) : (setCls s e c).nvm = s.nvm := rfl
@[simp] theorem setCls_secver (s : State) (e c : Nat) : (setCls s e c).secver = s.secver := rfl
@[simp] theorem setCls_tim (s : State) (e c : Nat) : (setCls s e c).tim = s.tim := rfl
@[simp] theorem setCls_prt (s : State) (e c : Nat) : (setCls s e c).prt = s.prt := rfl
@[simp] theorem setCls_flt (s : State) (e c : Nat) : (setCls s e c).flt = s.flt := rfl
@[simp] theorem setCls_map (s : State) (e c : Nat) : (setCls s e c).map = s.map := rfl
@[simp] theorem setCls_com (s : State) (e c : Nat) : (setCls s e c).com = s.com := rfl
@[simp] theorem setCls_bgt (s : State) (e c : Nat) : (setCls s e c).bgt = s.bgt := rfl
@[simp] theorem setCls_egr (s : State) (e c : Nat) : (setCls s e c).egr = s.egr := rfl
@[simp] theorem setCls_jrn (s : State) (e c : Nat) : (setCls s e c).jrn = s.jrn := rfl
@[simp] theorem setCls_lni (s : State) (e c : Nat) : (setCls s e c).lni = s.lni := rfl
@[simp] theorem setCls_vot (s : State) (e c : Nat) : (setCls s e c).vot = s.vot := rfl
@[simp] theorem setCls_brg (s : State) (e c : Nat) : (setCls s e c).brg = s.brg := rfl
@[simp] theorem setCls_cdb (s : State) (e c : Nat) : (setCls s e c).cdb = s.cdb := rfl
@[simp] theorem setCls_red (s : State) (e c : Nat) : (setCls s e c).red = s.red := rfl
@[simp] theorem setCls_vault (s : State) (e c : Nat) : (setCls s e c).vault = s.vault := rfl
@[simp] theorem setCls_saf (s : State) (e c : Nat) : (setCls s e c).saf = s.saf := rfl
@[simp] theorem setCls_dgn (s : State) (e c : Nat) : (setCls s e c).dgn = s.dgn := rfl
@[simp] theorem setCls_cfgs (s : State) (e c : Nat) : (setCls s e c).cfgs = s.cfgs := rfl
@[simp] theorem setCls_aon (s : State) (e c : Nat) : (setCls s e c).aon = s.aon := rfl
@[simp] theorem setCls_pwr (s : State) (e c : Nat) : (setCls s e c).pwr = s.pwr := rfl
@[simp] theorem setCls_stw (s : State) (e c : Nat) : (setCls s e c).stw = s.stw := rfl
@[simp] theorem setCls_free (s : State) (e c : Nat) : (setCls s e c).free = s.free := rfl
@[simp] theorem setCls_out (s : State) (e c : Nat) : (setCls s e c).out = s.out := rfl

-- What `setTrig` leaves.
@[simp] theorem setTrig_pending (s : State) (t : Nat) (x : Trig) : (setTrig s t x).pending = s.pending := rfl
@[simp] theorem setTrig_regs (s : State) (t : Nat) (x : Trig) : (setTrig s t x).regs = s.regs := rfl
@[simp] theorem setTrig_latch (s : State) (t : Nat) (x : Trig) : (setTrig s t x).latch = s.latch := rfl
@[simp] theorem setTrig_cfg (s : State) (t : Nat) (x : Trig) : (setTrig s t x).cfg = s.cfg := rfl
@[simp] theorem setTrig_prev (s : State) (t : Nat) (x : Trig) : (setTrig s t x).prev = s.prev := rfl
@[simp] theorem setTrig_tag (s : State) (t : Nat) (x : Trig) : (setTrig s t x).tag = s.tag := rfl
@[simp] theorem setTrig_dev (s : State) (t : Nat) (x : Trig) : (setTrig s t x).dev = s.dev := rfl
@[simp] theorem setTrig_msix (s : State) (t : Nat) (x : Trig) : (setTrig s t x).msix = s.msix := rfl
@[simp] theorem setTrig_pba (s : State) (t : Nat) (x : Trig) : (setTrig s t x).pba = s.pba := rfl
@[simp] theorem setTrig_moder (s : State) (t : Nat) (x : Trig) : (setTrig s t x).moder = s.moder := rfl
@[simp] theorem setTrig_nvm (s : State) (t : Nat) (x : Trig) : (setTrig s t x).nvm = s.nvm := rfl
@[simp] theorem setTrig_secver (s : State) (t : Nat) (x : Trig) : (setTrig s t x).secver = s.secver := rfl
@[simp] theorem setTrig_prt (s : State) (t : Nat) (x : Trig) : (setTrig s t x).prt = s.prt := rfl
@[simp] theorem setTrig_stb (s : State) (t : Nat) (x : Trig) : (setTrig s t x).stb = s.stb := rfl
@[simp] theorem setTrig_flt (s : State) (t : Nat) (x : Trig) : (setTrig s t x).flt = s.flt := rfl
@[simp] theorem setTrig_map (s : State) (t : Nat) (x : Trig) : (setTrig s t x).map = s.map := rfl
@[simp] theorem setTrig_com (s : State) (t : Nat) (x : Trig) : (setTrig s t x).com = s.com := rfl
@[simp] theorem setTrig_bgt (s : State) (t : Nat) (x : Trig) : (setTrig s t x).bgt = s.bgt := rfl
@[simp] theorem setTrig_egr (s : State) (t : Nat) (x : Trig) : (setTrig s t x).egr = s.egr := rfl
@[simp] theorem setTrig_jrn (s : State) (t : Nat) (x : Trig) : (setTrig s t x).jrn = s.jrn := rfl
@[simp] theorem setTrig_lni (s : State) (t : Nat) (x : Trig) : (setTrig s t x).lni = s.lni := rfl
@[simp] theorem setTrig_vot (s : State) (t : Nat) (x : Trig) : (setTrig s t x).vot = s.vot := rfl
@[simp] theorem setTrig_brg (s : State) (t : Nat) (x : Trig) : (setTrig s t x).brg = s.brg := rfl
@[simp] theorem setTrig_cdb (s : State) (t : Nat) (x : Trig) : (setTrig s t x).cdb = s.cdb := rfl
@[simp] theorem setTrig_red (s : State) (t : Nat) (x : Trig) : (setTrig s t x).red = s.red := rfl
@[simp] theorem setTrig_vault (s : State) (t : Nat) (x : Trig) : (setTrig s t x).vault = s.vault := rfl
@[simp] theorem setTrig_saf (s : State) (t : Nat) (x : Trig) : (setTrig s t x).saf = s.saf := rfl
@[simp] theorem setTrig_dgn (s : State) (t : Nat) (x : Trig) : (setTrig s t x).dgn = s.dgn := rfl
@[simp] theorem setTrig_cfgs (s : State) (t : Nat) (x : Trig) : (setTrig s t x).cfgs = s.cfgs := rfl
@[simp] theorem setTrig_aon (s : State) (t : Nat) (x : Trig) : (setTrig s t x).aon = s.aon := rfl
@[simp] theorem setTrig_pwr (s : State) (t : Nat) (x : Trig) : (setTrig s t x).pwr = s.pwr := rfl
@[simp] theorem setTrig_stw (s : State) (t : Nat) (x : Trig) : (setTrig s t x).stw = s.stw := rfl
@[simp] theorem setTrig_free (s : State) (t : Nat) (x : Trig) : (setTrig s t x).free = s.free := rfl
@[simp] theorem setTrig_out (s : State) (t : Nat) (x : Trig) : (setTrig s t x).out = s.out := rfl

-- What `setWin` leaves.
@[simp] theorem setWin_pending (s : State) (w : Nat) (x : Win) : (setWin s w x).pending = s.pending := rfl
@[simp] theorem setWin_regs (s : State) (w : Nat) (x : Win) : (setWin s w x).regs = s.regs := rfl
@[simp] theorem setWin_latch (s : State) (w : Nat) (x : Win) : (setWin s w x).latch = s.latch := rfl
@[simp] theorem setWin_cfg (s : State) (w : Nat) (x : Win) : (setWin s w x).cfg = s.cfg := rfl
@[simp] theorem setWin_prev (s : State) (w : Nat) (x : Win) : (setWin s w x).prev = s.prev := rfl
@[simp] theorem setWin_tag (s : State) (w : Nat) (x : Win) : (setWin s w x).tag = s.tag := rfl
@[simp] theorem setWin_dev (s : State) (w : Nat) (x : Win) : (setWin s w x).dev = s.dev := rfl
@[simp] theorem setWin_msix (s : State) (w : Nat) (x : Win) : (setWin s w x).msix = s.msix := rfl
@[simp] theorem setWin_pba (s : State) (w : Nat) (x : Win) : (setWin s w x).pba = s.pba := rfl
@[simp] theorem setWin_moder (s : State) (w : Nat) (x : Win) : (setWin s w x).moder = s.moder := rfl
@[simp] theorem setWin_nvm (s : State) (w : Nat) (x : Win) : (setWin s w x).nvm = s.nvm := rfl
@[simp] theorem setWin_secver (s : State) (w : Nat) (x : Win) : (setWin s w x).secver = s.secver := rfl
@[simp] theorem setWin_tim (s : State) (w : Nat) (x : Win) : (setWin s w x).tim = s.tim := rfl
@[simp] theorem setWin_prt (s : State) (w : Nat) (x : Win) : (setWin s w x).prt = s.prt := rfl
@[simp] theorem setWin_stb (s : State) (w : Nat) (x : Win) : (setWin s w x).stb = s.stb := rfl
@[simp] theorem setWin_flt (s : State) (w : Nat) (x : Win) : (setWin s w x).flt = s.flt := rfl
@[simp] theorem setWin_map (s : State) (w : Nat) (x : Win) : (setWin s w x).map = s.map := rfl
@[simp] theorem setWin_com (s : State) (w : Nat) (x : Win) : (setWin s w x).com = s.com := rfl
@[simp] theorem setWin_bgt (s : State) (w : Nat) (x : Win) : (setWin s w x).bgt = s.bgt := rfl
@[simp] theorem setWin_egr (s : State) (w : Nat) (x : Win) : (setWin s w x).egr = s.egr := rfl
@[simp] theorem setWin_jrn (s : State) (w : Nat) (x : Win) : (setWin s w x).jrn = s.jrn := rfl
@[simp] theorem setWin_lni (s : State) (w : Nat) (x : Win) : (setWin s w x).lni = s.lni := rfl
@[simp] theorem setWin_vot (s : State) (w : Nat) (x : Win) : (setWin s w x).vot = s.vot := rfl
@[simp] theorem setWin_cdb (s : State) (w : Nat) (x : Win) : (setWin s w x).cdb = s.cdb := rfl
@[simp] theorem setWin_red (s : State) (w : Nat) (x : Win) : (setWin s w x).red = s.red := rfl
@[simp] theorem setWin_vault (s : State) (w : Nat) (x : Win) : (setWin s w x).vault = s.vault := rfl
@[simp] theorem setWin_saf (s : State) (w : Nat) (x : Win) : (setWin s w x).saf = s.saf := rfl
@[simp] theorem setWin_dgn (s : State) (w : Nat) (x : Win) : (setWin s w x).dgn = s.dgn := rfl
@[simp] theorem setWin_cfgs (s : State) (w : Nat) (x : Win) : (setWin s w x).cfgs = s.cfgs := rfl
@[simp] theorem setWin_aon (s : State) (w : Nat) (x : Win) : (setWin s w x).aon = s.aon := rfl
@[simp] theorem setWin_pwr (s : State) (w : Nat) (x : Win) : (setWin s w x).pwr = s.pwr := rfl
@[simp] theorem setWin_stw (s : State) (w : Nat) (x : Win) : (setWin s w x).stw = s.stw := rfl
@[simp] theorem setWin_free (s : State) (w : Nat) (x : Win) : (setWin s w x).free = s.free := rfl
@[simp] theorem setWin_out (s : State) (w : Nat) (x : Win) : (setWin s w x).out = s.out := rfl

-- What `setRing` leaves.
@[simp] theorem setRing_pending (s : State) (kw : Nat) (x : RingSet) : (setRing s kw x).pending = s.pending := rfl
@[simp] theorem setRing_regs (s : State) (kw : Nat) (x : RingSet) : (setRing s kw x).regs = s.regs := rfl
@[simp] theorem setRing_latch (s : State) (kw : Nat) (x : RingSet) : (setRing s kw x).latch = s.latch := rfl
@[simp] theorem setRing_cfg (s : State) (kw : Nat) (x : RingSet) : (setRing s kw x).cfg = s.cfg := rfl
@[simp] theorem setRing_prev (s : State) (kw : Nat) (x : RingSet) : (setRing s kw x).prev = s.prev := rfl
@[simp] theorem setRing_tag (s : State) (kw : Nat) (x : RingSet) : (setRing s kw x).tag = s.tag := rfl
@[simp] theorem setRing_dev (s : State) (kw : Nat) (x : RingSet) : (setRing s kw x).dev = s.dev := rfl
@[simp] theorem setRing_msix (s : State) (kw : Nat) (x : RingSet) : (setRing s kw x).msix = s.msix := rfl
@[simp] theorem setRing_pba (s : State) (kw : Nat) (x : RingSet) : (setRing s kw x).pba = s.pba := rfl
@[simp] theorem setRing_moder (s : State) (kw : Nat) (x : RingSet) : (setRing s kw x).moder = s.moder := rfl
@[simp] theorem setRing_nvm (s : State) (kw : Nat) (x : RingSet) : (setRing s kw x).nvm = s.nvm := rfl
@[simp] theorem setRing_secver (s : State) (kw : Nat) (x : RingSet) : (setRing s kw x).secver = s.secver := rfl
@[simp] theorem setRing_tim (s : State) (kw : Nat) (x : RingSet) : (setRing s kw x).tim = s.tim := rfl
@[simp] theorem setRing_prt (s : State) (kw : Nat) (x : RingSet) : (setRing s kw x).prt = s.prt := rfl
@[simp] theorem setRing_stb (s : State) (kw : Nat) (x : RingSet) : (setRing s kw x).stb = s.stb := rfl
@[simp] theorem setRing_flt (s : State) (kw : Nat) (x : RingSet) : (setRing s kw x).flt = s.flt := rfl
@[simp] theorem setRing_map (s : State) (kw : Nat) (x : RingSet) : (setRing s kw x).map = s.map := rfl
@[simp] theorem setRing_com (s : State) (kw : Nat) (x : RingSet) : (setRing s kw x).com = s.com := rfl
@[simp] theorem setRing_bgt (s : State) (kw : Nat) (x : RingSet) : (setRing s kw x).bgt = s.bgt := rfl
@[simp] theorem setRing_egr (s : State) (kw : Nat) (x : RingSet) : (setRing s kw x).egr = s.egr := rfl
@[simp] theorem setRing_jrn (s : State) (kw : Nat) (x : RingSet) : (setRing s kw x).jrn = s.jrn := rfl
@[simp] theorem setRing_lni (s : State) (kw : Nat) (x : RingSet) : (setRing s kw x).lni = s.lni := rfl
@[simp] theorem setRing_vot (s : State) (kw : Nat) (x : RingSet) : (setRing s kw x).vot = s.vot := rfl
@[simp] theorem setRing_cdb (s : State) (kw : Nat) (x : RingSet) : (setRing s kw x).cdb = s.cdb := rfl
@[simp] theorem setRing_red (s : State) (kw : Nat) (x : RingSet) : (setRing s kw x).red = s.red := rfl
@[simp] theorem setRing_vault (s : State) (kw : Nat) (x : RingSet) : (setRing s kw x).vault = s.vault := rfl
@[simp] theorem setRing_saf (s : State) (kw : Nat) (x : RingSet) : (setRing s kw x).saf = s.saf := rfl
@[simp] theorem setRing_dgn (s : State) (kw : Nat) (x : RingSet) : (setRing s kw x).dgn = s.dgn := rfl
@[simp] theorem setRing_cfgs (s : State) (kw : Nat) (x : RingSet) : (setRing s kw x).cfgs = s.cfgs := rfl
@[simp] theorem setRing_aon (s : State) (kw : Nat) (x : RingSet) : (setRing s kw x).aon = s.aon := rfl
@[simp] theorem setRing_pwr (s : State) (kw : Nat) (x : RingSet) : (setRing s kw x).pwr = s.pwr := rfl
@[simp] theorem setRing_stw (s : State) (kw : Nat) (x : RingSet) : (setRing s kw x).stw = s.stw := rfl
@[simp] theorem setRing_free (s : State) (kw : Nat) (x : RingSet) : (setRing s kw x).free = s.free := rfl
@[simp] theorem setRing_out (s : State) (kw : Nat) (x : RingSet) : (setRing s kw x).out = s.out := rfl

-- What `setProg` leaves.
@[simp] theorem setProg_pending (s : State) (p : Nat) (x : Prog) : (setProg s p x).pending = s.pending := rfl
@[simp] theorem setProg_regs (s : State) (p : Nat) (x : Prog) : (setProg s p x).regs = s.regs := rfl
@[simp] theorem setProg_latch (s : State) (p : Nat) (x : Prog) : (setProg s p x).latch = s.latch := rfl
@[simp] theorem setProg_cfg (s : State) (p : Nat) (x : Prog) : (setProg s p x).cfg = s.cfg := rfl
@[simp] theorem setProg_prev (s : State) (p : Nat) (x : Prog) : (setProg s p x).prev = s.prev := rfl
@[simp] theorem setProg_tag (s : State) (p : Nat) (x : Prog) : (setProg s p x).tag = s.tag := rfl
@[simp] theorem setProg_dev (s : State) (p : Nat) (x : Prog) : (setProg s p x).dev = s.dev := rfl
@[simp] theorem setProg_msix (s : State) (p : Nat) (x : Prog) : (setProg s p x).msix = s.msix := rfl
@[simp] theorem setProg_pba (s : State) (p : Nat) (x : Prog) : (setProg s p x).pba = s.pba := rfl
@[simp] theorem setProg_moder (s : State) (p : Nat) (x : Prog) : (setProg s p x).moder = s.moder := rfl
@[simp] theorem setProg_nvm (s : State) (p : Nat) (x : Prog) : (setProg s p x).nvm = s.nvm := rfl
@[simp] theorem setProg_secver (s : State) (p : Nat) (x : Prog) : (setProg s p x).secver = s.secver := rfl
@[simp] theorem setProg_tim (s : State) (p : Nat) (x : Prog) : (setProg s p x).tim = s.tim := rfl
@[simp] theorem setProg_prt (s : State) (p : Nat) (x : Prog) : (setProg s p x).prt = s.prt := rfl
@[simp] theorem setProg_stb (s : State) (p : Nat) (x : Prog) : (setProg s p x).stb = s.stb := rfl
@[simp] theorem setProg_flt (s : State) (p : Nat) (x : Prog) : (setProg s p x).flt = s.flt := rfl
@[simp] theorem setProg_com (s : State) (p : Nat) (x : Prog) : (setProg s p x).com = s.com := rfl
@[simp] theorem setProg_bgt (s : State) (p : Nat) (x : Prog) : (setProg s p x).bgt = s.bgt := rfl
@[simp] theorem setProg_egr (s : State) (p : Nat) (x : Prog) : (setProg s p x).egr = s.egr := rfl
@[simp] theorem setProg_jrn (s : State) (p : Nat) (x : Prog) : (setProg s p x).jrn = s.jrn := rfl
@[simp] theorem setProg_lni (s : State) (p : Nat) (x : Prog) : (setProg s p x).lni = s.lni := rfl
@[simp] theorem setProg_vot (s : State) (p : Nat) (x : Prog) : (setProg s p x).vot = s.vot := rfl
@[simp] theorem setProg_brg (s : State) (p : Nat) (x : Prog) : (setProg s p x).brg = s.brg := rfl
@[simp] theorem setProg_cdb (s : State) (p : Nat) (x : Prog) : (setProg s p x).cdb = s.cdb := rfl
@[simp] theorem setProg_red (s : State) (p : Nat) (x : Prog) : (setProg s p x).red = s.red := rfl
@[simp] theorem setProg_vault (s : State) (p : Nat) (x : Prog) : (setProg s p x).vault = s.vault := rfl
@[simp] theorem setProg_saf (s : State) (p : Nat) (x : Prog) : (setProg s p x).saf = s.saf := rfl
@[simp] theorem setProg_dgn (s : State) (p : Nat) (x : Prog) : (setProg s p x).dgn = s.dgn := rfl
@[simp] theorem setProg_cfgs (s : State) (p : Nat) (x : Prog) : (setProg s p x).cfgs = s.cfgs := rfl
@[simp] theorem setProg_aon (s : State) (p : Nat) (x : Prog) : (setProg s p x).aon = s.aon := rfl
@[simp] theorem setProg_pwr (s : State) (p : Nat) (x : Prog) : (setProg s p x).pwr = s.pwr := rfl
@[simp] theorem setProg_stw (s : State) (p : Nat) (x : Prog) : (setProg s p x).stw = s.stw := rfl
@[simp] theorem setProg_free (s : State) (p : Nat) (x : Prog) : (setProg s p x).free = s.free := rfl
@[simp] theorem setProg_out (s : State) (p : Nat) (x : Prog) : (setProg s p x).out = s.out := rfl

-- What `setEngine` leaves.
@[simp] theorem setEngine_pending (s : State) (e : Nat) (x : Engine) : (setEngine s e x).pending = s.pending := rfl
@[simp] theorem setEngine_regs (s : State) (e : Nat) (x : Engine) : (setEngine s e x).regs = s.regs := rfl
@[simp] theorem setEngine_latch (s : State) (e : Nat) (x : Engine) : (setEngine s e x).latch = s.latch := rfl
@[simp] theorem setEngine_cfg (s : State) (e : Nat) (x : Engine) : (setEngine s e x).cfg = s.cfg := rfl
@[simp] theorem setEngine_prev (s : State) (e : Nat) (x : Engine) : (setEngine s e x).prev = s.prev := rfl
@[simp] theorem setEngine_tag (s : State) (e : Nat) (x : Engine) : (setEngine s e x).tag = s.tag := rfl
@[simp] theorem setEngine_dev (s : State) (e : Nat) (x : Engine) : (setEngine s e x).dev = s.dev := rfl
@[simp] theorem setEngine_msix (s : State) (e : Nat) (x : Engine) : (setEngine s e x).msix = s.msix := rfl
@[simp] theorem setEngine_pba (s : State) (e : Nat) (x : Engine) : (setEngine s e x).pba = s.pba := rfl
@[simp] theorem setEngine_moder (s : State) (e : Nat) (x : Engine) : (setEngine s e x).moder = s.moder := rfl
@[simp] theorem setEngine_nvm (s : State) (e : Nat) (x : Engine) : (setEngine s e x).nvm = s.nvm := rfl
@[simp] theorem setEngine_secver (s : State) (e : Nat) (x : Engine) : (setEngine s e x).secver = s.secver := rfl
@[simp] theorem setEngine_tim (s : State) (e : Nat) (x : Engine) : (setEngine s e x).tim = s.tim := rfl
@[simp] theorem setEngine_prt (s : State) (e : Nat) (x : Engine) : (setEngine s e x).prt = s.prt := rfl
@[simp] theorem setEngine_stb (s : State) (e : Nat) (x : Engine) : (setEngine s e x).stb = s.stb := rfl
@[simp] theorem setEngine_flt (s : State) (e : Nat) (x : Engine) : (setEngine s e x).flt = s.flt := rfl
@[simp] theorem setEngine_com (s : State) (e : Nat) (x : Engine) : (setEngine s e x).com = s.com := rfl
@[simp] theorem setEngine_bgt (s : State) (e : Nat) (x : Engine) : (setEngine s e x).bgt = s.bgt := rfl
@[simp] theorem setEngine_egr (s : State) (e : Nat) (x : Engine) : (setEngine s e x).egr = s.egr := rfl
@[simp] theorem setEngine_jrn (s : State) (e : Nat) (x : Engine) : (setEngine s e x).jrn = s.jrn := rfl
@[simp] theorem setEngine_lni (s : State) (e : Nat) (x : Engine) : (setEngine s e x).lni = s.lni := rfl
@[simp] theorem setEngine_vot (s : State) (e : Nat) (x : Engine) : (setEngine s e x).vot = s.vot := rfl
@[simp] theorem setEngine_brg (s : State) (e : Nat) (x : Engine) : (setEngine s e x).brg = s.brg := rfl
@[simp] theorem setEngine_cdb (s : State) (e : Nat) (x : Engine) : (setEngine s e x).cdb = s.cdb := rfl
@[simp] theorem setEngine_red (s : State) (e : Nat) (x : Engine) : (setEngine s e x).red = s.red := rfl
@[simp] theorem setEngine_vault (s : State) (e : Nat) (x : Engine) : (setEngine s e x).vault = s.vault := rfl
@[simp] theorem setEngine_saf (s : State) (e : Nat) (x : Engine) : (setEngine s e x).saf = s.saf := rfl
@[simp] theorem setEngine_dgn (s : State) (e : Nat) (x : Engine) : (setEngine s e x).dgn = s.dgn := rfl
@[simp] theorem setEngine_cfgs (s : State) (e : Nat) (x : Engine) : (setEngine s e x).cfgs = s.cfgs := rfl
@[simp] theorem setEngine_aon (s : State) (e : Nat) (x : Engine) : (setEngine s e x).aon = s.aon := rfl
@[simp] theorem setEngine_pwr (s : State) (e : Nat) (x : Engine) : (setEngine s e x).pwr = s.pwr := rfl
@[simp] theorem setEngine_stw (s : State) (e : Nat) (x : Engine) : (setEngine s e x).stw = s.stw := rfl
@[simp] theorem setEngine_free (s : State) (e : Nat) (x : Engine) : (setEngine s e x).free = s.free := rfl
@[simp] theorem setEngine_out (s : State) (e : Nat) (x : Engine) : (setEngine s e x).out = s.out := rfl

-- What `setCdb` leaves.
@[simp] theorem setCdb_pending (s : State) (c : Cdb) : (setCdb s c).pending = s.pending := rfl
@[simp] theorem setCdb_regs (s : State) (c : Cdb) : (setCdb s c).regs = s.regs := rfl
@[simp] theorem setCdb_latch (s : State) (c : Cdb) : (setCdb s c).latch = s.latch := rfl
@[simp] theorem setCdb_cfg (s : State) (c : Cdb) : (setCdb s c).cfg = s.cfg := rfl
@[simp] theorem setCdb_prev (s : State) (c : Cdb) : (setCdb s c).prev = s.prev := rfl
@[simp] theorem setCdb_tag (s : State) (c : Cdb) : (setCdb s c).tag = s.tag := rfl
@[simp] theorem setCdb_dev (s : State) (c : Cdb) : (setCdb s c).dev = s.dev := rfl
@[simp] theorem setCdb_msix (s : State) (c : Cdb) : (setCdb s c).msix = s.msix := rfl
@[simp] theorem setCdb_pba (s : State) (c : Cdb) : (setCdb s c).pba = s.pba := rfl
@[simp] theorem setCdb_moder (s : State) (c : Cdb) : (setCdb s c).moder = s.moder := rfl
@[simp] theorem setCdb_nvm (s : State) (c : Cdb) : (setCdb s c).nvm = s.nvm := rfl
@[simp] theorem setCdb_secver (s : State) (c : Cdb) : (setCdb s c).secver = s.secver := rfl
@[simp] theorem setCdb_tim (s : State) (c : Cdb) : (setCdb s c).tim = s.tim := rfl
@[simp] theorem setCdb_prt (s : State) (c : Cdb) : (setCdb s c).prt = s.prt := rfl
@[simp] theorem setCdb_stb (s : State) (c : Cdb) : (setCdb s c).stb = s.stb := rfl
@[simp] theorem setCdb_flt (s : State) (c : Cdb) : (setCdb s c).flt = s.flt := rfl
@[simp] theorem setCdb_map (s : State) (c : Cdb) : (setCdb s c).map = s.map := rfl
@[simp] theorem setCdb_com (s : State) (c : Cdb) : (setCdb s c).com = s.com := rfl
@[simp] theorem setCdb_bgt (s : State) (c : Cdb) : (setCdb s c).bgt = s.bgt := rfl
@[simp] theorem setCdb_egr (s : State) (c : Cdb) : (setCdb s c).egr = s.egr := rfl
@[simp] theorem setCdb_jrn (s : State) (c : Cdb) : (setCdb s c).jrn = s.jrn := rfl
@[simp] theorem setCdb_lni (s : State) (c : Cdb) : (setCdb s c).lni = s.lni := rfl
@[simp] theorem setCdb_vot (s : State) (c : Cdb) : (setCdb s c).vot = s.vot := rfl
@[simp] theorem setCdb_brg (s : State) (c : Cdb) : (setCdb s c).brg = s.brg := rfl
@[simp] theorem setCdb_red (s : State) (c : Cdb) : (setCdb s c).red = s.red := rfl
@[simp] theorem setCdb_vault (s : State) (c : Cdb) : (setCdb s c).vault = s.vault := rfl
@[simp] theorem setCdb_saf (s : State) (c : Cdb) : (setCdb s c).saf = s.saf := rfl
@[simp] theorem setCdb_dgn (s : State) (c : Cdb) : (setCdb s c).dgn = s.dgn := rfl
@[simp] theorem setCdb_cfgs (s : State) (c : Cdb) : (setCdb s c).cfgs = s.cfgs := rfl
@[simp] theorem setCdb_aon (s : State) (c : Cdb) : (setCdb s c).aon = s.aon := rfl
@[simp] theorem setCdb_pwr (s : State) (c : Cdb) : (setCdb s c).pwr = s.pwr := rfl
@[simp] theorem setCdb_stw (s : State) (c : Cdb) : (setCdb s c).stw = s.stw := rfl
@[simp] theorem setCdb_free (s : State) (c : Cdb) : (setCdb s c).free = s.free := rfl
@[simp] theorem setCdb_out (s : State) (c : Cdb) : (setCdb s c).out = s.out := rfl

-- What `setSpare` leaves.
@[simp] theorem setSpare_pending (s : State) (k : Nat) (x : Spare) : (setSpare s k x).pending = s.pending := rfl
@[simp] theorem setSpare_regs (s : State) (k : Nat) (x : Spare) : (setSpare s k x).regs = s.regs := rfl
@[simp] theorem setSpare_latch (s : State) (k : Nat) (x : Spare) : (setSpare s k x).latch = s.latch := rfl
@[simp] theorem setSpare_cfg (s : State) (k : Nat) (x : Spare) : (setSpare s k x).cfg = s.cfg := rfl
@[simp] theorem setSpare_prev (s : State) (k : Nat) (x : Spare) : (setSpare s k x).prev = s.prev := rfl
@[simp] theorem setSpare_tag (s : State) (k : Nat) (x : Spare) : (setSpare s k x).tag = s.tag := rfl
@[simp] theorem setSpare_dev (s : State) (k : Nat) (x : Spare) : (setSpare s k x).dev = s.dev := rfl
@[simp] theorem setSpare_msix (s : State) (k : Nat) (x : Spare) : (setSpare s k x).msix = s.msix := rfl
@[simp] theorem setSpare_pba (s : State) (k : Nat) (x : Spare) : (setSpare s k x).pba = s.pba := rfl
@[simp] theorem setSpare_moder (s : State) (k : Nat) (x : Spare) : (setSpare s k x).moder = s.moder := rfl
@[simp] theorem setSpare_nvm (s : State) (k : Nat) (x : Spare) : (setSpare s k x).nvm = s.nvm := rfl
@[simp] theorem setSpare_secver (s : State) (k : Nat) (x : Spare) : (setSpare s k x).secver = s.secver := rfl
@[simp] theorem setSpare_tim (s : State) (k : Nat) (x : Spare) : (setSpare s k x).tim = s.tim := rfl
@[simp] theorem setSpare_prt (s : State) (k : Nat) (x : Spare) : (setSpare s k x).prt = s.prt := rfl
@[simp] theorem setSpare_stb (s : State) (k : Nat) (x : Spare) : (setSpare s k x).stb = s.stb := rfl
@[simp] theorem setSpare_flt (s : State) (k : Nat) (x : Spare) : (setSpare s k x).flt = s.flt := rfl
@[simp] theorem setSpare_map (s : State) (k : Nat) (x : Spare) : (setSpare s k x).map = s.map := rfl
@[simp] theorem setSpare_com (s : State) (k : Nat) (x : Spare) : (setSpare s k x).com = s.com := rfl
@[simp] theorem setSpare_bgt (s : State) (k : Nat) (x : Spare) : (setSpare s k x).bgt = s.bgt := rfl
@[simp] theorem setSpare_egr (s : State) (k : Nat) (x : Spare) : (setSpare s k x).egr = s.egr := rfl
@[simp] theorem setSpare_jrn (s : State) (k : Nat) (x : Spare) : (setSpare s k x).jrn = s.jrn := rfl
@[simp] theorem setSpare_lni (s : State) (k : Nat) (x : Spare) : (setSpare s k x).lni = s.lni := rfl
@[simp] theorem setSpare_vot (s : State) (k : Nat) (x : Spare) : (setSpare s k x).vot = s.vot := rfl
@[simp] theorem setSpare_brg (s : State) (k : Nat) (x : Spare) : (setSpare s k x).brg = s.brg := rfl
@[simp] theorem setSpare_red (s : State) (k : Nat) (x : Spare) : (setSpare s k x).red = s.red := rfl
@[simp] theorem setSpare_vault (s : State) (k : Nat) (x : Spare) : (setSpare s k x).vault = s.vault := rfl
@[simp] theorem setSpare_saf (s : State) (k : Nat) (x : Spare) : (setSpare s k x).saf = s.saf := rfl
@[simp] theorem setSpare_dgn (s : State) (k : Nat) (x : Spare) : (setSpare s k x).dgn = s.dgn := rfl
@[simp] theorem setSpare_cfgs (s : State) (k : Nat) (x : Spare) : (setSpare s k x).cfgs = s.cfgs := rfl
@[simp] theorem setSpare_aon (s : State) (k : Nat) (x : Spare) : (setSpare s k x).aon = s.aon := rfl
@[simp] theorem setSpare_pwr (s : State) (k : Nat) (x : Spare) : (setSpare s k x).pwr = s.pwr := rfl
@[simp] theorem setSpare_stw (s : State) (k : Nat) (x : Spare) : (setSpare s k x).stw = s.stw := rfl
@[simp] theorem setSpare_free (s : State) (k : Nat) (x : Spare) : (setSpare s k x).free = s.free := rfl
@[simp] theorem setSpare_out (s : State) (k : Nat) (x : Spare) : (setSpare s k x).out = s.out := rfl

-- What `setPort` leaves.
@[simp] theorem setPort_pending (s : State) (n : Nat) (p : Port) : (setPort s n p).pending = s.pending := rfl
@[simp] theorem setPort_regs (s : State) (n : Nat) (p : Port) : (setPort s n p).regs = s.regs := rfl
@[simp] theorem setPort_latch (s : State) (n : Nat) (p : Port) : (setPort s n p).latch = s.latch := rfl
@[simp] theorem setPort_cfg (s : State) (n : Nat) (p : Port) : (setPort s n p).cfg = s.cfg := rfl
@[simp] theorem setPort_prev (s : State) (n : Nat) (p : Port) : (setPort s n p).prev = s.prev := rfl
@[simp] theorem setPort_tag (s : State) (n : Nat) (p : Port) : (setPort s n p).tag = s.tag := rfl
@[simp] theorem setPort_dev (s : State) (n : Nat) (p : Port) : (setPort s n p).dev = s.dev := rfl
@[simp] theorem setPort_msix (s : State) (n : Nat) (p : Port) : (setPort s n p).msix = s.msix := rfl
@[simp] theorem setPort_pba (s : State) (n : Nat) (p : Port) : (setPort s n p).pba = s.pba := rfl
@[simp] theorem setPort_moder (s : State) (n : Nat) (p : Port) : (setPort s n p).moder = s.moder := rfl
@[simp] theorem setPort_nvm (s : State) (n : Nat) (p : Port) : (setPort s n p).nvm = s.nvm := rfl
@[simp] theorem setPort_secver (s : State) (n : Nat) (p : Port) : (setPort s n p).secver = s.secver := rfl
@[simp] theorem setPort_tim (s : State) (n : Nat) (p : Port) : (setPort s n p).tim = s.tim := rfl
@[simp] theorem setPort_stb (s : State) (n : Nat) (p : Port) : (setPort s n p).stb = s.stb := rfl
@[simp] theorem setPort_flt (s : State) (n : Nat) (p : Port) : (setPort s n p).flt = s.flt := rfl
@[simp] theorem setPort_map (s : State) (n : Nat) (p : Port) : (setPort s n p).map = s.map := rfl
@[simp] theorem setPort_com (s : State) (n : Nat) (p : Port) : (setPort s n p).com = s.com := rfl
@[simp] theorem setPort_bgt (s : State) (n : Nat) (p : Port) : (setPort s n p).bgt = s.bgt := rfl
@[simp] theorem setPort_egr (s : State) (n : Nat) (p : Port) : (setPort s n p).egr = s.egr := rfl
@[simp] theorem setPort_jrn (s : State) (n : Nat) (p : Port) : (setPort s n p).jrn = s.jrn := rfl
@[simp] theorem setPort_lni (s : State) (n : Nat) (p : Port) : (setPort s n p).lni = s.lni := rfl
@[simp] theorem setPort_vot (s : State) (n : Nat) (p : Port) : (setPort s n p).vot = s.vot := rfl
@[simp] theorem setPort_brg (s : State) (n : Nat) (p : Port) : (setPort s n p).brg = s.brg := rfl
@[simp] theorem setPort_cdb (s : State) (n : Nat) (p : Port) : (setPort s n p).cdb = s.cdb := rfl
@[simp] theorem setPort_red (s : State) (n : Nat) (p : Port) : (setPort s n p).red = s.red := rfl
@[simp] theorem setPort_vault (s : State) (n : Nat) (p : Port) : (setPort s n p).vault = s.vault := rfl
@[simp] theorem setPort_saf (s : State) (n : Nat) (p : Port) : (setPort s n p).saf = s.saf := rfl
@[simp] theorem setPort_dgn (s : State) (n : Nat) (p : Port) : (setPort s n p).dgn = s.dgn := rfl
@[simp] theorem setPort_cfgs (s : State) (n : Nat) (p : Port) : (setPort s n p).cfgs = s.cfgs := rfl
@[simp] theorem setPort_aon (s : State) (n : Nat) (p : Port) : (setPort s n p).aon = s.aon := rfl
@[simp] theorem setPort_pwr (s : State) (n : Nat) (p : Port) : (setPort s n p).pwr = s.pwr := rfl
@[simp] theorem setPort_stw (s : State) (n : Nat) (p : Port) : (setPort s n p).stw = s.stw := rfl
@[simp] theorem setPort_free (s : State) (n : Nat) (p : Port) : (setPort s n p).free = s.free := rfl
@[simp] theorem setPort_out (s : State) (n : Nat) (p : Port) : (setPort s n p).out = s.out := rfl

-- What `setSem` leaves.
@[simp] theorem setSem_pending (s : State) (n : Nat) (x : Sem) : (setSem s n x).pending = s.pending := rfl
@[simp] theorem setSem_regs (s : State) (n : Nat) (x : Sem) : (setSem s n x).regs = s.regs := rfl
@[simp] theorem setSem_latch (s : State) (n : Nat) (x : Sem) : (setSem s n x).latch = s.latch := rfl
@[simp] theorem setSem_cfg (s : State) (n : Nat) (x : Sem) : (setSem s n x).cfg = s.cfg := rfl
@[simp] theorem setSem_prev (s : State) (n : Nat) (x : Sem) : (setSem s n x).prev = s.prev := rfl
@[simp] theorem setSem_tag (s : State) (n : Nat) (x : Sem) : (setSem s n x).tag = s.tag := rfl
@[simp] theorem setSem_dev (s : State) (n : Nat) (x : Sem) : (setSem s n x).dev = s.dev := rfl
@[simp] theorem setSem_msix (s : State) (n : Nat) (x : Sem) : (setSem s n x).msix = s.msix := rfl
@[simp] theorem setSem_pba (s : State) (n : Nat) (x : Sem) : (setSem s n x).pba = s.pba := rfl
@[simp] theorem setSem_moder (s : State) (n : Nat) (x : Sem) : (setSem s n x).moder = s.moder := rfl
@[simp] theorem setSem_nvm (s : State) (n : Nat) (x : Sem) : (setSem s n x).nvm = s.nvm := rfl
@[simp] theorem setSem_secver (s : State) (n : Nat) (x : Sem) : (setSem s n x).secver = s.secver := rfl
@[simp] theorem setSem_tim (s : State) (n : Nat) (x : Sem) : (setSem s n x).tim = s.tim := rfl
@[simp] theorem setSem_prt (s : State) (n : Nat) (x : Sem) : (setSem s n x).prt = s.prt := rfl
@[simp] theorem setSem_stb (s : State) (n : Nat) (x : Sem) : (setSem s n x).stb = s.stb := rfl
@[simp] theorem setSem_flt (s : State) (n : Nat) (x : Sem) : (setSem s n x).flt = s.flt := rfl
@[simp] theorem setSem_map (s : State) (n : Nat) (x : Sem) : (setSem s n x).map = s.map := rfl
@[simp] theorem setSem_com (s : State) (n : Nat) (x : Sem) : (setSem s n x).com = s.com := rfl
@[simp] theorem setSem_bgt (s : State) (n : Nat) (x : Sem) : (setSem s n x).bgt = s.bgt := rfl
@[simp] theorem setSem_egr (s : State) (n : Nat) (x : Sem) : (setSem s n x).egr = s.egr := rfl
@[simp] theorem setSem_jrn (s : State) (n : Nat) (x : Sem) : (setSem s n x).jrn = s.jrn := rfl
@[simp] theorem setSem_lni (s : State) (n : Nat) (x : Sem) : (setSem s n x).lni = s.lni := rfl
@[simp] theorem setSem_vot (s : State) (n : Nat) (x : Sem) : (setSem s n x).vot = s.vot := rfl
@[simp] theorem setSem_cdb (s : State) (n : Nat) (x : Sem) : (setSem s n x).cdb = s.cdb := rfl
@[simp] theorem setSem_red (s : State) (n : Nat) (x : Sem) : (setSem s n x).red = s.red := rfl
@[simp] theorem setSem_vault (s : State) (n : Nat) (x : Sem) : (setSem s n x).vault = s.vault := rfl
@[simp] theorem setSem_saf (s : State) (n : Nat) (x : Sem) : (setSem s n x).saf = s.saf := rfl
@[simp] theorem setSem_dgn (s : State) (n : Nat) (x : Sem) : (setSem s n x).dgn = s.dgn := rfl
@[simp] theorem setSem_cfgs (s : State) (n : Nat) (x : Sem) : (setSem s n x).cfgs = s.cfgs := rfl
@[simp] theorem setSem_aon (s : State) (n : Nat) (x : Sem) : (setSem s n x).aon = s.aon := rfl
@[simp] theorem setSem_pwr (s : State) (n : Nat) (x : Sem) : (setSem s n x).pwr = s.pwr := rfl
@[simp] theorem setSem_stw (s : State) (n : Nat) (x : Sem) : (setSem s n x).stw = s.stw := rfl
@[simp] theorem setSem_free (s : State) (n : Nat) (x : Sem) : (setSem s n x).free = s.free := rfl
@[simp] theorem setSem_out (s : State) (n : Nat) (x : Sem) : (setSem s n x).out = s.out := rfl

-- What `setCtx` leaves.
@[simp] theorem setCtx_pending (s : State) (e : Nat) (first : Bool) (r : Option Run) : (setCtx s e first r).pending = s.pending := rfl
@[simp] theorem setCtx_regs (s : State) (e : Nat) (first : Bool) (r : Option Run) : (setCtx s e first r).regs = s.regs := rfl
@[simp] theorem setCtx_latch (s : State) (e : Nat) (first : Bool) (r : Option Run) : (setCtx s e first r).latch = s.latch := rfl
@[simp] theorem setCtx_cfg (s : State) (e : Nat) (first : Bool) (r : Option Run) : (setCtx s e first r).cfg = s.cfg := rfl
@[simp] theorem setCtx_prev (s : State) (e : Nat) (first : Bool) (r : Option Run) : (setCtx s e first r).prev = s.prev := rfl
@[simp] theorem setCtx_tag (s : State) (e : Nat) (first : Bool) (r : Option Run) : (setCtx s e first r).tag = s.tag := rfl
@[simp] theorem setCtx_dev (s : State) (e : Nat) (first : Bool) (r : Option Run) : (setCtx s e first r).dev = s.dev := rfl
@[simp] theorem setCtx_msix (s : State) (e : Nat) (first : Bool) (r : Option Run) : (setCtx s e first r).msix = s.msix := rfl
@[simp] theorem setCtx_pba (s : State) (e : Nat) (first : Bool) (r : Option Run) : (setCtx s e first r).pba = s.pba := rfl
@[simp] theorem setCtx_moder (s : State) (e : Nat) (first : Bool) (r : Option Run) : (setCtx s e first r).moder = s.moder := rfl
@[simp] theorem setCtx_nvm (s : State) (e : Nat) (first : Bool) (r : Option Run) : (setCtx s e first r).nvm = s.nvm := rfl
@[simp] theorem setCtx_secver (s : State) (e : Nat) (first : Bool) (r : Option Run) : (setCtx s e first r).secver = s.secver := rfl
@[simp] theorem setCtx_tim (s : State) (e : Nat) (first : Bool) (r : Option Run) : (setCtx s e first r).tim = s.tim := rfl
@[simp] theorem setCtx_prt (s : State) (e : Nat) (first : Bool) (r : Option Run) : (setCtx s e first r).prt = s.prt := rfl
@[simp] theorem setCtx_stb (s : State) (e : Nat) (first : Bool) (r : Option Run) : (setCtx s e first r).stb = s.stb := rfl
@[simp] theorem setCtx_flt (s : State) (e : Nat) (first : Bool) (r : Option Run) : (setCtx s e first r).flt = s.flt := rfl
@[simp] theorem setCtx_com (s : State) (e : Nat) (first : Bool) (r : Option Run) : (setCtx s e first r).com = s.com := rfl
@[simp] theorem setCtx_bgt (s : State) (e : Nat) (first : Bool) (r : Option Run) : (setCtx s e first r).bgt = s.bgt := rfl
@[simp] theorem setCtx_egr (s : State) (e : Nat) (first : Bool) (r : Option Run) : (setCtx s e first r).egr = s.egr := rfl
@[simp] theorem setCtx_jrn (s : State) (e : Nat) (first : Bool) (r : Option Run) : (setCtx s e first r).jrn = s.jrn := rfl
@[simp] theorem setCtx_lni (s : State) (e : Nat) (first : Bool) (r : Option Run) : (setCtx s e first r).lni = s.lni := rfl
@[simp] theorem setCtx_vot (s : State) (e : Nat) (first : Bool) (r : Option Run) : (setCtx s e first r).vot = s.vot := rfl
@[simp] theorem setCtx_brg (s : State) (e : Nat) (first : Bool) (r : Option Run) : (setCtx s e first r).brg = s.brg := rfl
@[simp] theorem setCtx_cdb (s : State) (e : Nat) (first : Bool) (r : Option Run) : (setCtx s e first r).cdb = s.cdb := rfl
@[simp] theorem setCtx_red (s : State) (e : Nat) (first : Bool) (r : Option Run) : (setCtx s e first r).red = s.red := rfl
@[simp] theorem setCtx_vault (s : State) (e : Nat) (first : Bool) (r : Option Run) : (setCtx s e first r).vault = s.vault := rfl
@[simp] theorem setCtx_saf (s : State) (e : Nat) (first : Bool) (r : Option Run) : (setCtx s e first r).saf = s.saf := rfl
@[simp] theorem setCtx_dgn (s : State) (e : Nat) (first : Bool) (r : Option Run) : (setCtx s e first r).dgn = s.dgn := rfl
@[simp] theorem setCtx_cfgs (s : State) (e : Nat) (first : Bool) (r : Option Run) : (setCtx s e first r).cfgs = s.cfgs := rfl
@[simp] theorem setCtx_aon (s : State) (e : Nat) (first : Bool) (r : Option Run) : (setCtx s e first r).aon = s.aon := rfl
@[simp] theorem setCtx_pwr (s : State) (e : Nat) (first : Bool) (r : Option Run) : (setCtx s e first r).pwr = s.pwr := rfl
@[simp] theorem setCtx_stw (s : State) (e : Nat) (first : Bool) (r : Option Run) : (setCtx s e first r).stw = s.stw := rfl
@[simp] theorem setCtx_free (s : State) (e : Nat) (first : Bool) (r : Option Run) : (setCtx s e first r).free = s.free := rfl
@[simp] theorem setCtx_out (s : State) (e : Nat) (first : Bool) (r : Option Run) : (setCtx s e first r).out = s.out := rfl

-- What `setEg` leaves.
@[simp] theorem setEg_pending (s : State) (q : Nat) (p : EgPort) : (setEg s q p).pending = s.pending := rfl
@[simp] theorem setEg_regs (s : State) (q : Nat) (p : EgPort) : (setEg s q p).regs = s.regs := rfl
@[simp] theorem setEg_latch (s : State) (q : Nat) (p : EgPort) : (setEg s q p).latch = s.latch := rfl
@[simp] theorem setEg_cfg (s : State) (q : Nat) (p : EgPort) : (setEg s q p).cfg = s.cfg := rfl
@[simp] theorem setEg_prev (s : State) (q : Nat) (p : EgPort) : (setEg s q p).prev = s.prev := rfl
@[simp] theorem setEg_tag (s : State) (q : Nat) (p : EgPort) : (setEg s q p).tag = s.tag := rfl
@[simp] theorem setEg_dev (s : State) (q : Nat) (p : EgPort) : (setEg s q p).dev = s.dev := rfl
@[simp] theorem setEg_msix (s : State) (q : Nat) (p : EgPort) : (setEg s q p).msix = s.msix := rfl
@[simp] theorem setEg_pba (s : State) (q : Nat) (p : EgPort) : (setEg s q p).pba = s.pba := rfl
@[simp] theorem setEg_moder (s : State) (q : Nat) (p : EgPort) : (setEg s q p).moder = s.moder := rfl
@[simp] theorem setEg_nvm (s : State) (q : Nat) (p : EgPort) : (setEg s q p).nvm = s.nvm := rfl
@[simp] theorem setEg_secver (s : State) (q : Nat) (p : EgPort) : (setEg s q p).secver = s.secver := rfl
@[simp] theorem setEg_tim (s : State) (q : Nat) (p : EgPort) : (setEg s q p).tim = s.tim := rfl
@[simp] theorem setEg_prt (s : State) (q : Nat) (p : EgPort) : (setEg s q p).prt = s.prt := rfl
@[simp] theorem setEg_stb (s : State) (q : Nat) (p : EgPort) : (setEg s q p).stb = s.stb := rfl
@[simp] theorem setEg_flt (s : State) (q : Nat) (p : EgPort) : (setEg s q p).flt = s.flt := rfl
@[simp] theorem setEg_map (s : State) (q : Nat) (p : EgPort) : (setEg s q p).map = s.map := rfl
@[simp] theorem setEg_com (s : State) (q : Nat) (p : EgPort) : (setEg s q p).com = s.com := rfl
@[simp] theorem setEg_bgt (s : State) (q : Nat) (p : EgPort) : (setEg s q p).bgt = s.bgt := rfl
@[simp] theorem setEg_jrn (s : State) (q : Nat) (p : EgPort) : (setEg s q p).jrn = s.jrn := rfl
@[simp] theorem setEg_lni (s : State) (q : Nat) (p : EgPort) : (setEg s q p).lni = s.lni := rfl
@[simp] theorem setEg_vot (s : State) (q : Nat) (p : EgPort) : (setEg s q p).vot = s.vot := rfl
@[simp] theorem setEg_brg (s : State) (q : Nat) (p : EgPort) : (setEg s q p).brg = s.brg := rfl
@[simp] theorem setEg_cdb (s : State) (q : Nat) (p : EgPort) : (setEg s q p).cdb = s.cdb := rfl
@[simp] theorem setEg_red (s : State) (q : Nat) (p : EgPort) : (setEg s q p).red = s.red := rfl
@[simp] theorem setEg_vault (s : State) (q : Nat) (p : EgPort) : (setEg s q p).vault = s.vault := rfl
@[simp] theorem setEg_saf (s : State) (q : Nat) (p : EgPort) : (setEg s q p).saf = s.saf := rfl
@[simp] theorem setEg_dgn (s : State) (q : Nat) (p : EgPort) : (setEg s q p).dgn = s.dgn := rfl
@[simp] theorem setEg_cfgs (s : State) (q : Nat) (p : EgPort) : (setEg s q p).cfgs = s.cfgs := rfl
@[simp] theorem setEg_aon (s : State) (q : Nat) (p : EgPort) : (setEg s q p).aon = s.aon := rfl
@[simp] theorem setEg_pwr (s : State) (q : Nat) (p : EgPort) : (setEg s q p).pwr = s.pwr := rfl
@[simp] theorem setEg_stw (s : State) (q : Nat) (p : EgPort) : (setEg s q p).stw = s.stw := rfl
@[simp] theorem setEg_free (s : State) (q : Nat) (p : EgPort) : (setEg s q p).free = s.free := rfl
@[simp] theorem setEg_out (s : State) (q : Nat) (p : EgPort) : (setEg s q p).out = s.out := rfl

-- What `setLst` leaves.
@[simp] theorem setLst_pending (s : State) (l : Nat) (x : Listener) : (setLst s l x).pending = s.pending := rfl
@[simp] theorem setLst_regs (s : State) (l : Nat) (x : Listener) : (setLst s l x).regs = s.regs := rfl
@[simp] theorem setLst_latch (s : State) (l : Nat) (x : Listener) : (setLst s l x).latch = s.latch := rfl
@[simp] theorem setLst_cfg (s : State) (l : Nat) (x : Listener) : (setLst s l x).cfg = s.cfg := rfl
@[simp] theorem setLst_prev (s : State) (l : Nat) (x : Listener) : (setLst s l x).prev = s.prev := rfl
@[simp] theorem setLst_tag (s : State) (l : Nat) (x : Listener) : (setLst s l x).tag = s.tag := rfl
@[simp] theorem setLst_dev (s : State) (l : Nat) (x : Listener) : (setLst s l x).dev = s.dev := rfl
@[simp] theorem setLst_msix (s : State) (l : Nat) (x : Listener) : (setLst s l x).msix = s.msix := rfl
@[simp] theorem setLst_pba (s : State) (l : Nat) (x : Listener) : (setLst s l x).pba = s.pba := rfl
@[simp] theorem setLst_moder (s : State) (l : Nat) (x : Listener) : (setLst s l x).moder = s.moder := rfl
@[simp] theorem setLst_nvm (s : State) (l : Nat) (x : Listener) : (setLst s l x).nvm = s.nvm := rfl
@[simp] theorem setLst_secver (s : State) (l : Nat) (x : Listener) : (setLst s l x).secver = s.secver := rfl
@[simp] theorem setLst_tim (s : State) (l : Nat) (x : Listener) : (setLst s l x).tim = s.tim := rfl
@[simp] theorem setLst_prt (s : State) (l : Nat) (x : Listener) : (setLst s l x).prt = s.prt := rfl
@[simp] theorem setLst_stb (s : State) (l : Nat) (x : Listener) : (setLst s l x).stb = s.stb := rfl
@[simp] theorem setLst_flt (s : State) (l : Nat) (x : Listener) : (setLst s l x).flt = s.flt := rfl
@[simp] theorem setLst_map (s : State) (l : Nat) (x : Listener) : (setLst s l x).map = s.map := rfl
@[simp] theorem setLst_com (s : State) (l : Nat) (x : Listener) : (setLst s l x).com = s.com := rfl
@[simp] theorem setLst_bgt (s : State) (l : Nat) (x : Listener) : (setLst s l x).bgt = s.bgt := rfl
@[simp] theorem setLst_jrn (s : State) (l : Nat) (x : Listener) : (setLst s l x).jrn = s.jrn := rfl
@[simp] theorem setLst_lni (s : State) (l : Nat) (x : Listener) : (setLst s l x).lni = s.lni := rfl
@[simp] theorem setLst_vot (s : State) (l : Nat) (x : Listener) : (setLst s l x).vot = s.vot := rfl
@[simp] theorem setLst_brg (s : State) (l : Nat) (x : Listener) : (setLst s l x).brg = s.brg := rfl
@[simp] theorem setLst_cdb (s : State) (l : Nat) (x : Listener) : (setLst s l x).cdb = s.cdb := rfl
@[simp] theorem setLst_red (s : State) (l : Nat) (x : Listener) : (setLst s l x).red = s.red := rfl
@[simp] theorem setLst_vault (s : State) (l : Nat) (x : Listener) : (setLst s l x).vault = s.vault := rfl
@[simp] theorem setLst_saf (s : State) (l : Nat) (x : Listener) : (setLst s l x).saf = s.saf := rfl
@[simp] theorem setLst_dgn (s : State) (l : Nat) (x : Listener) : (setLst s l x).dgn = s.dgn := rfl
@[simp] theorem setLst_cfgs (s : State) (l : Nat) (x : Listener) : (setLst s l x).cfgs = s.cfgs := rfl
@[simp] theorem setLst_aon (s : State) (l : Nat) (x : Listener) : (setLst s l x).aon = s.aon := rfl
@[simp] theorem setLst_pwr (s : State) (l : Nat) (x : Listener) : (setLst s l x).pwr = s.pwr := rfl
@[simp] theorem setLst_stw (s : State) (l : Nat) (x : Listener) : (setLst s l x).stw = s.stw := rfl
@[simp] theorem setLst_free (s : State) (l : Nat) (x : Listener) : (setLst s l x).free = s.free := rfl
@[simp] theorem setLst_out (s : State) (l : Nat) (x : Listener) : (setLst s l x).out = s.out := rfl

-- What `setNode` leaves.
@[simp] theorem setNode_pending (s : State) (n : Nat) (nd : Node) : (setNode s n nd).pending = s.pending := rfl
@[simp] theorem setNode_regs (s : State) (n : Nat) (nd : Node) : (setNode s n nd).regs = s.regs := rfl
@[simp] theorem setNode_latch (s : State) (n : Nat) (nd : Node) : (setNode s n nd).latch = s.latch := rfl
@[simp] theorem setNode_cfg (s : State) (n : Nat) (nd : Node) : (setNode s n nd).cfg = s.cfg := rfl
@[simp] theorem setNode_prev (s : State) (n : Nat) (nd : Node) : (setNode s n nd).prev = s.prev := rfl
@[simp] theorem setNode_tag (s : State) (n : Nat) (nd : Node) : (setNode s n nd).tag = s.tag := rfl
@[simp] theorem setNode_dev (s : State) (n : Nat) (nd : Node) : (setNode s n nd).dev = s.dev := rfl
@[simp] theorem setNode_msix (s : State) (n : Nat) (nd : Node) : (setNode s n nd).msix = s.msix := rfl
@[simp] theorem setNode_pba (s : State) (n : Nat) (nd : Node) : (setNode s n nd).pba = s.pba := rfl
@[simp] theorem setNode_moder (s : State) (n : Nat) (nd : Node) : (setNode s n nd).moder = s.moder := rfl
@[simp] theorem setNode_nvm (s : State) (n : Nat) (nd : Node) : (setNode s n nd).nvm = s.nvm := rfl
@[simp] theorem setNode_secver (s : State) (n : Nat) (nd : Node) : (setNode s n nd).secver = s.secver := rfl
@[simp] theorem setNode_tim (s : State) (n : Nat) (nd : Node) : (setNode s n nd).tim = s.tim := rfl
@[simp] theorem setNode_prt (s : State) (n : Nat) (nd : Node) : (setNode s n nd).prt = s.prt := rfl
@[simp] theorem setNode_stb (s : State) (n : Nat) (nd : Node) : (setNode s n nd).stb = s.stb := rfl
@[simp] theorem setNode_flt (s : State) (n : Nat) (nd : Node) : (setNode s n nd).flt = s.flt := rfl
@[simp] theorem setNode_map (s : State) (n : Nat) (nd : Node) : (setNode s n nd).map = s.map := rfl
@[simp] theorem setNode_com (s : State) (n : Nat) (nd : Node) : (setNode s n nd).com = s.com := rfl
@[simp] theorem setNode_egr (s : State) (n : Nat) (nd : Node) : (setNode s n nd).egr = s.egr := rfl
@[simp] theorem setNode_jrn (s : State) (n : Nat) (nd : Node) : (setNode s n nd).jrn = s.jrn := rfl
@[simp] theorem setNode_lni (s : State) (n : Nat) (nd : Node) : (setNode s n nd).lni = s.lni := rfl
@[simp] theorem setNode_vot (s : State) (n : Nat) (nd : Node) : (setNode s n nd).vot = s.vot := rfl
@[simp] theorem setNode_brg (s : State) (n : Nat) (nd : Node) : (setNode s n nd).brg = s.brg := rfl
@[simp] theorem setNode_cdb (s : State) (n : Nat) (nd : Node) : (setNode s n nd).cdb = s.cdb := rfl
@[simp] theorem setNode_red (s : State) (n : Nat) (nd : Node) : (setNode s n nd).red = s.red := rfl
@[simp] theorem setNode_vault (s : State) (n : Nat) (nd : Node) : (setNode s n nd).vault = s.vault := rfl
@[simp] theorem setNode_saf (s : State) (n : Nat) (nd : Node) : (setNode s n nd).saf = s.saf := rfl
@[simp] theorem setNode_dgn (s : State) (n : Nat) (nd : Node) : (setNode s n nd).dgn = s.dgn := rfl
@[simp] theorem setNode_cfgs (s : State) (n : Nat) (nd : Node) : (setNode s n nd).cfgs = s.cfgs := rfl
@[simp] theorem setNode_aon (s : State) (n : Nat) (nd : Node) : (setNode s n nd).aon = s.aon := rfl
@[simp] theorem setNode_pwr (s : State) (n : Nat) (nd : Node) : (setNode s n nd).pwr = s.pwr := rfl
@[simp] theorem setNode_stw (s : State) (n : Nat) (nd : Node) : (setNode s n nd).stw = s.stw := rfl
@[simp] theorem setNode_free (s : State) (n : Nat) (nd : Node) : (setNode s n nd).free = s.free := rfl
@[simp] theorem setNode_out (s : State) (n : Nat) (nd : Node) : (setNode s n nd).out = s.out := rfl

-- What `setStrm` leaves.
@[simp] theorem setStrm_pending (s : State) (id : Nat) (x : Stream) : (setStrm s id x).pending = s.pending := rfl
@[simp] theorem setStrm_regs (s : State) (id : Nat) (x : Stream) : (setStrm s id x).regs = s.regs := rfl
@[simp] theorem setStrm_latch (s : State) (id : Nat) (x : Stream) : (setStrm s id x).latch = s.latch := rfl
@[simp] theorem setStrm_cfg (s : State) (id : Nat) (x : Stream) : (setStrm s id x).cfg = s.cfg := rfl
@[simp] theorem setStrm_prev (s : State) (id : Nat) (x : Stream) : (setStrm s id x).prev = s.prev := rfl
@[simp] theorem setStrm_tag (s : State) (id : Nat) (x : Stream) : (setStrm s id x).tag = s.tag := rfl
@[simp] theorem setStrm_dev (s : State) (id : Nat) (x : Stream) : (setStrm s id x).dev = s.dev := rfl
@[simp] theorem setStrm_msix (s : State) (id : Nat) (x : Stream) : (setStrm s id x).msix = s.msix := rfl
@[simp] theorem setStrm_pba (s : State) (id : Nat) (x : Stream) : (setStrm s id x).pba = s.pba := rfl
@[simp] theorem setStrm_moder (s : State) (id : Nat) (x : Stream) : (setStrm s id x).moder = s.moder := rfl
@[simp] theorem setStrm_nvm (s : State) (id : Nat) (x : Stream) : (setStrm s id x).nvm = s.nvm := rfl
@[simp] theorem setStrm_secver (s : State) (id : Nat) (x : Stream) : (setStrm s id x).secver = s.secver := rfl
@[simp] theorem setStrm_tim (s : State) (id : Nat) (x : Stream) : (setStrm s id x).tim = s.tim := rfl
@[simp] theorem setStrm_prt (s : State) (id : Nat) (x : Stream) : (setStrm s id x).prt = s.prt := rfl
@[simp] theorem setStrm_flt (s : State) (id : Nat) (x : Stream) : (setStrm s id x).flt = s.flt := rfl
@[simp] theorem setStrm_map (s : State) (id : Nat) (x : Stream) : (setStrm s id x).map = s.map := rfl
@[simp] theorem setStrm_com (s : State) (id : Nat) (x : Stream) : (setStrm s id x).com = s.com := rfl
@[simp] theorem setStrm_bgt (s : State) (id : Nat) (x : Stream) : (setStrm s id x).bgt = s.bgt := rfl
@[simp] theorem setStrm_egr (s : State) (id : Nat) (x : Stream) : (setStrm s id x).egr = s.egr := rfl
@[simp] theorem setStrm_jrn (s : State) (id : Nat) (x : Stream) : (setStrm s id x).jrn = s.jrn := rfl
@[simp] theorem setStrm_lni (s : State) (id : Nat) (x : Stream) : (setStrm s id x).lni = s.lni := rfl
@[simp] theorem setStrm_vot (s : State) (id : Nat) (x : Stream) : (setStrm s id x).vot = s.vot := rfl
@[simp] theorem setStrm_brg (s : State) (id : Nat) (x : Stream) : (setStrm s id x).brg = s.brg := rfl
@[simp] theorem setStrm_cdb (s : State) (id : Nat) (x : Stream) : (setStrm s id x).cdb = s.cdb := rfl
@[simp] theorem setStrm_red (s : State) (id : Nat) (x : Stream) : (setStrm s id x).red = s.red := rfl
@[simp] theorem setStrm_vault (s : State) (id : Nat) (x : Stream) : (setStrm s id x).vault = s.vault := rfl
@[simp] theorem setStrm_saf (s : State) (id : Nat) (x : Stream) : (setStrm s id x).saf = s.saf := rfl
@[simp] theorem setStrm_dgn (s : State) (id : Nat) (x : Stream) : (setStrm s id x).dgn = s.dgn := rfl
@[simp] theorem setStrm_cfgs (s : State) (id : Nat) (x : Stream) : (setStrm s id x).cfgs = s.cfgs := rfl
@[simp] theorem setStrm_aon (s : State) (id : Nat) (x : Stream) : (setStrm s id x).aon = s.aon := rfl
@[simp] theorem setStrm_pwr (s : State) (id : Nat) (x : Stream) : (setStrm s id x).pwr = s.pwr := rfl
@[simp] theorem setStrm_stw (s : State) (id : Nat) (x : Stream) : (setStrm s id x).stw = s.stw := rfl
@[simp] theorem setStrm_free (s : State) (id : Nat) (x : Stream) : (setStrm s id x).free = s.free := rfl
@[simp] theorem setStrm_out (s : State) (id : Nat) (x : Stream) : (setStrm s id x).out = s.out := rfl

-- What `setLane` leaves.
@[simp] theorem setLane_pending (s : State) (k : Nat) (l : Lane) : (setLane s k l).pending = s.pending := rfl
@[simp] theorem setLane_regs (s : State) (k : Nat) (l : Lane) : (setLane s k l).regs = s.regs := rfl
@[simp] theorem setLane_latch (s : State) (k : Nat) (l : Lane) : (setLane s k l).latch = s.latch := rfl
@[simp] theorem setLane_cfg (s : State) (k : Nat) (l : Lane) : (setLane s k l).cfg = s.cfg := rfl
@[simp] theorem setLane_prev (s : State) (k : Nat) (l : Lane) : (setLane s k l).prev = s.prev := rfl
@[simp] theorem setLane_tag (s : State) (k : Nat) (l : Lane) : (setLane s k l).tag = s.tag := rfl
@[simp] theorem setLane_dev (s : State) (k : Nat) (l : Lane) : (setLane s k l).dev = s.dev := rfl
@[simp] theorem setLane_msix (s : State) (k : Nat) (l : Lane) : (setLane s k l).msix = s.msix := rfl
@[simp] theorem setLane_pba (s : State) (k : Nat) (l : Lane) : (setLane s k l).pba = s.pba := rfl
@[simp] theorem setLane_moder (s : State) (k : Nat) (l : Lane) : (setLane s k l).moder = s.moder := rfl
@[simp] theorem setLane_nvm (s : State) (k : Nat) (l : Lane) : (setLane s k l).nvm = s.nvm := rfl
@[simp] theorem setLane_secver (s : State) (k : Nat) (l : Lane) : (setLane s k l).secver = s.secver := rfl
@[simp] theorem setLane_tim (s : State) (k : Nat) (l : Lane) : (setLane s k l).tim = s.tim := rfl
@[simp] theorem setLane_prt (s : State) (k : Nat) (l : Lane) : (setLane s k l).prt = s.prt := rfl
@[simp] theorem setLane_stb (s : State) (k : Nat) (l : Lane) : (setLane s k l).stb = s.stb := rfl
@[simp] theorem setLane_flt (s : State) (k : Nat) (l : Lane) : (setLane s k l).flt = s.flt := rfl
@[simp] theorem setLane_map (s : State) (k : Nat) (l : Lane) : (setLane s k l).map = s.map := rfl
@[simp] theorem setLane_com (s : State) (k : Nat) (l : Lane) : (setLane s k l).com = s.com := rfl
@[simp] theorem setLane_bgt (s : State) (k : Nat) (l : Lane) : (setLane s k l).bgt = s.bgt := rfl
@[simp] theorem setLane_egr (s : State) (k : Nat) (l : Lane) : (setLane s k l).egr = s.egr := rfl
@[simp] theorem setLane_jrn (s : State) (k : Nat) (l : Lane) : (setLane s k l).jrn = s.jrn := rfl
@[simp] theorem setLane_vot (s : State) (k : Nat) (l : Lane) : (setLane s k l).vot = s.vot := rfl
@[simp] theorem setLane_brg (s : State) (k : Nat) (l : Lane) : (setLane s k l).brg = s.brg := rfl
@[simp] theorem setLane_cdb (s : State) (k : Nat) (l : Lane) : (setLane s k l).cdb = s.cdb := rfl
@[simp] theorem setLane_red (s : State) (k : Nat) (l : Lane) : (setLane s k l).red = s.red := rfl
@[simp] theorem setLane_vault (s : State) (k : Nat) (l : Lane) : (setLane s k l).vault = s.vault := rfl
@[simp] theorem setLane_saf (s : State) (k : Nat) (l : Lane) : (setLane s k l).saf = s.saf := rfl
@[simp] theorem setLane_dgn (s : State) (k : Nat) (l : Lane) : (setLane s k l).dgn = s.dgn := rfl
@[simp] theorem setLane_cfgs (s : State) (k : Nat) (l : Lane) : (setLane s k l).cfgs = s.cfgs := rfl
@[simp] theorem setLane_aon (s : State) (k : Nat) (l : Lane) : (setLane s k l).aon = s.aon := rfl
@[simp] theorem setLane_pwr (s : State) (k : Nat) (l : Lane) : (setLane s k l).pwr = s.pwr := rfl
@[simp] theorem setLane_stw (s : State) (k : Nat) (l : Lane) : (setLane s k l).stw = s.stw := rfl
@[simp] theorem setLane_free (s : State) (k : Nat) (l : Lane) : (setLane s k l).free = s.free := rfl
@[simp] theorem setLane_out (s : State) (k : Nat) (l : Lane) : (setLane s k l).out = s.out := rfl

-- What `setRed` leaves.
@[simp] theorem setRed_pending (s : State) (x : Red) : (setRed s x).pending = s.pending := rfl
@[simp] theorem setRed_regs (s : State) (x : Red) : (setRed s x).regs = s.regs := rfl
@[simp] theorem setRed_latch (s : State) (x : Red) : (setRed s x).latch = s.latch := rfl
@[simp] theorem setRed_cfg (s : State) (x : Red) : (setRed s x).cfg = s.cfg := rfl
@[simp] theorem setRed_prev (s : State) (x : Red) : (setRed s x).prev = s.prev := rfl
@[simp] theorem setRed_tag (s : State) (x : Red) : (setRed s x).tag = s.tag := rfl
@[simp] theorem setRed_dev (s : State) (x : Red) : (setRed s x).dev = s.dev := rfl
@[simp] theorem setRed_msix (s : State) (x : Red) : (setRed s x).msix = s.msix := rfl
@[simp] theorem setRed_pba (s : State) (x : Red) : (setRed s x).pba = s.pba := rfl
@[simp] theorem setRed_moder (s : State) (x : Red) : (setRed s x).moder = s.moder := rfl
@[simp] theorem setRed_nvm (s : State) (x : Red) : (setRed s x).nvm = s.nvm := rfl
@[simp] theorem setRed_secver (s : State) (x : Red) : (setRed s x).secver = s.secver := rfl
@[simp] theorem setRed_tim (s : State) (x : Red) : (setRed s x).tim = s.tim := rfl
@[simp] theorem setRed_prt (s : State) (x : Red) : (setRed s x).prt = s.prt := rfl
@[simp] theorem setRed_stb (s : State) (x : Red) : (setRed s x).stb = s.stb := rfl
@[simp] theorem setRed_flt (s : State) (x : Red) : (setRed s x).flt = s.flt := rfl
@[simp] theorem setRed_map (s : State) (x : Red) : (setRed s x).map = s.map := rfl
@[simp] theorem setRed_com (s : State) (x : Red) : (setRed s x).com = s.com := rfl
@[simp] theorem setRed_bgt (s : State) (x : Red) : (setRed s x).bgt = s.bgt := rfl
@[simp] theorem setRed_egr (s : State) (x : Red) : (setRed s x).egr = s.egr := rfl
@[simp] theorem setRed_jrn (s : State) (x : Red) : (setRed s x).jrn = s.jrn := rfl
@[simp] theorem setRed_lni (s : State) (x : Red) : (setRed s x).lni = s.lni := rfl
@[simp] theorem setRed_vot (s : State) (x : Red) : (setRed s x).vot = s.vot := rfl
@[simp] theorem setRed_brg (s : State) (x : Red) : (setRed s x).brg = s.brg := rfl
@[simp] theorem setRed_cdb (s : State) (x : Red) : (setRed s x).cdb = s.cdb := rfl
@[simp] theorem setRed_vault (s : State) (x : Red) : (setRed s x).vault = s.vault := rfl
@[simp] theorem setRed_saf (s : State) (x : Red) : (setRed s x).saf = s.saf := rfl
@[simp] theorem setRed_dgn (s : State) (x : Red) : (setRed s x).dgn = s.dgn := rfl
@[simp] theorem setRed_cfgs (s : State) (x : Red) : (setRed s x).cfgs = s.cfgs := rfl
@[simp] theorem setRed_aon (s : State) (x : Red) : (setRed s x).aon = s.aon := rfl
@[simp] theorem setRed_pwr (s : State) (x : Red) : (setRed s x).pwr = s.pwr := rfl
@[simp] theorem setRed_stw (s : State) (x : Red) : (setRed s x).stw = s.stw := rfl
@[simp] theorem setRed_free (s : State) (x : Red) : (setRed s x).free = s.free := rfl
@[simp] theorem setRed_out (s : State) (x : Red) : (setRed s x).out = s.out := rfl

-- What `setGrant` leaves.
@[simp] theorem setGrant_pending (s : State) (k : Nat) (g : Grant) : (setGrant s k g).pending = s.pending := rfl
@[simp] theorem setGrant_regs (s : State) (k : Nat) (g : Grant) : (setGrant s k g).regs = s.regs := rfl
@[simp] theorem setGrant_latch (s : State) (k : Nat) (g : Grant) : (setGrant s k g).latch = s.latch := rfl
@[simp] theorem setGrant_cfg (s : State) (k : Nat) (g : Grant) : (setGrant s k g).cfg = s.cfg := rfl
@[simp] theorem setGrant_prev (s : State) (k : Nat) (g : Grant) : (setGrant s k g).prev = s.prev := rfl
@[simp] theorem setGrant_tag (s : State) (k : Nat) (g : Grant) : (setGrant s k g).tag = s.tag := rfl
@[simp] theorem setGrant_dev (s : State) (k : Nat) (g : Grant) : (setGrant s k g).dev = s.dev := rfl
@[simp] theorem setGrant_msix (s : State) (k : Nat) (g : Grant) : (setGrant s k g).msix = s.msix := rfl
@[simp] theorem setGrant_pba (s : State) (k : Nat) (g : Grant) : (setGrant s k g).pba = s.pba := rfl
@[simp] theorem setGrant_moder (s : State) (k : Nat) (g : Grant) : (setGrant s k g).moder = s.moder := rfl
@[simp] theorem setGrant_nvm (s : State) (k : Nat) (g : Grant) : (setGrant s k g).nvm = s.nvm := rfl
@[simp] theorem setGrant_secver (s : State) (k : Nat) (g : Grant) : (setGrant s k g).secver = s.secver := rfl
@[simp] theorem setGrant_tim (s : State) (k : Nat) (g : Grant) : (setGrant s k g).tim = s.tim := rfl
@[simp] theorem setGrant_prt (s : State) (k : Nat) (g : Grant) : (setGrant s k g).prt = s.prt := rfl
@[simp] theorem setGrant_stb (s : State) (k : Nat) (g : Grant) : (setGrant s k g).stb = s.stb := rfl
@[simp] theorem setGrant_flt (s : State) (k : Nat) (g : Grant) : (setGrant s k g).flt = s.flt := rfl
@[simp] theorem setGrant_map (s : State) (k : Nat) (g : Grant) : (setGrant s k g).map = s.map := rfl
@[simp] theorem setGrant_com (s : State) (k : Nat) (g : Grant) : (setGrant s k g).com = s.com := rfl
@[simp] theorem setGrant_bgt (s : State) (k : Nat) (g : Grant) : (setGrant s k g).bgt = s.bgt := rfl
@[simp] theorem setGrant_egr (s : State) (k : Nat) (g : Grant) : (setGrant s k g).egr = s.egr := rfl
@[simp] theorem setGrant_jrn (s : State) (k : Nat) (g : Grant) : (setGrant s k g).jrn = s.jrn := rfl
@[simp] theorem setGrant_lni (s : State) (k : Nat) (g : Grant) : (setGrant s k g).lni = s.lni := rfl
@[simp] theorem setGrant_vot (s : State) (k : Nat) (g : Grant) : (setGrant s k g).vot = s.vot := rfl
@[simp] theorem setGrant_brg (s : State) (k : Nat) (g : Grant) : (setGrant s k g).brg = s.brg := rfl
@[simp] theorem setGrant_cdb (s : State) (k : Nat) (g : Grant) : (setGrant s k g).cdb = s.cdb := rfl
@[simp] theorem setGrant_vault (s : State) (k : Nat) (g : Grant) : (setGrant s k g).vault = s.vault := rfl
@[simp] theorem setGrant_saf (s : State) (k : Nat) (g : Grant) : (setGrant s k g).saf = s.saf := rfl
@[simp] theorem setGrant_dgn (s : State) (k : Nat) (g : Grant) : (setGrant s k g).dgn = s.dgn := rfl
@[simp] theorem setGrant_cfgs (s : State) (k : Nat) (g : Grant) : (setGrant s k g).cfgs = s.cfgs := rfl
@[simp] theorem setGrant_aon (s : State) (k : Nat) (g : Grant) : (setGrant s k g).aon = s.aon := rfl
@[simp] theorem setGrant_pwr (s : State) (k : Nat) (g : Grant) : (setGrant s k g).pwr = s.pwr := rfl
@[simp] theorem setGrant_stw (s : State) (k : Nat) (g : Grant) : (setGrant s k g).stw = s.stw := rfl
@[simp] theorem setGrant_free (s : State) (k : Nat) (g : Grant) : (setGrant s k g).free = s.free := rfl
@[simp] theorem setGrant_out (s : State) (k : Nat) (g : Grant) : (setGrant s k g).out = s.out := rfl

-- What reads the same after `wr`.
@[simp] theorem port_wr (s : State) (off : Nat) (v : Word) (n : Nat) : port (wr s off v) n = port s n := rfl
@[simp] theorem eg_wr (s : State) (off : Nat) (v : Word) (n : Nat) : eg (wr s off v) n = eg s n := rfl
@[simp] theorem lst_wr (s : State) (off : Nat) (v : Word) (n : Nat) : lst (wr s off v) n = lst s n := rfl
@[simp] theorem lane_wr (s : State) (off : Nat) (v : Word) (n : Nat) : lane (wr s off v) n = lane s n := rfl
@[simp] theorem strm_wr (s : State) (off : Nat) (v : Word) (n : Nat) : strm (wr s off v) n = strm s n := rfl
@[simp] theorem nodeRt_wr (s : State) (off : Nat) (v : Word) (n : Nat) : nodeRt (wr s off v) n = nodeRt s n := rfl
@[simp] theorem trig_wr (s : State) (off : Nat) (v : Word) (n : Nat) : trig (wr s off v) n = trig s n := rfl
@[simp] theorem win_wr (s : State) (off : Nat) (v : Word) (n : Nat) : win (wr s off v) n = win s n := rfl
@[simp] theorem ring_wr (s : State) (off : Nat) (v : Word) (n : Nat) : ring (wr s off v) n = ring s n := rfl
@[simp] theorem prog_wr (s : State) (off : Nat) (v : Word) (n : Nat) : prog (wr s off v) n = prog s n := rfl
@[simp] theorem engine_wr (s : State) (off : Nat) (v : Word) (n : Nat) : engine (wr s off v) n = engine s n := rfl
@[simp] theorem sem_wr (s : State) (off : Nat) (v : Word) (n : Nat) : sem (wr s off v) n = sem s n := rfl
@[simp] theorem spare_wr (s : State) (off : Nat) (v : Word) (n : Nat) : spare (wr s off v) n = spare s n := rfl
@[simp] theorem grant_wr (s : State) (off : Nat) (v : Word) (n : Nat) : grant (wr s off v) n = grant s n := rfl
@[simp] theorem shadow_wr (s : State) (off : Nat) (v : Word) (n : Nat) : shadow (wr s off v) n = shadow s n := rfl
@[simp] theorem nvmByte_wr (s : State) (off : Nat) (v : Word) (n : Nat) : nvmByte (wr s off v) n = nvmByte s n := rfl
@[simp] theorem cw_wr (s : State) (off : Nat) (v : Word) (n i : Nat) : cw (wr s off v) n i = cw s n i := rfl
@[simp] theorem now_wr (s : State) (off : Nat) (v : Word) : now (wr s off v) = now s := rfl
@[simp] theorem gateOpen_wr (s : State) (off : Nat) (v : Word) : gateOpen (wr s off v) = gateOpen s := rfl
@[simp] theorem pathOn_wr (s : State) (off : Nat) (v : Word) : pathOn (wr s off v) = pathOn s := rfl
@[simp] theorem isStandby_wr (s : State) (off : Nat) (v : Word) : isStandby (wr s off v) = isStandby s := rfl
@[simp] theorem shadowing_wr (s : State) (off : Nat) (v : Word) : shadowing (wr s off v) = shadowing s := rfl

-- What reads the same after `setFld`.
@[simp] theorem port_setFld (s : State) (off hi lo v : Nat) (n : Nat) : port (setFld s off hi lo v) n = port s n := rfl
@[simp] theorem eg_setFld (s : State) (off hi lo v : Nat) (n : Nat) : eg (setFld s off hi lo v) n = eg s n := rfl
@[simp] theorem lst_setFld (s : State) (off hi lo v : Nat) (n : Nat) : lst (setFld s off hi lo v) n = lst s n := rfl
@[simp] theorem lane_setFld (s : State) (off hi lo v : Nat) (n : Nat) : lane (setFld s off hi lo v) n = lane s n := rfl
@[simp] theorem strm_setFld (s : State) (off hi lo v : Nat) (n : Nat) : strm (setFld s off hi lo v) n = strm s n := rfl
@[simp] theorem nodeRt_setFld (s : State) (off hi lo v : Nat) (n : Nat) : nodeRt (setFld s off hi lo v) n = nodeRt s n := rfl
@[simp] theorem trig_setFld (s : State) (off hi lo v : Nat) (n : Nat) : trig (setFld s off hi lo v) n = trig s n := rfl
@[simp] theorem win_setFld (s : State) (off hi lo v : Nat) (n : Nat) : win (setFld s off hi lo v) n = win s n := rfl
@[simp] theorem ring_setFld (s : State) (off hi lo v : Nat) (n : Nat) : ring (setFld s off hi lo v) n = ring s n := rfl
@[simp] theorem prog_setFld (s : State) (off hi lo v : Nat) (n : Nat) : prog (setFld s off hi lo v) n = prog s n := rfl
@[simp] theorem engine_setFld (s : State) (off hi lo v : Nat) (n : Nat) : engine (setFld s off hi lo v) n = engine s n := rfl
@[simp] theorem sem_setFld (s : State) (off hi lo v : Nat) (n : Nat) : sem (setFld s off hi lo v) n = sem s n := rfl
@[simp] theorem spare_setFld (s : State) (off hi lo v : Nat) (n : Nat) : spare (setFld s off hi lo v) n = spare s n := rfl
@[simp] theorem grant_setFld (s : State) (off hi lo v : Nat) (n : Nat) : grant (setFld s off hi lo v) n = grant s n := rfl
@[simp] theorem shadow_setFld (s : State) (off hi lo v : Nat) (n : Nat) : shadow (setFld s off hi lo v) n = shadow s n := rfl
@[simp] theorem nvmByte_setFld (s : State) (off hi lo v : Nat) (n : Nat) : nvmByte (setFld s off hi lo v) n = nvmByte s n := rfl
@[simp] theorem cw_setFld (s : State) (off hi lo v : Nat) (n i : Nat) : cw (setFld s off hi lo v) n i = cw s n i := rfl
@[simp] theorem now_setFld (s : State) (off hi lo v : Nat) : now (setFld s off hi lo v) = now s := rfl
@[simp] theorem gateOpen_setFld (s : State) (off hi lo v : Nat) : gateOpen (setFld s off hi lo v) = gateOpen s := rfl
@[simp] theorem pathOn_setFld (s : State) (off hi lo v : Nat) : pathOn (setFld s off hi lo v) = pathOn s := rfl
@[simp] theorem isStandby_setFld (s : State) (off hi lo v : Nat) : isStandby (setFld s off hi lo v) = isStandby s := rfl
@[simp] theorem shadowing_setFld (s : State) (off hi lo v : Nat) : shadowing (setFld s off hi lo v) = shadowing s := rfl

-- What reads the same after `cntAdd`.
@[simp] theorem port_cntAdd (s : State) (off k : Nat) (n : Nat) : port (cntAdd s off k) n = port s n := rfl
@[simp] theorem eg_cntAdd (s : State) (off k : Nat) (n : Nat) : eg (cntAdd s off k) n = eg s n := rfl
@[simp] theorem lst_cntAdd (s : State) (off k : Nat) (n : Nat) : lst (cntAdd s off k) n = lst s n := rfl
@[simp] theorem lane_cntAdd (s : State) (off k : Nat) (n : Nat) : lane (cntAdd s off k) n = lane s n := rfl
@[simp] theorem strm_cntAdd (s : State) (off k : Nat) (n : Nat) : strm (cntAdd s off k) n = strm s n := rfl
@[simp] theorem nodeRt_cntAdd (s : State) (off k : Nat) (n : Nat) : nodeRt (cntAdd s off k) n = nodeRt s n := rfl
@[simp] theorem trig_cntAdd (s : State) (off k : Nat) (n : Nat) : trig (cntAdd s off k) n = trig s n := rfl
@[simp] theorem win_cntAdd (s : State) (off k : Nat) (n : Nat) : win (cntAdd s off k) n = win s n := rfl
@[simp] theorem ring_cntAdd (s : State) (off k : Nat) (n : Nat) : ring (cntAdd s off k) n = ring s n := rfl
@[simp] theorem prog_cntAdd (s : State) (off k : Nat) (n : Nat) : prog (cntAdd s off k) n = prog s n := rfl
@[simp] theorem engine_cntAdd (s : State) (off k : Nat) (n : Nat) : engine (cntAdd s off k) n = engine s n := rfl
@[simp] theorem sem_cntAdd (s : State) (off k : Nat) (n : Nat) : sem (cntAdd s off k) n = sem s n := rfl
@[simp] theorem spare_cntAdd (s : State) (off k : Nat) (n : Nat) : spare (cntAdd s off k) n = spare s n := rfl
@[simp] theorem grant_cntAdd (s : State) (off k : Nat) (n : Nat) : grant (cntAdd s off k) n = grant s n := rfl
@[simp] theorem shadow_cntAdd (s : State) (off k : Nat) (n : Nat) : shadow (cntAdd s off k) n = shadow s n := rfl
@[simp] theorem nvmByte_cntAdd (s : State) (off k : Nat) (n : Nat) : nvmByte (cntAdd s off k) n = nvmByte s n := rfl
@[simp] theorem cw_cntAdd (s : State) (off k : Nat) (n i : Nat) : cw (cntAdd s off k) n i = cw s n i := rfl
@[simp] theorem now_cntAdd (s : State) (off n : Nat) : now (cntAdd s off n) = now s := rfl
@[simp] theorem gateOpen_cntAdd (s : State) (off n : Nat) : gateOpen (cntAdd s off n) = gateOpen s := rfl
@[simp] theorem pathOn_cntAdd (s : State) (off n : Nat) : pathOn (cntAdd s off n) = pathOn s := rfl
@[simp] theorem isStandby_cntAdd (s : State) (off n : Nat) : isStandby (cntAdd s off n) = isStandby s := rfl
@[simp] theorem shadowing_cntAdd (s : State) (off n : Nat) : shadowing (cntAdd s off n) = shadowing s := rfl

-- What reads the same after `cnt`.
@[simp] theorem port_cnt (s : State) (off n : Nat) : port (cnt s off) n = port s n := rfl
@[simp] theorem eg_cnt (s : State) (off n : Nat) : eg (cnt s off) n = eg s n := rfl
@[simp] theorem lst_cnt (s : State) (off n : Nat) : lst (cnt s off) n = lst s n := rfl
@[simp] theorem lane_cnt (s : State) (off n : Nat) : lane (cnt s off) n = lane s n := rfl
@[simp] theorem strm_cnt (s : State) (off n : Nat) : strm (cnt s off) n = strm s n := rfl
@[simp] theorem nodeRt_cnt (s : State) (off n : Nat) : nodeRt (cnt s off) n = nodeRt s n := rfl
@[simp] theorem trig_cnt (s : State) (off n : Nat) : trig (cnt s off) n = trig s n := rfl
@[simp] theorem win_cnt (s : State) (off n : Nat) : win (cnt s off) n = win s n := rfl
@[simp] theorem ring_cnt (s : State) (off n : Nat) : ring (cnt s off) n = ring s n := rfl
@[simp] theorem prog_cnt (s : State) (off n : Nat) : prog (cnt s off) n = prog s n := rfl
@[simp] theorem engine_cnt (s : State) (off n : Nat) : engine (cnt s off) n = engine s n := rfl
@[simp] theorem sem_cnt (s : State) (off n : Nat) : sem (cnt s off) n = sem s n := rfl
@[simp] theorem spare_cnt (s : State) (off n : Nat) : spare (cnt s off) n = spare s n := rfl
@[simp] theorem grant_cnt (s : State) (off n : Nat) : grant (cnt s off) n = grant s n := rfl
@[simp] theorem shadow_cnt (s : State) (off n : Nat) : shadow (cnt s off) n = shadow s n := rfl
@[simp] theorem nvmByte_cnt (s : State) (off n : Nat) : nvmByte (cnt s off) n = nvmByte s n := rfl
@[simp] theorem cw_cnt (s : State) (off : Nat) (n i : Nat) : cw (cnt s off) n i = cw s n i := rfl
@[simp] theorem now_cnt (s : State) (off : Nat) : now (cnt s off) = now s := rfl
@[simp] theorem gateOpen_cnt (s : State) (off : Nat) : gateOpen (cnt s off) = gateOpen s := rfl
@[simp] theorem pathOn_cnt (s : State) (off : Nat) : pathOn (cnt s off) = pathOn s := rfl
@[simp] theorem isStandby_cnt (s : State) (off : Nat) : isStandby (cnt s off) = isStandby s := rfl
@[simp] theorem shadowing_cnt (s : State) (off : Nat) : shadowing (cnt s off) = shadowing s := rfl

-- What reads the same after `clearRegs`.
@[simp] theorem port_clearRegs (s : State) (lo hi : Nat) (n : Nat) : port (clearRegs s lo hi) n = port s n := rfl
@[simp] theorem eg_clearRegs (s : State) (lo hi : Nat) (n : Nat) : eg (clearRegs s lo hi) n = eg s n := rfl
@[simp] theorem lst_clearRegs (s : State) (lo hi : Nat) (n : Nat) : lst (clearRegs s lo hi) n = lst s n := rfl
@[simp] theorem lane_clearRegs (s : State) (lo hi : Nat) (n : Nat) : lane (clearRegs s lo hi) n = lane s n := rfl
@[simp] theorem strm_clearRegs (s : State) (lo hi : Nat) (n : Nat) : strm (clearRegs s lo hi) n = strm s n := rfl
@[simp] theorem nodeRt_clearRegs (s : State) (lo hi : Nat) (n : Nat) : nodeRt (clearRegs s lo hi) n = nodeRt s n := rfl
@[simp] theorem trig_clearRegs (s : State) (lo hi : Nat) (n : Nat) : trig (clearRegs s lo hi) n = trig s n := rfl
@[simp] theorem win_clearRegs (s : State) (lo hi : Nat) (n : Nat) : win (clearRegs s lo hi) n = win s n := rfl
@[simp] theorem ring_clearRegs (s : State) (lo hi : Nat) (n : Nat) : ring (clearRegs s lo hi) n = ring s n := rfl
@[simp] theorem prog_clearRegs (s : State) (lo hi : Nat) (n : Nat) : prog (clearRegs s lo hi) n = prog s n := rfl
@[simp] theorem engine_clearRegs (s : State) (lo hi : Nat) (n : Nat) : engine (clearRegs s lo hi) n = engine s n := rfl
@[simp] theorem sem_clearRegs (s : State) (lo hi : Nat) (n : Nat) : sem (clearRegs s lo hi) n = sem s n := rfl
@[simp] theorem spare_clearRegs (s : State) (lo hi : Nat) (n : Nat) : spare (clearRegs s lo hi) n = spare s n := rfl
@[simp] theorem grant_clearRegs (s : State) (lo hi : Nat) (n : Nat) : grant (clearRegs s lo hi) n = grant s n := rfl
@[simp] theorem shadow_clearRegs (s : State) (lo hi : Nat) (n : Nat) : shadow (clearRegs s lo hi) n = shadow s n := rfl
@[simp] theorem nvmByte_clearRegs (s : State) (lo hi : Nat) (n : Nat) : nvmByte (clearRegs s lo hi) n = nvmByte s n := rfl
@[simp] theorem cw_clearRegs (s : State) (lo hi : Nat) (n i : Nat) : cw (clearRegs s lo hi) n i = cw s n i := rfl
@[simp] theorem now_clearRegs (s : State) (lo hi : Nat) : now (clearRegs s lo hi) = now s := rfl
@[simp] theorem gateOpen_clearRegs (s : State) (lo hi : Nat) : gateOpen (clearRegs s lo hi) = gateOpen s := rfl
@[simp] theorem pathOn_clearRegs (s : State) (lo hi : Nat) : pathOn (clearRegs s lo hi) = pathOn s := rfl
@[simp] theorem isStandby_clearRegs (s : State) (lo hi : Nat) : isStandby (clearRegs s lo hi) = isStandby s := rfl
@[simp] theorem shadowing_clearRegs (s : State) (lo hi : Nat) : shadowing (clearRegs s lo hi) = shadowing s := rfl

-- What reads the same after `emit`.
@[simp] theorem port_emit (s : State) (o : Out) (n : Nat) : port (emit s o) n = port s n := rfl
@[simp] theorem eg_emit (s : State) (o : Out) (n : Nat) : eg (emit s o) n = eg s n := rfl
@[simp] theorem lst_emit (s : State) (o : Out) (n : Nat) : lst (emit s o) n = lst s n := rfl
@[simp] theorem lane_emit (s : State) (o : Out) (n : Nat) : lane (emit s o) n = lane s n := rfl
@[simp] theorem strm_emit (s : State) (o : Out) (n : Nat) : strm (emit s o) n = strm s n := rfl
@[simp] theorem nodeRt_emit (s : State) (o : Out) (n : Nat) : nodeRt (emit s o) n = nodeRt s n := rfl
@[simp] theorem trig_emit (s : State) (o : Out) (n : Nat) : trig (emit s o) n = trig s n := rfl
@[simp] theorem win_emit (s : State) (o : Out) (n : Nat) : win (emit s o) n = win s n := rfl
@[simp] theorem ring_emit (s : State) (o : Out) (n : Nat) : ring (emit s o) n = ring s n := rfl
@[simp] theorem prog_emit (s : State) (o : Out) (n : Nat) : prog (emit s o) n = prog s n := rfl
@[simp] theorem engine_emit (s : State) (o : Out) (n : Nat) : engine (emit s o) n = engine s n := rfl
@[simp] theorem sem_emit (s : State) (o : Out) (n : Nat) : sem (emit s o) n = sem s n := rfl
@[simp] theorem spare_emit (s : State) (o : Out) (n : Nat) : spare (emit s o) n = spare s n := rfl
@[simp] theorem grant_emit (s : State) (o : Out) (n : Nat) : grant (emit s o) n = grant s n := rfl
@[simp] theorem shadow_emit (s : State) (o : Out) (n : Nat) : shadow (emit s o) n = shadow s n := rfl
@[simp] theorem nvmByte_emit (s : State) (o : Out) (n : Nat) : nvmByte (emit s o) n = nvmByte s n := rfl
@[simp] theorem cw_emit (s : State) (o : Out) (n i : Nat) : cw (emit s o) n i = cw s n i := rfl
@[simp] theorem now_emit (s : State) (o : Out) : now (emit s o) = now s := rfl
@[simp] theorem gateOpen_emit (s : State) (o : Out) : gateOpen (emit s o) = gateOpen s := rfl
@[simp] theorem pathOn_emit (s : State) (o : Out) : pathOn (emit s o) = pathOn s := rfl
@[simp] theorem isStandby_emit (s : State) (o : Out) : isStandby (emit s o) = isStandby s := rfl
@[simp] theorem shadowing_emit (s : State) (o : Out) : shadowing (emit s o) = shadowing s := rfl

/-- In a canonical register table a store reads back. -/
theorem rd_wr (s : State) (off : Nat) (v : Word) (w : tabWf Reg.resetOf s.regs = true) : rd (wr s off v) off = v :=
  tgetD_tsetD off v w

/-- A store leaves every other register. -/
theorem rd_wr_ne (s : State) {off o : Nat} (v : Word) (h : o ≠ off) : rd (wr s off v) o = rd s o :=
  tgetD_tsetD_ne _ _ _ h

/-- Storing a field leaves every other register. -/
theorem rd_setFld_ne (s : State) {off o : Nat} (hi lo v : Nat) (h : o ≠ off) : rd (setFld s off hi lo v) o = rd s o :=
  rd_wr_ne s _ h

/-- Counting leaves every other register. -/
theorem rd_cnt_ne (s : State) {off o : Nat} (h : o ≠ off) : rd (cnt s off) o = rd s o := rd_wr_ne s _ h

/-- A discarded write counts and latches, and leaves every other register. -/
theorem rd_discard_ne (s : State) (r : Req) {off o cause : Nat} (h1 : o ≠ Reg.DEV_DISCARD_COUNT) (h2 : o ≠ Reg.DEV_DISCARD_LAST) :
    rd (discard s r off cause) o = rd s o :=
  (rd_wr_ne _ _ h2).trans (rd_cnt_ne s h1)

end Sys2Proof.Laws
end

