-- ==== Sys2Proof/Laws/Runs.lean ====
section
/-! SUPPORT. What one micro-op does to the run that executes it, said once for every kind of micro-op. -/

namespace Sys2Proof.Laws

open Sys2Proof Sys2Proof.Machine Sys2Proof.Safety

/-- Where the active run stands at a micro-op of a command's opcode, the command executes it. -/
theorem stepOp_at {s : State} {e : Nat} {first : Bool} {r : Run} {w code : Nat} (h : AtOp s e first r w code) (f : Run → Nat → OpRes) :
    stepOp s e code f = applyOp s e first r (f r w) := by
  obtain ⟨ha, hb, hc, hd⟩ := h
  subst hc
  unfold stepOp
  rw [ha]
  exact if_neg (fun h => h.elim (Nat.not_le_of_lt hb) (fun h => h hd))

/-- A micro-op that goes on and does not saturate. -/
@[simp] theorem applyOp_go (s : State) (e : Nat) (first : Bool) (r r' : Run) :
    applyOp s e first r (.go r' false) = setCtx s e first (some { r' with pc := r'.pc + 1 }) := by
  simp [applyOp]

@[simp] theorem applyOp_put64 (s : State) (e : Nat) (first : Bool) (r : Run) (w : Nat) (v : Int) :
    applyOp s e first r (put64 r w v) = took s e first r (opRd w) v := by
  simp [put64, setReg, took]

@[simp] theorem applyOp_sat64 (s : State) (e : Nat) (first : Bool) (r : Run) (i : Nat) (v : Int) :
    applyOp s e first r (sat64 r i v) = tookSat s e first r i v := by
  simp [sat64, setReg, tookSat, applyOp]

@[simp] theorem applyOp_load (s : State) (e : Nat) (first : Bool) (r r' : Run) (w : Nat) (trap : Bool) (v : Option Int) (h : trap = false ∨ r' = r) :
    applyOp s e first r (load r' w trap v) = loaded s e first r' (opRd w) trap v := by
  cases v with
  | some v => simp [load, loaded, setReg]
  | none =>
    cases trap with
    | false => simp [load, loaded, setReg]
    | true => obtain h | rfl := h
              · exact absurd h (by decide)
              · simp [load, loaded, applyOp]

@[simp] theorem applyOp_abort (s : State) (e : Nat) (first : Bool) (r : Run) (c : Nat) :
    applyOp s e first r (.abort c) = abortRun s e first r c := rfl

@[simp] theorem applyOp_setOut (s : State) (e : Nat) (first : Bool) (r : Run) (o : Nat) (b : OutBuf) :
    applyOp s e first r (.go (setOut r o b) false) = wrote s e first r o b := by
  simp [setOut, wrote]

@[simp] theorem applyOp_append (s : State) (e : Nat) (first : Bool) (r : Run) (o : Nat) (b : OutBuf) (bs : Bytes) :
    applyOp s e first r (append s r o b bs) = appended s e first r o b bs := by
  unfold append appended
  dsimp only
  split
  · rfl
  · exact applyOp_setOut _ _ _ _ _ _

/-- A micro-op that writes to the current output, where one is open. -/
theorem onOut_cur {r : Run} {o : Nat} {b : OutBuf} (h : curOut r = some (o, b)) (f : Nat → OutBuf → OpRes) : onOut r f = f o b := by
  unfold onOut
  rw [h]

end Sys2Proof.Laws
end

