-- ==== Sys2Proof/Machine/Survey.lean ====
section
/-! DEFINITION. The survey space (R509 to R512, R552): what a read of BAR4 answers. It is a view: no command reads it, and a read changes
no state. -/

namespace Sys2Proof.Machine

/-- The byte at a survey offset where the spec names what stands there and leaves its layout open: the places of the objects in their
block's area, the pointers of the queues, the stage views. Uninterpreted. (DESIGN CHOICE: log 71) -/
opaque surveyInner (s : State) (off : Nat) : Byte

/-- The byte at a DRAM address that the survey's window shows (R509). The spec lays out the objects there and not their places: uninterpreted. (DESIGN CHOICE: log 71) -/
opaque surveyDram (s : State) (addr : Nat) : Byte

/-- Whether a read of BAR4 completes normally (R509): 4 to 64 bytes, naturally aligned, which then cross no 64-byte boundary. -/
def surveyReadOk (off len : Nat) : Bool :=
  [4, 8, 16, 32, 64].contains len && decide (off % len = 0 ∧ off + len ≤ 2 ^ 28)

/-- How many objects each block has (R552), from block 0x01 on. -/
def surveyCounts : List Nat := [3, 3, 3, 8, 6, 6, 4, 8, 1, 5, 7, 3, 7, 7, 3, 6, 5, 2, 1, 2]

/-- The object numbers in the order of the directory (R552): the two general objects, then each block's. -/
def surveyObjects : List Nat :=
  [1, 2] ++ ((List.range 20).map (fun b => (List.range (surveyCounts.getD b 0)).map (fun i => 256 * (b + 1) + i + 1))).flatten

/-- The objects that lie in DRAM (R552): overflow slots, the peat image and staging, the snapshot area, the journal blocks. -/
def surveyDramObjects : List Nat := [0x0408, 0x0E01, 0x0E02, 0x1105, 0x1301]

/-- Byte `i` of the directory (R510): of each entry the object number, the block and the DRAM flag; an entry of zeros ends the list. (DESIGN CHOICE: log 71) -/
def surveyDirectory (s : State) (i : Nat) : Byte :=
  match surveyObjects[i / 16]? with
  | none => 0#8
  | some n => match i % 16 with
    | 0 => BitVec.ofNat 8 n
    | 1 => BitVec.ofNat 8 (n / 256)
    | 2 => BitVec.ofNat 8 (n / 256)
    | 3 => (surveyInner s i &&& 0xFD#8) ||| (if surveyDramObjects.contains n then 2#8 else 0#8)
    | 14 => 0#8
    | 15 => 0#8
    | _ => surveyInner s i

/-- The copies of a class that wait in the class lists of all ports (R211). -/
def surveyClass (s : State) (c : Nat) : Nat :=
  ((List.range 105).map (fun q => ((eg s q).waiting.filter (fun x => decide (x.sent.cls = c))).length)).sum

/-- What a queue of *Survey queue numbers* holds, and its depth in credits where it has them (R28, R511). -/
def surveyQueue (s : State) (q : Nat) : Option (Nat × Option Nat) :=
  let staging (i : Nat) := ((port s i).staging.length, some (stagingDepth i).1)
  if 1 ≤ q ∧ q ≤ 0x70 then
    if q - 1 ≤ 104 ∨ q - 1 = 110 ∨ q - 1 = 111 then some (staging (q - 1)) else none
  else if q = 0x100 then some (s.stb.classified.length, some 1024)
  else if q = 0x101 then some (s.flt.filtered.length, some 1024)
  else if 0x110 ≤ q ∧ q ≤ 0x11F then some ((engine s (q - 0x110)).queue.length, some 32)
  else if q = 0x120 then some (s.com.intake.length, some 256)
  else if 0x130 ≤ q ∧ q ≤ 0x137 then some (surveyClass s (q - 0x130), none)
  else if 0x140 ≤ q ∧ q ≤ 0x144 then some ((s.stb.misses.filter (fun m => decide (m.engine = q - 0x140))).length, some 64)
  else if q = 0x150 then some (s.map.holds.length, some 4096)
  else if q = 0x151 then some (s.stb.lvcQueue.length, some 256)
  else if q = 0x152 then some (s.flt.bogIntake.length, some 64)
  else if q = 0x153 then some (s.dgn.intake.length, some 64)
  else if q = 0x154 then some (s.stw.intake.length, some 256)
  else if q = 0x200 + 109 then some (s.jrn.queue.length, some 256)
  else if 0x200 ≤ q ∧ q ≤ 0x200 + 104 then some ((eg s (q - 0x200)).queue.length, some 32)
  else if 0x280 ≤ q ∧ q ≤ 0x282 then some ((lane s (q - 0x280)).list.length, some 8192)
  else if q = 0x304 then some (s.saf.status.length, some 16)
  else if (0x300 ≤ q ∧ q ≤ 0x303) ∨ (0x310 ≤ q ∧ q ≤ 0x315) ∨ (0x320 ≤ q ∧ q ≤ 0x331) then some (0, none)
  else none

/-- Byte `i` of a queue view (R510): occupancy, the credits the sender holds, and whether it is non-empty or stalled. Its pointers, its
watchdog and its handshake are open. A number that names no queue, and one whose domain is off, read 0 (R511, R512). (DESIGN CHOICE: log 71) -/
def surveyQueueView (s : State) (q i : Nat) : Byte :=
  let at_ := surveyInner s (0x10000 + 16 * q + i)
  match surveyQueue s q, queueDomain q with
  | some (n, depth), some d =>
    if domainOn s d = false then 0#8
    else
      let credits := match depth with
        | some m => some (m - n)
        | none => none
      match i with
      | 8 => BitVec.ofNat 8 n
      | 9 => BitVec.ofNat 8 (n / 256)
      | 10 => (credits.map (BitVec.ofNat 8)).getD at_
      | 11 => (credits.map (fun c => BitVec.ofNat 8 (c / 256))).getD at_
      | 14 => (at_ &&& 0x06#8) ||| (if n = 0 then 0#8 else 1#8) |||
          (if fld s Reg.DEV_STALL_SITE 15 0 = q then 8#8 else 0#8)
      | 15 => 0#8
      | _ => at_
  | _, _ => 0#8

/-- The domain whose power a block's area needs (R512, R517), by its first register. -/
def surveyDomain (b : Nat) : Nat := domainOf (match b with
  | 1 => 0
  | 2 => 0x10000
  | 3 => 0x20000
  | 4 => 0x40000
  | 5 => 0x60000
  | 6 => 0x70000
  | 7 => 0x80000
  | _ => 0xA0000 + 0x10000 * (b - 8))

/-- The byte at an offset of BAR4 (*Survey space*, R509). The key cells read 0 (R423): they are no object of the directory. (DESIGN CHOICE: log 71) -/
def surveyByte (s : State) (off : Nat) : Byte :=
  if off < 0x10000 then surveyDirectory s off
  else if off < 0x20000 then surveyQueueView s ((off - 0x10000) / 16) (off % 16)
  else if off < 0x100000 then surveyInner s off
  else if 0x800000 ≤ off ∧ off < 0xA800000 then
    if domainOn s (surveyDomain (off / 0x800000)) then surveyInner s off else 0#8
  else if 0xC000000 ≤ off ∧ off < 0x10000000 then
    surveyDram s ((fld s Reg.DGN_SURVEY_DRAM_HI 1 0 * 2 ^ 32 + fld s Reg.DGN_SURVEY_DRAM_LO 31 26 * 2 ^ 26) + (off - 0xC000000))
  else 0#8

/-- A read of BAR4 (R509, R512): none is a Completer Abort. The bytes stand as they are at one moment, and no state changes. (DESIGN CHOICE: log 71) -/
def surveyRead (s : State) (off len : Nat) : Option Bytes :=
  if surveyReadOk off len then some ((List.range len).map (fun i => surveyByte s (off + i))) else none

/-- A write to BAR4 is discarded without error (R509). -/
def surveyWrite (s : State) : State := s

end Sys2Proof.Machine
end

