-- ==== Sys2Proof/WellFormed.lean ====
section
/-! DEFINITION. Well-formed commands: the operands that the world outside can put into each command. The machine does not
rely on it: every command has its meaning on any operands. -/

namespace Sys2Proof

/-- A requester names one of the three lane endpoints (R542). -/
def reqOk : Req → Bool
  | .fn lane _ => decide (lane < 3)
  | .steward => true

/-- The header of a frame of the inter-unit link (R385): one of two paths, a 32-bit number, a DEV_STATE code, a 32-bit epoch. -/
def headOk (h : IuHead) : Bool := decide (h.path < 2) && decide (h.seq < 2 ^ 32) && decide (h.dev < 8) && decide (h.epoch < 2 ^ 32)

/-- Whether the operands of a command lie in their ranges: port indices (R5), object numbers, register fields. -/
def wellFormed (c : Instr) : Bool :=
  match c with
  | .registerWrite r off width value => reqOk r && decide (off < 2 ^ 24) && decide (width = 8 ∨ width = 16 ∨ width = 32 ∨ width = 64) && decide (value < 2 ^ width)
  | .latchingRead r off width => reqOk r && decide (off < 2 ^ 24) && decide (width = 8 ∨ width = 16 ∨ width = 32 ∨ width = 64)
  | .msixUnmask r vec => reqOk r && decide (vec < 64)
  | .spSentenceEnd n => decide (n < 64)
  | .spGapEnd n => decide (n < 64)
  | .charTimeout n => decide (n < 64)
  | .crWaitExpiry n => decide (n < 64)
  | .breakOutsideSentence n => decide (n < 64)
  | .canFrameEnd n id ide _ fd data _ t e => decide (64 ≤ n ∧ n ≤ 79) && decide (id < 2 ^ (if ide then 29 else 11)) && decide (data.length ≤ if fd then 64 else 8) && decide (t ≤ e)
  | .canBusOff n _ => decide (64 ≤ n ∧ n ≤ 79)
  | .canBusOffRecovery n => decide (64 ≤ n ∧ n ≤ 79)
  | .mvbSlaveFrameEnd n _ _ _ t e => decide (80 ≤ n ∧ n ≤ 83) && decide (t ≤ e)
  | .mvbMasterFrame n addr code => decide (80 ≤ n ∧ n ≤ 83) && decide (addr < 4096) && decide (code < 16)
  | .mvbPoll n => decide (80 ≤ n ∧ n ≤ 83)
  | .ethFrameEnd n _ t e => decide (84 ≤ n ∧ n ≤ 103) && decide (t ≤ e)
  | .prpNodeForget pair mac => decide (pair < 10) && decide (mac < 2 ^ 48)
  | .prpPathLost pair mac path => decide (pair < 10) && decide (mac < 2 ^ 48) && decide (1 ≤ path ∧ path ≤ 2)
  | .pauseFrameReceived n quanta => decide (84 ≤ n ∧ n ≤ 103) && decide (quanta < 65536)
  | .linkDown n _ => decide (84 ≤ n ∧ n ≤ 103)
  | .linkUp n => decide (84 ≤ n ∧ n ≤ 103)
  | .portStagingEntry n => decide (n < 105)
  | .portEnable r n => reqOk r && decide (n < 105)
  | .portDisable r n => reqOk r && decide (n < 105)
  | .portDrainComplete n => decide (n < 105)
  | .portDrainLimit n => decide (n < 105)
  | .prtCntClearPort r n => reqOk r && decide (n < 105)
  | .prtCntClearAll r => reqOk r
  | .stewardSentence _ _ => true
  | .classify n => decide (n < 112)
  | .wildcardSearch => true
  | .insertionComplete => true
  | .streamAdmit r id => reqOk r && decide (id < 65536)
  | .streamReject r id => reqOk r && decide (id < 65536)
  | .streamRelease r id => reqOk r && decide (id < 65536)
  | .wholeSecond => true
  | .learnedEntryEmpty id => decide (id < 65536)
  | .streamEnable r id => reqOk r && decide (id < 65536)
  | .streamDisable r id => reqOk r && decide (id < 65536)
  | .streamClearCounters r id => reqOk r && decide (id < 65536)
  | .streamClearLastValue r id => reqOk r && decide (id < 65536)
  | .streamDrainComplete id => decide (id < 65536)
  | .streamDrainLimit id => decide (id < 65536)
  | .lvcWrite => true
  | .stbCntClearGlobal r => reqOk r
  | .stbCntClearRules r => reqOk r
  | .stbCntClearStreams r => reqOk r
  | .filterEvaluate => true
  | .bogWrite => true
  | .sourceForce r g m => reqOk r && decide (g < 256) && decide (m < 4)
  | .sourceRelease r g => reqOk r && decide (g < 256)
  | .fltCntClearCounters r => reqOk r
  | .fltCntClearBog r => reqOk r
  | .mapperDispatch => true
  | .holdLimitExpiry _ => true
  | .mapRunStart e _ => decide (e < 16)
  | .class0Preempt e => decide (e < 16)
  | .opEnd e => decide (e < 16)
  | .opDrop e => decide (e < 16)
  | .opSkip e => decide (e < 16)
  | .opLdc e => decide (e < 16)
  | .opLds e => decide (e < 16)
  | .opLdb e => decide (e < 16)
  | .opLdt e => decide (e < 16)
  | .opLdtm e => decide (e < 16)
  | .opLdch e => decide (e < 16)
  | .opLdv e => decide (e < 16)
  | .ldvDramReadComplete e => decide (e < 16)
  | .opLva e => decide (e < 16)
  | .opSrcl e => decide (e < 16)
  | .opMov e => decide (e < 16)
  | .opAdd e => decide (e < 16)
  | .opSub e => decide (e < 16)
  | .opAddi e => decide (e < 16)
  | .opMul e => decide (e < 16)
  | .opDiv e => decide (e < 16)
  | .opScale e => decide (e < 16)
  | .opMin e => decide (e < 16)
  | .opMax e => decide (e < 16)
  | .opAbs e => decide (e < 16)
  | .opNeg e => decide (e < 16)
  | .opAnd e => decide (e < 16)
  | .opOr e => decide (e < 16)
  | .opXor e => decide (e < 16)
  | .opAndi e => decide (e < 16)
  | .opOri e => decide (e < 16)
  | .opEqi e => decide (e < 16)
  | .opRchk e => decide (e < 16)
  | .opInterp e => decide (e < 16)
  | .opNewo e => decide (e < 16)
  | .opSelo e => decide (e < 16)
  | .opCpy e => decide (e < 16)
  | .opStb e => decide (e < 16)
  | .opStt e => decide (e < 16)
  | .opStm e => decide (e < 16)
  | .opApc e => decide (e < 16)
  | .opApf e => decide (e < 16)
  | .opCsum e => decide (e < 16)
  | .opStmk e => decide (e < 16)
  | .mapOvertime e => decide (e < 16)
  | .commitGroupHandover e _ => decide (e < 16)
  | .mapEngineTakeOut r e => reqOk r && decide (e < 16)
  | .mapEngineReturn r e => reqOk r && decide (e < 16)
  | .mapEngineEmptied e => decide (e < 16)
  | .progEnable r p => reqOk r && decide (p < 4096)
  | .progDisable r p => reqOk r && decide (p < 4096)
  | .progClearCounters r p => reqOk r && decide (p < 4096)
  | .progDrainComplete p => decide (p < 4096)
  | .progDrainLimit p => decide (p < 4096)
  | .cycEnable r i => reqOk r && decide (i < 256)
  | .cycDisable r i => reqOk r && decide (i < 256)
  | .cycClearOverlap r i => reqOk r && decide (i < 256)
  | .mapCntClearGlobal r => reqOk r
  | .mapCntClearPrograms r => reqOk r
  | .commit => true
  | .replicate => true
  | .egressSchedule q => decide (q < 105)
  | .copyStart q => decide (q < 105)
  | .sealTagComplete q => decide (q < 105)
  | .canArbitrationLost q => decide (q < 105)
  | .canArbitrationTimeout q => decide (q < 105)
  | .linkDownHoldExpiry q => decide (q < 105)
  | .preemptVerifyDone q _ => decide (q < 105)
  | .listenerEnable r l => reqOk r && decide (l < 16384)
  | .listenerDisable r l => reqOk r && decide (l < 16384)
  | .listenerJoin r l => reqOk r && decide (l < 16384)
  | .listenerLeave r l => reqOk r && decide (l < 16384)
  | .listenerClearCounters r l => reqOk r && decide (l < 16384)
  | .listenerDrainComplete l => decide (l < 16384)
  | .listenerDrainLimit l => decide (l < 16384)
  | .replayCopy l => decide (l < 16384)
  | .replayLimitExpiry l => decide (l < 16384)
  | .egressPortEnable r q => reqOk r && decide (q < 105)
  | .egressPortDisable r q => reqOk r && decide (q < 105)
  | .egressPortDrainComplete q => decide (q < 105)
  | .egressPortDrainLimit q => decide (q < 105)
  | .egrCntClearGlobal r => reqOk r
  | .egrCntClearPorts r => reqOk r
  | .journalRecord => true
  | .journalCloseTimeout => true
  | .journalScanDone => true
  | .journalExport r _ => reqOk r
  | .journalExportDone => true
  | .journalEnable r => reqOk r
  | .journalDisable r => reqOk r
  | .journalDrainComplete => true
  | .journalDrainLimit => true
  | .jrnCntClearCounters r => reqOk r
  | .journalRestart r => reqOk r
  | .laneCopyWrite k => decide (k < 3)
  | .laneHoldExpiry k => decide (k < 3)
  | .gapWrite k => decide (k < 3)
  | .rxTailWrite r k _ => reqOk r && decide (k < 3)
  | .laneDeliveryEnable r k => reqOk r && decide (k < 3)
  | .laneDeliveryDisable r k => reqOk r && decide (k < 3)
  | .laneDrainComplete k => decide (k < 3)
  | .laneDrainLimit k => decide (k < 3)
  | .tx0EnableWrite r k _ => reqOk r && decide (k < 3)
  | .tx1EnableWrite r k _ => reqOk r && decide (k < 3)
  | .txTailWrite r k _ _ => reqOk r && decide (k < 3)
  | .laneLinkDown k => decide (k < 3)
  | .laneLinkUp k => decide (k < 3)
  | .lniCntClear r _ => reqOk r
  | .txFetchComplete k _ desc payload => decide (k < 3) && decide (desc.length = 32) && decide (payload.length < 16384)
  | .windowTimeout v _ _ => decide (v < 4096)
  | .laneOutCmd r k => reqOk r && decide (k < 3)
  | .laneReturnCmd r k => reqOk r && decide (k < 3)
  | .voterStreamEnable r v => reqOk r && decide (v < 4096)
  | .voterStreamDisable r v => reqOk r && decide (v < 4096)
  | .voterStreamClear r v => reqOk r && decide (v < 4096)
  | .voterStreamDrainLimit v => decide (v < 4096)
  | .votCntClearGlobal r => reqOk r
  | .votCntClearLanes r => reqOk r
  | .votCntClearStreams r => reqOk r
  | .bridgeDirectRead lane _ w offset len tag => decide (lane < 3) && decide (w < 256) && decide (offset < 65536) && decide (1 ≤ len ∧ len ≤ 64) && decide (tag < 1024)
  | .bridgeDirectWrite lane _ w offset data => decide (lane < 3) && decide (w < 256) && decide (offset < 65536) && decide (1 ≤ data.length ∧ data.length ≤ 64)
  | .brgCmdRead lane _ op w tag offset len buffer => decide (lane < 3) && decide (op < 256) && decide (w < 256) && decide (tag < 65536) && decide (offset < 65536) && decide (len < 65536) && decide (buffer < 2 ^ 64)
  | .brgCmdWrite lane _ w tag offset len _ => decide (lane < 3) && decide (w < 256) && decide (tag < 65536) && decide (offset < 65536) && decide (len < 65536)
  | .brgCmdSemAcquire lane _ sem tag => decide (lane < 3) && decide (sem < 128) && decide (tag < 65536)
  | .brgCmdSemRelease lane _ sem tag => decide (lane < 3) && decide (sem < 128) && decide (tag < 65536)
  | .brgRingEnable r kw _ => reqOk r && decide (kw < 6)
  | .exchangeIssue => true
  | .responseMatch _ => true
  | .exchangeTimeout _ => true
  | .lateLogRelease r k _ => reqOk r && decide (k < 3)
  | .lateUnfence r k _ => reqOk r && decide (k < 3)
  | .prefetchComplete => true
  | .semAcquireReg r n => reqOk r && decide (n < 128)
  | .semReleaseReg r n => reqOk r && decide (n < 128)
  | .semLeaseExpiry n => decide (n < 128)
  | .windowEnable r w => reqOk r && decide (w < 256)
  | .windowDisable r w => reqOk r && decide (w < 256)
  | .windowClearCounters r w => reqOk r && decide (w < 256)
  | .windowDrainLimit w => decide (w < 256)
  | .brgCntClearGlobal r => reqOk r
  | .brgCntClearWindows r => reqOk r
  | .periodBoundary => true
  | .checkpointLate => true
  | .paceUpdate _ => true
  | .nodeEnable r n => reqOk r && decide (n < 8192)
  | .nodeDisable r n => reqOk r && decide (n < 8192)
  | .nodeClearCounters r n => reqOk r && decide (n < 8192)
  | .nodeTakeOut r n => reqOk r && decide (n < 8192)
  | .nodeReturn r n => reqOk r && decide (n < 8192)
  | .nodeDrainLimit n => decide (n < 8192)
  | .bgtCntClearGlobal r => reqOk r
  | .bgtCntClearNodes r => reqOk r
  | .bgtCntClearPace r => reqOk r
  | .incStage r _ => reqOk r
  | .incCommit r _ => reqOk r
  | .timeStep r => reqOk r
  | .timeSlew r => reqOk r
  | .timeSet r => reqOk r
  | .slewComplete => true
  | .leapArm r _ => reqOk r
  | .leapApply => true
  | .triggerArm r t => reqOk r && decide (t < 64)
  | .triggerDisarm r t => reqOk r && decide (t < 64)
  | .triggerFire t => decide (t < 64)
  | .triggerPulseEnd t => decide (t < 64)
  | .captureEdge c _ _ => decide (c < 8)
  | .captureRead r c => reqOk r && decide (c < 8)
  | .departureLogRead r => reqOk r
  | .refclkLost => true
  | .refclkReturned => true
  | .holdoverEnd => true
  | .holdoverLong => true
  | .timCntClearGlobal r => reqOk r
  | .timCntClearTriggers r => reqOk r
  | .timCntClearCaptures r => reqOk r
  | .cdbCycleStart => true
  | .cdbIdleSegment => true
  | .cbFrameEnd _ _ _ _ _ => true
  | .cdbSlotTransmit k _ => decide (1 ≤ k ∧ k ≤ 1023)
  | .listenTimeout => true
  | .startupComplete => true
  | .integrationComplete => true
  | .passiveRecovery => true
  | .passiveTimeout => true
  | .syncLostTimeout => true
  | .channelLost _ => true
  | .engineEnable r => reqOk r
  | .engineDisable r => reqOk r
  | .cdbRestart r => reqOk r
  | .slotClaim r k => reqOk r && decide (1 ≤ k ∧ k ≤ 1023)
  | .slotRelease r k => reqOk r && decide (1 ≤ k ∧ k ≤ 1023)
  | .claimConfirmed k => decide (1 ≤ k ∧ k ≤ 1023)
  | .claimBackoffEnd k => decide (1 ≤ k ∧ k ≤ 1023)
  | .claimLapse k => decide (1 ≤ k ∧ k ≤ 1023)
  | .cdbCntClearGlobal r => reqOk r
  | .cdbCntClearNodes r => reqOk r
  | .leaseGrant r k => reqOk r && decide (k < 3)
  | .leaseWitness r k => reqOk r && decide (k < 3)
  | .leaseRevoke r k => reqOk r && decide (k < 3)
  | .grantBecomesCurrent k => decide (k < 3)
  | .grantLapse k => decide (k < 3)
  | .takeoverComplete _ _ => true
  | .relinquishCmd r => reqOk r
  | .joinCmd r => reqOk r
  | .heartbeatSend => true
  | .heartbeatReceived h _ _ _ => headOk h
  | .mirrorReceived h _ _ => headOk h
  | .commitLogReceived h _ => headOk h
  | .digestReceived h q _ => headOk h && decide (q < 2 ^ 64)
  | .divergenceDecide => true
  | .peatBlockReceived h b _ => headOk h && decide (b < 384)
  | .peatCommitReceived h q _ _ => headOk h && decide (q < 2 ^ 64)
  | .peatImageCopyDone => true
  | .relinquishReceived h => headOk h
  | .joinReceived h => headOk h
  | .iuCopyReceived h _ _ => headOk h
  | .iuPathLost _ => true
  | .peatStale => true
  | .redCntClear r => reqOk r
  | .kvtGenerate r k => reqOk r && decide (k < 256)
  | .kvtDerive r k source label => reqOk r && decide (k < 256) && decide (source < 256) && decide (label < 256)
  | .kvtUnwrap r k source _ => reqOk r && decide (k < 256) && decide (source < 256)
  | .kvtLoad r k => reqOk r && decide (k < 256)
  | .kvtCommit r k => reqOk r && decide (k < 256)
  | .kvtDiscard r k => reqOk r && decide (k < 256)
  | .kvtInvalidate r k => reqOk r && decide (k < 256)
  | .kvtZeroize r k => reqOk r && decide (k < 256)
  | .kvtClear r k => reqOk r && decide (k < 256)
  | .kvtWrap r k source => reqOk r && decide (k < 256) && decide (source < 256)
  | .newRoot r => reqOk r
  | .kcvCheck r k value => reqOk r && decide (k < 256) && decide (value < 2 ^ 24)
  | .kvtOpComplete _ _ => true
  | .orphanSweepDone => true
  | .remask => true
  | .lifecycleMove r _ => reqOk r
  | .debugOpen _ _ _ => true
  | .tamperDetect code => decide (1 ≤ code ∧ code ≤ 5)
  | .tamperStatusClear r => reqOk r
  | .tamperLogClear r => reqOk r
  | .kvtCntClear r => reqOk r
  | .safetyStart => true
  | .safePorstAssert => true
  | .safeHCycle _ => true
  | .safePEvaluate _ => true
  | .odoEdge odo _ _ sub => decide (odo < 2) && decide (sub < 40000)
  | .crosslinkFrameSend who => decide (1 ≤ who ∧ who ≤ 2)
  | .crosslinkFrameReceived who _ => decide (1 ≤ who ∧ who ≤ 2)
  | .crosslinkStale who => decide (1 ≤ who ∧ who ≤ 2)
  | .clockCheck who => decide (1 ≤ who ∧ who ≤ 2)
  | .safePLockstepFault => true
  | .safePWatchdogExpiry => true
  | .paramRecheck who held => decide (1 ≤ who ∧ who ≤ 2) && decide (held.length = 1024)
  | .testPulseStart who n => decide (1 ≤ who ∧ who ≤ 2) && decide (n < 8)
  | .testPulseEnd who n _ => decide (1 ≤ who ∧ who ≤ 2) && decide (n < 8)
  | .safCntClear r => reqOk r
  | .porstAssert => true
  | .porstRelease => true
  | .domainPowerStep => true
  | .pllLocked => true
  | .pllLockTimeout => true
  | .directoryRead => true
  | .sramBistDone _ _ => true
  | .dramTrained _ => true
  | .bodyReadDone _ _ => true
  | .startComplete => true
  | .startSettled => true
  | .startClearCounters r => reqOk r
  | .startRestart r => reqOk r
  | .startClearAndRestart r => reqOk r
  | .secverRaise r _ => reqOk r
  | .stageDelta r _ => reqOk r
  | .validateShadows r => reqOk r
  | .discardShadows r => reqOk r
  | .cfgCmdDone => true
  | .swapGlobal r => reqOk r
  | .swapPerRegion r => reqOk r
  | .swapCancel r => reqOk r
  | .profileStageSwap r n => reqOk r && decide (n < 8)
  | .mergeStart => true
  | .mergeDone => true
  | .repairPortOut r p => reqOk r && decide (p < 105)
  | .repairPortReturn r p => reqOk r && decide (p < 105)
  | .repairClassifierOut r e => reqOk r && decide (e < 5)
  | .repairClassifierReturn r e => reqOk r && decide (e < 5)
  | .repairPartitionOut r p => reqOk r && decide (p < 16)
  | .repairPartitionReturn r p => reqOk r && decide (p < 16)
  | .repairBankOut r b => reqOk r && decide (b < 17)
  | .repairBankReturn r b => reqOk r && decide (b < 17)
  | .bankRemapDone => true
  | .repairMapEngineOut r e => reqOk r && decide (e < 16)
  | .repairMapEngineReturn r e => reqOk r && decide (e < 16)
  | .repairSubtreeOut r n => reqOk r && decide (n < 8192)
  | .repairSubtreeReturn r n => reqOk r && decide (n < 8192)
  | .nvmErase r => reqOk r
  | .nvmProgram r data => reqOk r && decide (1 ≤ data.length ∧ data.length ≤ 4096)
  | .nvmRead r len => reqOk r && decide (1 ≤ len ∧ len ≤ 4096)
  | .nvmOpDone _ => true
  | .cfgCntClear r => reqOk r
  | .watchdogExpiry _ _ => true
  | .errorRecordWrite => true
  | .ejClearRecords r => reqOk r
  | .ejClearSources r => reqOk r
  | .ejClearBoth r => reqOk r
  | .clearAll r _ => reqOk r
  | .selftestRequest r target element _ => reqOk r && decide (target < 8) && decide (element < 32)
  | .selftestSlice target element _ progress => decide (target < 8) && decide (element < 32) && decide (progress < 256)
  | .selftestPassComplete target element _ => decide (target < 8) && decide (element < 32)
  | .spareRotation _ => true
  | .snapshotCmd r block => reqOk r && decide (block < 32)
  | .snapshotDone _ => true
  | .scrubLine _ _ _ => true
  | .tempSample _ => true
  | .dgnCntClear r => reqOk r
  | .stewardWatchdogExpiry => true
  | .stewardLockstepFault => true
  | .powerMonitorTrip domain _ _ => decide (1 ≤ domain ∧ domain ≤ 15)
  | .vbatLowEnd _ => true
  | .readVoutCheck _ _ => true
  | .pmbAlert word => decide (word < 65536)
  | .pwrCntClear r => reqOk r
  | .sentencePortCharacter n _ _ _ => decide (n < 64)
  | .copyTransmissionEnd q => decide (q < 105)
  | .peatConfirmationReceived h q => headOk h && decide (q < 2 ^ 64)
  | .divergenceTestRequestReceived h _ => headOk h
  | .safetyRailReturn who => decide (1 ≤ who ∧ who ≤ 2)
  | .vbatApplied => true
  | .vbatLost => true
  | .aonPowerLost => true
  | .standbyBistStart => true
  | .standbyBistDone => true
  | .moderationIntervalExpiry lane _ vec => decide (lane < 3) && decide (vec < 64)
  | .receivedPauseExpiry n => decide (84 ≤ n ∧ n ≤ 103)
  | .brgCompletionTailWrite r kw _ _ => reqOk r && decide (kw < 6)

end Sys2Proof
end

