-- ==== Sys2Proof/Tests/Slice0.lean ====
section
/-! SUPPORT. The model's own tests: an ill-formed command for every check, a few values of the manual, and for every statement with
hypotheses a state and operands that meet them. -/

namespace Sys2Proof.Tests

open Sys2Proof Sys2Proof.Machine Sys2Proof.Safety

set_option Elab.async false

/-- Each breaks one check of `wellFormed`. -/
theorem test_wellFormed_refuses_a :
    ([.registerWrite (.fn 3 true) 1 32 1,
      .registerWrite (.fn 0 true) (2 ^ 24) 32 1,
      .registerWrite (.fn 0 true) 1 24 1,
      .registerWrite (.fn 0 true) 1 8 256,
      .msixUnmask (.fn 0 true) 64,
      .spSentenceEnd 64,
      .canFrameEnd 63 1 true true true [1#8] 1 1 1,
      .canFrameEnd 80 1 true true true [1#8] 1 1 1,
      .canFrameEnd 64 2048 false true true [1#8] 1 1 1,
      .canFrameEnd 64 1 true true false (List.replicate 9 0#8) 1 1 1,
      .canFrameEnd 64 1 true true true [1#8] 1 2 1,
      .mvbSlaveFrameEnd 79 1 1 [1#8] 1 1,
      .mvbSlaveFrameEnd 84 1 1 [1#8] 1 1,
      .mvbMasterFrame 80 4096 1,
      .mvbMasterFrame 80 1 16] : List Instr).all (fun c => !wellFormed c) = true := by decide +kernel

/-- Each breaks one check of `wellFormed`. -/
theorem test_wellFormed_refuses_b :
    ([.ethFrameEnd 83 [1#8] 1 1,
      .ethFrameEnd 104 [1#8] 1 1,
      .prpNodeForget 10 1,
      .prpNodeForget 1 (2 ^ 48),
      .prpPathLost 1 1 0,
      .prpPathLost 1 1 3,
      .pauseFrameReceived 84 65536,
      .portStagingEntry 105,
      .classify 112,
      .streamAdmit (.fn 0 true) 65536,
      .sourceForce (.fn 0 true) 256 1,
      .sourceForce (.fn 0 true) 1 4,
      .mapRunStart 16 true,
      .progEnable (.fn 0 true) 4096,
      .cycEnable (.fn 0 true) 256] : List Instr).all (fun c => !wellFormed c) = true := by decide +kernel

/-- Each breaks one check of `wellFormed`. -/
theorem test_wellFormed_refuses_c :
    ([.egressSchedule 105,
      .listenerEnable (.fn 0 true) 16384,
      .laneCopyWrite 3,
      .txFetchComplete 1 true [] [1#8],
      .txFetchComplete 1 true (List.replicate 32 0#8) (List.replicate 16384 0#8),
      .windowTimeout 4096 1 1,
      .bridgeDirectRead 3 true 1 1 1 1,
      .bridgeDirectRead 1 true 256 1 1 1,
      .bridgeDirectRead 1 true 1 65536 1 1,
      .bridgeDirectRead 1 true 1 1 0 1,
      .bridgeDirectRead 1 true 1 1 65 1,
      .bridgeDirectRead 1 true 1 1 1 1024,
      .bridgeDirectWrite 1 true 1 1 [],
      .bridgeDirectWrite 1 true 1 1 (List.replicate 65 0#8),
      .brgCmdRead 1 true 256 1 1 1 1 1] : List Instr).all (fun c => !wellFormed c) = true := by decide +kernel

/-- Each breaks one check of `wellFormed`. -/
theorem test_wellFormed_refuses_d :
    ([.brgCmdRead 1 true 1 1 65536 1 1 1,
      .brgCmdRead 1 true 1 1 1 1 65536 1,
      .brgCmdRead 1 true 1 1 1 1 1 (2 ^ 64),
      .brgCmdSemAcquire 1 true 128 1,
      .brgRingEnable (.fn 0 true) 6 0#32,
      .semAcquireReg (.fn 0 true) 128,
      .nodeEnable (.fn 0 true) 8192,
      .triggerArm (.fn 0 true) 64,
      .captureEdge 8 true 1,
      .cdbSlotTransmit 0 true,
      .cdbSlotTransmit 1024 true,
      .heartbeatReceived ⟨2, 0, 0, 0⟩ 1 1 none,
      .heartbeatReceived ⟨0, 2 ^ 32, 0, 0⟩ 1 1 none,
      .heartbeatReceived ⟨0, 0, 8, 0⟩ 1 1 none,
      .heartbeatReceived ⟨0, 0, 0, 2 ^ 32⟩ 1 1 none] : List Instr).all (fun c => !wellFormed c) = true := by decide +kernel

/-- Each breaks one check of `wellFormed`. -/
theorem test_wellFormed_refuses_e :
    ([.digestReceived ⟨0, 0, 0, 0⟩ (2 ^ 64) 1,
      .peatBlockReceived ⟨0, 0, 0, 0⟩ 384 ⟨0, 0, 0, true, []⟩,
      .kvtGenerate (.fn 0 true) 256,
      .kvtDerive (.fn 0 true) 1 256 1,
      .kvtDerive (.fn 0 true) 1 1 256,
      .kcvCheck (.fn 0 true) 1 (2 ^ 24),
      .tamperDetect 0,
      .tamperDetect 6,
      .odoEdge 2 true true 1,
      .odoEdge 1 true true 40000,
      .crosslinkFrameSend 0,
      .crosslinkFrameSend 3,
      .paramRecheck 1 [],
      .testPulseStart 1 8,
      .repairPortOut (.fn 0 true) 105] : List Instr).all (fun c => !wellFormed c) = true := by decide +kernel

/-- Each breaks one check of `wellFormed`. -/
theorem test_wellFormed_refuses_f :
    ([.repairClassifierOut (.fn 0 true) 5,
      .repairPartitionOut (.fn 0 true) 16,
      .repairBankOut (.fn 0 true) 17,
      .nvmProgram (.fn 0 true) [],
      .nvmProgram (.fn 0 true) (List.replicate 4097 0#8),
      .nvmRead (.fn 0 true) 0,
      .nvmRead (.fn 0 true) 4097,
      .selftestRequest (.fn 0 true) 8 1 true,
      .selftestRequest (.fn 0 true) 1 32 true,
      .selftestSlice 1 1 1 256,
      .snapshotCmd (.fn 0 true) 32,
      .powerMonitorTrip 0 true 1,
      .powerMonitorTrip 16 true 1,
      .pmbAlert 65536] : List Instr).all (fun c => !wellFormed c) = true := by decide +kernel

/-- The identification registers (R1). -/
theorem test_reset_identification : rd State.reset Reg.DEV_ID = 0x6416#32 ∧ rd State.reset Reg.DEV_REV = 0xB1#32 := by decide +kernel
/-- The offset of the register index's example. -/
theorem test_offset_of_tx_comp : Reg.EGR_TX_COMP 57 = 0xA0498 := by decide
/-- The check value of CRC-32, of "123456789". -/
theorem test_crc32_check :
    crc32 [0x31#8, 0x32#8, 0x33#8, 0x34#8, 0x35#8, 0x36#8, 0x37#8, 0x38#8, 0x39#8] = 0xCBF43926 := by decide +kernel
/-- The worked example of chapter 17: 740 mV under VOUT_MODE 0x14, and its check byte. -/
theorem test_regulator_code : voutCode 0x14 740 = 0x0BD7 ∧ pec [0x80#8, 0x21#8, 0xD7#8, 0x0B#8] = 0xF9 := by decide +kernel
/-- The transparent Sync of chapter 7: I, D and the correctionField that arrives and that leaves. -/
theorem test_transparent_sync :
    oneStep State.reset true 7204918006248000 7204918006251843 (toBE 8 0 ++ toBE 8 0x18000 ++ List.replicate 28 0#8) =
      some (toBE 8 0 ++ toBE 8 0x3C24000 ++ List.replicate 28 0#8) := by decide +kernel
/-- Its origin stamp without ptp_transparent: the time, and the remainder of 3 units. -/
theorem test_one_step_sync :
    oneStep State.reset false 0 7204918006251843 (toBE 8 0 ++ toBE 8 0 ++ List.replicate 28 0#8) =
      some (toBE 8 0 ++ toBE 8 0xC000 ++ List.replicate 18 0#8 ++
        [0x00#8, 0x00#8, 0x00#8, 0x1B#8, 0x7C#8, 0x0D#8, 0x1D#8, 0xE5#8, 0x3E#8, 0x50#8]) := by decide +kernel
/-- The inserted leap second of chapter 10, pending. -/
def leapState : State :=
  { State.reset with regs := [(Reg.TIM_UTC_OFFSET, 40#32), (Reg.TIM_LEAP_AT, 1814400041#32), (Reg.TIM_LEAP_CTRL, 1#32)] }
/-- 23:59:59 and 23:59:60, as the table of chapter 10 gives them. -/
theorem test_inserted_leap_second :
    utcMillis leapState 7257600156000000000 = 86399000 ∧ utcSecond leapState 7257600156000000000 = 1814399999 ∧
      utcMillis leapState 7257600160000000000 = 86400000 ∧ utcSecond leapState 7257600160000000000 = 1814399999 := by decide +kernel
/-- R552 names object 0x0504; the directory lists it, and the two general objects first. -/
theorem test_survey_objects : 0x0504 ∈ surveyObjects ∧ surveyObjects.take 4 = [1, 2, 0x0101, 0x0102] ∧ surveyObjects.length = 92 := by
  decide +kernel

/-- A block in service: every domain on, ACTIVE, the transmit gate open. -/
def live : State :=
  { State.reset with
    dev := .active
    pwr := { porst := false, on := [1, 2, 3, 4, 5, 6, 7, 8, 9, 10, 11, 12, 13, 14, 15, 16], vbatMv := 3000 }
    red := { gate := true } }
/-- `live` with one ingress port's runtime state. -/
def atPort (n : Nat) (p : Port) : State := { live with prt := { ports := [(n, p)] } }
/-- A port that takes sentences. -/
def onPort : Port := { (default : Port) with state := 1, link := true }
/-- The guard's function of lane A. -/
def gd : Req := .fn 0 true
/-- The host's function of lane A. -/
def hf : Req := .fn 0 false
/-- A block whose image holds stream 3, keyed by kind `k`, in an enabled state. -/
def atStream (k : Nat) (st : Stream) : State :=
  { live with
    cfg := [(2 ^ 20 + 48, BitVec.ofNat 32 k), (2 ^ 20 + 48 + 9, 64#32)]
    stb := { streams := [(3, st)], parts := [1, 1, 1, 1, 1, 1, 1, 1, 1, 1, 1, 1, 1, 1, 1, 1], engines := [1, 1, 1, 1, 0] } }
/-- The key of stream 3 of `atStream 0x0B`, and a sentence that carries it. -/
def key3 : Bytes := 0x0B#8 :: List.replicate 23 0#8
def sent3 : Sent := { (default : Sent) with key := key3 }
/-- A block with stream 3 in its index and a sentence of it staged at port 3. -/
def classifying : State :=
  let s := atStream 0x0B { (default : Stream) with state := 1 }
  { s with prt := { ports := [(3, { onPort with staging := [sent3] })] }, stb := { s.stb with stash := [(digestOf 0 key3, 3)] } }
/-- A run of program 1 at its first micro-op. -/
def run1 : Run :=
  { (default : Run) with prog := 1, w := [1, 2, 3, 4, 5, 6, 7, 8], outs := [some ⟨[1#8, 2#8, 3#8, 4#8], [], []⟩, none, none, none], cur := some 0, since := some 0 }
/-- Engine 0 runs `r`, whose one micro-op has opcode `code`, and `rest` in its other bits. -/
def opRun (code rest : Nat) (r : Run) : State :=
  { live with
    cfg := [(2 ^ 22, BitVec.ofNat 32 rest), (2 ^ 22 + 1, BitVec.ofNat 32 ((code * 2 ^ 58 + rest) >>> 32)), (2 ^ 22 + 524288 + 8, 0x40000#32)]
    map := { engines := [(0, { (default : Engine) with state := 1, sh := some r })] } }
/-- Engine 0 runs program 1, whose one micro-op has opcode `code`, and `rest` in its other bits. -/
def opState (code rest : Nat) : State := opRun code rest run1
/-- A run with an IEC sentence, one with three snapshots and more, one with no output, one with zeros. -/
def runIec : Run := { run1 with input := { (default : Sent) with key := [1#8], payload := [0x24#8, 0x41#8, 0x2C#8, 0x35#8, 0x2A#8] } }
def snapOf (i : Nat) : Snap := { (default : Snap) with stream := i }
def runFull : Run := { run1 with snaps := [snapOf 11, snapOf 12, snapOf 13, snapOf 14] }
def runShut : Run := { run1 with cur := none }
def runZero : Run := { run1 with w := [0, 0, 0, 0, 0, 0, 0, 0] }
def runNeg : Run := { run1 with w := [-5, 0, 0, 0, 0, 0, 0, 0] }
/-- A source list 0 whose first member is stream 5, with a last value. -/
def srclState (lv : Nat) : State :=
  let s := opState 0x0C 0
  { s with cfg := s.cfg ++ [(2 ^ 22 + 590848, 5#32), (2 ^ 22 + 590850, 0xFFFF#32)], stb := { streams := [(5, { (default : Stream) with lvState := lv })] } }
/-- An interpolation table 0 of two points, (0, 0) and (10, 20). -/
def interpState : State :=
  let s := opState 0x22 0
  { s with cfg := s.cfg ++ [(2 ^ 22 + 557056, 2#32), (2 ^ 22 + 557060, 10#32), (2 ^ 22 + 557061, 20#32)] }
/-- A deferring node 0 with no credit, and a copy of five bytes held at port 0. -/
def deferring : State := { live with cfg := [(5 * 2 ^ 20, 0x200000#32)] }
def copy5 : Copy := { (default : Copy) with sent := { (default : Sent) with payload := [1#8, 2#8, 3#8, 4#8, 5#8] }, held := some 0 }
/-- An egress port 0 with a copy in its queue, or in transmission. -/
def sending (p : EgPort) : State := { live with prt := { ports := [(0, onPort)] }, egr := { ports := [(0, p)] } }
/-- A valid key slot, and an operation of a user with it. -/
def slotV : Slot := { (default : Slot) with state := .valid }
def opOf (user : Nat) : VOp := { user := user, ident := 0, slot := 5, key := [], out := List.replicate 16 7#8 }
def vaultOp (user : Nat) : Vault := { slots := [(5, slotV)], ops := [opOf user] }
/-- A block with lane 0 in the given state: rings of 256 entries, 1 MiB of data, receive and transmit. -/
def atLane (l : Lane) : State :=
  { live with
    lni := { lanes := [(0, l)] }
    regs := [(Reg.LNI_RX_SIZE 0, 0x1408#32), (Reg.LNI_TX0_SIZE 0, 8#32), (Reg.LNI_TX1_SIZE 0, 8#32)] }
def laneOn : Lane := { (default : Lane) with state := 1, link := true }
/-- A block with window 1 enabled, of 256 bytes, its first word `w0`. -/
def atWindow (w0 : Nat) (b : Brg) : State :=
  { live with
    cfg := [(9 * 2 ^ 20 + 8, BitVec.ofNat 32 w0), (9 * 2 ^ 20 + 13, 256#32)]
    brg := { b with wins := [(1, { (default : Win) with state := 1 })] } }
/-- `atWindow`, with the command ring of the host on lane A on and one entry in it. -/
def atRing (w0 : Nat) : State :=
  { atWindow w0 {} with regs := [(Reg.BRG_CR_CTRL 0, 1#32), (Reg.BRG_CR_SIZE 0, 4#32), (Reg.BRG_CR_TAIL 0, 1#32)] }
/-- A read of 4 bytes from window 1 by the host on lane A, and the same issued. -/
def bread : BReq := { (default : BReq) with uid := 1, kind := .dread, window := 1, length := 4, want := 4 }
def bsent : BReq := { bread with ex := 1, deadline := 0 }
/-- A block with the cadence engine in the state `c`: a cycle of 5,000 macroticks of 40 microticks, 64 slots of 50 macroticks;
slot 1 is `w1`, slot 2 is spare. -/
def onBus (c : Cdb) (w1 : Nat) : State :=
  { live with
    cfg := [(10 * 2 ^ 20 + 1, BitVec.ofNat 32 w1), (10 * 2 ^ 20 + 2, 2#32)]
    regs := [(Reg.CDB_CONFIG, 0x100C2#32), (Reg.CDB_TIMING, 0x4E2028#32), (Reg.CDB_SLOT, 0xA032#32)]
    cdb := c }
/-- A SYNC frame of node 3 in slot 1. -/
def frame3 : CbFrame := { flags := 36, ident := 1, node := 3, cycle := 7, payload := [] }
/-- A block whose slots 5 and 6 the guard of lane A may command and use for everything; slot 5 holds a valid key. -/
def withVault (v : Vault) : State :=
  { live with
    cfg := [(13 * 2 ^ 20 + 80, 0x387808#32), (13 * 2 ^ 20 + 96, 0x387808#32)]
    vault := { v with slots := [(5, slotV)], lc := 1, root := List.replicate 32 1#8 } }
/-- A safety channel that runs, and a block with it as channel H and as channel P. -/
def chOn : Chan := { (default : Chan) with on := true }
def withSaf (h p : Chan) : State := { live with saf := { h := h, p := p, halt := false, srst := false } }
/-- A directory with a good checksum, and a loading unit whose flash begins with it. -/
def dirBytes : Bytes :=
  let h := [0x43#8, 0x52#8, 0x53#8, 0x44#8, 1#8] ++ List.replicate 55 0#8
  h ++ toLE 4 (crc32 h)
def withDir : State := { live with dev := .loading, cfgs := { phase := .directory }, nvm := (List.range 64).zip dirBytes }

theorem witness_SentencePortReception :
    (∃ (s : State) (n : Nat) (ch : Byte) (t : Nat), (pkind n = .sp) ∧ ((port s n).state = 1) ∧ (spMode s n ≤ 1) ∧ ((port s n).rx.ended = none) ∧ ((port s n).rx.crEnd = none) ∧ ((port s n).rx.active = false) ∧ (ch = 0x24#8 ∨ ch = 0x21#8 ∨ ch = 0x5C#8)) ∧
    (∃ (s : State) (n : Nat) (ch : Byte) (t : Nat) (good : Bool), (pkind n = .sp) ∧ ((port s n).state = 1 ∨ (port s n).state = 2) ∧ ((port s n).rx.ended = none) ∧ ((port s n).rx.crEnd = none)) ∧
    (∃ (s : State) (n e : Nat), ((port s n).rx.ended = some e)) ∧
    (∃ (s : State) (n e : Nat), ((port s n).rx.lastEnd = some e) ∧ (spMode s n = 4) ∧ ((port s n).rx.active = true)) ∧
    (∃ (s : State) (n : Nat), ((port s n).rx.active = true) ∧ ((port s n).rx.taking = true) ∧ ((port s n).rx.ended = none) ∧ ((port s n).rx.crEnd = none) ∧ (fld s (Reg.PRT_TIMING2 n) 15 0 ≠ 0)) ∧
    (∃ (s : State) (n e : Nat), ((port s n).rx.crEnd = some e) ∧ ((port s n).rx.ended = none)) ∧
    (∃ (s : State) (n : Nat), ((port s n).rx.active = false)) :=
  ⟨⟨atPort 3 onPort, 3, 0x24#8, 100, by decide⟩,
   ⟨atPort 3 onPort, 3, 0x41#8, 100, true, by decide⟩,
   ⟨atPort 3 { onPort with rx := { (default : Rx) with active := true, ended := some 900 } }, 3, 900, by decide⟩,
   ⟨{ atPort 3 { onPort with rx := { (default : Rx) with active := true, lastEnd := some 900 } } with regs := [(Reg.PRT_MODE 3, 4#32)] }, 3, 900, by decide⟩,
   ⟨{ atPort 3 { onPort with rx := { (default : Rx) with active := true, taking := true } } with regs := [(Reg.PRT_TIMING2 3, 9#32)] }, 3, by decide⟩,
   ⟨atPort 3 { onPort with rx := { (default : Rx) with active := true, crEnd := some 900 } }, 3, 900, by decide⟩,
   ⟨atPort 3 onPort, 3, by decide⟩⟩

theorem witness_FieldbusReception :
    (∃ (s : State) (n id : Nat) (ide fd : Bool) (data : Bytes) (t e : Nat), (pkind n = .cf) ∧ ((port s n).busOff = false) ∧ (admits s n t = true) ∧ (fd = true → bit (rd s (Reg.PRT_MODE n)) 0 = true)) ∧
    (∃ (s : State) (n id : Nat) (ide rtr fd : Bool) (data : Bytes) (t e : Nat), (pkind n = .cf) ∧ ((port s n).busOff = false) ∧ (admits s n t = true)) ∧
    (∃ (s : State) (n : Nat) (inFrame : Bool), (pkind n = .cf) ∧ ((port s n).busOff = false)) ∧
    (∃ (s : State) (n : Nat), ((port s n).busOff = true) ∧ (bit (rd s (Reg.PRT_MODE n)) 2 = true)) ∧
    (∃ (s : State) (n addr code b : Nat) (data : Bytes) (t e : Nat), ((port s n).mvMaster = some (addr, code)) ∧ (code ≠ 15) ∧ (pkind n = .mv) ∧ (admits (setPort s n { port s n with mvMaster := none }) n t = true) ∧ (nbits (mvSink s n addr) 1 0 = 1) ∧ (fld s (Reg.PRT_MODE n) 5 4 = 0) ∧ (fcodeSize code = some data.length) ∧ (nbits (mvSink s n addr) 5 2 = code)) ∧
    (∃ (s : State) (n addr code : Nat), (pkind n = .mv)) ∧
    (∃ (s : State) (n w : Nat), (pkind n = .mv) ∧ (bit (rd s (Reg.PRT_MODE n)) 6 = true) ∧ (gateOpen s = true) ∧ ((port s n).pollAt < 1024) ∧ (cw s 0 (16384 + (n - 80) * 1024 + (port s n).pollAt) = w) ∧ (w ≠ 0)) :=
  ⟨⟨atPort 64 onPort, 64, 5, false, false, [1#8], 100, 900, by decide⟩,
   ⟨atPort 64 onPort, 64, 5, false, false, false, [1#8], 100, 900, by decide⟩,
   ⟨atPort 64 onPort, 64, true, by decide⟩,
   ⟨{ atPort 64 { onPort with busOff := true } with regs := [(Reg.PRT_MODE 64, 4#32)] }, 64, by decide⟩,
   ⟨{ atPort 80 { onPort with mvMaster := some (7, 0) } with cfg := [(7, 1#32)] }, 80, 7, 0, 0, [1#8, 2#8], 100, 900, by decide⟩,
   ⟨atPort 80 onPort, 80, 7, 0, by decide⟩,
   ⟨{ atPort 80 onPort with regs := [(Reg.PRT_MODE 80, 64#32)], cfg := [(16384, 5#32)] }, 80, 5, by decide⟩⟩

theorem witness_EthernetReception :
    (∃ (s : State) (n : Nat) (frame : Bytes) (t e : Nat), (isEth n = true) ∧ (admits s n t = true) ∧ (64 ≤ frame.length) ∧ (frame.length ≤ fld s (Reg.PRT_LIMITS n) 15 0) ∧ (leAt frame (frame.length - 4) 4 ≠ crc32 (frame.take (frame.length - 4)))) ∧
    (∃ (s : State) (n : Nat) (frame : Bytes) (t e : Nat), (isEth n = true) ∧ (admits s n t = true) ∧ (64 ≤ frame.length) ∧ (frame.length ≤ fld s (Reg.PRT_LIMITS n) 15 0) ∧ (leAt frame (frame.length - 4) 4 = crc32 (frame.take (frame.length - 4))) ∧ (beAt (frame.take (frame.length - 4)) 12 2 ≠ 0x8808) ∧ (beAt (frame.take (frame.length - 4)) 12 2 ≠ 0x8100) ∧ (bit (rd s (Reg.PRT_MODE n)) 4 = false) ∧ (bit (rd s (Reg.PRT_MODE n)) 0 = false)) ∧
    (∃ (s : State) (pair mac : Nat), ((tget s.prt.prp (nodeKey pair mac)).used = true) ∧ (since s (heardAt (tget s.prt.prp (nodeKey pair mac))) ≥ fld s Reg.PRT_PRP_CTRL 19 10 * secUnits)) ∧
    (∃ (s : State) (pair mac a b : Nat), ((tget s.prt.prp (nodeKey pair mac)).seenA = some a) ∧ ((tget s.prt.prp (nodeKey pair mac)).seenB = some b) ∧ ((tget s.prt.prp (nodeKey pair mac)).lostA = false) ∧ (since s a ≥ fld s Reg.PRT_PRP_CTRL 31 20 * msUnits) ∧ (since s b < fld s Reg.PRT_PRP_CTRL 31 20 * msUnits)) ∧
    (∃ (s : State) (pair mac a b : Nat), ((tget s.prt.prp (nodeKey pair mac)).seenA = some a) ∧ ((tget s.prt.prp (nodeKey pair mac)).seenB = some b) ∧ ((tget s.prt.prp (nodeKey pair mac)).lostB = false) ∧ (since s b ≥ fld s Reg.PRT_PRP_CTRL 31 20 * msUnits) ∧ (since s a < fld s Reg.PRT_PRP_CTRL 31 20 * msUnits)) :=
  ⟨⟨{ atPort 84 onPort with regs := [(Reg.PRT_LIMITS 84, 1518#32)] }, 84, List.replicate 64 1#8, 100, 900, by decide +kernel⟩,
   ⟨{ atPort 84 onPort with regs := [(Reg.PRT_LIMITS 84, 1518#32)] }, 84, List.replicate 60 0#8 ++ toLE 4 (crc32 (List.replicate 60 0#8)), 100, 900, by decide +kernel⟩,
   ⟨{ live with prt := { prp := [(nodeKey 0 5, { (default : PrpNode) with used := true })] }, regs := [(Reg.PRT_PRP_CTRL, 0#32)] }, 0, 5, by decide⟩,
   ⟨{ live with prt := { prp := [(nodeKey 0 5, { (default : PrpNode) with used := true, seenA := some 0, seenB := some 9000000 })] }, tim := { dt := 9000000 * 2 ^ 30 }, regs := [(Reg.PRT_PRP_CTRL, 0x00200000#32)] }, 0, 5, 0, 9000000, by decide⟩,
   ⟨{ live with prt := { prp := [(nodeKey 0 5, { (default : PrpNode) with used := true, seenA := some 9000000, seenB := some 0 })] }, tim := { dt := 9000000 * 2 ^ 30 }, regs := [(Reg.PRT_PRP_CTRL, 0x00200000#32)] }, 0, 5, 9000000, 0, by decide⟩⟩

theorem witness_PortServiceCommands :
    (∃ (s : State) (r : Req) (n : Nat), (Allowed s r (Reg.PRT_CTRL n)) ∧ (unconfigured s n = false) ∧ ((port s n).state ≠ 1) ∧ ((port s n).state ≠ 3)) ∧
    (∃ (s : State) (r : Req) (n : Nat), (Allowed s r (Reg.PRT_CTRL n)) ∧ ((port s n).state = 1)) ∧
    (∃ (s : State) (n : Nat), ((port s n).state = 2) ∧ ((port s n).buf = []) ∧ ((port s n).staging = []) ∧ ((port s n).rx.active = false)) ∧
    (∃ (s : State) (n : Nat), ((port s n).state = 2) ∧ ((port s n).drainAt ≤ s.tim.boundaries)) ∧
    (∃ (s : State) (n : Nat) (x : Sent) (rest : List Sent) (o : Bool), (takeFirst (fun y => decide (y.hint = true)) (port s n).buf = some (x, rest)) ∧ (credit (port s n).staging (stagingDepth n).1 (stagingDepth n).2 true = some o)) ∧
    (∃ (s : State) (n : Nat) (x : Sent) (rest : List Sent) (o : Bool), (takeFirst (fun y => decide (y.hint = true)) (port s n).buf = none) ∧ (takeFirst (fun y => decide (y.hint = false)) (port s n).buf = some (x, rest)) ∧ (credit (port s n).staging (stagingDepth n).1 (stagingDepth n).2 false = some o)) ∧
    (∃ (s : State) (r : Req) (n : Nat), (Allowed s r Reg.PRT_CNT_CLEAR) ∧ (n < 105)) ∧
    (∃ (s : State) (r : Req), (Allowed s r Reg.PRT_CNT_CLEAR)) ∧
    (∃ (s : State) (tag : Nat) (payload : Bytes) (o : Bool), (s.stw.state = 1 ∨ s.stw.state = 2) ∧ (isStandby s = false) ∧ (credit (port s 110).staging 32 4 false = some o)) :=
  ⟨⟨{ live with regs := [(Reg.PRT_LIMITS 3, 82#32)] }, gd, 3, by decide⟩,
   ⟨atPort 3 onPort, gd, 3, by decide⟩,
   ⟨atPort 3 { onPort with state := 2 }, 3, by decide⟩,
   ⟨atPort 3 { onPort with state := 2 }, 3, by decide⟩,
   ⟨atPort 3 { onPort with buf := [{ (default : Sent) with hint := true }] }, 3, { (default : Sent) with hint := true }, [], true, by decide⟩,
   ⟨atPort 3 { onPort with buf := [default] }, 3, default, [], false, by decide⟩,
   ⟨live, gd, 3, by decide⟩,
   ⟨live, gd, by decide⟩,
   ⟨{ live with stw := { state := 1 } }, 7, [1#8], false, by decide⟩⟩

theorem witness_LinkEvents :
    (∃ (s : State) (n : Nat) (inFrame : Bool), (isEth n = true) ∧ ((port s n).link = true)) ∧
    (∃ (s : State) (n : Nat), (isEth n = true) ∧ ((port s n).link = false) ∧ (isPrp s n = false)) ∧
    (∃ (s : State) (q t : Nat), ((eg s q).downSince = some t) ∧ ((eg s q).downHeld = false) ∧ (fld s (Reg.EGR_PORT_CTRL q) 31 16 * usUnits ≤ since s t)) ∧
    (∃ (s : State) (q : Nat) (ok : Bool), ((eg s q).verify = 1)) ∧
    (∃ (s : State) (n quanta : Nat), (isEth n = true) ∧ ((port s n).link = true) ∧ (bit (rd s (Reg.EGR_PORT_CTRL n)) 2 = true)) ∧
    (∃ (s : State) (n : Nat), ((eg s n).paused = true)) :=
  ⟨⟨atPort 84 onPort, 84, false, by decide⟩,
   ⟨live, 84, by decide⟩,
   ⟨{ live with egr := { ports := [(84, { (default : EgPort) with downSince := some 0 })] }, tim := { dt := 2 ^ 75 } }, 84, 0, by decide⟩,
   ⟨{ live with egr := { ports := [(84, { (default : EgPort) with verify := 1 })] } }, 84, true, by decide⟩,
   ⟨{ atPort 84 onPort with regs := [(Reg.EGR_PORT_CTRL 84, 4#32)] }, 84, 9, by decide⟩,
   ⟨{ live with egr := { ports := [(84, { (default : EgPort) with paused := true })] } }, 84, by decide⟩⟩

theorem witness_ListenerCommands :
    (∃ (s : State) (r : Req) (l : Nat), (Allowed s r Reg.EGR_LISTENER_CMD) ∧ (l < 16384)) ∧
    (∃ (s : State) (r : Req) (l : Nat), (Allowed s r Reg.EGR_LISTENER_CMD) ∧ (l < 16384) ∧ ((lst s l).state ≠ 2) ∧ ((lst s l).replaying = false) ∧ (s.egr.replays.length < 4)) ∧
    (∃ (s : State) (r : Req) (l : Nat), (Allowed s r Reg.EGR_LISTENER_CMD) ∧ (l < 16384) ∧ ((lst s l).state = 1)) ∧
    (∃ (s : State) (r : Req) (l : Nat), (Allowed s r Reg.EGR_LISTENER_CMD) ∧ (l < 16384)) ∧
    (∃ (s : State) (r : Req) (l : Nat), (Allowed s r Reg.EGR_LISTENER_CMD) ∧ (l < 16384)) ∧
    (∃ (s : State) (l : Nat), ((lst s l).state = 2) ∧ ((listenerPorts s l).all (fun q => (copiesAt (eg s q)).all (fun c => !isFor l c)) = true)) ∧
    (∃ (s : State) (l : Nat), ((lst s l).state = 2) ∧ ((lst s l).drainAt ≤ s.tim.boundaries)) ∧
    (∃ (s : State) (l : Nat) (p : Replay), (s.egr.replays.find? (fun r => decide (r.listener = l)) = some p) ∧ (replayNext s p = none)) ∧
    (∃ (s : State) (l : Nat) (p : Replay) (id : Nat), (s.egr.replays.find? (fun r => decide (r.listener = l)) = some p) ∧ (replayNext s p = some id) ∧ (lsPort s l ≤ 104) ∧ (portTakes s (lsPort s l) = true)) ∧
    (∃ (s : State) (l : Nat) (p : Replay), (s.egr.replays.find? (fun r => decide (r.listener = l)) = some p) ∧ (max 1 (fld s Reg.EGR_REPLAY_CTRL 23 16) ≤ s.tim.boundaries - p.since)) :=
  ⟨⟨live, gd, 7, by decide⟩,
   ⟨live, gd, 7, by decide⟩,
   ⟨{ live with egr := { listeners := [(7, { (default : Listener) with state := 1 })] } }, gd, 7, by decide⟩,
   ⟨{ live with egr := { listeners := [(7, { (default : Listener) with state := 1 })] } }, gd, 7, by decide⟩,
   ⟨live, gd, 7, by decide⟩,
   ⟨{ live with egr := { listeners := [(7, { (default : Listener) with state := 2 })] } }, 7, by decide⟩,
   ⟨{ live with egr := { listeners := [(7, { (default : Listener) with state := 2 })] } }, 7, by decide⟩,
   ⟨{ live with egr := { replays := [{ (default : Replay) with listener := 7 }] } }, 7, { (default : Replay) with listener := 7 }, by decide⟩,
   ⟨{ live with egr := { replays := [{ (default : Replay) with listener := 7, upTo := 9 }], ports := [(0, { (default : EgPort) with state := 1 })] }, stb := { streams := [(3, { (default : Stream) with lvState := 1 })] }, cfg := [(6 * 2 ^ 20 + 4, 0x10000#32), (6 * 2 ^ 20 + 98304, 7#32)] }, 7, { (default : Replay) with listener := 7, upTo := 9 }, 3, by decide⟩,
   ⟨{ live with egr := { replays := [{ (default : Replay) with listener := 7 }] }, tim := { boundaries := 30 } }, 7, { (default : Replay) with listener := 7 }, by decide⟩⟩

theorem witness_EgressPortCommands :
    (∃ (s : State) (r : Req) (q : Nat), (Allowed s r (Reg.EGR_PORT_CTRL q)) ∧ (mayWrite r (Reg.EGR_PORT_CTRL q) 0 = true) ∧ (q ≤ 104) ∧ ((eg s q).state ≠ 1) ∧ ((eg s q).state ≠ 3)) ∧
    (∃ (s : State) (r : Req) (q : Nat), (Allowed s r (Reg.EGR_PORT_CTRL q)) ∧ (mayWrite r (Reg.EGR_PORT_CTRL q) 0 = true) ∧ (q ≤ 104) ∧ ((eg s q).state = 1)) ∧
    (∃ (s : State) (q : Nat), ((eg s q).state = 2) ∧ (copiesAt (eg s q) = [])) ∧
    (∃ (s : State) (q : Nat), ((eg s q).state = 2) ∧ ((eg s q).drainAt ≤ s.tim.boundaries)) ∧
    (∃ (s : State) (r : Req), (Allowed s r Reg.EGR_CNT_CLEAR)) ∧
    (∃ (s : State) (r : Req), (Allowed s r Reg.EGR_CNT_CLEAR)) :=
  ⟨⟨live, gd, 9, by decide⟩,
   ⟨{ live with egr := { ports := [(9, { (default : EgPort) with state := 1 })] } }, gd, 9, by decide⟩,
   ⟨{ live with egr := { ports := [(9, { (default : EgPort) with state := 2 })] } }, 9, by decide⟩,
   ⟨{ live with egr := { ports := [(9, { (default : EgPort) with state := 2 })] } }, 9, by decide⟩,
   ⟨live, gd, by decide⟩,
   ⟨live, gd, by decide⟩⟩

theorem witness_ClassifierCommands :
    (∃ (s : State) (n e id : Nat) (x : Sent) (rest : List Sent) (t1 : State), (engineOf s n = some e) ∧ (serveNext (·.hint) (port s n).staging = some (x, rest)) ∧ (findStream s (rekey s x).key = some id) ∧ (admitSent (setPort s n { port s n with staging := rest }) n (rekey s x) id = some t1)) ∧
    (∃ (s : State) (n e : Nat) (x : Sent) (rest : List Sent), (engineOf s n = some e) ∧ (serveNext (·.hint) (port s n).staging = some (x, rest)) ∧ (findStream s (rekey s x).key = none)) ∧
    (∃ (s : State) (m : Miss) (rest : List Miss) (id : Nat) (t1 : State), (s.stb.misses = m :: rest) ∧ (learnedId { s with stb := { s.stb with misses := rest } } m.sent.key = some id) ∧ (admitSent { s with stb := { s.stb with misses := rest } } m.port m.sent id = some t1)) ∧
    (∃ (s : State) (m : Miss) (rest : List Miss), (s.stb.misses = m :: rest) ∧ (learnedId { s with stb := { s.stb with misses := rest } } m.sent.key = none) ∧ ((List.range 512).find? (ruleMatches { s with stb := { s.stb with misses := rest } } m.sent.key) = none)) ∧
    (∃ (s : State) (p : PendKey) (ix : BIndex), (s.stb.pending.find? (·.doneAt.isNone) = some p) ∧ (insertKey (idDigest s) (bIndex s) (digestOf (hashSeed s) p.key) p.id = some ix)) ∧
    (∃ (s : State) (id : Nat), ((strm s id).aging = true) ∧ (beforeCommit s id = false)) ∧
    (∃ (s : State), (s.tim.lastSec < now s / secUnits)) :=
  ⟨⟨classifying, 3, 3, 3, sent3, [], (admitSent (setPort classifying 3 { onPort with staging := [] }) 3 sent3 3).getD live, by decide +kernel⟩,
   ⟨{ atStream 1 default with prt := { ports := [(3, { onPort with staging := [default] })] } }, 3, 3, default, [], by decide +kernel⟩,
   ⟨{ live with stb := { misses := [default], pending := [{ (default : PendKey) with id := 61440 }] } }, default, [], 61440, (admitSent { live with stb := { misses := [], pending := [{ (default : PendKey) with id := 61440 }] } } 0 default 61440).getD live, by decide +kernel⟩,
   ⟨{ live with stb := { misses := [default] } }, default, [], by decide +kernel⟩,
   ⟨{ live with stb := { pending := [{ (default : PendKey) with id := 61440 }] } }, { (default : PendKey) with id := 61440 }, (insertKey (idDigest live) ([], []) (digestOf 0 []) 61440).getD ([], []), by decide +kernel⟩,
   ⟨{ live with stb := { streams := [(61440, { (default : Stream) with aging := true })] } }, 61440, by decide⟩,
   ⟨{ live with tim := { dt := 2 ^ 75 } }, by decide⟩⟩

theorem witness_StreamCommands :
    (∃ (s : State) (r : Req) (id : Nat) (g : StreamCfg), (Allowed s r Reg.STB_ADMIT) ∧ (tget s.stb.learned id = some g) ∧ ((strm s id).aging = false)) ∧
    (∃ (s : State) (r : Req) (id : Nat) (g : StreamCfg), (Allowed s r Reg.STB_ADMIT) ∧ (tget s.stb.learned id = some g) ∧ ((strm s id).aging = false)) ∧
    (∃ (s : State) (r : Req) (id : Nat) (g : StreamCfg), (Allowed s r Reg.STB_ADMIT) ∧ (tget s.stb.learned id = some g) ∧ ((strm s id).aging = false)) ∧
    (∃ (s : State) (r : Req) (id : Nat), (Allowed s r Reg.STB_STREAM_CMD) ∧ (r ≠ .steward) ∧ (byteAt (strmCfg s s.tag id).key 0 ≠ 0) ∧ (id ≠ 0) ∧ (id ≤ 65535) ∧ (byteAt (strmCfg s s.tag id).key 0 ≠ 0xFE) ∧ (partServes s id = true) ∧ ((strm s id).aging = false) ∧ ((strm s id).state = 0)) ∧
    (∃ (s : State) (r : Req) (id : Nat), (Allowed s r Reg.STB_STREAM_CMD) ∧ (r ≠ .steward) ∧ (byteAt (strmCfg s s.tag id).key 0 ≠ 0) ∧ (id ≠ 0) ∧ (id ≤ 65535) ∧ (byteAt (strmCfg s s.tag id).key 0 ≠ 0xFE) ∧ (partServes s id = true) ∧ ((strm s id).state = 1)) ∧
    (∃ (s : State) (r : Req) (id : Nat), (Allowed s r Reg.STB_STREAM_CMD) ∧ (r ≠ .steward) ∧ (byteAt (strmCfg s s.tag id).key 0 ≠ 0) ∧ (id ≠ 0) ∧ (id ≤ 65535)) ∧
    (∃ (s : State) (r : Req) (id : Nat), (Allowed s r Reg.STB_STREAM_CMD) ∧ (r ≠ .steward) ∧ (byteAt (strmCfg s s.tag id).key 0 ≠ 0) ∧ (id ≠ 0) ∧ (id ≤ 65535)) ∧
    (∃ (s : State) (id : Nat), ((strm s id).state = 2) ∧ ((strm s id).aging = false) ∧ (beforeDispatch s id = false)) ∧
    (∃ (s : State) (id : Nat), ((strm s id).state = 2) ∧ ((strm s id).drainAt ≤ s.tim.boundaries) ∧ ((strm s id).aging = false)) ∧
    (∃ (s : State) (x : Sent) (rest : List Sent), (s.stb.lvcQueue = x :: rest)) ∧
    (∃ (s : State) (r : Req), (Allowed s r Reg.STB_CNT_CLEAR)) ∧
    (∃ (s : State) (r : Req), (Allowed s r Reg.STB_CNT_CLEAR)) ∧
    (∃ (s : State) (r : Req), (Allowed s r Reg.STB_CNT_CLEAR)) :=
  ⟨⟨{ live with stb := { learned := [(61440, some default)] } }, gd, 61440, default, by decide⟩,
   ⟨{ live with stb := { learned := [(61440, some default)] } }, gd, 61440, default, by decide⟩,
   ⟨{ live with stb := { learned := [(61440, some default)] } }, gd, 61440, default, by decide⟩,
   ⟨atStream 1 default, gd, 3, by decide⟩,
   ⟨atStream 1 { (default : Stream) with state := 1 }, gd, 3, by decide⟩,
   ⟨atStream 1 default, gd, 3, by decide⟩,
   ⟨atStream 1 default, gd, 3, by decide⟩,
   ⟨atStream 1 { (default : Stream) with state := 2 }, 3, by decide⟩,
   ⟨atStream 1 { (default : Stream) with state := 2 }, 3, by decide⟩,
   ⟨{ live with stb := { lvcQueue := [default] } }, default, [], by decide⟩,
   ⟨live, gd, by decide⟩,
   ⟨live, gd, by decide⟩,
   ⟨live, gd, by decide⟩⟩

theorem witness_FilterCommands :
    (∃ (s : State) (x : Sent) (rest : List Sent) (o : Bool), (takeFirst (fun x => c0 x && !s.flt.verifying.any (fun v => decide (v.2.stream = x.stream))) s.stb.classified = some (x, rest)) ∧ (credit (s.flt.filtered ++ s.flt.verifying.map (·.2)) 1024 128 (c0 x) = some o)) ∧
    (∃ (s : State) (x : Sent) (rest : List Sent) (o : Bool), (takeFirst (fun x => c0 x && !s.flt.verifying.any (fun v => decide (v.2.stream = x.stream))) s.stb.classified = none) ∧ (takeFirst (fun x => !s.flt.verifying.any (fun v => decide (v.2.stream = x.stream))) s.stb.classified = some (x, rest)) ∧ (credit (s.flt.filtered ++ s.flt.verifying.map (·.2)) 1024 128 (c0 x) = some o)) ∧
    (∃ (s : State) (e : BogRec) (rest : List BogRec), (s.flt.bogIntake = e :: rest) ∧ (bit (rd s Reg.FLT_BOG_CTRL) 0 = false) ∧ (s.flt.bogPtr + min e.length (fld s Reg.FLT_BOG_CTRL 27 16) ≤ 65536)) ∧
    (∃ (s : State) (r : Req) (g m : Nat), (Allowed s r Reg.FLT_SRC_FORCE) ∧ (g ≠ 0) ∧ (g ≤ 255) ∧ (m ≤ 3)) ∧
    (∃ (s : State) (r : Req) (g : Nat), (Allowed s r Reg.FLT_SRC_FORCE) ∧ (g ≠ 0) ∧ (g ≤ 255)) ∧
    (∃ (s : State) (r : Req), (Allowed s r Reg.FLT_CNT_CLEAR)) ∧
    (∃ (s : State) (r : Req), (Allowed s r Reg.FLT_CNT_CLEAR) ∧ (reqGuard r = true)) ∧
    (∃ (s : State) (user ident : Nat), (user ≠ 255) ∧ (user ≠ 8)) ∧
    (∃ (s : State) (c : KCmd), (s.vault.cmd = some c)) :=
  ⟨⟨{ live with stb := { classified := [default] } }, default, [], true, by decide⟩,
   ⟨{ live with stb := { classified := [{ (default : Sent) with cls := 3 }] } }, { (default : Sent) with cls := 3 }, [], false, by decide⟩,
   ⟨{ live with flt := { bogIntake := [default] } }, default, [], by decide⟩,
   ⟨live, gd, 5, 2, by decide⟩,
   ⟨live, gd, 5, by decide⟩,
   ⟨live, gd, by decide⟩,
   ⟨live, gd, by decide⟩,
   ⟨live, 1, 0, by decide⟩,
   ⟨{ live with vault := { cmd := some default } }, default, by decide⟩⟩

theorem witness_MapperLoads :
    (∃ (s : State) (e w : Nat) (first : Bool) (r : Run), (AtOp s e first r w 0x04)) ∧
    (∃ (s : State) (e w : Nat) (first : Bool) (r : Run), (AtOp s e first r w 0x05)) ∧
    (∃ (s : State) (e w : Nat) (first : Bool) (r : Run), (AtOp s e first r w 0x06)) ∧
    (∃ (s : State) (e w : Nat) (first : Bool) (r : Run), (AtOp s e first r w 0x07)) ∧
    (∃ (s : State) (e w : Nat) (first : Bool) (r : Run), (AtOp s e first r w 0x08)) ∧
    (∃ (s : State) (e w : Nat) (first : Bool) (r : Run), (AtOp s e first r w 0x09)) ∧
    (∃ (s : State) (e w : Nat) (first : Bool) (r : Run), (AtOp s e first r w 0x0A) ∧ (lvStream s r w = 0)) ∧
    (∃ (s : State) (e w : Nat) (first : Bool) (r : Run) (p : Snap × Run), (AtOp s e first r w 0x0A) ∧ (lvStream s r w ≠ 0) ∧ (snap s r (lvStream s r w) = some p)) ∧
    (∃ (s : State) (e w : Nat) (first : Bool) (r : Run) (p : Snap × Run), (AtOp s e first r w 0x0B) ∧ (lvStream s r w ≠ 0) ∧ (snap s r (lvStream s r w) = some p)) ∧
    (∃ (s : State) (e w : Nat) (first : Bool) (r : Run) (m : Nat) (r2 : Run), (AtOp s e first r w 0x0C) ∧ (freshMember s (nbits w 47 40) (leNat (cBytes s r.input.tag 4 (2363392 + 16 * nbits w 47 40 + 8) 4)) 4 0 r = some (some m, r2))) ∧
    (∃ (s : State) (e w : Nat) (first : Bool) (r : Run) (r2 : Run), (AtOp s e first r w 0x0C) ∧ (freshMember s (nbits w 47 40) (leNat (cBytes s r.input.tag 4 (2363392 + 16 * nbits w 47 40 + 8) 4)) 4 0 r = some (none, r2))) :=
  ⟨⟨opRun 0x04 (0) run1, 0, 0x04 * 2 ^ 58 + (0), false, run1, by decide +kernel⟩,
   ⟨opRun 0x05 (0) run1, 0, 0x05 * 2 ^ 58 + (0), false, run1, by decide +kernel⟩,
   ⟨opRun 0x06 (0) run1, 0, 0x06 * 2 ^ 58 + (0), false, run1, by decide +kernel⟩,
   ⟨opRun 0x07 (0) run1, 0, 0x07 * 2 ^ 58 + (0), false, run1, by decide +kernel⟩,
   ⟨opRun 0x08 (0) run1, 0, 0x08 * 2 ^ 58 + (0), false, run1, by decide +kernel⟩,
   ⟨opRun 0x09 (0) run1, 0, 0x09 * 2 ^ 58 + (0), false, run1, by decide +kernel⟩,
   ⟨opRun 0x0A (0) run1, 0, 0x0A * 2 ^ 58 + (0), false, run1, by decide +kernel⟩,
   ⟨opRun 0x0A (2 ^ 32) run1, 0, 0x0A * 2 ^ 58 + (2 ^ 32), false, run1, ({ stream := 1, lvState := 0, lvLen := 0, lvStamp := 0, lvIndex := 0, lvHalf := false, line := [], commits := 0, deep := none }, { run1 with snaps := [{ stream := 1, lvState := 0, lvLen := 0, lvStamp := 0, lvIndex := 0, lvHalf := false, line := [], commits := 0, deep := none }] }), by decide +kernel⟩,
   ⟨opRun 0x0B (2 ^ 32) run1, 0, 0x0B * 2 ^ 58 + (2 ^ 32), false, run1, ({ stream := 1, lvState := 0, lvLen := 0, lvStamp := 0, lvIndex := 0, lvHalf := false, line := [], commits := 0, deep := none }, { run1 with snaps := [{ stream := 1, lvState := 0, lvLen := 0, lvStamp := 0, lvIndex := 0, lvHalf := false, line := [], commits := 0, deep := none }] }), by decide +kernel⟩,
   ⟨srclState 1, 0, 0x0C * 2 ^ 58 + (0), false, run1, 0, { run1 with snaps := [{ snapOf 5 with lvState := 1 }] }, by decide +kernel⟩,
   ⟨opRun 0x0C (0) run1, 0, 0x0C * 2 ^ 58 + (0), false, run1, run1, by decide +kernel⟩⟩

theorem witness_MapperArithmetic :
    (∃ (s : State) (e w : Nat) (first : Bool) (r : Run), (AtOp s e first r w 0x10)) ∧
    (∃ (s : State) (e w : Nat) (first : Bool) (r : Run), (AtOp s e first r w 0x11)) ∧
    (∃ (s : State) (e w : Nat) (first : Bool) (r : Run), (AtOp s e first r w 0x12)) ∧
    (∃ (s : State) (e w : Nat) (first : Bool) (r : Run), (AtOp s e first r w 0x13)) ∧
    (∃ (s : State) (e w : Nat) (first : Bool) (r : Run), (AtOp s e first r w 0x14)) ∧
    (∃ (s : State) (e w : Nat) (first : Bool) (r : Run), (AtOp s e first r w 0x15) ∧ (reg r (opRs w) ≠ 0)) ∧
    (∃ (s : State) (e w : Nat) (first : Bool) (r : Run), (AtOp s e first r w 0x16)) ∧
    (∃ (s : State) (e w : Nat) (first : Bool) (r : Run), (AtOp s e first r w 0x17)) ∧
    (∃ (s : State) (e w : Nat) (first : Bool) (r : Run), (AtOp s e first r w 0x18)) ∧
    (∃ (s : State) (e w : Nat) (first : Bool) (r : Run), (AtOp s e first r w 0x19)) ∧
    (∃ (s : State) (e w : Nat) (first : Bool) (r : Run), (AtOp s e first r w 0x1A)) :=
  ⟨⟨opRun 0x10 (0) run1, 0, 0x10 * 2 ^ 58 + (0), false, run1, by decide +kernel⟩,
   ⟨opRun 0x11 (0) run1, 0, 0x11 * 2 ^ 58 + (0), false, run1, by decide +kernel⟩,
   ⟨opRun 0x12 (0) run1, 0, 0x12 * 2 ^ 58 + (0), false, run1, by decide +kernel⟩,
   ⟨opRun 0x13 (0) run1, 0, 0x13 * 2 ^ 58 + (0), false, run1, by decide +kernel⟩,
   ⟨opRun 0x14 (0) run1, 0, 0x14 * 2 ^ 58 + (0), false, run1, by decide +kernel⟩,
   ⟨opRun 0x15 (0) run1, 0, 0x15 * 2 ^ 58 + (0), false, run1, by decide +kernel⟩,
   ⟨opRun 0x16 (0) run1, 0, 0x16 * 2 ^ 58 + (0), false, run1, by decide +kernel⟩,
   ⟨opRun 0x17 (0) run1, 0, 0x17 * 2 ^ 58 + (0), false, run1, by decide +kernel⟩,
   ⟨opRun 0x18 (0) run1, 0, 0x18 * 2 ^ 58 + (0), false, run1, by decide +kernel⟩,
   ⟨opRun 0x19 (0) run1, 0, 0x19 * 2 ^ 58 + (0), false, run1, by decide +kernel⟩,
   ⟨opRun 0x1A (0) run1, 0, 0x1A * 2 ^ 58 + (0), false, run1, by decide +kernel⟩⟩

theorem witness_MapperLogic :
    (∃ (s : State) (e w : Nat) (first : Bool) (r : Run), (AtOp s e first r w 0x1B)) ∧
    (∃ (s : State) (e w : Nat) (first : Bool) (r : Run), (AtOp s e first r w 0x1C)) ∧
    (∃ (s : State) (e w : Nat) (first : Bool) (r : Run), (AtOp s e first r w 0x1D)) ∧
    (∃ (s : State) (e w : Nat) (first : Bool) (r : Run), (AtOp s e first r w 0x1E)) ∧
    (∃ (s : State) (e w : Nat) (first : Bool) (r : Run), (AtOp s e first r w 0x1F)) ∧
    (∃ (s : State) (e w : Nat) (first : Bool) (r : Run), (AtOp s e first r w 0x20)) ∧
    (∃ (s : State) (e w : Nat) (first : Bool) (r : Run), (AtOp s e first r w 0x21) ∧ (sext 24 (nbits w 47 24) ≤ reg r (opRd w)) ∧ (reg r (opRd w) ≤ sext 24 (nbits w 23 0))) ∧
    (∃ (s : State) (e w : Nat) (first : Bool) (r : Run), (AtOp s e first r w 0x21) ∧ (¬ (sext 24 (nbits w 47 24) ≤ reg r (opRd w) ∧ reg r (opRd w) ≤ sext 24 (nbits w 23 0)))) ∧
    (∃ (s : State) (e w : Nat) (first : Bool) (r : Run) (below : Bool), (AtOp s e first r w 0x22) ∧ (decide (reg r (opRs w) < (interpPoint s r.input.tag (nbits w 47 39) 0).1) = below) ∧ (below = true ∨ decide (reg r (opRs w) > (interpPoint s r.input.tag (nbits w 47 39) (leNat (cBytes s r.input.tag 4 (2228224 + 264 * nbits w 47 39) 1) - 1)).1) = true) ∧ (nbits w 49 48 = 0)) ∧
    (∃ (s : State) (e w : Nat) (first : Bool) (r : Run), (AtOp s e first r w 0x22) ∧ ((interpPoint s r.input.tag (nbits w 47 39) 0).1 ≤ reg r (opRs w)) ∧ (reg r (opRs w) < (interpPoint s r.input.tag (nbits w 47 39) (leNat (cBytes s r.input.tag 4 (2228224 + 264 * nbits w 47 39) 1) - 1)).1)) :=
  ⟨⟨opRun 0x1B (0) run1, 0, 0x1B * 2 ^ 58 + (0), false, run1, by decide +kernel⟩,
   ⟨opRun 0x1C (0) run1, 0, 0x1C * 2 ^ 58 + (0), false, run1, by decide +kernel⟩,
   ⟨opRun 0x1D (0) run1, 0, 0x1D * 2 ^ 58 + (0), false, run1, by decide +kernel⟩,
   ⟨opRun 0x1E (0) run1, 0, 0x1E * 2 ^ 58 + (0), false, run1, by decide +kernel⟩,
   ⟨opRun 0x1F (0) run1, 0, 0x1F * 2 ^ 58 + (0), false, run1, by decide +kernel⟩,
   ⟨opRun 0x20 (0) run1, 0, 0x20 * 2 ^ 58 + (0), false, run1, by decide +kernel⟩,
   ⟨opRun 0x21 (2 ^ 23 - 1) run1, 0, 0x21 * 2 ^ 58 + (2 ^ 23 - 1), false, run1, by decide +kernel⟩,
   ⟨opRun 0x21 (0) run1, 0, 0x21 * 2 ^ 58 + (0), false, run1, by decide +kernel⟩,
   ⟨opRun 0x22 (0) run1, 0, 0x22 * 2 ^ 58 + (0), false, run1, false, by decide +kernel⟩,
   ⟨interpState, 0, 0x22 * 2 ^ 58 + (0), false, run1, by decide +kernel⟩⟩

theorem witness_MapperOutputs :
    (∃ (s : State) (e w : Nat) (first : Bool) (r : Run), (AtOp s e first r w 0x28)) ∧
    (∃ (s : State) (e w : Nat) (first : Bool) (r : Run), (AtOp s e first r w 0x29)) ∧
    (∃ (s : State) (e w : Nat) (first : Bool) (r : Run) (o : Nat) (b : OutBuf), (AtOp s e first r w 0x2A) ∧ (curOut r = some (o, b)) ∧ (nbits w 33 22 + nbits w 21 10 ≤ b.bytes.length)) ∧
    (∃ (s : State) (e w : Nat) (first : Bool) (r : Run) (o : Nat) (b : OutBuf), (AtOp s e first r w 0x2B) ∧ (curOut r = some (o, b)) ∧ (8 * nbits w 47 34 + nbits w 33 31 + nbits w 30 24 ≤ 8 * b.bytes.length)) ∧
    (∃ (s : State) (e w : Nat) (first : Bool) (r : Run) (o : Nat) (b : OutBuf), (AtOp s e first r w 0x2C) ∧ (curOut r = some (o, b)) ∧ (opBit w 50 = true) ∧ (r.abs = true)) ∧
    (∃ (s : State) (e w : Nat) (first : Bool) (r : Run) (o : Nat) (b : OutBuf), (AtOp s e first r w 0x2C) ∧ (curOut r = some (o, b)) ∧ (¬ (opBit w 50 = true ∧ r.abs = true))) ∧
    (∃ (s : State) (e w : Nat) (first : Bool) (r : Run) (o : Nat) (b : OutBuf), (AtOp s e first r w 0x2D) ∧ (curOut r = some (o, b)) ∧ (0 ≤ reg r (opRs w)) ∧ (reg r (opRs w) ≤ 86400999)) ∧
    (∃ (s : State) (e w : Nat) (first : Bool) (r : Run) (o : Nat) (b : OutBuf), (AtOp s e first r w 0x2E) ∧ (curOut r = some (o, b))) ∧
    (∃ (s : State) (e w : Nat) (first : Bool) (r : Run) (o : Nat) (b : OutBuf) (f : Bytes), (AtOp s e first r w 0x2F) ∧ (curOut r = some (o, b)) ∧ (runText s r (nbits w 47 40) = some f)) ∧
    (∃ (s : State) (e w : Nat) (first : Bool) (r : Run) (o : Nat) (b : OutBuf), (AtOp s e first r w 0x2F) ∧ (curOut r = some (o, b)) ∧ (runText s r (nbits w 47 40) = none)) ∧
    (∃ (s : State) (e w : Nat) (first : Bool) (r : Run) (o : Nat) (b : OutBuf), (AtOp s e first r w 0x30) ∧ (curOut r = some (o, b)) ∧ (nbits w 47 44 = 0)) ∧
    (∃ (s : State) (e w : Nat) (first : Bool) (r : Run) (o : Nat) (b : OutBuf) (fin : Nat) (code : Bytes), (AtOp s e first r w 0x30) ∧ (curOut r = some (o, b)) ∧ (nbits w 47 44 ≠ 0) ∧ ((if nbits w 31 20 = 0 then b.bytes.length else nbits w 31 20) = fin) ∧ (checkCode (nbits w 47 44) (slice b.bytes (nbits w 43 32) (fin - nbits w 43 32)) = code) ∧ (fin ≤ b.bytes.length) ∧ (nbits w 19 8 + code.length ≤ b.bytes.length) ∧ (overlaps (nbits w 43 32) (fin - nbits w 43 32) (nbits w 19 8) code.length = false)) ∧
    (∃ (s : State) (e w : Nat) (first : Bool) (r : Run) (o : Nat) (b : OutBuf), (AtOp s e first r w 0x31) ∧ (curOut r = some (o, b)) ∧ (b.marks.length < 2) ∧ (nbits w 43 32 + markLen (nbits w 47 44) ≤ b.bytes.length)) :=
  ⟨⟨opRun 0x28 (0) run1, 0, 0x28 * 2 ^ 58 + (0), false, run1, by decide +kernel⟩,
   ⟨opRun 0x29 (0) run1, 0, 0x29 * 2 ^ 58 + (0), false, run1, by decide +kernel⟩,
   ⟨opRun 0x2A (0) run1, 0, 0x2A * 2 ^ 58 + (0), false, run1, 0, ⟨[1#8, 2#8, 3#8, 4#8], [], []⟩, by decide +kernel⟩,
   ⟨opRun 0x2B (0) run1, 0, 0x2B * 2 ^ 58 + (0), false, run1, 0, ⟨[1#8, 2#8, 3#8, 4#8], [], []⟩, by decide +kernel⟩,
   ⟨opRun 0x2C (2 ^ 50) { run1 with abs := true }, 0, 0x2C * 2 ^ 58 + (2 ^ 50), false, { run1 with abs := true }, 0, ⟨[1#8, 2#8, 3#8, 4#8], [], []⟩, by decide +kernel⟩,
   ⟨opRun 0x2C (0) run1, 0, 0x2C * 2 ^ 58 + (0), false, run1, 0, ⟨[1#8, 2#8, 3#8, 4#8], [], []⟩, by decide +kernel⟩,
   ⟨opRun 0x2D (0) run1, 0, 0x2D * 2 ^ 58 + (0), false, run1, 0, ⟨[1#8, 2#8, 3#8, 4#8], [], []⟩, by decide +kernel⟩,
   ⟨opRun 0x2E (0) run1, 0, 0x2E * 2 ^ 58 + (0), false, run1, 0, ⟨[1#8, 2#8, 3#8, 4#8], [], []⟩, by decide +kernel⟩,
   ⟨opRun 0x2F (2 ^ 40) runIec, 0, 0x2F * 2 ^ 58 + (2 ^ 40), false, runIec, 0, ⟨[1#8, 2#8, 3#8, 4#8], [], []⟩, [0x35#8], by decide +kernel⟩,
   ⟨opRun 0x2F (0) run1, 0, 0x2F * 2 ^ 58 + (0), false, run1, 0, ⟨[1#8, 2#8, 3#8, 4#8], [], []⟩, by decide +kernel⟩,
   ⟨opRun 0x30 (0) run1, 0, 0x30 * 2 ^ 58 + (0), false, run1, 0, ⟨[1#8, 2#8, 3#8, 4#8], [], []⟩, by decide +kernel⟩,
   ⟨opRun 0x30 (2 ^ 44 + 2 ^ 20 + 3 * 2 ^ 8) run1, 0, 0x30 * 2 ^ 58 + (2 ^ 44 + 2 ^ 20 + 3 * 2 ^ 8), false, run1, 0, ⟨[1#8, 2#8, 3#8, 4#8], [], []⟩, 1, [1#8], by decide +kernel⟩,
   ⟨opRun 0x31 (3 * 2 ^ 44) run1, 0, 0x31 * 2 ^ 58 + (3 * 2 ^ 44), false, run1, 0, ⟨[1#8, 2#8, 3#8, 4#8], [], []⟩, by decide +kernel⟩⟩

theorem witness_MapperTraps :
    (∃ (s : State) (e w : Nat) (first : Bool) (r : Run), (AtOp s e first r w 0x15) ∧ (reg r (opRs w) = 0)) ∧
    (∃ (s : State) (e w : Nat) (first : Bool) (r : Run) (o : Nat) (b : OutBuf), (AtOp s e first r w 0x2A) ∧ (curOut r = some (o, b)) ∧ (b.bytes.length < nbits w 33 22 + nbits w 21 10)) ∧
    (∃ (s : State) (e w : Nat) (first : Bool) (r : Run) (o : Nat) (b : OutBuf), (AtOp s e first r w 0x2B) ∧ (curOut r = some (o, b)) ∧ (8 * b.bytes.length < 8 * nbits w 47 34 + nbits w 33 31 + nbits w 30 24)) ∧
    (∃ (s : State) (e w : Nat) (first : Bool) (r : Run), (AtOp s e first r w 0x2A) ∧ (curOut r = none)) ∧
    (∃ (s : State) (e w : Nat) (first : Bool) (r : Run), (AtOp s e first r w 0x2B) ∧ (curOut r = none)) ∧
    (∃ (s : State) (e w : Nat) (first : Bool) (r : Run), (AtOp s e first r w 0x2C) ∧ (curOut r = none)) ∧
    (∃ (s : State) (e w : Nat) (first : Bool) (r : Run), (AtOp s e first r w 0x2D) ∧ (curOut r = none)) ∧
    (∃ (s : State) (e w : Nat) (first : Bool) (r : Run), (AtOp s e first r w 0x2E) ∧ (curOut r = none)) ∧
    (∃ (s : State) (e w : Nat) (first : Bool) (r : Run), (AtOp s e first r w 0x2F) ∧ (curOut r = none)) ∧
    (∃ (s : State) (e w : Nat) (first : Bool) (r : Run), (AtOp s e first r w 0x30) ∧ (curOut r = none)) ∧
    (∃ (s : State) (e w : Nat) (first : Bool) (r : Run), (AtOp s e first r w 0x31) ∧ (curOut r = none)) ∧
    (∃ (s : State) (e w : Nat) (first : Bool) (r : Run), (AtOp s e first r w 0x0A) ∧ (lvStream s r w ≠ 0) ∧ (snap s r (lvStream s r w) = none)) ∧
    (∃ (s : State) (e w : Nat) (first : Bool) (r : Run), (AtOp s e first r w 0x0B) ∧ (lvStream s r w ≠ 0) ∧ (snap s r (lvStream s r w) = none)) ∧
    (∃ (s : State) (e w : Nat) (first : Bool) (r : Run) (o : Nat) (b : OutBuf), (AtOp s e first r w 0x31) ∧ (curOut r = some (o, b)) ∧ (b.marks.length ≥ 2 ∨ nbits w 43 32 + markLen (nbits w 47 44) > b.bytes.length)) ∧
    (∃ (s : State) (e w : Nat) (first : Bool) (r : Run) (o : Nat) (b : OutBuf), (AtOp s e first r w 0x2D) ∧ (curOut r = some (o, b)) ∧ (reg r (opRs w) < 0 ∨ reg r (opRs w) > 86400999)) :=
  ⟨⟨opRun 0x15 (0) runZero, 0, 0x15 * 2 ^ 58 + (0), false, runZero, by decide +kernel⟩,
   ⟨opRun 0x2A (5 * 2 ^ 10) run1, 0, 0x2A * 2 ^ 58 + (5 * 2 ^ 10), false, run1, 0, ⟨[1#8, 2#8, 3#8, 4#8], [], []⟩, by decide +kernel⟩,
   ⟨opRun 0x2B (8 * 2 ^ 24 + 4 * 2 ^ 34) run1, 0, 0x2B * 2 ^ 58 + (8 * 2 ^ 24 + 4 * 2 ^ 34), false, run1, 0, ⟨[1#8, 2#8, 3#8, 4#8], [], []⟩, by decide +kernel⟩,
   ⟨opRun 0x2A (0) runShut, 0, 0x2A * 2 ^ 58 + (0), false, runShut, by decide +kernel⟩,
   ⟨opRun 0x2B (0) runShut, 0, 0x2B * 2 ^ 58 + (0), false, runShut, by decide +kernel⟩,
   ⟨opRun 0x2C (0) runShut, 0, 0x2C * 2 ^ 58 + (0), false, runShut, by decide +kernel⟩,
   ⟨opRun 0x2D (0) runShut, 0, 0x2D * 2 ^ 58 + (0), false, runShut, by decide +kernel⟩,
   ⟨opRun 0x2E (0) runShut, 0, 0x2E * 2 ^ 58 + (0), false, runShut, by decide +kernel⟩,
   ⟨opRun 0x2F (0) runShut, 0, 0x2F * 2 ^ 58 + (0), false, runShut, by decide +kernel⟩,
   ⟨opRun 0x30 (0) runShut, 0, 0x30 * 2 ^ 58 + (0), false, runShut, by decide +kernel⟩,
   ⟨opRun 0x31 (0) runShut, 0, 0x31 * 2 ^ 58 + (0), false, runShut, by decide +kernel⟩,
   ⟨opRun 0x0A (2 ^ 32) runFull, 0, 0x0A * 2 ^ 58 + (2 ^ 32), false, runFull, by decide +kernel⟩,
   ⟨opRun 0x0B (2 ^ 32) runFull, 0, 0x0B * 2 ^ 58 + (2 ^ 32), false, runFull, by decide +kernel⟩,
   ⟨opRun 0x31 (0) run1, 0, 0x31 * 2 ^ 58 + (0), false, run1, 0, ⟨[1#8, 2#8, 3#8, 4#8], [], []⟩, by decide +kernel⟩,
   ⟨opRun 0x2D (0) runNeg, 0, 0x2D * 2 ^ 58 + (0), false, runNeg, 0, ⟨[1#8, 2#8, 3#8, 4#8], [], []⟩, by decide +kernel⟩⟩

theorem witness_MapperRunControl :
    (∃ (s : State) (t1 : State), ((tryCyc s true).orElse (fun _ => tryFiltered s true) = some t1)) ∧
    (∃ (s : State) (t1 : State), ((tryCyc s true).orElse (fun _ => tryFiltered s true) = none) ∧ (s.flt.filtered.any c0 = false) ∧ ((tryCyc s false).orElse (fun _ => (tryHolds s [] s.map.holds).orElse (fun _ => tryFiltered s false)) = some t1)) ∧
    (∃ (s : State) (e : Nat) (x : Sent) (rest : List Sent), (e ≤ 15) ∧ ((engine s e).state = 1) ∧ ((engine s e).c0 = none) ∧ ((engine s e).sh = none) ∧ ((engine s e).queue.any c0 = false) ∧ (takeFirst (fun x => decide (c0 x = false)) (engine s e).queue = some (x, rest))) ∧
    (∃ (s : State) (e : Nat) (x : Sent) (rest : List Sent), (e ≤ 15) ∧ ((engine s e).state = 1) ∧ ((engine s e).c0 = none) ∧ ((engine s e).sh = none) ∧ ((engine s e).queue.any c0 = true) ∧ (takeFirst (fun x => decide (c0 x = true)) (engine s e).queue = some (x, rest))) ∧
    (∃ (s : State) (e t0 : Nat) (r : Run), (e ≤ 15) ∧ ((engine s e).state = 1) ∧ ((engine s e).c0 = none) ∧ ((engine s e).sh = some r) ∧ (r.ended = none) ∧ (r.waiting = none) ∧ (r.since = some t0) ∧ ((engine s e).queue.any c0 = true)) ∧
    (∃ (s : State) (e w : Nat) (first : Bool) (r : Run), (AtOp s e first r w 0x01)) ∧
    (∃ (s : State) (e w : Nat) (first : Bool) (r : Run), (AtOp s e first r w 0x02)) ∧
    (∃ (s : State) (e w : Nat) (first : Bool) (r : Run), (AtOp s e first r w 0x03)) ∧
    (∃ (s : State) (e : Nat) (r : Run), (ctx s e true = some r) ∧ (r.ended = none) ∧ (r.since.isSome = true) ∧ (meteredTime s r > r.tMax)) ∧
    (∃ (s : State) (e : Nat) (r : Run), (ctx s e true = none) ∧ (ctx s e false = some r) ∧ (r.ended = none) ∧ (r.since.isSome = true) ∧ (meteredTime s r > r.tMax)) ∧
    (∃ (s : State) (e : Nat) (first : Bool) (g : RunEnd) (q : List Sent), ((ctx s e first).bind (·.ended) = some g) ∧ (intakeGroup (g.group.any c0) s.com.intake g.group = some q)) ∧
    (∃ (s : State) (e id : Nat) (r : Run) (p : Snap), (ctx s e false = some r) ∧ (r.waiting = some id) ∧ ((r.snaps.map (fun p => if p.stream ≠ id then p else { p with deep := some (if tget s.map.commits id ≥ p.commits + 2 then [] else if p.lvHalf then (strm s id).ovf1 else (strm s id).ovf0) })).find? (fun p => decide (p.stream = id)) = some p)) ∧
    (∃ (s : State) (x : Sent) (rest : List Sent) (t : Nat), (s.map.holds = x :: rest) ∧ (ndPolicy s x.node = 2) ∧ ((nodeRt s x.node).fCredit < fabCharge s x) ∧ (x.held = some t) ∧ (ndGap s x.node * usUnits ≤ since s t)) ∧
    (∃ (s : State) (q : Nat) (c : Copy) (rest : List Copy) (t : Nat), ((eg s q).waiting = c :: rest) ∧ (ndPolicy s (copyLeaf s c) = 2) ∧ ((nodeRt s (copyLeaf s c)).eCredit < copyBytes s q c) ∧ (c.held = some t) ∧ (ndGap s (copyLeaf s c) * usUnits ≤ since s t)) :=
  ⟨⟨{ live with flt := { filtered := [default] } }, { live with com := { intake := [{ (default : Sent) with oasis := true }] } }, by decide +kernel⟩,
   ⟨{ live with flt := { filtered := [{ (default : Sent) with cls := 3 }] } }, { live with com := { intake := [{ (default : Sent) with cls := 3 }] } }, by decide +kernel⟩,
   ⟨{ live with map := { engines := [(0, { (default : Engine) with state := 1, queue := [{ (default : Sent) with cls := 3 }] })] } }, 0, { (default : Sent) with cls := 3 }, [], by decide⟩,
   ⟨{ live with map := { engines := [(0, { (default : Engine) with state := 1, queue := [default] })] } }, 0, default, [], by decide⟩,
   ⟨{ live with map := { engines := [(0, { (default : Engine) with state := 1, queue := [default], sh := some run1 })] } }, 0, 0, run1, by decide⟩,
   ⟨opState 0x01 0, 0, 0x01 * 2 ^ 58, false, run1, by decide +kernel⟩,
   ⟨opState 0x02 0, 0, 0x02 * 2 ^ 58, false, run1, by decide +kernel⟩,
   ⟨opState 0x03 0, 0, 0x03 * 2 ^ 58, false, run1, by decide +kernel⟩,
   ⟨{ live with map := { engines := [(0, { (default : Engine) with state := 1, c0 := some run1 })] }, tim := { dt := 2 ^ 75 } }, 0, run1, by decide⟩,
   ⟨{ live with map := { engines := [(0, { (default : Engine) with state := 1, sh := some run1 })] }, tim := { dt := 2 ^ 75 } }, 0, run1, by decide⟩,
   ⟨{ live with map := { engines := [(0, { (default : Engine) with state := 1, sh := some { run1 with ended := some { group := [] } } })] } }, 0, false, { group := [] }, [], by decide⟩,
   ⟨{ live with map := { engines := [(0, { (default : Engine) with state := 1, sh := some { run1 with waiting := some 5, snaps := [snapOf 5] } })] } }, 0, 5, { run1 with waiting := some 5, snaps := [snapOf 5] }, { snapOf 5 with deep := some [] }, by decide⟩,
   ⟨{ deferring with map := { holds := [{ (default : Sent) with held := some 0 }] } }, { (default : Sent) with held := some 0 }, [], 0, by decide +kernel⟩,
   ⟨{ deferring with egr := { ports := [(0, { (default : EgPort) with waiting := [copy5] })] } }, 0, copy5, [], 0, by decide +kernel⟩⟩

theorem witness_MapperService :
    (∃ (s : State) (r : Req) (e : Nat), (Allowed s r Reg.MAP_ENGINE_CMD) ∧ (e ≤ 15) ∧ (engServes s e = true) ∧ (1 < enginesServing s)) ∧
    (∃ (s : State) (r : Req) (e : Nat), (Allowed s r Reg.MAP_ENGINE_CMD) ∧ (e ≤ 15) ∧ ((engine s e).state = 1) ∧ ((engine s e).emptying = true)) ∧
    (∃ (s : State) (r : Req) (e : Nat), (Allowed s r Reg.MAP_ENGINE_CMD) ∧ (e ≤ 15) ∧ ((engine s e).state = 2)) ∧
    (∃ (s : State) (e : Nat), ((engine s e).emptying = true) ∧ ((engine s e).queue = []) ∧ ((engine s e).c0 = none) ∧ ((engine s e).sh = none)) ∧
    (∃ (s : State) (r : Req) (p : Nat), (Allowed s r Reg.MAP_PROG_CMD) ∧ (p ≠ 0) ∧ (p ≤ 4095) ∧ (progLen s s.tag p ≠ 0) ∧ (r ≠ .steward) ∧ ((prog s p).state ≠ 3)) ∧
    (∃ (s : State) (r : Req) (p : Nat), (Allowed s r Reg.MAP_PROG_CMD) ∧ (p ≠ 0) ∧ (p ≤ 4095) ∧ (progLen s s.tag p ≠ 0) ∧ (r ≠ .steward) ∧ ((prog s p).state = 3)) ∧
    (∃ (s : State) (r : Req) (p : Nat), (Allowed s r Reg.MAP_PROG_CMD) ∧ (p ≠ 0) ∧ (p ≤ 4095) ∧ (progLen s s.tag p ≠ 0) ∧ (r ≠ .steward) ∧ ((prog s p).state = 1)) ∧
    (∃ (s : State) (r : Req) (p : Nat), (Allowed s r Reg.MAP_PROG_CMD) ∧ (p ≠ 0) ∧ (p ≤ 4095) ∧ (progLen s s.tag p ≠ 0) ∧ (r ≠ .steward)) ∧
    (∃ (s : State) (p : Nat), ((prog s p).state = 2) ∧ (progBusy s p = false)) ∧
    (∃ (s : State) (p : Nat), ((prog s p).state = 2) ∧ ((prog s p).drainAt ≤ s.tim.boundaries)) ∧
    (∃ (s : State) (r : Req) (i : Nat), (Allowed s r Reg.MAP_CYC_CMD) ∧ (i ≤ 255) ∧ (r ≠ .steward)) ∧
    (∃ (s : State) (r : Req) (i : Nat), (Allowed s r Reg.MAP_CYC_CMD) ∧ (i ≤ 255) ∧ (r ≠ .steward)) ∧
    (∃ (s : State) (r : Req) (i : Nat), (Allowed s r Reg.MAP_CYC_CMD) ∧ (i ≤ 255) ∧ (r ≠ .steward)) ∧
    (∃ (s : State) (r : Req), (Allowed s r Reg.MAP_CNT_CLEAR)) ∧
    (∃ (s : State) (r : Req), (Allowed s r Reg.MAP_CNT_CLEAR)) :=
  ⟨⟨{ live with map := { engines := [(0, { (default : Engine) with state := 1 }), (1, { (default : Engine) with state := 1 })] } }, gd, 0, by decide⟩,
   ⟨{ live with map := { engines := [(0, { (default : Engine) with state := 1, emptying := true })] } }, gd, 0, by decide⟩,
   ⟨{ live with map := { engines := [(0, { (default : Engine) with state := 2 })] } }, gd, 0, by decide⟩,
   ⟨{ live with map := { engines := [(0, { (default : Engine) with state := 1, emptying := true })] } }, 0, by decide⟩,
   ⟨opState 0x01 0, gd, 1, by decide⟩,
   ⟨{ opState 0x01 0 with map := { progs := [(1, { (default : Prog) with state := 3 })] } }, gd, 1, by decide⟩,
   ⟨{ opState 0x01 0 with map := { progs := [(1, { (default : Prog) with state := 1 })] } }, gd, 1, by decide⟩,
   ⟨opState 0x01 0, gd, 1, by decide⟩,
   ⟨{ opState 0x01 0 with map := { progs := [(1, { (default : Prog) with state := 2 })] } }, 1, by decide⟩,
   ⟨{ opState 0x01 0 with map := { progs := [(1, { (default : Prog) with state := 2 })] } }, 1, by decide⟩,
   ⟨live, gd, 9, by decide⟩,
   ⟨live, gd, 9, by decide⟩,
   ⟨live, gd, 9, by decide⟩,
   ⟨live, gd, by decide⟩,
   ⟨live, gd, by decide⟩⟩

theorem witness_CommitAndEgress :
    (∃ (s : State) (x : Sent) (q : List Sent), (shadowing s = false) ∧ (nextCommit s = some (x, q))) ∧
    (∃ (s : State) (e : LogEnt) (rest : List LogEnt) (x : Sent) (q : List Sent), (shadowing s = true) ∧ (s.red.logIn = e :: rest) ∧ (takeFirst (fun x => decide (x.mirror = e.mirror ∧ x.outNo.getD 0xFF = e.outNo)) s.com.intake = some (x, q)) ∧ (e.index / 2 ^ 56 = s.com.gen)) ∧
    (∃ (s : State) (x : Sent) (rest : List Sent), (s.egr.replicate = x :: rest)) ∧
    (∃ (s : State) (q : Nat), (q ≤ 104) ∧ (takeCopy (eg s q) (fun c => decide (c.deferred ≠ 0 ∧ c.deferred ≤ s.tim.boundaries)) = none) ∧ (((tryZero s q).orElse (fun _ => tryClasses s q [1, 2, 3, 4, 5, 6, 7])).isSome = true)) ∧
    (∃ (s : State) (q : Nat) (c : Copy) (rest : List Copy), (q ≤ 104) ∧ (mayStart s q = true) ∧ ((eg s q).cur = none) ∧ (takeFirst (fun c => decide (copyCls c = 0)) (eg s q).queue = some (c, rest))) ∧
    (∃ (s : State) (q : Nat) (c : Copy), ((eg s q).cur = some c) ∧ (c.sealOp = none)) ∧
    (∃ (s : State) (q id tag : Nat) (c : Copy) (o : VOp), ((eg s q).cur = some c) ∧ (c.sealOp = some (id, tag)) ∧ (s.vault.ops.find? (fun o => decide (o.user = 7 ∧ o.ident = id)) = some o) ∧ ((opComplete s 7 id).1 = true) ∧ (c.twin = 0)) ∧
    (∃ (s : State) (q : Nat) (c : Copy), (pkind q = .cf) ∧ ((eg s q).cur = some c)) ∧
    (∃ (s : State) (q t : Nat) (c : Copy) (rest : List Copy), (pkind q = .cf) ∧ ((eg s q).queue = c :: rest) ∧ (c.firstTry = some t) ∧ (2 * periodUnits s ≤ since s t)) :=
  ⟨⟨{ live with com := { intake := [default] } }, default, [], by decide +kernel⟩,
   ⟨{ live with dev := .standbyShadow, com := { intake := [{ (default : Sent) with mirror := 4 }] }, red := { logIn := [{ (default : LogEnt) with mirror := 4, outNo := 255 }] } }, { (default : LogEnt) with mirror := 4, outNo := 255 }, [], { (default : Sent) with mirror := 4 }, [], by decide +kernel⟩,
   ⟨{ live with egr := { replicate := [default] } }, default, [], by decide⟩,
   ⟨sending { (default : EgPort) with state := 1, waiting := [copy5] }, 0, by decide +kernel⟩,
   ⟨sending { (default : EgPort) with state := 1, queue := [copy5] }, 0, copy5, [], by decide +kernel⟩,
   ⟨sending { (default : EgPort) with cur := some copy5 }, 0, copy5, by decide +kernel⟩,
   ⟨{ sending { (default : EgPort) with cur := some { copy5 with sealOp := some (0, 2) } } with vault := vaultOp 7 }, 0, 0, 2, { copy5 with sealOp := some (0, 2) }, opOf 7, by decide⟩,
   ⟨{ live with egr := { ports := [(64, { (default : EgPort) with cur := some copy5 })] } }, 64, copy5, by decide⟩,
   ⟨{ live with egr := { ports := [(64, { (default : EgPort) with queue := [{ copy5 with firstTry := some 0 }] })] }, tim := { dt := 2 ^ 80 } }, 64, 0, { copy5 with firstTry := some 0 }, [], by decide⟩⟩

theorem witness_BudgetCommands :
    (∃ (s : State) (r : Req) (n : Nat), (Allowed s r Reg.BGT_NODE_CMD) ∧ (n ≠ 0) ∧ (n ≤ 8191) ∧ (ndUsed s n = true) ∧ (r ≠ .steward)) ∧
    (∃ (s : State) (r : Req) (n : Nat), (Allowed s r Reg.BGT_NODE_CMD) ∧ (n ≠ 0) ∧ (n ≤ 8191) ∧ (ndUsed s n = true) ∧ (r ≠ .steward) ∧ ((nodeRt s n).state = 1)) ∧
    (∃ (s : State) (r : Req) (n : Nat), (Allowed s r Reg.BGT_NODE_CMD) ∧ (n ≠ 0) ∧ (n ≤ 8191) ∧ (ndUsed s n = true) ∧ (r ≠ .steward)) ∧
    (∃ (s : State) (r : Req) (n : Nat), (Allowed s r Reg.BGT_NODE_CMD) ∧ (n ≠ 0) ∧ (n ≤ 8191) ∧ (ndUsed s n = true) ∧ (r ≠ .steward)) ∧
    (∃ (s : State) (r : Req) (n : Nat), (Allowed s r Reg.BGT_NODE_CMD) ∧ (n ≠ 0) ∧ (n ≤ 8191) ∧ (ndUsed s n = true) ∧ (r ≠ .steward) ∧ ((nodeRt s n).out = true)) ∧
    (∃ (s : State) (n : Nat), ((nodeRt s n).state = 2) ∧ ((nodeRt s n).drainAt ≤ s.tim.boundaries)) ∧
    (∃ (s : State) (r : Req), (Allowed s r Reg.BGT_CNT_CLEAR)) ∧
    (∃ (s : State) (r : Req), (Allowed s r Reg.BGT_CNT_CLEAR)) ∧
    (∃ (s : State) (r : Req), (Allowed s r Reg.BGT_CNT_CLEAR)) :=
  ⟨⟨{ live with cfg := [(5 * 2 ^ 20 + 72, 0x800000#32)], bgt := { nodes := [(9, { (default : Node) with state := 1 })] } }, gd, 9, by decide⟩,
   ⟨{ live with cfg := [(5 * 2 ^ 20 + 72, 0x800000#32)], bgt := { nodes := [(9, { (default : Node) with state := 1 })] } }, gd, 9, by decide⟩,
   ⟨{ live with cfg := [(5 * 2 ^ 20 + 72, 0x800000#32)], bgt := { nodes := [(9, { (default : Node) with state := 1 })] } }, gd, 9, by decide⟩,
   ⟨{ live with cfg := [(5 * 2 ^ 20 + 72, 0x800000#32)], bgt := { nodes := [(9, { (default : Node) with state := 1 })] } }, gd, 9, by decide⟩,
   ⟨{ live with cfg := [(5 * 2 ^ 20 + 72, 0x800000#32)], bgt := { nodes := [(9, { (default : Node) with state := 1, out := true })] } }, gd, 9, by decide⟩,
   ⟨{ live with cfg := [(5 * 2 ^ 20 + 72, 0x800000#32)], bgt := { nodes := [(9, { (default : Node) with state := 2 })] } }, 9, by decide⟩,
   ⟨live, gd, by decide⟩,
   ⟨live, gd, by decide⟩,
   ⟨live, gd, by decide⟩⟩

theorem witness_JournalCommands :
    (∃ (s : State) (x : Sent) (rest : List JItem), (s.jrn.scanning = false) ∧ (s.jrn.state ≠ 0) ∧ (s.dev = .active) ∧ (s.jrn.queue = .data x :: rest)) ∧
    (∃ (s : State) (code a b stamp : Nat) (rest : List JItem), (s.jrn.scanning = false) ∧ (s.jrn.state ≠ 0) ∧ (s.dev = .active) ∧ (s.jrn.queue = .mark code a b stamp :: rest)) ∧
    (∃ (s : State), (s.jrn.recCount ≠ 0) ∧ (closeTime s ≤ since s s.jrn.openSince)) ∧
    (∃ (s : State) (found : List Nat), (s.jrn.scanning = true) ∧ (s.jrn.area.filterMap (fun e => e.2.bind (fun b => if decide (e.1 < jrnPlaces s) && blockGood b then some b.number else none)) = found)) ∧
    (∃ (s : State) (r : Req) (value : Word) (k : JBlock), (Allowed s r Reg.JRN_EXPORT_CMD) ∧ (bit value 2 = true) ∧ (bits value 1 0 ≠ 3) ∧ (s.jrn.expData = []) ∧ (heldBlock s (addr64 s Reg.JRN_EXPORT_BLOCK_LO Reg.JRN_EXPORT_BLOCK_HI) = some k)) ∧
    (∃ (s : State), (s.jrn.expData ≠ [])) ∧
    (∃ (s : State) (r : Req), (Allowed s r Reg.JRN_CTRL) ∧ (mayWrite r Reg.JRN_CTRL 0 = true)) ∧
    (∃ (s : State) (r : Req), (Allowed s r Reg.JRN_CTRL) ∧ (mayWrite r Reg.JRN_CTRL 0 = true) ∧ (s.jrn.state = 1)) ∧
    (∃ (s : State), (s.jrn.state = 2) ∧ (s.jrn.queue = [])) ∧
    (∃ (s : State), (s.jrn.state = 2) ∧ (s.jrn.drainAt ≤ s.tim.boundaries)) ∧
    (∃ (s : State) (r : Req), (Allowed s r Reg.JRN_CNT_CLEAR)) ∧
    (∃ (s : State) (r : Req), (Allowed s r Reg.JRN_CNT_CLEAR) ∧ (reqGuard r = true)) :=
  ⟨⟨{ live with jrn := { state := 1, queue := [.data default] } }, default, [], by decide⟩,
   ⟨{ live with jrn := { state := 1, queue := [.mark 1 0 0 0] } }, 1, 0, 0, 0, [], by decide⟩,
   ⟨{ live with jrn := { recCount := 1 }, tim := { dt := 2 ^ 80 } }, by decide⟩,
   ⟨{ live with jrn := { scanning := true } }, [], by decide⟩,
   ⟨{ live with jrn := { area := [(0, some default)] } }, hf, 4#32, default, by decide⟩,
   ⟨{ live with jrn := { expData := [1#8] } }, by decide⟩,
   ⟨live, gd, by decide⟩,
   ⟨{ live with jrn := { state := 1 } }, gd, by decide⟩,
   ⟨{ live with jrn := { state := 2 } }, by decide⟩,
   ⟨{ live with jrn := { state := 2 } }, by decide⟩,
   ⟨live, gd, by decide⟩,
   ⟨live, gd, by decide⟩⟩

theorem witness_PeriodBoundary :
    (∃ (s : State) (q bound : Nat), (boundaryDue s = some (q, bound))) :=
  ⟨{ live with tim := { running := true, dt := 2 ^ 75 }, regs := [(Reg.TIM_PERIOD, 1000#32)] }, (now { live with tim := { running := true, dt := 2 ^ 75 } }) / 4000000, (now { live with tim := { running := true, dt := 2 ^ 75 } }) / 4000000 * 4000000, by decide +kernel⟩

theorem witness_LaneDelivery :
    (∃ (s : State) (k : Nat) (x : Sent) (rest : List LaneItem), ((lane s k).list = .data x :: rest) ∧ ((lane s k).state ≠ 0) ∧ ((lane s k).link = true) ∧ ((lane s k).gap = none) ∧ (s.dev = .active) ∧ (laneRoom s k (.data x) = true)) ∧
    (∃ (s : State) (k stamp index n c : Nat) (rest : List LaneItem), ((lane s k).list = .fence stamp index n c :: rest) ∧ ((lane s k).state ≠ 0) ∧ ((lane s k).link = true) ∧ ((lane s k).gap = none) ∧ (s.dev = .active) ∧ (laneRoom s k (.fence stamp index n c) = true)) ∧
    (∃ (s : State) (k code stamp a b : Nat) (rest : List LaneItem), ((lane s k).list = .mark code stamp a b :: rest) ∧ ((lane s k).state ≠ 0) ∧ ((lane s k).link = true) ∧ ((lane s k).gap = none) ∧ (s.dev = .active) ∧ (laneRoom s k (.mark code stamp a b) = true)) ∧
    (∃ (s : State) (k t : Nat) (it : LaneItem) (rest : List LaneItem), ((lane s k).list = it :: rest) ∧ ((lane s k).wait = some t) ∧ ((lane s k).state = 1) ∧ (laneRoom s k it = false) ∧ (holdUs s * usUnits ≤ since s t)) ∧
    (∃ (s : State) (k : Nat) (g : Gap), ((lane s k).gap = some g) ∧ (s.dev = .active) ∧ ((lane s k).state ≠ 0) ∧ ((lane s k).link = true) ∧ (quarterFree s k = true)) ∧
    (∃ (s : State) (r : Req) (k : Nat) (value : Word), (Allowed s r (Reg.LNI_RX_TAIL k)) ∧ ((value.toNat + 2 ^ 32 - (lane s k).tail) % 2 ^ 32 ≤ (lane s k).used.length)) ∧
    (∃ (s : State) (r : Req) (k : Nat) (value : Word), (Allowed s r (Reg.LNI_RX_TAIL k)) ∧ ((lane s k).used.length < (value.toNat + 2 ^ 32 - (lane s k).tail) % 2 ^ 32)) ∧
    (∃ (s : State) (r : Req) (k : Nat), (Allowed s r (Reg.LNI_CTRL k)) ∧ (mayWrite r (Reg.LNI_CTRL k) 0 = true) ∧ ((lane s k).link = true) ∧ ((lane s k).state ≠ 1) ∧ ((lane s k).state ≠ 2) ∧ (ringEntries s k ≠ 0) ∧ (dataBytes s k ≠ 0) ∧ ((lane s k).gap = none) ∧ ((lane s k).missed = none)) ∧
    (∃ (s : State) (r : Req) (k : Nat), (Allowed s r (Reg.LNI_CTRL k)) ∧ (mayWrite r (Reg.LNI_CTRL k) 0 = true) ∧ ((lane s k).state = 1)) ∧
    (∃ (s : State) (k : Nat), ((lane s k).state = 2) ∧ ((lane s k).list = [])) ∧
    (∃ (s : State) (k : Nat), ((lane s k).state = 2) ∧ ((lane s k).drainAt ≤ s.tim.boundaries)) ∧
    (∃ (s : State) (k : Nat), ((lane s k).link = true)) ∧
    (∃ (s : State) (k : Nat), (k < 3)) :=
  ⟨⟨atLane { laneOn with list := [.data default] }, 0, default, [], by decide +kernel⟩,
   ⟨atLane { laneOn with list := [.fence 0 0 0 1] }, 0, 0, 0, 0, 1, [], by decide +kernel⟩,
   ⟨atLane { laneOn with list := [.mark 1 0 0 0] }, 0, 1, 0, 0, 0, [], by decide +kernel⟩,
   ⟨{ atLane { laneOn with list := [.mark 1 0 0 0], wait := some 0 } with regs := [], tim := { dt := 2 ^ 80 } }, 0, 0, .mark 1 0 0 0, [], by decide⟩,
   ⟨atLane { laneOn with gap := some default }, 0, default, by decide⟩,
   ⟨atLane { laneOn with used := [0, 64] }, hf, 0, 1#32, by decide⟩,
   ⟨atLane { laneOn with used := [] }, hf, 0, 1#32, by decide⟩,
   ⟨atLane { (default : Lane) with link := true }, hf, 0, by decide⟩,
   ⟨atLane laneOn, hf, 0, by decide⟩,
   ⟨atLane { laneOn with state := 2 }, 0, by decide⟩,
   ⟨atLane { laneOn with state := 2 }, 0, by decide⟩,
   ⟨atLane laneOn, 0, by decide⟩,
   ⟨live, 0, by decide⟩⟩

theorem witness_LaneTransmission :
    (∃ (s : State) (r : Req) (k : Nat) (on : Bool), (Allowed s r (Reg.LNI_CTRL k)) ∧ (mayWrite r (Reg.LNI_CTRL k) 1 = true) ∧ (on = false ∨ (lane s k).link = true)) ∧
    (∃ (s : State) (r : Req) (k : Nat) (on : Bool), (Allowed s r (Reg.LNI_CTRL k)) ∧ (mayWrite r (Reg.LNI_CTRL k) 2 = true) ∧ (on = false ∨ (lane s k).link = true)) ∧
    (∃ (s : State) (r : Req) (k : Nat) (ring1 : Bool) (value : Word), (Allowed s r (txTailReg k ring1)) ∧ ((value.toNat + 2 ^ 32 - txHead s k ring1) % 2 ^ 32 ≤ txEntries s k ring1)) ∧
    (∃ (s : State) (k : Nat) (ring1 : Bool) (desc payload : Bytes), (isStandby s = false) ∧ ((if ring1 then (lane s k).tx1 else (lane s k).tx0) = true) ∧ ((lane s k).link = true) ∧ ((rd s (txTailReg k ring1)).toNat ≠ txHead s k ring1)) ∧
    (∃ (s : State) (r : Req) (value : Word), (Allowed s r Reg.LNI_CNT_CLEAR)) :=
  ⟨⟨atLane laneOn, hf, 0, true, by decide⟩,
   ⟨atLane laneOn, gd, 0, true, by decide⟩,
   ⟨atLane laneOn, hf, 0, false, 1#32, by decide⟩,
   ⟨{ atLane { laneOn with tx0 := true, tx0Head := 5 } with dev := .active }, 0, false, [], [], by decide⟩,
   ⟨live, gd, 7#32, by decide⟩⟩

theorem witness_VoterCommands :
    (∃ (s : State) (v cycle index : Nat) (w : Window), (s.vot.windows.find? (fun w => decide (w.vs = v ∧ w.cycle = cycle ∧ w.index = index)) = some w) ∧ (vsF s v 1 15 0 * usUnits ≤ since s w.opened)) ∧
    (∃ (s : State) (r : Req) (k : Nat), (Allowed s r Reg.VOT_LANE_CMD) ∧ (k ≤ 2) ∧ (reqLane r = k)) ∧
    (∃ (s : State) (r : Req) (k : Nat), (Allowed s r Reg.VOT_LANE_CMD) ∧ (k ≤ 2) ∧ (reqLane r ≠ k) ∧ ((lane s k).outAsk.filter (fun a => decide (a.2 = fenceCycle s ∧ a.1 ≠ reqLane r)) = [])) ∧
    (∃ (s : State) (r : Req) (k : Nat), (Allowed s r Reg.VOT_LANE_CMD) ∧ (k ≤ 2) ∧ (reqLane r ≠ k) ∧ ((lane s k).outAsk.filter (fun a => decide (a.2 = fenceCycle s ∧ a.1 ≠ reqLane r)) ≠ [])) ∧
    (∃ (s : State) (r : Req) (k : Nat), (Allowed s r Reg.VOT_LANE_CMD) ∧ (k ≤ 2) ∧ (reqLane r = k) ∧ ((lane s k).fenceSinceGap = true) ∧ ((lane s k).vote = .out)) ∧
    (∃ (s : State) (r : Req) (v : Nat), (Allowed s r Reg.VOT_STREAM_CMD) ∧ (r ≠ .steward) ∧ (v < 4096)) ∧
    (∃ (s : State) (r : Req) (v : Nat), (Allowed s r Reg.VOT_STREAM_CMD) ∧ (r ≠ .steward) ∧ ((tget s.vot.streams v).state = 1)) ∧
    (∃ (s : State) (r : Req) (v : Nat), (Allowed s r Reg.VOT_STREAM_CMD) ∧ (r ≠ .steward)) ∧
    (∃ (s : State) (v : Nat), ((tget s.vot.streams v).state = 2) ∧ ((tget s.vot.streams v).drainAt ≤ s.tim.boundaries)) ∧
    (∃ (s : State) (r : Req), (Allowed s r Reg.VOT_CNT_CLEAR)) ∧
    (∃ (s : State) (r : Req), (Allowed s r Reg.VOT_CNT_CLEAR)) ∧
    (∃ (s : State) (r : Req), (Allowed s r Reg.VOT_CNT_CLEAR)) :=
  ⟨⟨{ live with vot := { windows := [default] } }, 0, 0, 0, default, by decide⟩,
   ⟨live, gd, 0, by decide⟩,
   ⟨live, gd, 1, by decide⟩,
   ⟨atLane laneOn |> fun s => setLane s 1 { laneOn with outAsk := [(2, 0)] }, gd, 1, by decide⟩,
   ⟨atLane { laneOn with fenceSinceGap := true }, gd, 0, by decide⟩,
   ⟨live, gd, 3, by decide⟩,
   ⟨{ live with vot := { streams := [(3, { (default : VStream) with state := 1 })] } }, gd, 3, by decide⟩,
   ⟨live, gd, 3, by decide⟩,
   ⟨{ live with vot := { streams := [(3, { (default : VStream) with state := 2 })] } }, 3, by decide⟩,
   ⟨live, gd, by decide⟩,
   ⟨live, gd, by decide⟩,
   ⟨live, gd, by decide⟩⟩

theorem witness_TimeControl :
    (∃ (s : State) (r : Req) (value : Word), (Allowed s r Reg.TIM_INC_LO) ∧ (fld s Reg.TIM_CTRL 0 0 = 1 ↔ r = .steward)) ∧
    (∃ (s : State) (r : Req) (value : Word) (want dev : Nat), (Allowed s r Reg.TIM_INC_HI) ∧ (fld s Reg.TIM_CTRL 0 0 = 1 ↔ r = .steward) ∧ (want = bits value 7 0 * 2 ^ 32 + s.tim.staged) ∧ (dev = nominalInc * incBound s / 1000000) ∧ (nominalInc - dev ≤ want) ∧ (want ≤ nominalInc + dev)) ∧
    (∃ (s : State) (r : Req) (value : Word) (want dev : Nat), (Allowed s r Reg.TIM_INC_HI) ∧ (fld s Reg.TIM_CTRL 0 0 = 1 ↔ r = .steward) ∧ (want = bits value 7 0 * 2 ^ 32 + s.tim.staged) ∧ (dev = nominalInc * incBound s / 1000000) ∧ (want < nominalInc - dev ∨ nominalInc + dev < want)) ∧
    (∃ (s : State) (r : Req) (value : Word), (Allowed s r Reg.TIM_INC_LO) ∧ (¬(fld s Reg.TIM_CTRL 0 0 = 1 ↔ r = .steward))) ∧
    (∃ (s : State) (r : Req), (Allowed s r Reg.TIM_ADJ_CMD) ∧ (fld s Reg.TIM_CTRL 0 0 = 1 ↔ r = .steward)) ∧
    (∃ (s : State) (r : Req), (Allowed s r Reg.TIM_ADJ_CMD) ∧ (fld s Reg.TIM_CTRL 0 0 = 1 ↔ r = .steward)) ∧
    (∃ (s : State) (r : Req), (Allowed s r Reg.TIM_ADJ_CMD) ∧ (fld s Reg.TIM_CTRL 0 0 = 1 ↔ r = .steward)) ∧
    (∃ (s : State) (r : Req) (value : Word), (Allowed s r Reg.TIM_LEAP_CTRL)) ∧
    (∃ (s : State), (leapKind s ≠ 0) ∧ ((rd s Reg.TIM_LEAP_AT).toNat * secUnits ≤ now s)) ∧
    (∃ (s : State), (s.tim.refLost = false)) ∧
    (∃ (s : State), (s.tim.holdover = true) ∧ (s.tim.holdoverLong = false) ∧ (max 1 (fld s Reg.TIM_CTRL 31 26) * secUnits ≤ since s s.tim.holdSince)) ∧
    (∃ (s : State) (r : Req), (Allowed s r Reg.TIM_CNT_CLEAR)) ∧
    (∃ (s : State) (r : Req), (Allowed s r Reg.TIM_CNT_CLEAR)) ∧
    (∃ (s : State) (r : Req), (Allowed s r Reg.TIM_CNT_CLEAR)) :=
  ⟨⟨live, gd, 5#32, by decide⟩,
   ⟨live, gd, 2#32, 2^33, nominalInc * incBound live / 1000000, by decide +kernel⟩,
   ⟨live, gd, 0#32, 0, nominalInc * incBound live / 1000000, by decide +kernel⟩,
   ⟨{ live with regs := [(Reg.TIM_CTRL, 1#32)] }, gd, 5#32, by decide⟩,
   ⟨live, gd, by decide⟩,
   ⟨live, gd, by decide⟩,
   ⟨live, gd, by decide⟩,
   ⟨live, gd, 1#32, by decide⟩,
   ⟨{ live with regs := [(Reg.TIM_LEAP_CTRL, 1#32)] }, by decide⟩,
   ⟨live, by decide⟩,
   ⟨{ live with tim := { dt := 2 ^ 80 - 2 ^ 30, holdover := true } }, by decide⟩,
   ⟨live, gd, by decide⟩,
   ⟨live, gd, by decide⟩,
   ⟨live, gd, by decide⟩⟩

theorem witness_TriggersAndCaptures :
    (∃ (s : State) (r : Req) (t : Nat), (Allowed s r Reg.TIM_TRG_CMD) ∧ (t ≤ 63) ∧ (r ≠ .steward)) ∧
    (∃ (s : State) (r : Req) (t : Nat), (Allowed s r Reg.TIM_TRG_CMD) ∧ (t ≤ 63) ∧ (r = .steward) ∧ (firesClass0 s t = true)) ∧
    (∃ (s : State) (r : Req) (t : Nat), (Allowed s r Reg.TIM_TRG_CMD) ∧ (t ≤ 63) ∧ (r ≠ .steward)) ∧
    (∃ (s : State) (t d : Nat), ((trig s t).due = some d) ∧ ((trig s t).armed = true) ∧ (d ≤ now s) ∧ (trigPeriod s t = false) ∧ (trigStep s t = 0)) ∧
    (∃ (s : State) (t d : Nat), ((trig s t).due = some d) ∧ ((trig s t).armed = true) ∧ (d ≤ now s) ∧ (trigPeriod s t = false) ∧ (trigStep s t ≠ 0)) ∧
    (∃ (s : State) (t e : Nat), ((trig s t).pulseEnd = some e) ∧ (e ≤ now s)) ∧
    (∃ (s : State) (c : Nat) (level : Bool) (t : Nat), (c ≤ 7) ∧ (¬(if level then bits (rd s (Reg.TIM_CAP_CFG c)) 1 0 = 1 ∨ bits (rd s (Reg.TIM_CAP_CFG c)) 1 0 = 3 else bits (rd s (Reg.TIM_CAP_CFG c)) 1 0 = 2 ∨ bits (rd s (Reg.TIM_CAP_CFG c)) 1 0 = 3))) ∧
    (∃ (s : State) (c : Nat) (level : Bool) (t p : Nat), (c ≤ 7) ∧ ((if level then bits (rd s (Reg.TIM_CAP_CFG c)) 1 0 = 1 ∨ bits (rd s (Reg.TIM_CAP_CFG c)) 1 0 = 3 else bits (rd s (Reg.TIM_CAP_CFG c)) 1 0 = 2 ∨ bits (rd s (Reg.TIM_CAP_CFG c)) 1 0 = 3)) ∧ ((tget s.tim.capt c).last = some p) ∧ (t < p + 64)) ∧
    (∃ (s : State) (c : Nat) (level : Bool) (t : Nat), (c ≤ 7) ∧ ((if level then bits (rd s (Reg.TIM_CAP_CFG c)) 1 0 = 1 ∨ bits (rd s (Reg.TIM_CAP_CFG c)) 1 0 = 3 else bits (rd s (Reg.TIM_CAP_CFG c)) 1 0 = 2 ∨ bits (rd s (Reg.TIM_CAP_CFG c)) 1 0 = 3)) ∧ ((tget s.tim.capt c).last = none) ∧ (fld s Reg.TIM_CTRL 2 2 ≠ 1) ∧ ((tget s.tim.capt c).queue.length < 16)) ∧
    (∃ (s : State) (r : Req) (c : Nat), (c ≤ 7) ∧ (domainOn s 3 = true)) ∧
    (∃ (s : State) (r : Req) (e : DepEntry) (rest : List DepEntry), (domainOn s 3 = true) ∧ (s.tim.depLog = e :: rest)) ∧
    (∃ (s : State) (r : Req), (domainOn s 3 = true) ∧ (s.tim.depLog = [])) :=
  ⟨⟨live, gd, 5, by decide⟩,
   ⟨{ live with cfg := [(4 * 2 ^ 20 + 591872, 0x50001#32)] }, .steward, 5, by decide +kernel⟩,
   ⟨live, gd, 5, by decide⟩,
   ⟨{ live with tim := { dt := 2 ^ 45, trig := [(5, { (default : Trig) with armed := true, due := some 1 })] } }, 5, 1, by decide⟩,
   ⟨{ live with regs := [(Reg.TIM_TRG_INTERVAL 5, 100#32)], tim := { dt := 2 ^ 45, trig := [(5, { (default : Trig) with armed := true, due := some 1 })] } }, 5, 1, by decide⟩,
   ⟨{ live with tim := { dt := 2 ^ 45, trig := [(5, { (default : Trig) with pulseEnd := some 1 })] } }, 5, 1, by decide⟩,
   ⟨live, 2, true, 100, by decide⟩,
   ⟨{ live with regs := [(Reg.TIM_CAP_CFG 2, 1#32)], tim := { capt := [(2, { (default : Capt) with last := some 90 })] } }, 2, true, 100, 90, by decide⟩,
   ⟨{ live with regs := [(Reg.TIM_CAP_CFG 2, 1#32)], tim := { capt := [(2, default)] } }, 2, true, 100, by decide⟩,
   ⟨live, gd, 2, by decide⟩,
   ⟨{ live with tim := { depLog := [default] } }, gd, default, [], by decide⟩,
   ⟨live, gd, by decide⟩⟩

theorem witness_BridgeRequests :
    (∃ (s : State) (lane : Nat) (guard : Bool) (w offset len tag c : Nat), (brgReached s lane w = true) ∧ (reqRefusal s guard w false = some c ∨ (reqRefusal s guard w false = none ∧ rangeOk s w offset len true = false ∧ c = 4))) ∧
    (∃ (s : State) (lane : Nat) (guard : Bool) (w offset len tag : Nat) (e : CacheEnt) (rest : List CacheEnt), (brgReached s lane w = true) ∧ (reqRefusal s guard w false = none) ∧ (rangeOk s w offset len true = true) ∧ ((winW s w 0).testBit 5 = true) ∧ (cacheHit s w offset len = some (e, rest))) ∧
    (∃ (s : State) (lane : Nat) (guard : Bool) (w offset len tag : Nat), (brgReached s lane w = true) ∧ (reqRefusal s guard w false = none) ∧ (rangeOk s w offset len true = true) ∧ ((winW s w 0).testBit 5 = false) ∧ (queued s lane guard false < 64)) ∧
    (∃ (s : State) (lane : Nat) (guard : Bool) (w offset : Nat) (data : Bytes) (x : RingSet), (brgReached s lane w = true) ∧ (reqRefusal s guard w true = none) ∧ (rangeOk s w offset data.length true = true) ∧ ((winW s w 0).testBit 4 = true) ∧ (queued s lane guard true < 256) ∧ ((win s w).fenced.contains lane = false) ∧ (x = ring s (kwOf lane guard))) ∧
    (∃ (s : State) (lane : Nat) (guard : Bool) (w offset : Nat) (data : Bytes) (x : RingSet), (brgReached s lane w = true) ∧ (reqRefusal s guard w true = none) ∧ (rangeOk s w offset data.length true = true) ∧ ((winW s w 0).testBit 4 = true) ∧ (queued s lane guard true < 256) ∧ ((win s w).fenced.contains lane = true) ∧ (x = ring s (kwOf lane guard))) ∧
    (∃ (s : State) (lane : Nat) (guard : Bool) (w tag offset len buffer : Nat), (canFetch s lane guard = true) ∧ (w ≤ 255)) ∧
    (∃ (s : State) (lane : Nat) (guard : Bool) (w tag offset len : Nat) (data : Bytes), (canFetch s lane guard = true) ∧ (w ≤ 255) ∧ (data.length = len)) ∧
    (∃ (s : State) (r : Req) (kw : Nat) (value : Word), (Allowed s r (Reg.BRG_CR_CTRL kw)) ∧ (kw ≤ 5) ∧ (bit (rd s (Reg.BRG_CR_CTRL kw)) 0 = false) ∧ (bit value 0 = true)) ∧
    (∃ (s : State) (r : Req) (kw : Nat) (cpl : Bool) (value : Word), (Allowed s r (if cpl then Reg.BRG_CPL_TAIL kw else Reg.BRG_CR_TAIL kw)) ∧ (kw ≤ 5)) :=
  ⟨⟨live, 0, false, 1, 0, 4, 9, 4, by decide⟩,
   ⟨{ atWindow 0xF0025 { cache := [⟨1, 0, List.replicate 8 7#8, 0⟩] } with cfg := [(9 * 2 ^ 20 + 8, 0xF0025#32), (9 * 2 ^ 20 + 12, 9#32), (9 * 2 ^ 20 + 13, 256#32)] }, 0, false, 1, 0, 4, 9, ⟨1, 0, List.replicate 8 7#8, 0⟩, [], by decide +kernel⟩,
   ⟨atWindow 0xF0005 {}, 0, false, 1, 0, 4, 9, by decide +kernel⟩,
   ⟨atWindow 0xF0015 {}, 0, false, 1, 0, [1#8], default, by decide +kernel⟩,
   ⟨{ atWindow 0xF0015 {} with brg := { wins := [(1, { (default : Win) with state := 1, fenced := [0] })] } }, 0, false, 1, 0, [1#8], default, by decide +kernel⟩,
   ⟨atRing 0xF0005, 0, false, 1, 9, 0, 4, 0, by decide +kernel⟩,
   ⟨atRing 0xF0005, 0, false, 1, 9, 0, 1, [5#8], by decide +kernel⟩,
   ⟨live, hf, 0, 1#32, by decide⟩,
   ⟨live, hf, 0, true, 1#32, by decide⟩⟩

theorem witness_BridgeExchanges :
    (∃ (s : State) (r : BReq), (s.dev = .active) ∧ (s.brg.talker = []) ∧ ((credit (port s 111).staging 32 4 false).isSome = true) ∧ (firstIssue s true [] s.brg.reqs = some r ∨ (firstIssue s true [] s.brg.reqs = none ∧ firstIssue s false [] s.brg.reqs = some r))) ∧
    (∃ (s : State) (gone : Bool) (x : Sent) (rest : List Sent), (s.brg.intake = x :: rest)) ∧
    (∃ (s : State) (ex : Nat) (r : BReq), (s.brg.reqs.find? (fun r => decide (r.ex = ex)) = some r) ∧ (ex ≠ 0) ∧ (r.deadline ≤ now s) ∧ (winKind s r.window ≠ 2) ∧ (writes r = false) ∧ (r.retries > 0)) ∧
    (∃ (s : State) (ex : Nat) (r : BReq), (s.brg.reqs.find? (fun r => decide (r.ex = ex)) = some r) ∧ (ex ≠ 0) ∧ (r.deadline ≤ now s) ∧ (winKind s r.window ≠ 2) ∧ (writes r = true ∨ r.retries = 0)) ∧
    (∃ (s : State) (p : BReq), (s.brg.reqs.find? (·.full) = some p) ∧ (p.noKeep = true)) ∧
    (∃ (s : State) (p : BReq), (s.brg.reqs.find? (·.full) = some p) ∧ (p.noKeep = false)) ∧
    (∃ (s : State) (r : Req) (k : Nat) (value : Word), (Allowed s r (Reg.BRG_LATE_ACK k)) ∧ (k ≤ 2)) ∧
    (∃ (s : State) (r : Req) (k : Nat) (value : Word), (Allowed s r (Reg.BRG_LATE_ACK k)) ∧ (k ≤ 2) ∧ (bit value 16 = true)) :=
  ⟨⟨atWindow 0xF0005 { reqs := [bread] }, bread, by decide +kernel⟩,
   ⟨atWindow 0xF0005 { intake := [default] }, false, default, [], by decide⟩,
   ⟨atWindow 0xF0005 { reqs := [{ bsent with retries := 1 }] }, 1, { bsent with retries := 1 }, by decide +kernel⟩,
   ⟨atWindow 0xF0005 { reqs := [bsent] }, 1, bsent, by decide +kernel⟩,
   ⟨atWindow 0xF0005 { reqs := [{ bread with full := true, noKeep := true }] }, { bread with full := true, noKeep := true }, by decide⟩,
   ⟨atWindow 0xF0005 { reqs := [{ bread with full := true }] }, { bread with full := true }, by decide⟩,
   ⟨live, hf, 0, 3#32, by decide⟩,
   ⟨live, hf, 0, 0x10000#32, by decide⟩⟩

theorem witness_BridgeSemaphoresAndWindows :
    (∃ (s : State) (lane : Nat) (guard : Bool) (n tag : Nat), (canFetch s lane guard = true)) ∧
    (∃ (s : State) (lane : Nat) (guard : Bool) (n tag : Nat), (canFetch s lane guard = true)) ∧
    (∃ (s : State) (lane : Nat) (guard : Bool) (n : Nat), (Allowed s (.fn lane guard) Reg.BRG_SEM_CMD) ∧ (s.dev = .active) ∧ (n ≤ 127) ∧ ((sem s n).owner = none ∨ (sem s n).owner = some (lane, guard))) ∧
    (∃ (s : State) (lane : Nat) (guard : Bool) (n : Nat), (Allowed s (.fn lane guard) Reg.BRG_SEM_CMD) ∧ ((sem s n).owner ≠ none) ∧ ((sem s n).owner ≠ some (lane, guard))) ∧
    (∃ (s : State) (lane : Nat) (guard : Bool) (n : Nat), (Allowed s (.fn lane guard) Reg.BRG_SEM_CMD) ∧ (s.dev = .active) ∧ (n ≤ 127) ∧ ((sem s n).owner = some (lane, guard))) ∧
    (∃ (s : State) (n lane : Nat) (guard : Bool), ((sem s n).owner = some (lane, guard)) ∧ ((sem s n).expiry ≤ now s)) ∧
    (∃ (s : State) (r : Req) (w : Nat), (Allowed s r Reg.BRG_WIN_CMD) ∧ (w < 256)) ∧
    (∃ (s : State) (r : Req) (w : Nat), (Allowed s r Reg.BRG_WIN_CMD) ∧ (w < 256) ∧ ((win s w).state = 1)) ∧
    (∃ (s : State) (r : Req) (w : Nat), (Allowed s r Reg.BRG_WIN_CMD) ∧ (w < 256)) ∧
    (∃ (s : State) (w : Nat), ((win s w).state = 2) ∧ ((win s w).drainAt ≤ s.tim.boundaries)) ∧
    (∃ (s : State) (r : Req), (Allowed s r Reg.BRG_CNT_CLEAR)) ∧
    (∃ (s : State) (r : Req), (Allowed s r Reg.BRG_CNT_CLEAR)) :=
  ⟨⟨atRing 0xF0005, 0, false, 1, 9, by decide +kernel⟩,
   ⟨atRing 0xF0005, 0, false, 1, 9, by decide +kernel⟩,
   ⟨live, 0, true, 3, by decide⟩,
   ⟨{ live with brg := { sems := [(3, ⟨some (1, true), 0⟩)] } }, 0, true, 3, by decide⟩,
   ⟨{ live with brg := { sems := [(3, ⟨some (0, true), 0⟩)] } }, 0, true, 3, by decide⟩,
   ⟨{ live with brg := { sems := [(3, ⟨some (0, true), 0⟩)] } }, 3, 0, true, by decide⟩,
   ⟨live, gd, 1, by decide⟩,
   ⟨atWindow 5 {}, gd, 1, by decide⟩,
   ⟨live, gd, 1, by decide⟩,
   ⟨{ live with brg := { wins := [(1, { (default : Win) with state := 2 })] } }, 1, by decide⟩,
   ⟨live, gd, by decide⟩,
   ⟨live, gd, by decide⟩⟩

theorem witness_CadenceStates :
    (∃ (s : State), (s.cdb.state = .off ∨ s.cdb.state = .listen)) ∧
    (∃ (s : State), (s.cdb.state = .integrate)) ∧
    (∃ (s : State), (s.cdb.state = .coldstart ∨ s.cdb.state = .sync ∨ s.cdb.state = .passive)) ∧
    (∃ (s : State) (off rate : Int) (fo fr : Bool), (s.cdb.idleDone = false) ∧ (s.cdb.state ≠ .off) ∧ (s.cdb.state ≠ .listen) ∧ (clampTo (bits (rd s Reg.CDB_SYNC_CFG) 20 11) ((midpoint (devSet s s.cdb.devs)).getD 0) = (off, fo)) ∧ (clampTo (bits (rd s Reg.CDB_SYNC_CFG) 28 21) (if ((midpoint (rateTerms s)).getD 0).natAbs ≤ bits (rd s Reg.CDB_SYNC_CFG) 31 29 then s.cdb.r else s.cdb.r + (midpoint (rateTerms s)).getD 0) = (rate, fr))) ∧
    (∃ (s : State), (s.cdb.state = .listen) ∧ (bit (rd s Reg.CDB_CONFIG) 6 = false ∨ s.dev ≠ .active) ∧ ((fld s Reg.CDB_TIMING 31 26 + cdbNode s) * cycleUnits s ≤ since s s.cdb.listenFrom)) ∧
    (∃ (s : State), (s.cdb.state = .listen) ∧ (bit (rd s Reg.CDB_CONFIG) 6 = true) ∧ (s.dev = .active) ∧ ((fld s Reg.CDB_TIMING 31 26 + cdbNode s) * cycleUnits s ≤ since s s.cdb.listenFrom)) ∧
    (∃ (s : State), (s.cdb.state = .coldstart) ∧ (3 ≤ s.cdb.inState) ∧ (s.cdb.idleDone = true)) ∧
    (∃ (s : State), (s.cdb.state = .integrate) ∧ (2 ≤ s.cdb.inState) ∧ (s.cdb.syncOk = true) ∧ (s.cdb.adoptedSeen = true) ∧ (s.cdb.idleDone = true)) ∧
    (∃ (s : State), (s.cdb.state = .passive) ∧ (4 ≤ s.cdb.clear)) ∧
    (∃ (s : State), (s.cdb.state = .passive) ∧ (16 ≤ s.cdb.inState) ∧ (s.cdb.idleDone = true)) ∧
    (∃ (s : State), (s.cdb.state = .sync ∨ s.cdb.state = .passive) ∧ (isSyncNode s = false) ∧ (syncLimit s ≤ s.cdb.syncMiss)) ∧
    (∃ (s : State) (chB : Bool), ((if chB then s.cdb.chbLost else s.cdb.chaLost) = false) ∧ (max 1 (fld s Reg.CDB_LIMITS 23 16) ≤ (if chB then s.cdb.chbMiss else s.cdb.chaMiss))) ∧
    (∃ (s : State) (r : Req), (Allowed s r Reg.CDB_CTRL) ∧ (mayWrite r Reg.CDB_CTRL 0 = true)) ∧
    (∃ (s : State) (r : Req), (Allowed s r Reg.CDB_CTRL) ∧ (mayWrite r Reg.CDB_CTRL 0 = true)) ∧
    (∃ (s : State) (r : Req), (Allowed s r Reg.CDB_CMD) ∧ (s.cdb.state ≠ .off)) ∧
    (∃ (s : State), (s.tim.refLost = false) ∧ (s.tim.holdover = false)) :=
  ⟨⟨live, by decide⟩,
   ⟨onBus { state := .integrate } 5, by decide⟩,
   ⟨onBus { state := .sync } 5, by decide⟩,
   ⟨onBus { state := .sync } 5, 0, 0, false, false, by decide +kernel⟩,
   ⟨{ live with cdb := { state := .listen } }, by decide⟩,
   ⟨{ live with regs := [(Reg.CDB_CONFIG, 0x40#32)], cdb := { state := .listen } }, by decide⟩,
   ⟨onBus { state := .coldstart, inState := 3, idleDone := true } 5, by decide⟩,
   ⟨onBus { state := .integrate, inState := 2, syncOk := true, adoptedSeen := true, idleDone := true } 5, by decide⟩,
   ⟨onBus { state := .passive, clear := 4 } 5, by decide⟩,
   ⟨onBus { state := .passive, inState := 16, idleDone := true } 5, by decide⟩,
   ⟨onBus { state := .sync, syncMiss := 8 } 5 |> fun s => { s with regs := [] }, by decide⟩,
   ⟨onBus { state := .sync, chbMiss := 255 } 5, true, by decide⟩,
   ⟨live, gd, by decide⟩,
   ⟨live, gd, by decide⟩,
   ⟨onBus { state := .sync } 5, gd, by decide⟩,
   ⟨live, by decide⟩⟩

theorem witness_CadenceFramesAndSlots :
    (∃ (s : State) (chB : Bool) (bs : Bytes) (raw rawEnd : Nat) (good : Bool), (s.cdb.state = .off)) ∧
    (∃ (s : State) (chB : Bool) (bs : Bytes) (raw rawEnd : Nat) (good : Bool), (s.cdb.state = .listen)) ∧
    (∃ (s : State) (chB : Bool) (bs : Bytes) (raw rawEnd : Nat) (k t : Nat), (s.cdb.state = .sync ∨ s.cdb.state = .passive ∨ s.cdb.state = .integrate) ∧ (t = stampAt s 104 raw (stampComp s 104 raw + (if chB then chbComp s raw else 0))) ∧ (slotAt s t = some k)) ∧
    (∃ (s : State) (chB : Bool) (bs : Bytes) (raw rawEnd : Nat) (k t : Nat), (s.cdb.state = .sync ∨ s.cdb.state = .passive ∨ s.cdb.state = .integrate) ∧ (t = stampAt s 104 raw (stampComp s 104 raw + (if chB then chbComp s raw else 0))) ∧ (slotAt s t = some k) ∧ (cdbPi s * utUnits < (Int.ofNat t - actionPoint s k).natAbs)) ∧
    (∃ (s : State) (chB : Bool) (bs : Bytes) (raw rawEnd : Nat) (k t : Nat) (f : CbFrame), (s.cdb.state = .sync ∨ s.cdb.state = .passive ∨ s.cdb.state = .integrate) ∧ (t = stampAt s 104 raw (stampComp s 104 raw + (if chB then chbComp s raw else 0))) ∧ (slotAt s t = some k) ∧ ((Int.ofNat t - actionPoint s k).natAbs ≤ cdbPi s * utUnits) ∧ (Int.ofNat (stampAt s 104 rawEnd (stampComp s 104 raw + (if chB then chbComp s raw else 0))) ≤ slotStart s (k + 1)) ∧ (cbJudge s k bs = .accepted f)) ∧
    (∃ (s : State) (k : Nat) (f : CbFrame) (s1 : State), (engineSends s k = true) ∧ (guardPermits s k = true) ∧ (buildFrame s k = (f, s1))) ∧
    (∃ (s : State) (k : Nat), (engineSends s k = true) ∧ (guardPermits s k = true)) ∧
    (∃ (s : State) (k : Nat) (outside : Bool), (engineSends s k = false ∨ guardPermits s k = false)) ∧
    (∃ (s : State) (r : Req) (k : Nat), (Allowed s r Reg.CDB_CLAIM_CMD) ∧ (slotUse s k = 2) ∧ (k ≤ cdbSlots s) ∧ ((spare s k).state = .free) ∧ (claimCount s < fld s Reg.CDB_LIMITS 27 24)) ∧
    (∃ (s : State) (r : Req) (k : Nat), (Allowed s r Reg.CDB_CLAIM_CMD) ∧ (slotUse s k = 2) ∧ (mine (spare s k) = true)) ∧
    (∃ (s : State) (k : Nat), ((spare s k).state = .claiming) ∧ (3 ≤ (spare s k).clean)) ∧
    (∃ (s : State) (k : Nat), ((spare s k).state = .backoff) ∧ ((spare s k).backoff = 0)) ∧
    (∃ (s : State) (k : Nat), ((spare s k).state = .taken) ∧ (max 16 (fld s Reg.CDB_LIMITS 15 8) ≤ (spare s k).silent)) ∧
    (∃ (s : State) (r : Req), (Allowed s r Reg.CDB_CNT_CLEAR)) ∧
    (∃ (s : State) (r : Req), (Allowed s r Reg.CDB_CNT_CLEAR)) :=
  ⟨⟨live, false, [], 0, 0, true, by decide⟩,
   ⟨onBus { state := .listen } 5, false, [], 0, 0, true, by decide⟩,
   ⟨onBus { state := .sync } 5, false, [], 8014, 9000, 1, 8000, by decide +kernel⟩,
   ⟨onBus { state := .sync } 5, false, [], 13014, 14000, 1, 13000, by decide +kernel⟩,
   ⟨onBus { state := .sync } 0x5034, false, cbBytes frame3, 8014, 9014, 1, 8000, frame3, by decide +kernel⟩,
   ⟨onBus { state := .coldstart, guardSched := [(1, 5#32)], guardStart := some 0 } 5, 1, { frame3 with flags := 52, node := 2, cycle := 0 }, onBus { state := .coldstart, guardSched := [(1, 5#32)], guardStart := some 0 } 5, by decide +kernel⟩,
   ⟨onBus { state := .coldstart, guardSched := [(1, 5#32)], guardStart := some 0 } 5, 1, by decide +kernel⟩,
   ⟨live, 1, false, by decide⟩,
   ⟨onBus { state := .sync } 5, gd, 2, by decide⟩,
   ⟨onBus { spares := [(2, { (default : Spare) with state := .held })] } 5, gd, 2, by decide⟩,
   ⟨onBus { spares := [(2, { (default : Spare) with state := .claiming, clean := 3 })] } 5, 2, by decide⟩,
   ⟨onBus { spares := [(2, { (default : Spare) with state := .backoff })] } 5, 2, by decide⟩,
   ⟨onBus { spares := [(2, { (default : Spare) with state := .taken, silent := 255 })] } 5, 2, by decide⟩,
   ⟨live, gd, by decide⟩,
   ⟨live, gd, by decide⟩⟩

theorem witness_LeaseGrants :
    (∃ (s : State) (k : Nat), (k < 3) ∧ (s.dev = .relinquishing ∨ s.dev = .reset)) ∧
    (∃ (s : State) (k : Nat), (k < 3) ∧ (s.dev ≠ .relinquishing) ∧ (s.dev ≠ .reset) ∧ ((rd s (Reg.RED_GRANT_EPOCH k)).toNat ≠ 0) ∧ ((rd s (Reg.RED_GRANT_EPOCH k)).toNat = s.red.epoch) ∧ (renewing s = true) ∧ (grantOver (setGrant s k { grant s k with heard := some s.red.leaseTimer }) k = false)) ∧
    (∃ (s : State) (k : Nat), (k < 3) ∧ (s.dev ≠ .relinquishing) ∧ (s.dev ≠ .reset) ∧ (s.red.seen < (rd s (Reg.RED_GRANT_EPOCH k)).toNat) ∧ ((rd s (Reg.RED_GRANT_EPOCH k)).toNat ≠ s.red.epoch) ∧ (addr64 s (Reg.RED_GRANT_NB_LO k) (Reg.RED_GRANT_NB_HI k) ≤ now s)) ∧
    (∃ (s : State) (k : Nat), (k < 3) ∧ (s.dev ≠ .relinquishing) ∧ (s.dev ≠ .reset) ∧ (s.red.seen < (rd s (Reg.RED_GRANT_EPOCH k)).toNat) ∧ ((rd s (Reg.RED_GRANT_EPOCH k)).toNat ≠ s.red.epoch) ∧ (now s < addr64 s (Reg.RED_GRANT_NB_LO k) (Reg.RED_GRANT_NB_HI k))) ∧
    (∃ (s : State) (k : Nat), (k < 3) ∧ (s.dev ≠ .relinquishing) ∧ (s.dev ≠ .reset)) ∧
    (∃ (s : State) (k : Nat), (k < 3) ∧ ((grant (setGrant s k { grant s k with heard := some s.red.leaseTimer }) k).current = true ∨ (grant (setGrant s k { grant s k with heard := some s.red.leaseTimer }) k).pend ≠ none)) ∧
    (∃ (s : State) (k e nb : Nat), ((grant s k).pend = some (e, nb)) ∧ (nb ≤ now s) ∧ (s.dev ≠ .relinquishing) ∧ (s.dev ≠ .reset)) ∧
    (∃ (s : State) (k : Nat), ((grant s k).current = true) ∧ ((grant s k).lapse ≤ s.red.leaseTimer)) ∧
    (∃ (s : State) (r : Req), (Allowed s r Reg.RED_CMD) ∧ (s.dev = .active)) ∧
    (∃ (s : State) (r : Req), (Allowed s r Reg.RED_CMD) ∧ (isStandby s = true)) ∧
    (∃ (s : State) (r : Req), (Allowed s r Reg.RED_CNT_CLEAR)) :=
  ⟨⟨{ live with dev := .relinquishing }, 1, by decide⟩,
   ⟨{ live with regs := [(Reg.RED_GRANT_EPOCH 1, 5#32)], red := { epoch := 5 } }, 1, by decide⟩,
   ⟨{ live with regs := [(Reg.RED_GRANT_EPOCH 1, 5#32)] }, 1, by decide⟩,
   ⟨{ live with regs := [(Reg.RED_GRANT_EPOCH 1, 5#32), (Reg.RED_GRANT_NB_LO 1, 5#32)] }, 1, by decide⟩,
   ⟨live, 1, by decide⟩,
   ⟨{ live with red := { grants := [(1, { (default : Grant) with current := true })] } }, 1, by decide⟩,
   ⟨{ live with red := { grants := [(1, { (default : Grant) with pend := some (5, 0) })] } }, 1, 5, 0, by decide⟩,
   ⟨{ live with red := { grants := [(1, { (default : Grant) with current := true })] } }, 1, by decide⟩,
   ⟨live, gd, by decide⟩,
   ⟨{ live with dev := .standbyCold }, gd, by decide⟩,
   ⟨live, gd, by decide⟩⟩

theorem witness_InterUnitFrames :
    (∃ (s : State), (s.dev ≠ .reset) ∧ (s.dev ≠ .haltSafe)) ∧
    (∃ (s : State) (h : IuHead) (tx rx : Nat), (s.dev ≠ .reset) ∧ (s.dev ≠ .haltSafe) ∧ (h.path ≤ 1) ∧ (s.red.rxSeqs.contains h.seq = false)) ∧
    (∃ (s : State) (h : IuHead) (tx rx a b : Nat), (s.dev ≠ .reset) ∧ (s.dev ≠ .haltSafe) ∧ (h.path ≤ 1) ∧ (s.red.rxSeqs.contains h.seq = false)) ∧
    (∃ (s : State) (h : IuHead), (s.dev ≠ .reset) ∧ (s.dev ≠ .haltSafe) ∧ (h.path ≤ 1) ∧ (s.red.rxSeqs.contains h.seq = false)) ∧
    (∃ (s : State) (h : IuHead), (s.dev ≠ .reset) ∧ (s.dev ≠ .haltSafe) ∧ (h.path ≤ 1) ∧ (s.red.rxSeqs.contains h.seq = false) ∧ ((acceptIu s h (fun s => s)).dev = .active)) ∧
    (∃ (s : State) (h : IuHead) (stamp : Nat) (payload : Bytes), (s.dev ≠ .reset) ∧ (s.dev ≠ .haltSafe) ∧ (h.path ≤ 1) ∧ (s.red.rxSeqs.contains h.seq = false) ∧ ((acceptIu s h (fun s => s)).stw.intake.length < 256)) ∧
    (∃ (s : State) (h : IuHead), (s.dev ≠ .reset) ∧ (s.dev ≠ .haltSafe) ∧ (h.path ≤ 1) ∧ (s.red.rxSeqs.contains h.seq = false)) ∧
    (∃ (s : State) (h : IuHead) (f : Bool), (s.dev ≠ .reset) ∧ (s.dev ≠ .haltSafe) ∧ (h.path ≤ 1) ∧ (s.red.rxSeqs.contains h.seq = false) ∧ ((acceptIu s h (fun s => s)).red.divState = 1)) ∧
    (∃ (s : State) (h : IuHead) (q d own : Nat), (s.dev ≠ .reset) ∧ (s.dev ≠ .haltSafe) ∧ (h.path ≤ 1) ∧ (s.red.rxSeqs.contains h.seq = false) ∧ ((acceptIu s h (fun s => s)).dev = .active) ∧ (ownDigest (acceptIu s h (fun s => s)) q = some own)) ∧
    (∃ (s : State), (s.red.divState = 1) ∧ (s.red.ownFail = some true) ∧ (s.red.peerFail = some false) ∧ (s.dev = .active)) ∧
    (∃ (s : State), (s.red.divState = 1) ∧ (s.red.ownFail = some false) ∧ (s.red.peerFail = some true)) ∧
    (∃ (s : State) (b : Bool), ((if b then s.red.pathB else s.red.pathA) = true) ∧ (msUnits ≤ since s (if b then s.red.lastB else s.red.lastA))) :=
  ⟨⟨live, by decide⟩,
   ⟨live, ⟨0, 7, 5, 3⟩, 1, 2, by decide⟩,
   ⟨live, ⟨0, 7, 5, 3⟩, 1, 2, 3, 4, by decide⟩,
   ⟨live, ⟨0, 7, 5, 3⟩, by decide⟩,
   ⟨live, ⟨0, 7, 5, 3⟩, by decide⟩,
   ⟨live, ⟨0, 7, 5, 3⟩, 9, [1#8], by decide⟩,
   ⟨live, ⟨0, 7, 5, 3⟩, by decide⟩,
   ⟨{ live with red := { divState := 1 } }, ⟨0, 7, 5, 3⟩, true, by decide⟩,
   ⟨{ live with red := { digests := [(4, some 9, none)] } }, ⟨0, 7, 5, 3⟩, 4, 9, 9, by decide⟩,
   ⟨{ live with red := { divState := 1, ownFail := some true, peerFail := some false } }, by decide⟩,
   ⟨{ live with red := { divState := 1, ownFail := some false, peerFail := some true } }, by decide⟩,
   ⟨{ live with tim := { dt := 2 ^ 80 - 2 ^ 30 }, red := { pathA := true } }, false, by decide⟩⟩

theorem witness_MirroringAndTakeover :
    (∃ (s : State) (h : IuHead) (n : Nat) (m : MirrorRec), (s.dev ≠ .reset) ∧ (s.dev ≠ .haltSafe) ∧ (h.path ≤ 1) ∧ (s.red.rxSeqs.contains h.seq = false) ∧ ((acceptIu s h (fun s => s)).dev = .standbyShadow) ∧ ((acceptIu s h (fun s => s)).red.mirrorSeq = 0 ∨ n = (acceptIu s h (fun s => s)).red.mirrorSeq + 1)) ∧
    (∃ (s : State) (h : IuHead) (n : Nat) (m : MirrorRec), (s.dev ≠ .reset) ∧ (s.dev ≠ .haltSafe) ∧ (h.path ≤ 1) ∧ (s.red.rxSeqs.contains h.seq = false) ∧ ((acceptIu s h (fun s => s)).dev = .standbyShadow) ∧ ((acceptIu s h (fun s => s)).red.mirrorSeq ≠ 0) ∧ (n ≠ (acceptIu s h (fun s => s)).red.mirrorSeq + 1)) ∧
    (∃ (s : State) (h : IuHead) (e : LogEnt), (s.dev ≠ .reset) ∧ (s.dev ≠ .haltSafe) ∧ (h.path ≤ 1) ∧ (s.red.rxSeqs.contains h.seq = false) ∧ (isStandby (acceptIu s h (fun s => s)) = true)) ∧
    (∃ (s : State) (h : IuHead) (b : Nat) (x : PeatBlk), (s.dev ≠ .reset) ∧ (s.dev ≠ .haltSafe) ∧ (h.path ≤ 1) ∧ (s.red.rxSeqs.contains h.seq = false) ∧ (isStandby (acceptIu s h (fun s => s)) = true) ∧ (x.unit ≠ peatUnit (acceptIu s h (fun s => s))) ∧ (b ≤ 383)) ∧
    (∃ (s : State) (h : IuHead) (q : Nat) (blocks : List Nat) (full : Bool), (s.dev ≠ .reset) ∧ (s.dev ≠ .haltSafe) ∧ (h.path ≤ 1) ∧ (s.red.rxSeqs.contains h.seq = false) ∧ (isStandby (acceptIu s h (fun s => s)) = true) ∧ ((acceptIu s h (fun s => s)).red.copying = none)) ∧
    (∃ (s : State) (q : Nat) (full : Bool) (list : Tab (Option PeatBlk)), (s.red.copying = some (q, full, list)) ∧ (full = false ∨ s.dev ≠ .standbyCold)) ∧
    (∃ (s : State) (h : IuHead) (q : Nat) (c : Ckpt), (s.dev ≠ .reset) ∧ (s.dev ≠ .haltSafe) ∧ (h.path ≤ 1) ∧ (s.red.rxSeqs.contains h.seq = false) ∧ ((acceptIu s h (fun s => s)).red.ckpt = some c) ∧ (c.q = q) ∧ ((acceptIu s h (fun s => s)).red.unsent = false)) ∧
    (∃ (s : State) (c : Ckpt), (s.red.ckpt = some c) ∧ (s.red.unsent = true) ∧ (ckptEvery s ≤ 2 * (s.tim.boundaries - c.at_))) ∧
    (∃ (s : State), (isStandby s = true) ∧ (s.red.imageQ.isSome = true) ∧ (s.red.stale = false) ∧ (s.red.imageAt + 2 * (ckptEvery s * periodUnits s) ≤ now s) ∧ (2 ≤ ((List.range 3).filter (fun k => match (grant s k).witness with | some t => decide (2 * t > 2 * s.red.imageAt + 3 * (ckptEvery s * periodUnits s)) | none => false)).length)) ∧
    (∃ (s : State) (banks : List Nat) (other : Bool), (majority s = true) ∧ (s.red.taking = some .shadow) ∧ (s.dev = .standbyShadow) ∧ (s.red.takeAt < s.tim.boundaries)) ∧
    (∃ (s : State) (banks : List Nat) (other : Bool), (majority s = true) ∧ (s.red.taking = some .cold) ∧ (s.dev = .starting)) :=
  ⟨⟨{ live with dev := .standbyShadow }, ⟨0, 7, 5, 3⟩, 1, .cyclic 0 5, by decide⟩,
   ⟨{ live with dev := .standbyShadow, red := { mirrorSeq := 4 } }, ⟨0, 7, 5, 3⟩, 6, .cyclic 0 5, by decide⟩,
   ⟨{ live with dev := .standbyShadow }, ⟨0, 7, 5, 3⟩, ⟨0, 1, 0⟩, by decide⟩,
   ⟨{ live with dev := .standbyShadow }, ⟨0, 7, 5, 3⟩, 3, ⟨1, 1, 1, true, []⟩, by decide⟩,
   ⟨{ live with dev := .standbyShadow }, ⟨0, 7, 5, 3⟩, 3, [], true, by decide⟩,
   ⟨{ live with red := { copying := some (3, false, []) } }, 3, false, [], by decide⟩,
   ⟨{ live with red := { ckpt := some ⟨3, 0, true, []⟩ } }, ⟨0, 7, 5, 3⟩, 3, ⟨3, 0, true, []⟩, by decide⟩,
   ⟨{ live with red := { ckpt := some ⟨3, 0, true, []⟩, unsent := true }, tim := { boundaries := 500 } }, ⟨3, 0, true, []⟩, by decide⟩,
   ⟨{ live with dev := .standbyCold, tim := { dt := 2 ^ 80 }, red := { imageQ := some 3, grants := [(0, { (default : Grant) with witness := some (2 ^ 49) }), (1, { (default : Grant) with witness := some (2 ^ 49) })] } }, by decide⟩,
   ⟨{ live with dev := .standbyShadow, tim := { boundaries := 1 }, red := { epoch := 5, taking := some .shadow, grants := [(0, { (default : Grant) with epoch := 5, current := true }), (1, { (default : Grant) with epoch := 5, current := true })] } }, [], false, by decide⟩,
   ⟨{ live with dev := .starting, red := { epoch := 5, taking := some .cold, grants := [(0, { (default : Grant) with epoch := 5, current := true }), (1, { (default : Grant) with epoch := 5, current := true })] } }, [], false, by decide⟩⟩

theorem witness_VaultCommands :
    (∃ (s : State) (r : Req) (k : Nat), (Allowed s r Reg.KVT_CMD) ∧ (s.vault.cmd ≠ none)) ∧
    (∃ (s : State) (r : Req) (k : Nat), (Allowed s r Reg.KVT_CMD) ∧ (s.vault.cmd = none) ∧ (2 ≤ k) ∧ (k ≤ 255) ∧ (attrMaster s k (masterOf r) = false)) ∧
    (∃ (s : State) (r : Req) (k : Nat), (Allowed s r Reg.KVT_CMD) ∧ (s.vault.cmd = none) ∧ (2 ≤ k) ∧ (k ≤ 255) ∧ (attrMaster s k (masterOf r) = true)) ∧
    (∃ (s : State) (r : Req) (k source label : Nat), (Allowed s r Reg.KVT_CMD) ∧ (s.vault.cmd = none) ∧ (2 ≤ k) ∧ (k ≤ 255) ∧ (attrMaster s k (masterOf r) = true) ∧ (source ≠ 0) ∧ (attrUse s source (masterOf r) useDerive = true) ∧ (slotServes s source = true) ∧ (slotDepth s.vault 9 source + 1 ≤ 8)) ∧
    (∃ (s : State) (r : Req) (k source : Nat) (blob : Bytes), (Allowed s r Reg.KVT_CMD) ∧ (s.vault.cmd = none) ∧ (2 ≤ k) ∧ (k ≤ 255) ∧ (attrMaster s k (masterOf r) = true) ∧ (source ≠ 0) ∧ (attrUse s source (masterOf r) useUnwrap = true) ∧ (slotServes s source = true)) ∧
    (∃ (s : State) (r : Req) (k : Nat), (Allowed s r Reg.KVT_CMD) ∧ (s.vault.cmd = none) ∧ (2 ≤ k) ∧ (k ≤ 255) ∧ (attrMaster s k (masterOf r) = true) ∧ (s.vault.lc = 1 ∨ rootState s.vault = 3)) ∧
    (∃ (s : State) (r : Req) (k : Nat), (Allowed s r Reg.KVT_CMD) ∧ (s.vault.cmd = none) ∧ (2 ≤ k) ∧ (k ≤ 255) ∧ (attrMaster s k (masterOf r) = true) ∧ ((tget s.vault.slots k).pend = 2)) ∧
    (∃ (s : State) (r : Req) (k : Nat), (Allowed s r Reg.KVT_CMD) ∧ (s.vault.cmd = none) ∧ (2 ≤ k) ∧ (k ≤ 255) ∧ (attrMaster s k (masterOf r) = true)) ∧
    (∃ (s : State) (r : Req) (k : Nat), (Allowed s r Reg.KVT_CMD) ∧ (s.vault.cmd = none) ∧ (2 ≤ k) ∧ (k ≤ 255) ∧ (attrMaster s k (masterOf r) = true)) ∧
    (∃ (s : State) (r : Req) (k : Nat), (Allowed s r Reg.KVT_CMD) ∧ (s.vault.cmd = none) ∧ (2 ≤ k) ∧ (k ≤ 255) ∧ (attrMaster s k (masterOf r) = true)) ∧
    (∃ (s : State) (r : Req) (k : Nat), (Allowed s r Reg.KVT_CMD) ∧ (s.vault.cmd = none) ∧ (2 ≤ k) ∧ (k ≤ 255) ∧ (attrMaster s k (masterOf r) = true) ∧ ((tget s.vault.slots k).state = .orphaned ∨ (tget s.vault.slots k).state = .zeroized)) ∧
    (∃ (s : State) (r : Req) (k source : Nat), (Allowed s r Reg.KVT_CMD) ∧ (s.vault.cmd = none) ∧ (2 ≤ k) ∧ (k ≤ 255) ∧ (attrMaster s k (masterOf r) = true) ∧ (source ≠ 0) ∧ (attrUse s source (masterOf r) useWrap = true) ∧ (slotServes s source = true) ∧ (s.vault.lc = 1) ∧ ((slotAttr s k).testBit useWrap = true) ∧ (slotServes s k = true)) :=
  ⟨⟨{ live with vault := { cmd := some ⟨2, 5, 5, 1, [], 0, false⟩ } }, gd, 5, by decide⟩,
   ⟨live, gd, 5, by decide⟩,
   ⟨withVault {}, gd, 5, by decide⟩,
   ⟨withVault {}, gd, 6, 5, 0, by decide +kernel⟩,
   ⟨withVault {}, gd, 6, 5, [], by decide +kernel⟩,
   ⟨withVault {}, gd, 5, by decide⟩,
   ⟨(withVault {}) |> fun s => { s with vault := { s.vault with slots := [(5, { slotV with pend := 2 })] } }, gd, 5, by decide⟩,
   ⟨withVault {}, gd, 5, by decide⟩,
   ⟨withVault {}, gd, 5, by decide⟩,
   ⟨withVault {}, gd, 5, by decide⟩,
   ⟨(withVault {}) |> fun s => { s with vault := { s.vault with slots := [(5, { slotV with state := .zeroized })] } }, gd, 5, by decide +kernel⟩,
   ⟨withVault {}, gd, 5, 5, by decide +kernel⟩⟩

theorem witness_VaultRootAndTamper :
    (∃ (s : State) (r : Req), (Allowed s r Reg.KVT_CMD) ∧ (s.vault.cmd = none) ∧ (rootState s.vault = 0) ∧ (s.vault.lc = 1 ∨ s.vault.lc = 2)) ∧
    (∃ (s : State) (r : Req), (Allowed s r Reg.KVT_CMD) ∧ (s.vault.cmd = none) ∧ (rootState s.vault ≠ 0)) ∧
    (∃ (s : State) (r : Req) (k value : Nat), (Allowed s r Reg.KVT_KCV_CHECK) ∧ (2 ≤ k) ∧ (k ≤ 255) ∧ (attrMaster s k (masterOf r) = true) ∧ ((tget s.vault.slots k).pend ≠ 0)) ∧
    (∃ (s : State), (s.vault.sweep = true)) ∧
    (∃ (s : State), (domainOn s 11 = true) ∧ (10 * secUnits ≤ since s s.vault.remaskAt)) ∧
    (∃ (s : State) (r : Req), (Allowed s r Reg.KVT_LC_CMD)) ∧
    (∃ (s : State) (r : Req) (value : Word) (a : Nat), (Allowed s r Reg.KVT_LC_CMD) ∧ (s.vault.lcArmed = some a) ∧ (since s a ≤ msUnits) ∧ (value.toNat = s.vault.lc + 1) ∧ (s.vault.lc + 1 ≤ 3) ∧ (s.vault.lc + 1 = 1 → s.vault.anchors ≠ [])) ∧
    (∃ (s : State) (pubkey token sig : Bytes), (s.vault.lc ≠ 2) ∧ (s.vault.debug = false) ∧ (domainOn s 11 = true)) ∧
    (∃ (s : State) (code : Nat), (code < 1 ∨ 5 < code ∨ s.vault.tamperCfg.testBit (code - 1) = false)) ∧
    (∃ (s : State) (r : Req), (Allowed s r Reg.KVT_TAMPER_CLEAR) ∧ (rootState s.vault ≠ 0)) ∧
    (∃ (s : State) (r : Req), (Allowed s r Reg.KVT_TAMPER_CLEAR)) ∧
    (∃ (s : State) (r : Req), (Allowed s r Reg.KVT_CNT_CLEAR)) :=
  ⟨⟨{ live with vault := { lc := 1 } }, gd, by decide⟩,
   ⟨{ live with vault := { testRoot := true } }, gd, by decide⟩,
   ⟨(withVault {}) |> fun s => { s with vault := { s.vault with slots := [(5, { slotV with pend := 1 })] } }, gd, 5, 7, by decide⟩,
   ⟨{ live with vault := { sweep := true } }, by decide⟩,
   ⟨{ live with tim := { dt := 2 ^ 80 - 2 ^ 30 } }, by decide⟩,
   ⟨live, gd, by decide⟩,
   ⟨{ live with vault := { lc := 1, lcArmed := some 0 } }, gd, 2#32, 0, by decide⟩,
   ⟨live, [], [], [], by decide⟩,
   ⟨live, 1, by decide⟩,
   ⟨{ live with vault := { testRoot := true } }, gd, by decide⟩,
   ⟨live, gd, by decide⟩,
   ⟨live, gd, by decide⟩⟩

theorem witness_SafetyChannels :
    (∃ (s : State) (i : SafIn), (chRuns s.saf.h = true)) ∧
    (∃ (s : State) (is : List SafIn), (chRuns s.saf.p = true)) ∧
    (∃ (s : State) (a b : Bool) (sub : Nat), (s.saf.p.lev1.testBit 0 = a)) ∧
    (∃ (s : State) (a b : Bool) (sub : Nat), (s.saf.p.lev0.testBit 0 = a)) ∧
    (∃ (s : State) (who : Nat), (who = 1 ∨ who = 2) ∧ (chRuns (chan s who) = true)) ∧
    (∃ (s : State) (who : Nat) (intact : Bool) (f : XFrame) (rest : List XFrame), (who = 1 ∨ who = 2) ∧ (chRuns (chan s who) = true) ∧ ((chan s (3 - who)).frames = f :: rest) ∧ (intact = false)) ∧
    (∃ (s : State) (who : Nat) (f : XFrame) (rest : List XFrame), (who = 1 ∨ who = 2) ∧ (chRuns (chan s who) = true) ∧ ((chan s (3 - who)).frames = f :: rest) ∧ ((chan s who).peer.seq = none) ∧ ((chan s who).block = none)) ∧
    (∃ (s : State) (who : Nat), (who = 1 ∨ who = 2) ∧ (chRuns (chan s who) = true) ∧ (4 ≤ (chan s who).clk - (chan s who).peer.lastGood) ∧ ((chan s who).peer.stale = false)) ∧
    (∃ (s : State) (who : Nat), (who = 1 ∨ who = 2) ∧ (chRuns (chan s who) = true) ∧ (1000 ≤ (chan s who).clk - (chan s who).clockFrom) ∧ (900 ≤ (chan s who).peer.good) ∧ ((chan s who).peer.good ≤ 1100)) ∧
    (∃ (s : State) (who : Nat), (who = 1 ∨ who = 2) ∧ (chRuns (chan s who) = true) ∧ (1000 ≤ (chan s who).clk - (chan s who).clockFrom) ∧ ((chan s who).peer.good < 900 ∨ 1100 < (chan s who).peer.good)) ∧
    (∃ (s : State), (chRuns s.saf.p = true)) ∧
    (∃ (s : State), (chRuns s.saf.p = true)) ∧
    (∃ (s : State) (who : Nat) (held : Bytes), (who = 1 ∨ who = 2) ∧ (chRuns (chan s who) = true) ∧ ((chan s who).block ≠ none)) :=
  ⟨⟨withSaf chOn chOn, ⟨0, 0, false, false⟩, by decide⟩,
   ⟨withSaf chOn chOn, [], by decide⟩,
   ⟨withSaf chOn chOn, false, true, 5, by decide⟩,
   ⟨withSaf chOn chOn, false, true, 5, by decide⟩,
   ⟨withSaf chOn chOn, 1, by decide⟩,
   ⟨withSaf chOn { chOn with frames := [frameOf chOn] }, 1, false, frameOf chOn, [], by decide⟩,
   ⟨withSaf chOn { chOn with frames := [frameOf chOn] }, 1, frameOf chOn, [], by decide⟩,
   ⟨withSaf { chOn with clk := 10 } chOn, 1, by decide⟩,
   ⟨withSaf { chOn with clk := 1000, peer := { (default : SafPeer) with good := 1000 } } chOn, 1, by decide⟩,
   ⟨withSaf { chOn with clk := 1000 } chOn, 1, by decide⟩,
   ⟨withSaf chOn chOn, by decide⟩,
   ⟨withSaf chOn chOn, by decide⟩,
   ⟨withSaf { chOn with block := some [] } chOn, 1, [], by decide +kernel⟩⟩

theorem witness_SafetyOutputsAndStart :
    (∃ (s : State) (who n : Nat), (who = 1 ∨ who = 2) ∧ (chRuns (chan s who) = true) ∧ (n ≤ 7) ∧ ((sbOut (chBlock (chan s who)) n 2).testBit 0 = true) ∧ ((sbOut (chBlock (chan s who)) n 2).testBit 1 = true) ∧ (testDue (chBlock (chan s who)) who n (tget (chan s who).outs n).intervals ≤ (chan s who).clk) ∧ ((List.range 8).any (fun m => (tget (chan s who).outs m).pulse.isSome) = false) ∧ ((chan s who).pulseFree ≤ (chan s who).clk) ∧ ((tget (chan s who).outs n).drive = true) ∧ (otherDrive s who n = true)) ∧
    (∃ (s : State) (who n : Nat), (who = 1 ∨ who = 2) ∧ (chRuns (chan s who) = true) ∧ (n ≤ 7) ∧ ((sbOut (chBlock (chan s who)) n 2).testBit 0 = true) ∧ ((sbOut (chBlock (chan s who)) n 2).testBit 1 = true) ∧ (testDue (chBlock (chan s who)) who n (tget (chan s who).outs n).intervals ≤ (chan s who).clk) ∧ ((List.range 8).any (fun m => (tget (chan s who).outs m).pulse.isSome) = false) ∧ ((chan s who).pulseFree ≤ (chan s who).clk) ∧ ((tget (chan s who).outs n).drive = false ∨ otherDrive s who n = false)) ∧
    (∃ (s : State) (who n : Nat) (low : Bool), (who = 1 ∨ who = 2) ∧ (chRuns (chan s who) = true) ∧ (n ≤ 7) ∧ ((tget (chan s who).outs n).pulse ≠ none) ∧ (demand (chan s who) n = false)) ∧
    (∃ (s : State) (who n : Nat), (who = 1 ∨ who = 2) ∧ (chRuns (chan s who) = true) ∧ (n ≤ 7) ∧ ((tget (chan s who).outs n).pulse ≠ none) ∧ (demand (chan s who) n = true)) ∧
    (∃ (s : State) (who n : Nat), (who = 1 ∨ who = 2) ∧ (chRuns (chan s who) = true) ∧ (n ≤ 7) ∧ ((tget (chan s who).outs n).pulse ≠ none) ∧ (demand (chan s who) n = true)) ∧
    (∃ (s : State) (r : Req), (Allowed s r Reg.SAF_CNT_CLEAR)) ∧
    (∃ (s : State), (s.pwr.porst = false)) ∧
    (∃ (s : State) (who : Nat), (who = 1 ∨ who = 2) ∧ ((chan s who).on = false)) :=
  ⟨⟨withSaf { chOn with block := some (List.replicate 258 0#8 ++ [3#8]), outs := [(0, { (default : SafOut) with drive := true })] } { chOn with outs := [(0, { (default : SafOut) with drive := true })] }, 1, 0, by decide +kernel⟩,
   ⟨withSaf { chOn with block := some (List.replicate 258 0#8 ++ [3#8]) } chOn, 1, 0, by decide +kernel⟩,
   ⟨withSaf { chOn with outs := [(0, { (default : SafOut) with pulse := some 1 })] } chOn, 1, 0, true, by decide +kernel⟩,
   ⟨withSaf { chOn with ready := true, block := some (List.replicate 258 0#8 ++ [3#8]), outs := [(0, { (default : SafOut) with pulse := some 1 })] } chOn, 1, 0, by decide +kernel⟩,
   ⟨withSaf { chOn with ready := true, block := some (List.replicate 258 0#8 ++ [3#8]), outs := [(0, { (default : SafOut) with pulse := some 1 })] } chOn, 1, 0, by decide +kernel⟩,
   ⟨live, hf, by decide⟩,
   ⟨live, by decide⟩,
   ⟨live, 1, by decide⟩⟩

theorem witness_PowerCommands :
    (∃ (s : State), (s.pwr.porst = true)) ∧
    (∃ (s : State), (s.pwr.sequencing = true) ∧ (s.pwr.porst = false) ∧ (s.pwr.step = 0 ∨ s.pwr.pllLocked = true) ∧ (s.pwr.step ≤ 12)) ∧
    (∃ (s : State), (s.pwr.sequencing = true) ∧ (s.pwr.porst = false) ∧ (s.pwr.pllLocked = true) ∧ (12 < s.pwr.step) ∧ (s.dev = .reset)) ∧
    (∃ (s : State), (domainOn s 3 = true) ∧ (s.tim.running = false)) ∧
    (∃ (s : State), (s.pwr.sequencing = true) ∧ (s.pwr.pllLocked = false)) ∧
    (∃ (s : State) (mv : Nat), (s.pwr.vbatLow = false) ∧ (s.pwr.porst = false)) ∧
    (∃ (s : State) (d mv : Nat) (low : Bool), (s.pwr.porst = false) ∧ (domainOn s d = true) ∧ (d = 4 ∨ d = 5)) ∧
    (∃ (s : State) (d mv : Nat), (s.pwr.porst = false) ∧ (domainOn s d = true) ∧ (7 ≤ d) ∧ (d ≤ 10)) ∧
    (∃ (s : State) (d mv : Nat) (low : Bool), (s.pwr.porst = false) ∧ (domainOn s d = true) ∧ (d = 3 ∨ d = 6 ∨ (10 < d ∧ d ≤ 15) ∨ (7 ≤ d ∧ d ≤ 10 ∧ low = false))) ∧
    (∃ (s : State) (mv : Nat), (2500 ≤ mv)) ∧
    (∃ (s : State) (mv : Nat), (s.pwr.cmdBusy = true) ∧ (mv ≤ s.pwr.command + 15) ∧ (s.pwr.command ≤ mv + 15) ∧ (s.pwr.alertPending = none)) ∧
    (∃ (s : State) (mv : Nat) (s1 : State), (s.pwr.cmdBusy = true) ∧ (s.pwr.tries < 3) ∧ (s1 = cnt { s with pwr := { s.pwr with readback := mv, history := ({ mv := s.pwr.command, back := mv } :: s.pwr.history).take 64, tries := s.pwr.tries + 1 } } Reg.PWR_CNT_PMB_FAIL) ∧ (s.pwr.linked = true) ∧ (s.pwr.avsFail = false)) ∧
    (∃ (s : State) (word : Nat), (domainOn s 6 = true) ∧ (s.pwr.cmdBusy = true)) ∧
    (∃ (s : State) (word : Nat), (domainOn s 6 = true) ∧ (s.pwr.cmdBusy = false)) ∧
    (∃ (s : State) (r : Req), (Allowed s r Reg.PWR_CNT_CLEAR)) :=
  ⟨⟨State.reset, by decide⟩,
   ⟨{ live with pwr := { on := [1, 2, 3, 4, 5, 6, 7, 8, 9, 10, 11, 12, 13, 14, 15, 16], porst := false, sequencing := true } }, by decide⟩,
   ⟨{ State.reset with pwr := { porst := false, sequencing := true, pllLocked := true, step := 13 } }, by decide⟩,
   ⟨live, by decide⟩,
   ⟨{ live with pwr := { on := [1, 2, 3, 4, 5, 6, 7, 8, 9, 10, 11, 12, 13, 14, 15, 16], porst := false, sequencing := true } }, by decide⟩,
   ⟨live, 2000, by decide⟩,
   ⟨live, 4, 100, true, by decide⟩,
   ⟨live, 7, 100, by decide⟩,
   ⟨live, 3, 100, true, by decide⟩,
   ⟨live, 3000, by decide⟩,
   ⟨{ live with pwr := { on := [1, 2, 3, 4, 5, 6, 7, 8, 9, 10, 11, 12, 13, 14, 15, 16], porst := false, cmdBusy := true } }, 800, by decide⟩,
   ⟨{ live with pwr := { on := [1, 2, 3, 4, 5, 6, 7, 8, 9, 10, 11, 12, 13, 14, 15, 16], porst := false, cmdBusy := true, linked := true } }, 0, cnt { { live with pwr := { on := [1, 2, 3, 4, 5, 6, 7, 8, 9, 10, 11, 12, 13, 14, 15, 16], porst := false, cmdBusy := true, linked := true } } with pwr := { ({ live with pwr := { on := [1, 2, 3, 4, 5, 6, 7, 8, 9, 10, 11, 12, 13, 14, 15, 16], porst := false, cmdBusy := true, linked := true } }).pwr with readback := 0, history := [⟨800, 0⟩], tries := 1 } } Reg.PWR_CNT_PMB_FAIL, by decide⟩,
   ⟨{ live with pwr := { on := [1, 2, 3, 4, 5, 6, 7, 8, 9, 10, 11, 12, 13, 14, 15, 16], porst := false, cmdBusy := true } }, 5, by decide⟩,
   ⟨live, 5, by decide⟩,
   ⟨live, gd, by decide⟩⟩

theorem witness_StartSequence :
    (∃ (s : State), (s.dev = .loading) ∧ (s.cfgs.phase = .directory) ∧ (directory s = none)) ∧
    (∃ (s : State) (d : Bytes) (second : Bool) (slot : Nat), (s.dev = .loading) ∧ (s.cfgs.phase = .directory) ∧ (directory s = some (d, second)) ∧ (chooseSlot s = some slot)) ∧
    (∃ (s : State), (s.dev = .loading) ∧ (s.cfgs.phase = .bist)) ∧
    (∃ (s : State) (banks : List Nat), (s.dev = .loading) ∧ (s.cfgs.phase = .bist)) ∧
    (∃ (s : State) (ok : Bool), (s.dev = .loading)) ∧
    (∃ (s : State) (vout fw : Nat) (image : Bytes), (s.dev = .loading) ∧ (s.cfgs.phase = .body) ∧ (s.cfgs.dramReady = true) ∧ (image = s.cfgs.startHeader ++ nvmBytes s (s.cfgs.startBase + 0x200) (leAt s.cfgs.startHeader 24 4))) ∧
    (∃ (s : State), (s.dev = .starting) ∧ (majority s = true)) ∧
    (∃ (s : State), (s.dev = .starting) ∧ (majority s = false) ∧ (leaseWait s * msUnits ≤ since s s.cfgs.startAt)) ∧
    (∃ (s : State) (t : Nat), (s.cfgs.completeAt = some t) ∧ (s.cfgs.settled = false) ∧ (10 * secUnits ≤ since s t) ∧ (s.aon.countedKind = 4)) ∧
    (∃ (s : State) (r : Req), (Allowed s r Reg.CFG_START_CMD)) ∧
    (∃ (s : State) (r : Req), (Allowed s r Reg.CFG_START_CMD)) ∧
    (∃ (s : State) (r : Req), (Allowed s r Reg.CFG_START_CMD)) ∧
    (∃ (s : State) (r : Req), (Allowed s r Reg.CFG_SEC_CMD)) ∧
    (∃ (s : State) (r : Req) (value : Word), (Allowed s r Reg.CFG_SEC_CMD) ∧ (value.toNat ≠ 0x53560001)) ∧
    (∃ (s : State), (s.dev = .standbyCold) ∧ (s.aon.bistRtc = none) ∧ (s.pwr.sequencing = false)) ∧
    (∃ (s : State), (s.dev = .standbyCold) ∧ (s.pwr.on.contains 10 = true) ∧ (s.pwr.sequencing = false) ∧ (s.red.taking = none)) :=
  ⟨⟨{ live with dev := .loading, cfgs := { phase := .directory } }, by decide +kernel⟩,
   ⟨withDir, dirBytes, false, 0, by decide +kernel⟩,
   ⟨{ live with dev := .loading, cfgs := { phase := .bist } }, by decide⟩,
   ⟨{ live with dev := .loading, cfgs := { phase := .bist } }, [], by decide⟩,
   ⟨{ live with dev := .loading, cfgs := { phase := .bist } }, true, by decide⟩,
   ⟨{ live with dev := .loading, cfgs := { phase := .body, dramReady := true } }, 0, 0, [], by decide +kernel⟩,
   ⟨{ live with dev := .starting, red := { epoch := 5, grants := [(0, { (default : Grant) with epoch := 5, current := true }), (1, { (default : Grant) with epoch := 5, current := true })] } }, by decide⟩,
   ⟨{ live with dev := .starting, cfgs := { phase := .running } }, by decide⟩,
   ⟨{ live with tim := { dt := 2 ^ 80 - 2 ^ 30 }, aon := { countedKind := 4, warm := 1 }, cfgs := { completeAt := some 0, settled := false } }, 0, by decide⟩,
   ⟨live, gd, by decide⟩,
   ⟨live, gd, by decide⟩,
   ⟨live, gd, by decide⟩,
   ⟨live, gd, by decide⟩,
   ⟨live, gd, 0#32, by decide⟩,
   ⟨{ live with dev := .standbyCold }, by decide⟩,
   ⟨{ live with dev := .standbyCold }, by decide⟩⟩

theorem witness_ConfigurationCommands :
    (∃ (s : State) (r : Req) (fetched : Option Bytes) (g : CfgRun), (Allowed s r Reg.CFG_STAGE_CMD) ∧ (s.cfgs.run = some g)) ∧
    (∃ (s : State) (r : Req) (d : Bytes), (Allowed s r Reg.CFG_STAGE_CMD) ∧ (s.cfgs.run = none) ∧ (d.length = (rd s Reg.CFG_STAGE_LEN).toNat)) ∧
    (∃ (s : State) (r : Req), (Allowed s r Reg.CFG_STAGE_CMD) ∧ (s.cfgs.run = none)) ∧
    (∃ (s : State) (r : Req), (Allowed s r Reg.CFG_STAGE_CMD) ∧ (s.cfgs.run = none) ∧ (ownedBy s (ownerOf r) = [])) ∧
    (∃ (s : State) (r : Req), (Allowed s r Reg.CFG_STAGE_CMD) ∧ (s.cfgs.run = none) ∧ (ownedBy s (ownerOf r) ≠ [])) ∧
    (∃ (s : State) (r : Req), (Allowed s r Reg.CFG_STAGE_CMD)) ∧
    (∃ (s : State), (s.cfgs.run = none)) ∧
    (∃ (s : State) (g : CfgRun), (s.cfgs.run = some g)) ∧
    (∃ (s : State) (r : Req), (Allowed s r Reg.CFG_SWAP_CMD) ∧ ((maskRegions (fld s Reg.CFG_SWAP_MASK 16 0)).find? (forbidden s) = none) ∧ (swapLate s (swapQReg s) = false)) ∧
    (∃ (s : State) (r : Req), (Allowed s r Reg.CFG_SWAP_CMD) ∧ ((maskRegions (fld s Reg.CFG_SWAP_MASK 16 0)).find? (forbidden s) = none) ∧ (swapLate s (swapQReg s) = true)) ∧
    (∃ (s : State) (r : Req), (Allowed s r Reg.CFG_SWAP_CMD) ∧ ((maskRegions (fld s Reg.CFG_SWAP_MASK 16 0)).find? (forbidden s) = none)) ∧
    (∃ (s : State) (r : Req) (i : Nat), (Allowed s r Reg.CFG_SWAP_CMD) ∧ ((maskRegions (fld s Reg.CFG_SWAP_MASK 16 0)).find? (forbidden s) = some i)) ∧
    (∃ (s : State) (r : Req), (Allowed s r Reg.CFG_SWAP_CMD)) ∧
    (∃ (s : State) (r : Req) (n : Nat), (Allowed s r Reg.CFG_PROFILE_CMD) ∧ (s.cfgs.run = none) ∧ (profileRec s (n % 8) = none)) ∧
    (∃ (s : State) (r : Req) (n : Nat), (Allowed s r Reg.CFG_PROFILE_CMD) ∧ (s.cfgs.run = none)) ∧
    (∃ (s : State), (mergeFront s = none)) ∧
    (∃ (s : State) (b : Nat), (mergeFront s = some b) ∧ (s.cfgs.mergeBegun = false) ∧ (b + 2 ≤ s.tim.boundaries)) ∧
    (∃ (s : State) (b : Nat), (mergeFront s = some b) ∧ (s.cfgs.mergeBegun = true)) ∧
    (∃ (s : State) (r : Req), (Allowed s r Reg.CFG_CNT_CLEAR)) :=
  ⟨⟨{ live with cfgs := { run := some default } }, gd, none, default, by decide⟩,
   ⟨live, gd, [], by decide⟩,
   ⟨live, gd, by decide⟩,
   ⟨live, gd, by decide⟩,
   ⟨{ live with cfgs := { shadows := [(3, { (default : Shadow) with state := 1, owner := 2 })] } }, gd, by decide⟩,
   ⟨live, gd, by decide⟩,
   ⟨live, by decide⟩,
   ⟨{ live with cfgs := { run := some default } }, default, by decide⟩,
   ⟨live, gd, by decide⟩,
   ⟨{ live with tim := { q := 9 }, regs := [(Reg.CFG_SWAP_Q_LO, 1#32)] }, gd, by decide⟩,
   ⟨live, gd, by decide⟩,
   ⟨{ live with regs := [(Reg.CFG_SWAP_MASK, 0x10000#32)] }, gd, 16, by decide⟩,
   ⟨live, gd, by decide⟩,
   ⟨live, gd, 1, by decide +kernel⟩,
   ⟨live, gd, 1, by decide⟩,
   ⟨live, by decide⟩,
   ⟨{ live with tim := { boundaries := 5 }, cfgs := { shadows := [(3, { (default : Shadow) with state := 4, mergeSince := 1 })] } }, 1, by decide⟩,
   ⟨{ live with cfgs := { mergeBegun := true, shadows := [(3, { (default : Shadow) with state := 4, mergeSince := 1 })] } }, 1, by decide⟩,
   ⟨live, gd, by decide⟩⟩

theorem witness_RepairCommands :
    (∃ (s : State) (r : Req) (p : Nat), (Allowed s r Reg.CFG_REPAIR_CMD) ∧ (104 < p)) ∧
    (∃ (s : State) (r : Req) (p : Nat), (Allowed s r Reg.CFG_REPAIR_CMD) ∧ (p ≤ 104)) ∧
    (∃ (s : State) (r : Req) (p : Nat), (Allowed s r Reg.CFG_REPAIR_CMD) ∧ (p ≤ 104)) ∧
    (∃ (s : State) (r : Req) (p : Nat), (Allowed s r Reg.CFG_REPAIR_CMD) ∧ (p ≤ 15)) ∧
    (∃ (s : State) (r : Req) (p : Nat), (Allowed s r Reg.CFG_REPAIR_CMD) ∧ (p ≤ 15)) ∧
    (∃ (s : State) (r : Req) (e : Nat), (Allowed s r Reg.CFG_REPAIR_CMD) ∧ (e ≤ 15)) ∧
    (∃ (s : State) (r : Req) (e : Nat), (Allowed s r Reg.CFG_REPAIR_CMD) ∧ (e ≤ 15)) ∧
    (∃ (s : State) (r : Req) (e : Nat), (Allowed s r Reg.CFG_REPAIR_CMD) ∧ (e ≤ 4) ∧ (clsEngine s e ≠ 1)) ∧
    (∃ (s : State) (r : Req) (e : Nat), (Allowed s r Reg.CFG_REPAIR_CMD) ∧ (e ≤ 4) ∧ (clsEngine s e = 3 ∨ clsEngine s e = 4)) ∧
    (∃ (s : State) (r : Req), (Allowed s r Reg.CFG_REPAIR_CMD) ∧ (s.cfgs.bankSpare ≤ 16) ∧ (s.cfgs.bankCopy = none)) ∧
    (∃ (s : State) (r : Req) (b : Nat), (Allowed s r Reg.CFG_REPAIR_CMD) ∧ (b ≤ 16) ∧ (s.cfgs.bankSpare ≤ 16) ∧ (s.cfgs.bankCopy = none) ∧ (b ≠ s.cfgs.bankSpare) ∧ (s.cfgs.bankServing.testBit b = true)) ∧
    (∃ (s : State) (r : Req) (b : Nat), (Allowed s r Reg.CFG_REPAIR_CMD) ∧ (b ≤ 16) ∧ (s.cfgs.bankServing.testBit b = false) ∧ (s.cfgs.bankSpare ≠ b)) ∧
    (∃ (s : State) (a b : Nat), (s.cfgs.bankCopy = some (a, b))) ∧
    (∃ (s : State) (r : Req) (n : Nat), (Allowed s r Reg.CFG_REPAIR_CMD) ∧ (1 ≤ n) ∧ (n ≤ 8191) ∧ (ndUsed s n = true) ∧ (r ≠ .steward)) ∧
    (∃ (s : State) (r : Req) (n : Nat), (Allowed s r Reg.CFG_REPAIR_CMD) ∧ (1 ≤ n) ∧ (n ≤ 8191) ∧ (ndUsed s n = true) ∧ (r ≠ .steward)) ∧
    (∃ (s : State) (r : Req), (Allowed s r Reg.CFG_NVM_CMD) ∧ (s.cfgs.nvmRun = none) ∧ (0 < 1) ∧ ((rd s Reg.CFG_NVM_ADDR).toNat / 0x10000 * 0x10000 + 0x10000 ≤ 2 ^ 32) ∧ (nvmProtected s ((rd s Reg.CFG_NVM_ADDR).toNat / 0x10000 * 0x10000) (0x10000) = false)) ∧
    (∃ (s : State) (r : Req) (data : Bytes), (Allowed s r Reg.CFG_NVM_CMD) ∧ (s.cfgs.nvmRun = none) ∧ (nvmLen data.length ≠ 0) ∧ ((rd s Reg.CFG_NVM_ADDR).toNat + nvmLen data.length ≤ 2 ^ 32) ∧ (nvmProtected s ((rd s Reg.CFG_NVM_ADDR).toNat) (nvmLen data.length) = false)) ∧
    (∃ (s : State) (r : Req) (len : Nat), (Allowed s r Reg.CFG_NVM_CMD) ∧ (s.cfgs.nvmRun = none) ∧ (nvmLen len ≠ 0) ∧ ((rd s Reg.CFG_NVM_ADDR).toNat + nvmLen len ≤ 2 ^ 32) ∧ (nvmProtected s ((rd s Reg.CFG_NVM_ADDR).toNat) (nvmLen len) = false)) ∧
    (∃ (s : State) (ok : Bool) (g : NvmRun), (s.cfgs.nvmRun = some g)) :=
  ⟨⟨live, gd, 105, by decide⟩,
   ⟨live, gd, 1, by decide⟩,
   ⟨live, gd, 1, by decide⟩,
   ⟨live, gd, 1, by decide⟩,
   ⟨live, gd, 1, by decide⟩,
   ⟨live, gd, 1, by decide⟩,
   ⟨live, gd, 1, by decide⟩,
   ⟨live, gd, 4, by decide⟩,
   ⟨{ live with stb := { engines := [1, 1, 1, 1, 3] } }, gd, 4, by decide⟩,
   ⟨live, gd, by decide⟩,
   ⟨live, gd, 3, by decide⟩,
   ⟨{ live with cfgs := { bankSpare := 31 } }, gd, 16, by decide⟩,
   ⟨{ live with cfgs := { bankCopy := some (3, 16) } }, 3, 16, by decide⟩,
   ⟨{ live with cfg := [(5 * 2 ^ 20 + 72, 0x800000#32)], bgt := { nodes := [(9, { (default : Node) with state := 1 })] } }, gd, 9, by decide⟩,
   ⟨{ live with cfg := [(5 * 2 ^ 20 + 72, 0x800000#32)], bgt := { nodes := [(9, { (default : Node) with state := 1 })] } }, gd, 9, by decide⟩,
   ⟨live, gd, by decide +kernel⟩,
   ⟨live, gd, [1#8], by decide +kernel⟩,
   ⟨live, gd, 4, by decide +kernel⟩,
   ⟨{ live with cfgs := { nvmRun := some default } }, true, default, by decide⟩⟩

theorem witness_DiagnosticRecords :
    (∃ (s : State) (q d : Nat), (queueDomain q = some d) ∧ (domainOn s d = true)) ∧
    (∃ (s : State) (q d : Nat), (queueDomain q = some d) ∧ (domainOn s d = true)) ∧
    (∃ (s : State) (e : ErrRec) (rest : List ErrRec) (place : Nat) (d : Dgn), (s.dgn.intake = e :: rest) ∧ (e.sev < 2) ∧ (recordPlace { s with dgn := { s.dgn with intake := rest, folding := s.dgn.folding && decide (rest.length > 16) } } e.sev = some (place, d))) ∧
    (∃ (s : State) (e : ErrRec) (rest : List ErrRec) (place : Nat) (d : Dgn), (s.dgn.intake = e :: rest) ∧ (3 ≤ e.sev) ∧ (recordPlace { s with dgn := { s.dgn with intake := rest, folding := s.dgn.folding && decide (rest.length > 16) } } e.sev = some (place, d))) ∧
    (∃ (s : State) (r : Req), (Allowed s r Reg.DGN_EJ_CMD)) ∧
    (∃ (s : State) (r : Req), (Allowed s r Reg.DGN_EJ_CMD)) ∧
    (∃ (s : State) (r : Req), (Allowed s r Reg.DGN_EJ_CMD)) ∧
    (∃ (s : State) (r : Req), (Allowed s r Reg.DGN_CLEAR_ALL)) ∧
    (∃ (s : State) (r : Req) (block : Nat), (Allowed s r Reg.DGN_SNAP_CMD) ∧ (block % 32 ≠ 0) ∧ (s.dgn.snapState ≠ 1) ∧ (s.dgn.snapPending = false)) ∧
    (∃ (s : State) (r : Req) (block : Nat), (Allowed s r Reg.DGN_SNAP_CMD) ∧ (block % 32 ≠ 0) ∧ (s.dgn.snapState = 1 ∨ s.dgn.snapPending = true)) ∧
    (∃ (s : State), (s.dgn.snapState = 1)) ∧
    (∃ (s : State), (s.dgn.snapState = 1)) ∧
    (∃ (s : State) (c : Int), (c ≤ 120) ∧ (s.dgn.overTemp = false)) ∧
    (∃ (s : State) (c : Int), (125 < c) ∧ (s.dgn.overTemp = false)) ∧
    (∃ (s : State) (r : Req), (Allowed s r Reg.DGN_CNT_CLEAR)) ∧
    (∃ (s : State), (s.stw.state ≠ 0) ∧ (s.stw.state ≠ 3)) ∧
    (∃ (s : State), (s.stw.state ≠ 0) ∧ (s.stw.state ≠ 3)) :=
  ⟨⟨live, 0x120, 7, by decide⟩,
   ⟨live, 0x120, 7, by decide⟩,
   ⟨{ live with dgn := { intake := [{ (default : ErrRec) with sev := 1 }] } }, { (default : ErrRec) with sev := 1 }, [], 0, { (default : Dgn) with }, by decide +kernel⟩,
   ⟨{ live with dgn := { intake := [{ (default : ErrRec) with sev := 3 }] } }, { (default : ErrRec) with sev := 3 }, [], 0, { (default : Dgn) with }, by decide +kernel⟩,
   ⟨live, gd, by decide⟩,
   ⟨live, gd, by decide⟩,
   ⟨live, gd, by decide⟩,
   ⟨live, gd, by decide⟩,
   ⟨live, gd, 3, by decide⟩,
   ⟨{ live with dgn := { snapState := 1 } }, gd, 3, by decide⟩,
   ⟨{ live with dgn := { snapState := 1 } }, by decide⟩,
   ⟨{ live with dgn := { snapState := 1 } }, by decide⟩,
   ⟨live, 60, by decide⟩,
   ⟨live, 130, by decide⟩,
   ⟨live, gd, by decide⟩,
   ⟨{ live with stw := { state := 1 } }, by decide⟩,
   ⟨{ live with stw := { state := 1 } }, by decide⟩⟩

theorem witness_SelfTestsAndScrub :
    (∃ (s : State) (r : Req) (target element : Nat), (Allowed s r Reg.DGN_ST_CMD) ∧ (target ≤ 6)) ∧
    (∃ (s : State) (target element ns progress : Nat) (s1 : State), (ns ≤ 2000) ∧ (target ≤ 6) ∧ (nodePay s (fld s Reg.DGN_ST_NODE 12 0) ns = some s1)) ∧
    (∃ (s : State) (target element : Nat) (pass : Bool), (target ≤ 6)) ∧
    (∃ (s : State) (b : Nat), (s.cfgs.bankSpare ≤ 16) ∧ ((tget s.dgn.tests (testKey 1 s.cfgs.bankSpare)).state = 2) ∧ (s.cfgs.bankCopy = none) ∧ (s.cfgs.bankReturning = none) ∧ (nextServing (fun b => s.cfgs.bankServing.testBit b) 17 s.cfgs.bankSpare = some b)) ∧
    (∃ (s : State) (e : Nat), (clsEngine s s.stb.spare = 2) ∧ ((tget s.dgn.tests (testKey 0 s.stb.spare)).state = 2) ∧ (s.stb.returning = []) ∧ (nextServing (fun e => decide (clsEngine s e = 1)) 5 s.stb.spare = some e)) :=
  ⟨⟨live, gd, 0, 4, by decide⟩,
   ⟨{ live with regs := [(Reg.DGN_ST_NODE, 9#32)], cfg := [(5 * 2 ^ 20 + 72, 0x800000#32)], bgt := { nodes := [(9, { (default : Node) with state := 1 })] } }, 0, 4, 0, 7, charge ({ live with regs := [(Reg.DGN_ST_NODE, 9#32)], cfg := [(5 * 2 ^ 20 + 72, 0x800000#32)], bgt := { nodes := [(9, { (default : Node) with state := 1 })] } }) true 9 0, by decide +kernel⟩,
   ⟨live, 0, 4, true, by decide⟩,
   ⟨{ live with dgn := { tests := [(testKey 1 16, { (default : SelfTest) with state := 2 })] } }, 0, by decide +kernel⟩,
   ⟨{ live with stb := { engines := [1, 1, 1, 1, 2], spare := 4 }, dgn := { tests := [(testKey 0 4, { (default : SelfTest) with state := 2 })] } }, 0, by decide +kernel⟩⟩

theorem witness_RegisterAccess :
    (∃ (s : State) (r : Req) (off width value c : Nat), (off < 2 ^ 24) ∧ (inMsix off = false) ∧ (discardCause s r off width = some c)) ∧
    (∃ (s : State) (r : Req) (off width value : Nat) (a : Acc), (off < 2 ^ 24) ∧ (inMsix off = false) ∧ (discardCause s r off width = none) ∧ (accOf off = some a) ∧ (a.world ≠ .m)) ∧
    (∃ (s : State) (r : Req) (off width value : Nat) (a : Acc), (off < 2 ^ 24) ∧ (inMsix off = false) ∧ (discardCause s r off width = none) ∧ (accOf off = some a) ∧ (a.world = .m) ∧ (fld s Reg.TIM_CTRL 0 0 = 1 ↔ r = .steward)) ∧
    (∃ (s : State) (lane : Nat) (guard : Bool) (v i value : Nat), (v < 64) ∧ (i < 4)) ∧
    (∃ (s : State) (lane vec : Nat) (guard : Bool), (vec < 64)) ∧
    (∃ (s : State) (r : Req) (off : Nat), (off < 2 ^ 24) ∧ (off % 4 = 0) ∧ (off < 0xE0000) ∧ (latches s off = [])) ∧
    (∃ (s : State) (r : Req), (domainOn s (domainOf Reg.TIM_NOW_LO) = true)) ∧
    (∃ (s : State) (r : Req) (off : Nat), (off < 2 ^ 24) ∧ (off % 4 ≠ 0)) ∧
    (∃ (s : State) (k vec : Nat) (guard : Bool), (k ≤ 2) ∧ (vec ≤ 63) ∧ (vec ≠ 0) ∧ (vec ≠ 3) ∧ ((tget s.moder (vecKey k guard vec)).running = true) ∧ ((tget s.moder (vecKey k guard vec)).until_ ≤ now s)) :=
  ⟨⟨live, hf, Reg.DEV_DRAIN_CTRL, 32, 5, 2, by decide⟩,
   ⟨live, gd, Reg.DEV_DRAIN_CTRL, 32, 5, { world := .g, rwg := 255 }, by decide⟩,
   ⟨live, gd, Reg.TIM_ADJ, 32, 5, { world := .m, rwg := 4294967295 }, by decide⟩,
   ⟨live, 0, true, 3, 3, 0, by decide⟩,
   ⟨live, 0, 3, true, by decide⟩,
   ⟨live, gd, 0, by decide +kernel⟩,
   ⟨live, gd, by decide⟩,
   ⟨live, gd, 2, by decide⟩,
   ⟨{ live with moder := [(vecKey 1 false 10, ⟨true, 0, true⟩)] }, 1, 10, false, by decide⟩⟩

/-- `live`: every vector is masked at reset. -/
def maskedState : State := { live with msix := [] }
theorem witness_IdleStep : State.reset.pending = [] := rfl
theorem witness_StepKeepsCanonical : ∃ s t : State, Canonical s ∧ step s = .next t :=
  ⟨State.reset, idle State.reset, by unfold Canonical; decide +kernel, rfl⟩
theorem witness_StepGoesOnward : ∃ s t : State, s.pending ≠ [] ∧ step s = .next t :=
  ⟨{ State.reset with pending := [.porstAssert, .periodBoundary] }, porstAssert { State.reset with pending := [.periodBoundary] }, by simp, rfl⟩
theorem witness_MaskedVectorSendsOneMessage :
    Canonical maskedState ∧ 63 < 64 ∧ bit (msixWord maskedState 0 true 63 3) 0 = true ∧ tget maskedState.pba (vecKey 0 true 63) = false := by
  unfold Canonical; decide +kernel
theorem witness_LaneRegistersThroughTheirEndpoint :
    ∃ k lane off : Nat, k < 3 ∧ Reg.LNI_CTRL k ≤ off ∧ off ≤ Reg.LNI_CNT_TAIL_BAD k ∧ lane ≠ k ∧ off % 4 = 0 ∧
      Instr.laneDeliveryEnable (.fn lane true) k ∈
        [Instr.registerWrite (.fn lane true) off 32 1, .laneDeliveryEnable (.fn lane true) k] :=
  ⟨2, 0, Reg.LNI_CNT_TAIL_BAD 2, by decide +kernel⟩
theorem witness_HigherEpochClosesTheGate :
    (∃ (s : State) (k e : Nat), k < 3 ∧ s.dev = .active ∧ e = (rd s (Reg.RED_GRANT_EPOCH k)).toNat ∧ s.red.epoch < e) ∧
    (∃ (s : State) (h : IuHead), s.dev = .active ∧ h.path ≤ 1 ∧ s.red.rxSeqs.contains h.seq = false ∧ s.red.epoch < h.epoch) :=
  ⟨⟨{ live with regs := [(Reg.RED_GRANT_EPOCH 2, 1#32)] }, 2, 1, by decide +kernel⟩,
   ⟨live, { path := 1, seq := 7, dev := 0, epoch := 1 }, by decide +kernel⟩⟩
theorem witness_PpsCapturesGoToTheServo : ∃ (s : State) (c t : Nat) (level : Bool), c ≤ 7 ∧
    fld s Reg.TIM_CTRL 2 2 = 1 ∧ fld s Reg.TIM_CTRL 0 0 = 1 ∧ fld s Reg.TIM_CTRL 5 3 = c ∧
    (if level then bit (rd s (Reg.TIM_CAP_CFG c)) 0 else bit (rd s (Reg.TIM_CAP_CFG c)) 1) = true ∧
    (∀ p, (tget s.tim.capt c).last = some p → p + 64 ≤ t) :=
  ⟨{ live with
      regs := [(Reg.TIM_CTRL, 0x3D#32), (Reg.TIM_CAP_CFG 7, 3#32)]
      tim := { live.tim with capt := [(7, { (default : Capt) with last := some 36 })] } }, 7, 100, true, by decide +kernel,
    by decide +kernel, by decide +kernel, by decide +kernel, by decide +kernel,
    fun p h => by simp [tget, tgetD] at h; omega⟩
/-- `leapState` with the domains on and no leap pending. -/
def armState : State := { live with regs := [(Reg.TIM_UTC_OFFSET, 40#32), (Reg.TIM_LEAP_AT, 1814400041#32)] }
theorem witness_LeapSecondArm : ∃ (s : State) (r : Req) (value : Word), Canonical s ∧ Allowed s r Reg.TIM_LEAP_CTRL ∧
    (bits value 1 0 = 1 ∨ bits value 1 0 = 2) :=
  ⟨armState, gd, 1#32, by unfold Canonical; decide +kernel⟩
theorem witness_KeysNotReadable : ∃ (s : State) (root : Bytes) (t u : State), (root = zeroKey ↔ s.vault.root = zeroKey) ∧ root ≠ s.vault.root ∧
    exec (.latchingRead gd 0 32) s = .next t ∧ exec (.latchingRead gd 0 32) { s with vault := { s.vault with root := root } } = .next u :=
  ⟨{ live with vault := { root := [1#8] } }, [2#8], _, _, by decide, by decide, rfl, rfl⟩
theorem witness_MidpointOfSortedValues : ∃ l v : List Int, v.Perm l ∧ v.Pairwise (· ≤ ·) := ⟨[3, 1, 2], [1, 2, 3], by decide⟩
theorem witness_MidpointToleratesFaults : ∃ (good bad l : List Int) (lo hi : Int), l.Perm (good ++ bad) ∧ 3 ≤ l.length ∧
    bad.length ≤ (if l.length ≤ 6 then 1 else 2) ∧ ∀ x ∈ good, lo ≤ x ∧ x ≤ hi :=
  ⟨[1, 2, 3, 4, 5], [99, -99], [99, 1, 2, 3, 4, 5, -99], 1, 5, by decide⟩

end Sys2Proof.Tests
end

section
/-! SUPPORT. The register blocks of the lanes (R241): who may write them, and what a read of one shows. -/

namespace Sys2Proof.Proofs

open Sys2Proof Sys2Proof.Machine

/-- An offset of the register block of a lane: LNI_CTRL[k] to LNI_CNT_TAIL_BAD[k] (R241). -/
structure InLaneBlock (k off : Nat) : Prop where
  lane : k < 3
  first : Reg.LNI_CTRL k ≤ off
  last : off ≤ Reg.LNI_CNT_TAIL_BAD k

/-- One entry of a register map adds no other world to those of the entries after it. -/
theorem world_of_mem_ite_some {c : Prop} [Decidable c] {x : Acc} {rest : Option Acc} {w : World} (hx : x.world = w)
    (hrest : ∀ a ∈ rest, a.world = w) : ∀ a ∈ if c then some x else rest, a.world = w := by
  split
  · rintro _ ⟨⟩
    exact hx
  · exact hrest

namespace InLaneBlock

variable {k off : Nat}

/-- The three lane blocks share one range of control space. -/
theorem range (h : InLaneBlock k off) : 0xB0100 ≤ off ∧ off < 0xB0280 := by
  obtain ⟨hk, hlo, hhi⟩ := h
  dsimp only [Reg.LNI_CTRL, Reg.LNI_CNT_TAIL_BAD] at hlo hhi
  omega

/-- The blocks lie 0x80 apart, so the offset tells the lane. -/
theorem div_eq (h : InLaneBlock k off) : (off - 0xB0100) / 0x80 = k := by
  obtain ⟨-, hlo, hhi⟩ := h
  dsimp only [Reg.LNI_CTRL, Reg.LNI_CNT_TAIL_BAD] at hlo hhi
  omega

theorem ne_of_outside (h : InLaneBlock k off) {x : Nat} (hx : x < 0xB0100 ∨ 0xB0280 ≤ x) : off ≠ x := by
  have := h.range
  omega

/-- The registers of the lane blocks stand in the middle part of the map, and all that are writable in block `k` are in
world K of lane `k` (R548). -/
theorem world_eq (h : InLaneBlock k off) : ∀ a ∈ accOf off, a.world = .k k := by
  have hr := h.range
  have hegr : ¬ off < 0xA0790 := by omega
  rw [accOf, if_neg (by omega), if_pos (by omega)]
  simp +decide only [accMid, h.ne_of_outside, hegr, hr, h.div_eq, false_and, and_false, and_self, ↓reduceIte]
  repeat refine world_of_mem_ite_some rfl ?_
  exact nofun

theorem inMsix_eq_false (h : InLaneBlock k off) : inMsix off = false := by
  have := h.range
  rw [inMsix, decide_eq_false_iff_not]
  omega

theorem latched_eq_false (h : InLaneBlock k off) : latched off = false := by
  have hcapture : ¬ 0xE0900 ≤ off := by have := h.range; omega
  simp +decide [latched, h.ne_of_outside, hcapture]

theorem latches_eq_nil (h : InLaneBlock k off) (s : State) : latches s off = [] := by
  simp +decide only [latches, h.ne_of_outside, ↓reduceIte]

/-- What a read shows depends on its requester in a latched half and in an MSI-X word alone, and a lane block holds neither. -/
theorem readReg_requester (h : InLaneBlock k off) (s : State) (r r2 : Req) : readReg s r off = readReg s r2 off := by
  simp only [readReg, h.inMsix_eq_false, h.latched_eq_false, Bool.false_eq_true, ↓reduceIte]

/-- An aligned read in a lane block answers its requester and changes nothing else. -/
theorem exec_latchingRead (h : InLaneBlock k off) (s : State) (r : Req) (ha : off % 4 = 0) :
    exec (.latchingRead r off 32) s = .next (emit s (.readData r off (BitVec.ofNat 32 (readReg s r off)))) := by
  have hr := h.range
  have hsmall : ¬ off ≥ 2 ^ 24 := by omega
  have hcapture : ¬ 0xE0900 ≤ off := by omega
  change execLatchingRead r off 32 s = _
  rw [execLatchingRead, if_neg hsmall, if_pos ⟨rfl, ha⟩]
  simp +decide only [readWord, h.ne_of_outside, hcapture, h.latches_eq_nil, false_and, or_self, List.foldl_nil, ite_self, ↓reduceIte]

/-- A write that could take effect in a lane block is discarded where it comes through another lane's endpoint (R241, R545). -/
theorem discardCause_isSome (h : InLaneBlock k off) (hacc : accOf off ≠ none) (s : State) {lane : Nat} (hl : lane ≠ k) (guard : Bool)
    (width : Nat) : ∃ c, discardCause s (.fn lane guard) off width = some c := by
  obtain ⟨a, ha⟩ := Option.ne_none_iff_exists'.mp hacc
  have hwrong : wrongEndpoint (.fn lane guard) a = true := by simp [wrongEndpoint, h.world_eq a ha, hl]
  by_cases hw : width ≠ 32 ∨ off % 4 ≠ 0
  · exact ⟨5, by rw [discardCause, if_pos hw]⟩
  · exact ⟨3, by rw [discardCause, if_neg hw, ha]; exact if_pos hwrong⟩

/-- What a gated write of a writable register of a lane block does through another lane's endpoint. -/
theorem gated_eq_discard (h : InLaneBlock k off) (hacc : accOf off ≠ none) (s : State) {lane : Nat} (hl : lane ≠ k) (guard : Bool)
    (f : State → State) : ∃ c, gated s (.fn lane guard) off f = discard s (.fn lane guard) off c := by
  obtain ⟨c, hc⟩ := h.discardCause_isSome hacc s hl guard 32
  exact ⟨c, by rw [gated, hc]⟩

end InLaneBlock

end Sys2Proof.Proofs
end

section
/-! SUPPORT. Writes to the registers of a lane block through another lane's endpoint (R241). -/

namespace Sys2Proof.Proofs

open Sys2Proof Sys2Proof.Machine Sys2Proof.Safety

/-- A command that requester `r` gives leaves the state as it was, or is a discarded write (R545). -/
def OnlyDiscards (r : Req) (i : Instr) (s : State) : Prop :=
  Gives i s (fun t => t = s ∨ ∃ o c, t = discard s r o c)

/-- A register write through another lane's endpoint is discarded, or falls on a register that no one can write. -/
theorem registerWrite_onlyDiscards {k off : Nat} (h : InLaneBlock k off) (s : State) {lane : Nat} (hl : lane ≠ k) (guard : Bool)
    (width value : Nat) : OnlyDiscards (.fn lane guard) (.registerWrite (.fn lane guard) off width value) s := by
  have hsmall : ¬ off ≥ 2 ^ 24 := by have := h.range; omega
  refine ⟨_, rfl, ?_⟩
  rw [if_neg hsmall, h.inMsix_eq_false, if_neg Bool.false_ne_true]
  cases hc : discardCause s (.fn lane guard) off width with
  | some c => exact .inr ⟨off, c, rfl⟩
  | none =>
    have hacc : accOf off = none := by
      by_contra hne
      obtain ⟨c, hsome⟩ := h.discardCause_isSome hne s hl guard width
      exact absurd (hc.symm.trans hsome) nofun
    left
    simp only [hacc]

/-- The registers of lane block `k` whose writes are commands of their own: the enables and the tails. -/
def commandRegs (k : Nat) : List Nat := [Reg.LNI_CTRL k, Reg.LNI_RX_TAIL k, Reg.LNI_TX0_TAIL k, Reg.LNI_TX1_TAIL k]

theorem commandRegs_writable : ∀ k < 3, ∀ off ∈ commandRegs k,
    Reg.LNI_CTRL k ≤ off ∧ off ≤ Reg.LNI_CNT_TAIL_BAD k ∧ accOf off ≠ none := by
  decide

theorem txTailReg_mem_commandRegs (k : Nat) (ring1 : Bool) : txTailReg k ring1 ∈ commandRegs k := by
  cases ring1 <;> simp [txTailReg, commandRegs]

/-- A command that is a gated write of one of these registers only discards through another lane's endpoint. -/
theorem gated_onlyDiscards {k off lane : Nat} {guard : Bool} {i : Instr} {s : State} {f : State → State} (hk : k < 3) (hl : lane ≠ k)
    (hoff : off ∈ commandRegs k) (hi : exec i s = .next (gated s (.fn lane guard) off f)) : OnlyDiscards (.fn lane guard) i s := by
  obtain ⟨hlo, hhi, hacc⟩ := commandRegs_writable k hk off hoff
  obtain ⟨c, hc⟩ := InLaneBlock.gated_eq_discard ⟨hk, hlo, hhi⟩ hacc s hl guard f
  exact ⟨_, hi, .inr ⟨off, c, hc⟩⟩

/-- Settles O54: writes by `registerWrite_onlyDiscards` and `gated_onlyDiscards`, reads by `InLaneBlock.exec_latchingRead`. -/
theorem laneRegistersThroughTheirEndpoint : Obligations.LaneRegistersThroughTheirEndpoint := by
  intro s k lane guard off hk hlo hhi
  have h : InLaneBlock k off := ⟨hk, hlo, hhi⟩
  refine ⟨fun hl width value on ring1 v i hi => ?_, fun lane2 guard2 ha => ⟨_, h.exec_latchingRead s _ ha, ?_⟩⟩
  · change OnlyDiscards (.fn lane guard) i s
    have hctrl : Reg.LNI_CTRL k ∈ commandRegs k := by simp [commandRegs]
    have hrxTail : Reg.LNI_RX_TAIL k ∈ commandRegs k := by simp [commandRegs]
    simp only [List.mem_cons, List.not_mem_nil, or_false] at hi
    obtain rfl | rfl | rfl | rfl | rfl | rfl | rfl := hi
    · exact registerWrite_onlyDiscards h s hl guard width value
    · exact gated_onlyDiscards hk hl hctrl rfl
    · exact gated_onlyDiscards hk hl hctrl rfl
    · exact gated_onlyDiscards hk hl hrxTail rfl
    · exact gated_onlyDiscards hk hl hctrl rfl
    · exact gated_onlyDiscards hk hl hctrl rfl
    · exact gated_onlyDiscards hk hl (txTailReg_mem_commandRegs k ring1) rfl
  · rw [h.readReg_requester s (.fn lane guard) (.fn lane2 guard2)]
    exact h.exec_latchingRead s _ ha

end Sys2Proof.Proofs
end

section
/-! SUPPORT. Fields of a register: what a field reads as after it is stored, and what the bits of a two-bit field say. -/

namespace Sys2Proof.Proofs

open Sys2Proof Sys2Proof.Machine Sys2Proof.Laws

theorem testBit_bits (w : Word) (hi lo i : Nat) : (bits w hi lo).testBit i = (decide (i < hi + 1 - lo) && w.getLsbD (lo + i)) := by
  simp only [bits, nbits, Nat.testBit_mod_two_pow, Nat.testBit_shiftRight, BitVec.testBit_toNat]

/-- Bit `j` of a register, of which a field of `hi + 1 - lo` bits from bit `lo` on was replaced. -/
theorem getLsbD_putBits (w : Word) {hi lo j v : Nat} (hj : j < 32) : (putBits w hi lo v).getLsbD j =
    if lo ≤ j ∧ j < hi + 1 then v.testBit (j - lo) else w.getLsbD j := by
  have hfield : j - lo < hi + 1 - lo ↔ j < hi + 1 ∧ lo < hi + 1 := by omega
  simp only [putBits, BitVec.getLsbD_or, BitVec.getLsbD_and, BitVec.getLsbD_not, BitVec.getLsbD_ofNat, Nat.testBit_shiftLeft,
    Nat.testBit_two_pow_sub_one, Nat.testBit_mod_two_pow, hj, hfield]
  by_cases hlo : lo ≤ j <;> by_cases hhi : j < hi + 1
  · simp [hlo, hhi, Nat.lt_of_le_of_lt hlo hhi]
  all_goals simp [hlo, hhi]

/-- A field that lies in the register reads as the low bits of what was put there. -/
theorem bits_putBits (w : Word) {hi lo v : Nat} (hhi : hi < 32) : bits (putBits w hi lo v) hi lo = v % 2 ^ (hi + 1 - lo) := by
  refine Nat.eq_of_testBit_eq fun i => ?_
  rw [testBit_bits, Nat.testBit_mod_two_pow]
  by_cases hi' : i < hi + 1 - lo
  · rw [getLsbD_putBits w (by omega), if_pos (by omega), Nat.add_sub_cancel_left]
  · simp [hi']

/-- In a canonical register table a stored field reads back. -/
theorem fld_setFld (s : State) (off : Nat) {hi lo : Nat} (v : Nat) (hhi : hi < 32) (w : tabWf Reg.resetOf s.regs = true) :
    fld (setFld s off hi lo v) off hi lo = v % 2 ^ (hi + 1 - lo) := by
  rw [fld, setFld, rd_wr s off _ w, bits_putBits _ hhi]

/-- The lower bit of a two-bit field is set in the values 1 and 3. -/
theorem bit_zero_iff (w : Word) : bit w 0 = true ↔ bits w 1 0 = 1 ∨ bits w 1 0 = 3 := by
  simp only [bit, bits, nbits, ← BitVec.testBit_toNat, Nat.testBit_zero, decide_eq_true_eq]
  omega

/-- The upper bit of a two-bit field is set in the values 2 and 3. -/
theorem bit_one_iff (w : Word) : bit w 1 = true ↔ bits w 1 0 = 2 ∨ bits w 1 0 = 3 := by
  simp only [bit, bits, nbits, ← BitVec.testBit_toNat, Nat.testBit_eq_decide_div_mod_eq, decide_eq_true_eq]
  omega

end Sys2Proof.Proofs
end

section
/-! SUPPORT. The arming of a leap second (R320). -/

namespace Sys2Proof.Proofs

open Sys2Proof Sys2Proof.Machine Sys2Proof.Laws Sys2Proof.Safety

/-- A write that R545 does not discard takes effect. -/
theorem gated_of_allowed {s : State} {r : Req} {off : Nat} (h : Allowed s r off) (f : State → State) : gated s r off f = f s := by
  rw [gated, h]

/-- T_L can be the instant of a leap second of the given kind (R320): it ends a UTC day and lies at least 2 s ahead. -/
def LeapAtValid (s : State) (kind : Nat) : Prop :=
  (Int.ofNat (rd s Reg.TIM_LEAP_AT).toNat - leapOffset s kind) % 86400 = 0 ∧
    now s + 2 * secUnits ≤ (rd s Reg.TIM_LEAP_AT).toNat * secUnits

/-- A kind that T_L can be the instant of is stored. -/
theorem exec_leapArm_of_valid {s : State} {r : Req} {value : Word} (hr : Allowed s r Reg.TIM_LEAP_CTRL)
    (hv : LeapAtValid s (bits value 1 0)) :
    exec (.leapArm r value) s = .next (setFld s Reg.TIM_LEAP_CTRL 1 0 (bits value 1 0)) := by
  change execLeapArm r value s = _
  rw [execLeapArm, gated_of_allowed hr]
  exact congrArg Host.Outcome.next (if_pos (.inr (.inr (decide_eq_true hv))))

/-- An insertion or a deletion that T_L cannot be the instant of leaves none pending. -/
theorem exec_leapArm_of_not_valid {s : State} {r : Req} {value : Word} (hr : Allowed s r Reg.TIM_LEAP_CTRL)
    (hk : bits value 1 0 = 1 ∨ bits value 1 0 = 2) (hv : ¬ LeapAtValid s (bits value 1 0)) :
    exec (.leapArm r value) s = .next (setFld s Reg.TIM_LEAP_CTRL 1 0 0) := by
  change execLeapArm r value s = _
  rw [execLeapArm, gated_of_allowed hr]
  refine congrArg Host.Outcome.next (if_neg ?_)
  rintro (hnone | hreserved | hok)
  · omega
  · omega
  · exact hv (show _ ∧ _ from of_decide_eq_true hok)

/-- A kind of leap second that is stored is the one pending. -/
theorem leapKind_setFld {s : State} {kind : Nat} (hregs : tabWf Reg.resetOf s.regs = true) (hk : kind < 3) :
    leapKind (setFld s Reg.TIM_LEAP_CTRL 1 0 kind) = kind := by
  have hread : fld (setFld s Reg.TIM_LEAP_CTRL 1 0 kind) Reg.TIM_LEAP_CTRL 1 0 = kind := by
    rw [fld_setFld s _ kind (by decide) hregs]
    exact Nat.mod_eq_of_lt (by omega)
  rw [leapKind, hread]
  exact if_neg (by omega)

/-- Settles O57: what the command stores depends on `LeapAtValid`, and the stored kind reads back by `leapKind_setFld`. -/
theorem leapSecondArm : Obligations.LeapSecondArm := by
  rintro s r value ⟨hregs, -⟩ hr hk
  by_cases hv : LeapAtValid s (bits value 1 0)
  · refine ⟨_, exec_leapArm_of_valid hr hv, ?_, fun _ hoff => rd_setFld_ne s 1 0 _ hoff⟩
    exact (leapKind_setFld hregs (by omega)).trans (if_pos hv).symm
  · refine ⟨_, exec_leapArm_of_not_valid hr hk hv, ?_, fun _ hoff => rd_setFld_ne s 1 0 _ hoff⟩
    exact (leapKind_setFld hregs (by decide)).trans (if_neg hv).symm

end Sys2Proof.Proofs
end

section
/-! SUPPORT. Captured edges that go to the steward's servo (R328 to R330). -/

namespace Sys2Proof.Proofs

open Sys2Proof Sys2Proof.Machine

/-- The capture enable of the edge's direction is set in the two settings of [1:0] that name the direction. -/
theorem edge_wanted {w : Word} {level : Bool} (h : (if level then bit w 0 else bit w 1) = true) :
    if level then bits w 1 0 = 1 ∨ bits w 1 0 = 3 else bits w 1 0 = 2 ∨ bits w 1 0 = 3 := by
  cases level with
  | true => exact (bit_zero_iff w).mp h
  | false => exact (bit_one_iff w).mp h

/-- Settles O56: the edge is wanted and not too close to the last one, and the conditions of R330 send it to the servo. -/
theorem ppsCapturesGoToTheServo : Obligations.PpsCapturesGoToTheServo := by
  intro s c t level hc hpps hservo hcap henable hlast
  refine ⟨?_, rfl⟩
  have hwanted := edge_wanted henable
  change execCaptureEdge c level t s = _
  rw [execCaptureEdge, if_neg (by omega)]
  refine congrArg Host.Outcome.next ((if_neg (not_not_intro hwanted)).trans ((if_neg ?_).trans (if_pos ⟨hpps, hservo, hcap⟩)))
  cases hl : (tget s.tim.capt c).last with
  | none => exact Bool.false_ne_true
  | some p => simp [hlast p hl]

end Sys2Proof.Proofs
end

section
/-! SUPPORT. The sorting of the fault-tolerant midpoint (R349). -/

namespace Sys2Proof.Proofs

open Sys2Proof Sys2Proof.Machine

/-- The model's insertion is the library's. -/
theorem insertZ_eq_orderedInsert (x : Int) (l : List Int) : insertZ x l = l.orderedInsert (· ≤ ·) x := by
  induction l with
  | nil => rfl
  | cons y t ih => rw [insertZ, List.orderedInsert_cons, ih]

/-- The model's sort is the library's insertion sort. -/
theorem sortZ_eq_insertionSort (l : List Int) : sortZ l = l.insertionSort (· ≤ ·) := by
  induction l with
  | nil => rfl
  | cons x t ih => exact (insertZ_eq_orderedInsert x (sortZ t)).trans (congrArg (List.orderedInsert (· ≤ ·) x) ih)

theorem sortZ_perm (l : List Int) : (sortZ l).Perm l := by
  rw [sortZ_eq_insertionSort]
  exact List.perm_insertionSort (· ≤ ·) l

theorem sortZ_pairwise (l : List Int) : (sortZ l).Pairwise (· ≤ ·) := by
  rw [sortZ_eq_insertionSort]
  exact List.pairwise_insertionSort (· ≤ ·) l

/-- A list has one rising order, and the sort finds it. -/
theorem sortZ_eq_of_perm_of_pairwise {l v : List Int} (hperm : v.Perm l) (hsorted : v.Pairwise (· ≤ ·)) : sortZ l = v :=
  ((sortZ_perm l).trans hperm.symm).eq_of_pairwise' (sortZ_pairwise l) hsorted

/-- Settles O59: `v` is the list that the model sorts to, by `sortZ_eq_of_perm_of_pairwise`, and R349 takes the midpoint of it. -/
theorem midpointOfSortedValues : Obligations.MidpointOfSortedValues := by
  intro l v hperm hsorted
  have hsort : sortZ l = v := sortZ_eq_of_perm_of_pairwise hperm hsorted
  rw [Machine.midpoint, hsort]

end Sys2Proof.Proofs
end

section
/-! SUPPORT. The loss of the lease to a higher epoch (R378, R379). -/

namespace Sys2Proof.Proofs

open Sys2Proof Sys2Proof.Machine Sys2Proof.Laws

@[simp] theorem raise_dev (s : State) (lane : Nat) (guard : Bool) (vec : Nat) : (raise s lane guard vec).dev = s.dev := by
  rw [raise]
  split <;> rfl

@[simp] theorem raiseAll_dev (s : State) (guard : Bool) (vec : Nat) : (raiseAll s guard vec).dev = s.dev := by
  simp only [raiseAll, raise_dev]

@[simp] theorem setRole_dev (s : State) (d : DevState) : (setRole s d).dev = d := by
  rw [setRole]
  split
  · assumption
  · simp only [raiseAll_dev]

/-- The gate of a unit that is not ACTIVE is closed (R370). -/
theorem gateOpen_eq_false {s : State} (h : s.dev ≠ .active) : gateOpen s = false := by
  rw [gateOpen, decide_eq_false h, Bool.and_false]

theorem leaseLost_dev (s : State) : (leaseLost s).dev = .relinquishing := setRole_dev _ _

theorem gateOpen_leaseLost (s : State) : gateOpen (leaseLost s) = false :=
  gateOpen_eq_false (by rw [leaseLost_dev]; exact nofun)

/-- A lane's own command register takes the lane's write, which shows that the lane lives (R373). -/
theorem laneGate_own {k : Nat} (hk : k < 3) (s : State) (f : State → State) :
    laneGate s (.fn k true) k f = f (setGrant s k { grant s k with heard := some s.red.leaseTimer }) :=
  if_pos ⟨hk, rfl⟩

theorem not_refusesGrants_of_active {s : State} (h : s.dev = .active) : ¬ refusesGrants s = true := by
  simp [refusesGrants, h]

/-- An ACTIVE unit under a lower epoch loses its lease; no grant has a say (R379). -/
theorem higherEpoch_of_lt {s : State} {e : Nat} (hdev : s.dev = .active) (he : s.red.epoch < e) :
    higherEpoch s e = leaseLost (seeEpoch s e) :=
  if_pos (decide_eq_true ⟨hdev, he⟩)

/-- The unit-pair block once a frame has come over a path (R386): the path lives. -/
def pathAlive (s : State) (path : Nat) : Red :=
  if path = 0 then { s.red with pathA := true, lastA := now s } else { s.red with pathB := true, lastB := now s }

@[simp] theorem pathAlive_rxSeqs (s : State) (path : Nat) : (pathAlive s path).rxSeqs = s.red.rxSeqs := by
  rw [pathAlive]
  split <;> rfl

@[simp] theorem pathAlive_epoch (s : State) (path : Nat) : (pathAlive s path).epoch = s.red.epoch := by
  rw [pathAlive]
  split <;> rfl

/-- The state in which an accepted frame of the inter-unit link is acted on: its number and the peer's state are kept. -/
def tookIu (s : State) (h : IuHead) : State :=
  let r := pathAlive s h.path
  setRed s { r with linkUp := true, rxSeqs := (h.seq :: r.rxSeqs).take 1024, peerState := h.dev }

/-- An ACTIVE unit accepts a frame of either path whose number it has not seen (R385), and sends no JOIN. -/
theorem acceptIu_of_new {s : State} {h : IuHead} (hdev : s.dev = .active) (hpath : h.path ≤ 1)
    (hnew : s.red.rxSeqs.contains h.seq = false) (f : State → State) : acceptIu s h f = f (tookIu s h) := by
  have hserved : ¬ (s.dev = .reset ∨ s.dev = .haltSafe ∨ h.path > 1) := by simp [hdev, hpath]
  have hunseen : ¬ (pathAlive s h.path).rxSeqs.contains h.seq = true := by
    rw [pathAlive_rxSeqs, hnew]
    exact Bool.false_ne_true
  have hnoJoin : ¬ ((tookIu s h).red.joinPending = true ∧ isStandby (tookIu s h) = true) := by simp [isStandby, tookIu, hdev]
  exact (if_neg hserved).trans ((if_neg hunseen).trans (congrArg f (if_neg hnoJoin)))

/-- A witness of a higher epoch, through lane `k`'s own command register. -/
theorem exec_leaseWitness_of_lt {s : State} {k e : Nat} (hk : k < 3) (hdev : s.dev = .active)
    (he : e = (rd s (Reg.RED_GRANT_EPOCH k)).toNat) (hlt : s.red.epoch < e) :
    let s1 := setGrant s k { grant s k with heard := some s.red.leaseTimer }
    exec (.leaseWitness (.fn k true) k) s =
      .next (leaseLost (seeEpoch (setGrant s1 k { grant s1 k with witness := some (now s) }) e)) := by
  subst he
  change execLeaseWitness (.fn k true) k s = _
  rw [execLeaseWitness, laneGate_own hk]
  exact congrArg Host.Outcome.next ((if_neg (not_refusesGrants_of_active hdev)).trans (higherEpoch_of_lt hdev hlt))

/-- A heartbeat of a higher epoch that carries no echo, whatever its stamps. -/
theorem exec_heartbeatReceived_of_lt {s : State} {h : IuHead} (tx rx : Nat) (hdev : s.dev = .active) (hpath : h.path ≤ 1)
    (hnew : s.red.rxSeqs.contains h.seq = false) (hlt : s.red.epoch < h.epoch) :
    let s1 := acceptIu s h (fun s => s)
    exec (.heartbeatReceived h tx rx none) s =
      .next (leaseLost (seeEpoch (setRed s1 { s1.red with beat := some { tx := tx, rx := rx } }) h.epoch)) := by
  change execHeartbeatReceived h tx rx none s = _
  rw [execHeartbeatReceived, acceptIu_of_new hdev hpath hnew, acceptIu_of_new hdev hpath hnew]
  exact congrArg Host.Outcome.next (higherEpoch_of_lt hdev ((pathAlive_epoch s h.path).trans_lt hlt))

/-- Settles O55: both commands end in `leaseLost`, whatever the grants, and `leaseLost` closes the gate. -/
theorem higherEpochClosesTheGate : Obligations.HigherEpochClosesTheGate := by
  refine ⟨fun s k e hk hdev he hlt => ?_, fun s h tx rx hdev hpath hnew hlt => ?_⟩
  · exact ⟨exec_leaseWitness_of_lt hk hdev he hlt, leaseLost_dev _, gateOpen_leaseLost _⟩
  · exact ⟨exec_heartbeatReceived_of_lt tx rx hdev hpath hnew hlt, leaseLost_dev _, gateOpen_leaseLost _⟩

end Sys2Proof.Proofs
end

section
/-! SUPPORT. The fault-tolerant midpoint among faulty values (R349). -/

namespace Sys2Proof.Proofs

open Sys2Proof Sys2Proof.Machine

/-- A property that no good value has, at most the faulty values have. -/
theorem countP_le_length_bad {p : Int → Bool} {good bad l : List Int} (hperm : l.Perm (good ++ bad)) (hgood : ∀ x ∈ good, ¬ p x) :
    l.countP p ≤ bad.length := by
  rw [hperm.countP_eq, List.countP_append, List.countP_eq_zero.mpr hgood, Nat.zero_add]
  exact List.countP_le_length

/-- In a rising list all values up to a place lie below a bound that the value at the place lies below. -/
theorem lt_countP_of_getElem_lt {v : List Int} (hv : v.Pairwise (· ≤ ·)) {i : Nat} (hi : i < v.length) {bound : Int}
    (h : v[i] < bound) : i < v.countP (· < bound) := by
  have hall : (v.take (i + 1)).countP (· < bound) = (v.take (i + 1)).length := by
    refine List.countP_eq_length.mpr fun x hx => ?_
    obtain ⟨j, hj, rfl⟩ := List.mem_take_iff_getElem.mp hx
    have hle : v[j] ≤ v[i] := hv.rel_get_of_le (Fin.mk_le_mk.mpr (by omega))
    exact decide_eq_true (lt_of_le_of_lt hle h)
  have hcount : (v.take (i + 1)).countP (· < bound) ≤ v.countP (· < bound) := (List.take_sublist _ v).countP_le
  rw [hall, List.length_take] at hcount
  omega

/-- In a rising list all values from a place on lie above a bound that the value at the place lies above. -/
theorem length_sub_le_countP_of_lt_getElem {v : List Int} (hv : v.Pairwise (· ≤ ·)) {i : Nat} (hi : i < v.length) {bound : Int}
    (h : bound < v[i]) : v.length - i ≤ v.countP (bound < ·) := by
  have hall : (v.drop i).countP (bound < ·) = (v.drop i).length := by
    refine List.countP_eq_length.mpr fun x hx => ?_
    obtain ⟨j, hj, rfl⟩ := List.mem_drop_iff_getElem.mp hx
    have hle : v[i] ≤ v[i + j] := hv.rel_get_of_le (Fin.mk_le_mk.mpr (Nat.le_add_right i j))
    exact decide_eq_true (lt_of_lt_of_le h hle)
  have hcount : (v.drop i).countP (bound < ·) ≤ v.countP (bound < ·) := (List.drop_sublist i v).countP_le
  rwa [hall, List.length_drop] at hcount

/-- Of sorted values of which at most `f` are faulty, one with `f` values to either side lies among the good ones. -/
theorem getD_among_good {good bad v : List Int} {lo hi : Int} {f i : Nat} (hv : v.Pairwise (· ≤ ·)) (hperm : v.Perm (good ++ bad))
    (hbad : bad.length ≤ f) (hgood : ∀ x ∈ good, lo ≤ x ∧ x ≤ hi) (hleft : f ≤ i) (hright : i + f < v.length) :
    lo ≤ v.getD i 0 ∧ v.getD i 0 ≤ hi := by
  rw [List.getD_eq_getElem _ _ (by omega)]
  constructor
  · by_contra hlow
    have hmany := lt_countP_of_getElem_lt hv (by omega) (not_le.mp hlow)
    have hfew : v.countP (· < lo) ≤ bad.length := countP_le_length_bad hperm (fun x hx => by simp [hgood x hx])
    omega
  · by_contra hhigh
    have hmany := length_sub_le_countP_of_lt_getElem hv (by omega) (not_le.mp hhigh)
    have hfew : v.countP (hi < ·) ≤ bad.length := countP_le_length_bad hperm (fun x hx => by simp [hgood x hx])
    omega

/-- The mean of two values between two bounds, rounded toward zero, lies between them. -/
theorem tdiv_two_between {lo hi a b : Int} (ha : lo ≤ a ∧ a ≤ hi) (hb : lo ≤ b ∧ b ≤ hi) :
    lo ≤ Int.tdiv (a + b) 2 ∧ Int.tdiv (a + b) 2 ≤ hi := by
  have hlo : Int.tdiv (lo * 2) 2 ≤ Int.tdiv (a + b) 2 := Int.tdiv_le_tdiv (by decide) (by omega)
  have hhi : Int.tdiv (a + b) 2 ≤ Int.tdiv (hi * 2) 2 := Int.tdiv_le_tdiv (by decide) (by omega)
  rw [Int.mul_tdiv_cancel _ (by decide)] at hlo hhi
  exact ⟨hlo, hhi⟩

/-- Settles O60: R349 drops one value, or two, from either end of the sorted list, so the two it takes the mean of lie
among the good ones by `getD_among_good`. -/
theorem midpointToleratesFaults : Obligations.MidpointToleratesFaults := by
  intro good bad l lo hi hperm hthree hbad hgood
  have hmid := midpointOfSortedValues l (sortZ l) (sortZ_perm l) (sortZ_pairwise l)
  have hlen : (sortZ l).length = l.length := (sortZ_perm l).length_eq
  have hperm : (sortZ l).Perm (good ++ bad) := (sortZ_perm l).trans hperm
  rw [if_neg (by omega), hlen, if_neg (by omega)] at hmid
  refine ⟨_, hmid, tdiv_two_between ?_ ?_⟩
  · exact getD_among_good (sortZ_pairwise l) hperm hbad hgood le_rfl (by split <;> omega)
  · exact getD_among_good (sortZ_pairwise l) hperm hbad hgood (by split <;> omega) (by split <;> omega)

end Sys2Proof.Proofs
end

section
/-! SUPPORT. What a register read can show of the key vault (R423): nothing that depends on a key, a mask or which root there is. -/

namespace Sys2Proof.Proofs

open Sys2Proof Sys2Proof.Machine

/-- A slot without its key, its pending key and its mask. -/
def blindSlot (x : Slot) : Slot := { x with key := [], pendKey := [], mask := [] }

/-- The vault without the slots' keys and masks, and of the root only whether there is one. -/
def blindVault (v : Vault) : Vault :=
  { v with root := if v.root = zeroKey then zeroKey else [], slots := v.slots.map (fun e => (e.1, blindSlot e.2)) }

/-- The state without the vault's secrets. -/
def blind (s : State) : State := { s with vault := blindVault s.vault }

theorem tget_blindSlots (t : Tab Slot) (k : Nat) : tget (t.map (fun e => (e.1, blindSlot e.2))) k = blindSlot (tget t k) := by
  induction t with
  | nil => rfl
  | cons e t ih =>
    change (if k = e.1 then _ else _) = blindSlot (if k = e.1 then _ else _)
    rw [apply_ite blindSlot]
    exact ite_congr rfl (fun _ => rfl) (fun _ => ih)

@[simp] theorem tget_slots_blindVault (v : Vault) (k : Nat) : tget (blindVault v).slots k = blindSlot (tget v.slots k) :=
  tget_blindSlots v.slots k

@[simp] theorem root_blindVault_eq_zeroKey (v : Vault) : (blindVault v).root = zeroKey ↔ v.root = zeroKey := by
  change (if v.root = zeroKey then zeroKey else []) = zeroKey ↔ _
  by_cases hroot : v.root = zeroKey
  · rw [if_pos hroot, eq_self, hroot, eq_self]
  · rw [if_neg hroot]
    exact iff_of_false (by decide) hroot

@[simp] theorem rootState_blindVault (v : Vault) : rootState (blindVault v) = rootState v := by
  simp only [rootState, root_blindVault_eq_zeroKey]
  rfl

@[simp] theorem slotValid_blindVault (v : Vault) (k : Nat) : slotValid (blindVault v) k = slotValid v k := by
  simp only [slotValid, rootState_blindVault, tget_slots_blindVault]
  rfl

theorem viewSlot_blind (s : State) (off : Nat) : viewSlot (blind s) off = viewSlot s off := by
  have hvault : (blind s).vault = blindVault s.vault := rfl
  simp only [viewSlot, hvault, tget_slots_blindVault, slotValid_blindVault]
  rfl

theorem viewKvt0_blind (s : State) : viewKvt0 (blind s) = viewKvt0 s := by
  have hvault : (blind s).vault = blindVault s.vault := rfl
  have hvalid : slotValid (blindVault s.vault) = slotValid s.vault := funext (slotValid_blindVault s.vault)
  simp only [viewKvt0, hvault, hvalid, rootState_blindVault]
  rfl

theorem viewKvt_blind (s : State) (off : Nat) : viewKvt (blind s) off = viewKvt s off := by
  simp only [viewKvt, viewKvt0_blind, viewSlot_blind]
  rfl

theorem viewPrt_blind (s : State) (off : Nat) : viewPrt (blind s) off = viewPrt s off := by
  have hport : ∀ p, viewPort (blind s) p = viewPort s p := fun _ => rfl
  have hpaths : viewPaths (blind s) = viewPaths s := rfl
  simp only [viewPrt, hport, hpaths]
  rfl

theorem viewEgr_blind (s : State) (off : Nat) : viewEgr (blind s) off = viewEgr s off := by
  have hport : ∀ p, viewEgPort (blind s) p = viewEgPort s p := fun _ => rfl
  have hlst : ∀ l, lst (blind s) l = lst s l := fun _ => rfl
  have hlsPort : ∀ l, lsPort (blind s) l = lsPort s l := fun _ => rfl
  have hfld : ∀ off w b, fld (blind s) off w b = fld s off w b := fun _ _ _ => rfl
  simp only [viewEgr, hport, hlst, hlsPort, hfld]
  rfl

theorem chainUp_blind (s : State) (fuel n : Nat) : chainUp (blind s) fuel n = chainUp s fuel n := by
  induction fuel generalizing n with
  | zero => rfl
  | succ fuel ih =>
    simp only [chainUp, ih]
    rfl

theorem shownNodes_blind (s : State) (n : Nat) : shownNodes (blind s) n = shownNodes s n := by
  have hused : usedNodes (blind s) = usedNodes s := rfl
  simp only [shownNodes, subtree, under, chainOf, chainUp_blind, hused]

theorem viewNode_blind (s : State) (off : Nat) : viewNode (blind s) off = viewNode s off := by
  have hshown : ∀ n, ndShown (blind s) n = ndShown s n := fun n => by
    simp only [ndShown, chainOf, chainUp_blind]
    rfl
  have hsum : ∀ n f, nodeSum (blind s) n f = nodeSum s n f := fun n f => by
    simp only [nodeSum, shownNodes_blind]
    rfl
  simp only [viewNode, hshown, hsum]
  rfl

theorem viewBgt_blind (s : State) (off : Nat) : viewBgt (blind s) off = viewBgt s off := by
  simp only [viewBgt, viewNode_blind]
  rfl

/-- No block but the vault shows anything of it: the views of the others compute to the same terms. -/
theorem viewReg_blind (s : State) (off : Nat) : viewReg (blind s) off = viewReg s off := by
  simp only [viewReg, viewPrt_blind, viewBgt_blind, viewEgr_blind, viewKvt_blind]
  rfl

theorem readReg_blind (s : State) (r : Req) (off : Nat) : readReg (blind s) r off = readReg s r off := by
  simp only [readReg, viewReg_blind]
  rfl

theorem latches_blind (s : State) (off : Nat) : latches (blind s) off = latches s off := by
  have hvault : (blind s).vault = blindVault s.vault := rfl
  simp only [latches, hvault, tget_slots_blindVault]
  rfl

theorem foldl_latchHalf_blind (l : List (Nat × Nat)) (r : Req) (s : State) :
    l.foldl (fun s e => latchHalf s r e.1 e.2) (blind s) = blind (l.foldl (fun s e => latchHalf s r e.1 e.2) s) := by
  induction l generalizing s with
  | nil => rfl
  | cons e l ih => exact ih (latchHalf s r e.1 e.2)

theorem readWord_blind (s : State) (r : Req) (off : Nat) : readWord (blind s) r off = blind (readWord s r off) := by
  have hon : ∀ d, domainOn (blind s) d = domainOn s d := fun _ => rfl
  simp only [readWord, hon, latches_blind, foldl_latchHalf_blind, readReg_blind, apply_ite blind]
  split
  · rfl
  · split <;> split <;> rfl

theorem execLatchingRead_blind (r : Req) (off width : Nat) (s t : State) (h : exec (.latchingRead r off width) s = .next t) :
    exec (.latchingRead r off width) (blind s) = .next (blind t) := by
  change execLatchingRead r off width s = _ at h
  change execLatchingRead r off width (blind s) = _
  obtain rfl := Host.Outcome.next.inj h
  simp only [execLatchingRead, readWord_blind, apply_ite blind]
  rfl

/-- New keys, pending keys and masks are not seen, nor is a new root in the place of another. -/
theorem blind_newSecrets (s : State) (key pend mask : Nat → Bytes) (root : Bytes) (hroot : root = zeroKey ↔ s.vault.root = zeroKey) :
    blind { s with vault := { s.vault with
      root := root, slots := s.vault.slots.map (fun e => (e.1, { e.2 with key := key e.1, pendKey := pend e.1, mask := mask e.1 })) } } = blind s := by
  simp only [blind, blindVault, hroot, List.map_map]
  rfl

/-- Settles O58: both reads answer as the read of the one state without the secrets does. -/
theorem keysNotReadable : Obligations.KeysNotReadable := by
  unfold Obligations.KeysNotReadable
  intro s r off width key pend mask root hroot s2 t u ht hu
  have hblind := execLatchingRead_blind r off width s2 u hu
  rw [blind_newSecrets s key pend mask root hroot, execLatchingRead_blind r off width s t ht] at hblind
  have hsame : blind t = blind u := Host.Outcome.next.inj hblind
  have hout : (blind t).out = (blind u).out := congrArg State.out hsame
  have hlatch : (blind t).latch = (blind u).latch := congrArg State.latch hsame
  have hregs : (blind t).regs = (blind u).regs := congrArg State.regs hsame
  exact ⟨hout, hlatch, hregs⟩

end Sys2Proof.Proofs
end

section
/-! SUPPORT. The operations that may have no effect, or give a value beside the next state: what they keep. -/

namespace Sys2Proof.Proofs

open Sys2Proof Sys2Proof.Machine Sys2Proof.Laws

/-- An operation that may have no effect: where it has one, its next state grows. -/
def MayGrow (b : State) (o : Option State) : Prop := ∀ t, o = some t → Grows b t

@[simp] theorem mayGrow_none (b : State) : MayGrow b none := fun _ h => nomatch h

@[simp] theorem mayGrow_some (b t : State) : MayGrow b (some t) ↔ Grows b t := ⟨fun h => h t rfl, fun h _ e => Option.some.inj e ▸ h⟩

@[simp] theorem mayGrow_map {α : Type} (b : State) (o : Option α) (f : α → State) (h : ∀ x, Grows b (f x)) : MayGrow b (o.map f) := by
  cases o with
  | none => exact mayGrow_none b
  | some x => exact (mayGrow_some b (f x)).2 (h x)

theorem mayGrow_mapState {b : State} {o : Option State} {f : State → State} (ho : MayGrow b o) (hf : ∀ t, Grows b t → Grows b (f t)) :
    MayGrow b (o.map f) := by
  cases o with
  | none => exact mayGrow_none b
  | some t => exact (mayGrow_some b (f t)).2 (hf t (ho t rfl))

theorem mayGrow_orElse {b : State} {o : Option State} {f : Unit → Option State} (ho : MayGrow b o) (hf : MayGrow b (f ())) :
    MayGrow b (o.orElse f) := by
  cases o with
  | none => exact hf
  | some t => exact ho

theorem mayGrow_getD {b s : State} {o : Option State} (ho : MayGrow b o) (h : Grows b s) : Grows b (o.getD s) := by
  cases o with
  | none => exact h
  | some t => exact ho t rfl

theorem genRoot_grows {b s : State} (fuel : Nat) (h : Grows b s) : Grows b (genRoot fuel s).2 := by
  fun_induction genRoot fuel s with
  | case1 s => exact h
  | case2 s fuel key t hkey hbad ih => exact ih (takeDrbg_eq hkey h)
  | case3 s fuel key t hkey hgood => exact takeDrbg_eq hkey h

theorem prpDiscard_grows {b s : State} (n mac seq : Nat) (h : Grows b s) : Grows b (prpDiscard s n mac seq).2 := by
  fun_cases prpDiscard s n mac seq
  · exact (grows_mk ..).mpr (grows_ite _ _ _ _ ((grows_mk ..).mpr h) h)
  · exact (grows_mk ..).mpr h
  · exact (grows_mk ..).mpr ((grows_mk ..).mpr h)
  · exact (grows_mk ..).mpr h
  · exact h

theorem prpDiscard_eq {b s t : State} {n mac seq : Nat} {ok : Bool} (ht : prpDiscard s n mac seq = (ok, t)) (h : Grows b s) : Grows b t := by
  have hgrow := prpDiscard_grows n mac seq h
  rw [ht] at hgrow
  exact hgrow

theorem admitSent_grows {b s : State} (n : Nat) (x : Sent) (id : Nat) (h : Grows b s) : MayGrow b (admitSent s n x id) := by
  have hm : Grows b (setStrm s id { strm s id with matched := satAdd 0xFFFFFFFF (strm s id).matched 1, lastSeen := now s / secUnits % 65536 }) :=
    setStrm_grows _ _ _ h
  unfold admitSent
  dsimp only
  repeat' split
  all_goals grind [refuse_grows, cnt_grows, contractAtStream_grows, contractAtNode_grows, bufAdd_grows, setNode_grows, setStrm_grows, grows_mk,
    mayGrow_some, mayGrow_map]

theorem learn_grows {b s : State} (m : Miss) (template probation : Nat) (h : Grows b s) : MayGrow b (learn s m template probation) := by
  unfold learn
  dsimp only
  repeat' split
  all_goals simp [h, admitSent_grows]

theorem tryCyc_grows {b s : State} (first : Bool) (h : Grows b s) : MayGrow b (tryCyc s first) := by
  unfold tryCyc
  split
  · exact mayGrow_none b
  · exact mayGrow_map _ _ _ fun x => sendRun_grows _ _ _ _ ((grows_mk ..).mpr h)

theorem tryDispatch_grows {b s : State} (x : Sent) (held : Bool) (h : Grows b s) : MayGrow b (tryDispatch s x held) := by
  fun_cases tryDispatch s x held
  case case10 =>
    have hs := shortfall_grows s true x.node h
    exact (mayGrow_some ..).2 (grows_ite _ _ _ _ (dispatchDrop_grows _ _ hs) (park_grows _ _ hs))
  all_goals simp [h]

theorem tryFiltered_grows {b s : State} (first : Bool) (h : Grows b s) : MayGrow b (tryFiltered s first) := by
  unfold tryFiltered
  split
  · exact mayGrow_none b
  · exact tryDispatch_grows _ _ ((grows_mk ..).mpr h)

theorem tryHolds_grows {b s : State} (done rest : List Sent) (h : Grows b s) : MayGrow b (tryHolds s done rest) := by
  induction rest generalizing done with
  | nil => exact mayGrow_none b
  | cons x rest ih =>
    unfold tryHolds
    split
    · exact ih _
    · split
      · next hd => exact (mayGrow_some ..).2 (tryDispatch_grows x true ((grows_mk ..).mpr h) _ hd)
      · exact ih _

theorem buildFrame_grows {b s : State} (k : Nat) (h : Grows b s) : Grows b (buildFrame s k).2 := by
  fun_cases buildFrame s k
  rename_i v t hv _ _ _ _
  have ht : Grows b t := by
    split at hv
    · obtain ⟨-, rfl⟩ := Prod.mk.inj hv
      exact h
    · split at hv
      · obtain ⟨-, rfl⟩ := Prod.mk.inj hv
        exact (grows_mk ..).mpr h
      · obtain ⟨-, rfl⟩ := Prod.mk.inj hv
        exact h
  exact grows_ite _ _ _ _ ht ((grows_mk ..).mpr ht)

theorem buildFrame_eq {b s t : State} {k : Nat} {f : CbFrame} (ht : buildFrame s k = (f, t)) (h : Grows b s) : Grows b t := by
  have hgrow := buildFrame_grows k h
  rw [ht] at hgrow
  exact hgrow

theorem replaySent_eq {b s t : State} {id : Nat} {x : Sent} (ht : replaySent s id = (x, t)) (h : Grows b s) : Grows b t := by
  have hgrow := replaySent_snd s id h
  rw [ht] at hgrow
  exact hgrow

theorem sdoAnswer_grows {b s : State} (r : BReq) (d : Bytes) (h : Grows b s) : MayGrow b (sdoAnswer s r d) := by
  unfold sdoAnswer
  dsimp only
  repeat' split
  all_goals simp [h]

theorem answer_grows {b s : State} (r : BReq) (x : Sent) (h : Grows b s) : MayGrow b (answer s r x) := by
  unfold answer
  dsimp only
  repeat' split
  all_goals simp [h, sdoAnswer_grows]

theorem firstAnswer_grows {b s : State} (x : Sent) (gone : Bool) (l : List BReq) (h : Grows b s) : MayGrow b (firstAnswer s x gone l) := by
  induction l with
  | nil => exact mayGrow_none b
  | cons r l ih =>
    unfold firstAnswer
    dsimp only
    split
    · exact ih
    · split
      · next ha =>
        have ht := answer_grows _ _ h _ ha
        simp [ht]
      · exact ih

theorem stageRec_grows {b s t : State} {owner : Nat} {r : DeltaRec} (h : Grows b s) (ht : stageRec s owner r = .ok t) : Grows b t := by
  grind [stageRec, dropStaged_grows, grows_mk]

theorem stageAll_grows {b s t : State} {owner : Nat} {l : List DeltaRec} (h : Grows b s) (ht : stageAll s owner l = .ok t) : Grows b t := by
  induction l generalizing s with
  | nil => exact Except.ok.inj ht ▸ h
  | cons r l ih =>
    unfold stageAll at ht
    split at ht
    · next hr => exact ih (stageRec_grows h hr) ht
    · cases ht

theorem classifierOut_grows {b s : State} (e : Nat) (h : Grows b s) : MayGrow b (classifierOut s e) := by
  unfold classifierOut
  dsimp only
  repeat' split
  all_goals simp [h]

theorem bankOut_grows {b s : State} (k : Nat) (h : Grows b s) : MayGrow b (bankOut s k) := by
  unfold bankOut
  dsimp only
  repeat' split
  all_goals simp [h]

theorem nodePay_grows {b s : State} (n ns : Nat) (h : Grows b s) : MayGrow b (nodePay s n ns) := by
  unfold nodePay
  split
  all_goals simp [h]

theorem bistEnd_grows {b s : State} (banks : List Nat) (other : Bool) (h : Grows b s) : MayGrow b (bistEnd s banks other) := by
  unfold bistEnd
  dsimp only
  repeat' split
  all_goals simp [h]

theorem drainLog_grows {b s : State} (n : Nat) (h : Grows b s) : Grows b (drainLog n s) := by
  induction n generalizing s with
  | zero => exact h
  | succ n ih =>
    unfold drainLog
    dsimp only
    split
    · exact ih (commitLogged_grows _ h)
    · exact h

end Sys2Proof.Proofs
end

section
/-! SUPPORT. One lemma per command: it answers with a next state, and keeps what every step keeps. -/

namespace Sys2Proof.Proofs

open Sys2Proof Sys2Proof.Machine Sys2Proof.Laws

/-- A command answers with a next state, and the state grows. -/
def Answers (b : State) (o : Res) : Prop := ∃ t, o = .next t ∧ Grows b t

theorem answers_next {b t : State} (h : Grows b t) : Answers b (.next t) := ⟨t, rfl, h⟩

theorem execKvtGenerate_answers {b s : State} (r : Req) (k : Nat) (h : Grows b s) : Answers b (execKvtGenerate r k s) :=
  answers_next (by grind [kvtCmd_grows, takeDrbg_snd, cnt_grows, kvtDone_grows, loadPend_grows])

theorem execKvtDerive_answers {b s : State} (r : Req) (k source label : Nat) (h : Grows b s) : Answers b (execKvtDerive r k source label s)
    :=
  answers_next (by grind [kvtCmd_grows, kvtDone_grows, attrDeny_grows, takeKey_snd, kvtBusy_grows, loadPend_grows])

theorem execKvtUnwrap_answers {b s : State} (r : Req) (k source : Nat) (blob : Bytes) (h : Grows b s) : Answers b (execKvtUnwrap r k source
    blob s) :=
  answers_next (by grind [kvtCmd_grows, kvtDone_grows, attrDeny_grows, takeKey_snd, clearPend_grows, kvtBusy_grows, loadPend_grows])

theorem execKvtLoad_answers {b s : State} (r : Req) (k : Nat) (h : Grows b s) : Answers b (execKvtLoad r k s) :=
  answers_next (by grind [kvtCmd_grows, kvtDone_grows, loadPend_grows])

theorem execKvtCommit_answers {b s : State} (r : Req) (k : Nat) (h : Grows b s) : Answers b (execKvtCommit r k s) :=
  answers_next (by grind [kvtCmd_grows, kvtDone_grows, modSlot_grows, startSweep_grows, grows_mk])

theorem execKvtDiscard_answers {b s : State} (r : Req) (k : Nat) (h : Grows b s) : Answers b (execKvtDiscard r k s) :=
  answers_next (by grind [kvtCmd_grows, kvtDone_grows, clearPend_grows])

theorem execKvtInvalidate_answers {b s : State} (r : Req) (k : Nat) (h : Grows b s) : Answers b (execKvtInvalidate r k s) :=
  answers_next (by grind [kvtCmd_grows, kvtDone_grows, startSweep_grows, modSlot_grows, grows_mk])

theorem execKvtZeroize_answers {b s : State} (r : Req) (k : Nat) (h : Grows b s) : Answers b (execKvtZeroize r k s) :=
  answers_next (by grind [kvtCmd_grows, abortOps_grows, modSlot_grows, kvtDone_grows, startSweep_grows, grows_mk])

theorem execKvtClear_answers {b s : State} (r : Req) (k : Nat) (h : Grows b s) : Answers b (execKvtClear r k s) :=
  answers_next (by grind [kvtCmd_grows, kvtDone_grows, modSlot_grows, grows_mk])

theorem execKvtWrap_answers {b s : State} (r : Req) (k source : Nat) (h : Grows b s) : Answers b (execKvtWrap r k source s) :=
  answers_next (by grind [kvtCmd_grows, kvtDone_grows, attrDeny_grows, takeKey_snd, kvtBusy_grows])

theorem execNewRoot_answers {b s : State} (r : Req) (h : Grows b s) : Answers b (execNewRoot r s) := by
  refine answers_next (gated_grows _ _ _ _ (fun x hx => ?_) h)
  have hroot := genRoot_grows 8 hx
  repeat' split
  all_goals grind [kvtDone_grows, grows_mk]

theorem execKcvCheck_answers {b s : State} (r : Req) (k value : Nat) (h : Grows b s) : Answers b (execKcvCheck r k value s) :=
  answers_next (by grind [gated_grows, attrDeny_grows, modSlot_grows, cnt_grows, report_grows, clearPend_grows, grows_mk])

theorem execOrphanSweepDone_answers {b s : State} (h : Grows b s) : Answers b (execOrphanSweepDone s) :=
  answers_next (by grind [grows_mk])

theorem execRemask_answers {b s : State} (h : Grows b s) : Answers b (execRemask s) :=
  answers_next (by grind [takeDrbg_snd, cnt_grows, grows_mk])

theorem execLifecycleMove_answers {b s : State} (r : Req) (value : Word) (h : Grows b s) : Answers b (execLifecycleMove r value s) :=
  answers_next (by grind [gated_grows, clearImageRecord_grows, grows_mk])

theorem execDebugOpen_answers {b s : State} (pubkey token sig : Bytes) (h : Grows b s) : Answers b (execDebugOpen pubkey token sig s) :=
  answers_next (by grind [clearImageRecord_grows, report_grows, grows_mk])

theorem execTamperDetect_answers {b s : State} (code : Nat) (h : Grows b s) : Answers b (execTamperDetect code s) :=
  answers_next (by grind [tamperDetect_grows])

theorem execTamperStatusClear_answers {b s : State} (r : Req) (h : Grows b s) : Answers b (execTamperStatusClear r s) :=
  answers_next (by grind [gated_grows, grows_mk])

theorem execTamperLogClear_answers {b s : State} (r : Req) (h : Grows b s) : Answers b (execTamperLogClear r s) :=
  answers_next (by grind [gated_grows, grows_mk])

theorem execKvtCntClear_answers {b s : State} (r : Req) (h : Grows b s) : Answers b (execKvtCntClear r s) :=
  answers_next (by grind [gated_grows, clearRegs_grows])

theorem execVbatApplied_answers {b s : State} (h : Grows b s) : Answers b (execVbatApplied s) :=
  answers_next (by grind [grows_mk])

theorem execVbatLost_answers {b s : State} (h : Grows b s) : Answers b (execVbatLost s) :=
  answers_next (by grind [grows_mk])

theorem execLaneCopyWrite_answers {b s : State} (k : Nat) (h : Grows b s) : Answers b (execLaneCopyWrite k s) := by
  refine answers_next ?_
  extract_lets l
  split
  · exact h
  · split
    · exact h
    · split
      · exact laneWait_grows _ _ h
      · refine laneWait_grows _ _ ?_
        have ht := setLane_grows s k { l with list := ‹List LaneItem›, wait := none } h
        split
        · split
          exact afterBatch_grows _ _ _ (blkDrop_grows _ _ (cnt_grows _ _ (writeDesc_grows _ _ _ _ (setLane_grows _ _ _ (emit_grows _ _ ht)))))
        · exact raise_grows _ _ _ _ (afterBatch_grows _ _ _ (setLane_grows _ _ _ (writeDesc_grows _ _ _ _ ht)))
        · exact afterBatch_grows _ _ _ (writeDesc_grows _ _ _ _ ht)

theorem execLaneHoldExpiry_answers {b s : State} (k : Nat) (h : Grows b s) : Answers b (execLaneHoldExpiry k s) :=
  answers_next (by grind [gapBegin_grows])

theorem execGapWrite_answers {b s : State} (k : Nat) (h : Grows b s) : Answers b (execGapWrite k s) :=
  answers_next (by grind [writeGap_grows])

theorem execRxTailWrite_answers {b s : State} (r : Req) (k : Nat) (value : Word) (h : Grows b s) : Answers b (execRxTailWrite r k value s) :=
  answers_next (gated_grows _ _ _ _
    (fun _ hx => grows_ite _ _ _ _ (laneWait_grows _ _ (setLane_grows _ _ _ (wr_grows _ _ _ hx))) (cnt_grows _ _ hx)) h)

theorem execLaneDeliveryEnable_answers {b s : State} (r : Req) (k : Nat) (h : Grows b s) : Answers b (execLaneDeliveryEnable r k s) :=
  answers_next (by grind [gatedBit_grows, setLane_grows, setFld_grows, wr_grows, writeGap_grows, grows_mk])

theorem execLaneDeliveryDisable_answers {b s : State} (r : Req) (k : Nat) (h : Grows b s) : Answers b (execLaneDeliveryDisable r k s) :=
  answers_next (by grind [gatedBit_grows, setFld_grows, laneLeaves_grows, setLane_grows, grows_mk])

theorem execLaneDrainComplete_answers {b s : State} (k : Nat) (h : Grows b s) : Answers b (execLaneDrainComplete k s) :=
  answers_next (by grind [setLane_grows, grows_mk])

theorem execLaneDrainLimit_answers {b s : State} (k : Nat) (h : Grows b s) : Answers b (execLaneDrainLimit k s) :=
  answers_next (by grind [laneLose_grows, setLane_grows, grows_foldl, grows_mk])

theorem execTx0EnableWrite_answers {b s : State} (r : Req) (k : Nat) (on : Bool) (h : Grows b s) : Answers b (execTx0EnableWrite r k on s)
    :=
  answers_next (by grind [gatedBit_grows, setLane_grows, setFld_grows, grows_mk])

theorem execTx1EnableWrite_answers {b s : State} (r : Req) (k : Nat) (on : Bool) (h : Grows b s) : Answers b (execTx1EnableWrite r k on s)
    :=
  answers_next (by grind [gatedBit_grows, setLane_grows, setFld_grows, grows_mk])

theorem execTxTailWrite_answers {b s : State} (r : Req) (k : Nat) (ring1 : Bool) (value : Word) (h : Grows b s) :
    Answers b (execTxTailWrite r k ring1 value s) :=
  answers_next (gated_grows _ _ _ _ (fun _ hx => grows_ite _ _ _ _ (cnt_grows _ _ hx) (wr_grows _ _ _ hx)) h)

theorem execLaneLinkDown_answers {b s : State} (k : Nat) (h : Grows b s) : Answers b (execLaneLinkDown k s) :=
  answers_next (by grind [report_grows, setLane_grows, gapBegin_grows, laneLeaves_grows, setFld_grows, grows_mk])

theorem execLaneLinkUp_answers {b s : State} (k : Nat) (h : Grows b s) : Answers b (execLaneLinkUp k s) :=
  answers_next (by grind [setLane_grows, grows_mk])

theorem execLniCntClear_answers {b s : State} (r : Req) (value : Word) (h : Grows b s) : Answers b (execLniCntClear r value s) :=
  answers_next (by grind [gated_grows, clearRegs_grows, grows_foldl])

theorem execIncStage_answers {b s : State} (r : Req) (value : Word) (h : Grows b s) : Answers b (execIncStage r value s) :=
  answers_next (by grind [masterGate_grows, grows_mk])

theorem execIncCommit_answers {b s : State} (r : Req) (value : Word) (h : Grows b s) : Answers b (execIncCommit r value s) :=
  answers_next (by grind [masterGate_grows, wr_grows, report_grows, cnt_grows])

theorem execTimeStep_answers {b s : State} (r : Req) (h : Grows b s) : Answers b (execTimeStep r s) :=
  answers_next (by grind [masterGate_grows, stepTime_grows])

theorem execTimeSlew_answers {b s : State} (r : Req) (h : Grows b s) : Answers b (execTimeSlew r s) :=
  answers_next (by grind [masterGate_grows, grows_mk])

theorem execTimeSet_answers {b s : State} (r : Req) (h : Grows b s) : Answers b (execTimeSet r s) :=
  answers_next (by grind [masterGate_grows, stepTime_grows])

theorem execSlewComplete_answers {b s : State} (h : Grows b s) : Answers b (execSlewComplete s) :=
  answers_next (by grind [grows_mk])

theorem execLeapArm_answers {b s : State} (r : Req) (value : Word) (h : Grows b s) : Answers b (execLeapArm r value s) :=
  answers_next (by grind [gated_grows, setFld_grows])

theorem execLeapApply_answers {b s : State} (h : Grows b s) : Answers b (execLeapApply s) :=
  answers_next (by grind [setFld_grows])

theorem execTriggerArm_answers {b s : State} (r : Req) (t : Nat) (h : Grows b s) : Answers b (execTriggerArm r t s) :=
  answers_next (by grind [gated_grows, report_grows, armTrig_grows])

theorem execTriggerDisarm_answers {b s : State} (r : Req) (t : Nat) (h : Grows b s) : Answers b (execTriggerDisarm r t s) :=
  answers_next (by grind [gated_grows, report_grows, setTrig_grows, grows_mk])

theorem execTriggerPulseEnd_answers {b s : State} (t : Nat) (h : Grows b s) : Answers b (execTriggerPulseEnd t s) :=
  answers_next (by grind [emit_grows, setTrig_grows, grows_mk])

theorem execCaptureEdge_answers {b s : State} (c : Nat) (level : Bool) (t : Nat) (h : Grows b s) : Answers b (execCaptureEdge c level t s)
    :=
  answers_next (by grind [loseEdge_grows, raiseAll_grows, grows_mk])

theorem execCaptureRead_answers {b s : State} (r : Req) (c : Nat) (h : Grows b s) : Answers b (execCaptureRead r c s) :=
  answers_next (by grind [emit_grows, latchHalf_grows, grows_mk])

theorem execDepartureLogRead_answers {b s : State} (r : Req) (h : Grows b s) : Answers b (execDepartureLogRead r s) :=
  answers_next (by grind [emit_grows, latchHalf_grows, grows_mk])

theorem execRefclkReturned_answers {b s : State} (h : Grows b s) : Answers b (execRefclkReturned s) :=
  answers_next (by grind [grows_mk])

theorem execHoldoverEnd_answers {b s : State} (h : Grows b s) : Answers b (execHoldoverEnd s) :=
  answers_next (by grind [grows_mk])

theorem execHoldoverLong_answers {b s : State} (h : Grows b s) : Answers b (execHoldoverLong s) :=
  answers_next (by grind [relinquish_grows, grows_mk])

theorem execTimCntClearGlobal_answers {b s : State} (r : Req) (h : Grows b s) : Answers b (execTimCntClearGlobal r s) :=
  answers_next (by grind [gated_grows, clearRegs_grows])

theorem execTimCntClearTriggers_answers {b s : State} (r : Req) (h : Grows b s) : Answers b (execTimCntClearTriggers r s) :=
  answers_next (by grind [gated_grows, grows_mk])

theorem execTimCntClearCaptures_answers {b s : State} (r : Req) (h : Grows b s) : Answers b (execTimCntClearCaptures r s) :=
  answers_next (by grind [gated_grows, grows_mk])

theorem execPortStagingEntry_answers {b s : State} (n : Nat) (h : Grows b s) : Answers b (execPortStagingEntry n s) := by
  refine answers_next ?_
  extract_lets p
  split
  extract_lets try_
  have htry : ∀ hinted, MayGrow b (try_ hinted) := fun hinted => by
    change MayGrow b (match takeFirst (fun y => decide (y.hint = hinted)) p.buf with
      | some (x, rest) => _
      | none => none)
    split
    · exact mayGrow_map _ _ _ fun o => cnt_grows _ _ (setPort_grows _ _ _ (mirrorRec_snd _ _ h))
    · exact mayGrow_none b
  split
  · exact h
  · next t ht =>
    have hgrow : Grows b t := mayGrow_orElse (htry true) (htry false) t ht
    exact pauseGen_grows _ _ (grows_ite _ _ _ _ (setPort_grows _ _ _ hgrow) hgrow)

theorem execSentencePortCharacter_answers {b s : State} (n : Nat) (ch : Byte) (t : Nat) (good : Bool) (h : Grows b s) : Answers b
    (execSentencePortCharacter n ch t good s) :=
  answers_next (by grind [rxSettle_grows, rxMore_grows, rxFail_grows, rxIdle_grows])

theorem execSpSentenceEnd_answers {b s : State} (n : Nat) (h : Grows b s) : Answers b (execSpSentenceEnd n s) :=
  answers_next (by grind [spFinish_grows])

theorem execSpGapEnd_answers {b s : State} (n : Nat) (h : Grows b s) : Answers b (execSpGapEnd n s) :=
  answers_next (by grind [spFinish_grows])

theorem execCharTimeout_answers {b s : State} (n : Nat) (h : Grows b s) : Answers b (execCharTimeout n s) :=
  answers_next (by grind [rxFail_grows])

theorem execCrWaitExpiry_answers {b s : State} (n : Nat) (h : Grows b s) : Answers b (execCrWaitExpiry n s) :=
  answers_next (by grind [spFinish_grows])

theorem execBreakOutsideSentence_answers {b s : State} (n : Nat) (h : Grows b s) : Answers b (execBreakOutsideSentence n s) :=
  answers_next (by grind [cnt_grows])

theorem execCanFrameEnd_answers {b s : State} (n id : Nat) (ide rtr fd : Bool) (data : Bytes) (err t e : Nat) (h : Grows b s) : Answers b
    (execCanFrameEnd n id ide rtr fd data err t e s) :=
  answers_next (by grind [setPort_grows, checksum_grows, framing_grows, receive_grows, grows_mk])

theorem execCanBusOff_answers {b s : State} (n : Nat) (inFrame : Bool) (h : Grows b s) : Answers b (execCanBusOff n inFrame s) :=
  answers_next (by grind [framing_grows, report_grows, setPort_grows, grows_mk])

theorem execCanBusOffRecovery_answers {b s : State} (n : Nat) (h : Grows b s) : Answers b (execCanBusOffRecovery n s) :=
  answers_next (by grind [setPort_grows, grows_mk])

theorem execMvbSlaveFrameEnd_answers {b0 s : State} (n a b : Nat) (data : Bytes) (t e : Nat) (h : Grows b0 s) : Answers b0
    (execMvbSlaveFrameEnd n a b data t e s) :=
  answers_next (by grind [setPort_grows, mvStatus_grows, checksum_grows, framing_grows, receive_grows, grows_mk])

theorem execMvbMasterFrame_answers {b s : State} (n addr code : Nat) (h : Grows b s) : Answers b (execMvbMasterFrame n addr code s) :=
  answers_next (by grind [mvAnswer_grows, setPort_grows, grows_mk])

theorem execMvbPoll_answers {b s : State} (n : Nat) (h : Grows b s) : Answers b (execMvbPoll n s) :=
  answers_next (by grind [setPort_grows, mvAnswer_grows, emit_grows, grows_mk])

theorem execPortEnable_answers {b s : State} (r : Req) (n : Nat) (h : Grows b s) : Answers b (execPortEnable r n s) :=
  answers_next (by grind [gated_grows, portOn_grows])

theorem execPortDisable_answers {b s : State} (r : Req) (n : Nat) (h : Grows b s) : Answers b (execPortDisable r n s) :=
  answers_next (by grind [gated_grows, portOff_grows])

theorem execPortDrainComplete_answers {b s : State} (n : Nat) (h : Grows b s) : Answers b (execPortDrainComplete n s) :=
  answers_next (by grind [setPort_grows, grows_mk])

theorem execPortDrainLimit_answers {b s : State} (n : Nat) (h : Grows b s) : Answers b (execPortDrainLimit n s) :=
  answers_next (by grind [cntAdd_grows, setPort_grows, overrun_grows, grows_mk])

theorem execPrtCntClearPort_answers {b s : State} (r : Req) (n : Nat) (h : Grows b s) : Answers b (execPrtCntClearPort r n s) :=
  answers_next (by grind [gated_grows, clearRegs_grows])

theorem execPrtCntClearAll_answers {b s : State} (r : Req) (h : Grows b s) : Answers b (execPrtCntClearAll r s) :=
  answers_next (by grind [gated_grows, clearRegs_grows, grows_foldl])

theorem execStewardSentence_answers {b s : State} (tag : Nat) (payload : Bytes) (h : Grows b s) : Answers b (execStewardSentence tag payload
    s) :=
  answers_next (by grind [mirrorRec_snd, setPort_grows, grows_mk])

theorem execEthFrameEnd_answers {b s : State} (n : Nat) (frame : Bytes) (t e : Nat) (h : Grows b s) : Answers b (execEthFrameEnd n frame t e s) := by
  refine answers_next ?_
  extract_lets body m tagged l lan _ s1 mac seq
  split
  · exact h
  split
  · exact framing_grows _ _ h
  split
  · exact checksum_grows _ _ h
  split
  · exact h
  split
  · exact framing_grows _ _ h
  split
  · exact framing_grows _ _ h
  split
  · have hs1 : Grows b s1 := grows_ite _ _ _ _ ((grows_mk ..).mpr h) h
    split
    next ok s2 hs2 =>
    have hgrow : Grows b s2 := by
      split at hs2
      · obtain ⟨-, rfl⟩ := Prod.mk.inj hs2
        exact prpYield_grows _ _ _ _ hs1
      · exact prpDiscard_eq hs2 hs1
    exact grows_ite _ _ _ _ (ethSentence_grows _ _ _ _ _ hgrow) (report_grows _ _ _ _ (cnt_grows _ _ hgrow))
  · exact ethSentence_grows _ _ _ _ _ h

theorem execPrpNodeForget_answers {b s : State} (pair mac : Nat) (h : Grows b s) : Answers b (execPrpNodeForget pair mac s) :=
  answers_next (by grind [grows_mk])

theorem execPrpPathLost_answers {b s : State} (pair mac path : Nat) (h : Grows b s) : Answers b (execPrpPathLost pair mac path s) :=
  answers_next (by grind [report_grows, grows_mk])

theorem execClassify_answers {b s : State} (n : Nat) (h : Grows b s) : Answers b (execClassify n s) := by
  refine answers_next ?_
  extract_lets p
  split
  · next e x rest _ _ =>
    extract_lets x' s1
    have hs1 : Grows b s1 := setPort_grows _ _ _ h
    split
    · exact mayGrow_getD (mayGrow_mapState (admitSent_grows _ _ _ hs1) fun t ht => classifierLose_grows _ _ ht) h
    · have hmiss := report_grows _ Ev.STB_MISS noInst 0 (cnt_grows _ Reg.STB_CNT_MISS hs1)
      exact grows_ite _ _ _ _ (classifierLose_grows _ _ (cnt_grows _ _ hmiss)) ((grows_mk ..).mpr hmiss)
  · exact h

theorem execWildcardSearch_answers {b s : State} (h : Grows b s) : Answers b (execWildcardSearch s) := by
  refine answers_next ?_
  split
  · exact h
  · next m rest _ =>
    extract_lets _ s1 _ out
    have hs1 : Grows b s1 := (grows_mk ..).mpr h
    have hout : MayGrow b out := by
      unfold out
      split
      · exact admitSent_grows _ _ _ hs1
      · split
        · exact (mayGrow_some ..).2 hs1
        · next i _ =>
          extract_lets w s2
          have hs2 : Grows b s2 := (grows_mk ..).mpr hs1
          split
          · exact admitSent_grows _ _ _ hs2
          · exact learn_grows _ _ _ hs2
          · exact (mayGrow_some ..).2 hs2
    clear_value out
    split
    · next t => exact settlePending_grows _ (classifierLose_grows _ _ (hout t rfl))
    · exact h

theorem execInsertionComplete_answers {b s : State} (h : Grows b s) : Answers b (execInsertionComplete s) :=
  answers_next (by grind [settlePending_grows, report_grows, cnt_grows, retireLearned_grows, grows_mk])

theorem execStreamAdmit_answers {b s : State} (r : Req) (id : Nat) (h : Grows b s) : Answers b (execStreamAdmit r id s) :=
  answers_next (by grind [verdictGate_grows, setStrm_grows, grows_mk])

theorem execStreamReject_answers {b s : State} (r : Req) (id : Nat) (h : Grows b s) : Answers b (execStreamReject r id s) :=
  answers_next (by grind [verdictGate_grows, setStrm_grows, grows_mk])

theorem execStreamRelease_answers {b s : State} (r : Req) (id : Nat) (h : Grows b s) : Answers b (execStreamRelease r id s) :=
  answers_next (by grind [verdictGate_grows, ageLearned_grows])

theorem execLearnedEntryEmpty_answers {b s : State} (id : Nat) (h : Grows b s) : Answers b (execLearnedEntryEmpty id s) :=
  answers_next (by grind [emptyLearned_grows])

theorem execWholeSecond_answers {b s : State} (h : Grows b s) : Answers b (execWholeSecond s) :=
  answers_next (by grind [agingSweep_grows, grows_mk])

theorem execStreamEnable_answers {b s : State} (r : Req) (id : Nat) (h : Grows b s) : Answers b (execStreamEnable r id s) :=
  answers_next (by grind [streamGate_grows, clearFilterState_grows, setStrm_grows, grows_mk])

theorem execStreamDisable_answers {b s : State} (r : Req) (id : Nat) (h : Grows b s) : Answers b (execStreamDisable r id s) :=
  answers_next (by grind [streamGate_grows, setStrm_grows, grows_mk])

theorem execStreamClearCounters_answers {b s : State} (r : Req) (id : Nat) (h : Grows b s) : Answers b (execStreamClearCounters r id s) :=
  answers_next (by grind [streamGate_grows, setStrm_grows, grows_mk])

theorem execStreamClearLastValue_answers {b s : State} (r : Req) (id : Nat) (h : Grows b s) : Answers b (execStreamClearLastValue r id s) :=
  answers_next (by grind [streamGate_grows, setStrm_grows])

theorem execStreamDrainComplete_answers {b s : State} (id : Nat) (h : Grows b s) : Answers b (execStreamDrainComplete id s) :=
  answers_next (by grind [setStrm_grows, grows_mk])

theorem execStreamDrainLimit_answers {b s : State} (id : Nat) (h : Grows b s) : Answers b (execStreamDrainLimit id s) :=
  answers_next (by grind [sentFree_grows, drainLoss_grows, setStrm_grows, emptyLearned_grows, grows_foldl, grows_mk])

theorem execLvcWrite_answers {b s : State} (h : Grows b s) : Answers b (execLvcWrite s) :=
  answers_next (by grind [setStrm_grows, grows_mk])

theorem execStbCntClearGlobal_answers {b s : State} (r : Req) (h : Grows b s) : Answers b (execStbCntClearGlobal r s) :=
  answers_next (by grind [gated_grows, clearRegs_grows])

theorem execStbCntClearRules_answers {b s : State} (r : Req) (h : Grows b s) : Answers b (execStbCntClearRules r s) :=
  answers_next (by grind [gated_grows, grows_mk])

theorem execStbCntClearStreams_answers {b s : State} (r : Req) (h : Grows b s) : Answers b (execStbCntClearStreams r s) :=
  answers_next (by grind [gated_grows, grows_mk])

theorem execKvtOpComplete_answers {b s : State} (user ident : Nat) (h : Grows b s) : Answers b (execKvtOpComplete user ident s) :=
  answers_next (by grind [kvtCmdComplete_grows, sealComplete_grows, opComplete_snd])

theorem execFilterEvaluate_answers {b s : State} (h : Grows b s) : Answers b (execFilterEvaluate s) :=
  answers_next (by grind [sealBegin_grows, filterTests_grows, grows_mk])

theorem execBogWrite_answers {b s : State} (h : Grows b s) : Answers b (execBogWrite s) :=
  answers_next (by grind [grows_mk])

theorem execSourceForce_answers {b s : State} (r : Req) (g m : Nat) (h : Grows b s) : Answers b (execSourceForce r g m s) :=
  answers_next (by grind [gated_grows, setGroup_grows, grows_mk])

theorem execSourceRelease_answers {b s : State} (r : Req) (g : Nat) (h : Grows b s) : Answers b (execSourceRelease r g s) :=
  answers_next (by grind [gated_grows, grows_mk])

theorem execFltCntClearCounters_answers {b s : State} (r : Req) (h : Grows b s) : Answers b (execFltCntClearCounters r s) :=
  answers_next (by grind [gated_grows, clearRegs_grows])

theorem execFltCntClearBog_answers {b s : State} (r : Req) (h : Grows b s) : Answers b (execFltCntClearBog r s) :=
  answers_next (by grind [gated_grows, grows_mk])

theorem execMapperDispatch_answers {b s : State} (h : Grows b s) : Answers b (execMapperDispatch s) := by
  refine answers_next ?_
  refine mayGrow_getD (mayGrow_orElse (mayGrow_orElse (tryCyc_grows _ h) (tryFiltered_grows _ h)) ?_) h
  split
  · exact mayGrow_none b
  · exact mayGrow_orElse (tryCyc_grows _ h) (mayGrow_orElse (tryHolds_grows _ _ h) (tryFiltered_grows _ h))

theorem execMapRunStart_answers {b s : State} (e : Nat) (first : Bool) (h : Grows b s) : Answers b (execMapRunStart e first s) :=
  answers_next (by grind [startRun_grows, pauseShared_grows])

theorem execClass0Preempt_answers {b s : State} (e : Nat) (h : Grows b s) : Answers b (execClass0Preempt e s) :=
  answers_next (by grind [startRun_grows, pauseShared_grows])

theorem execOpEnd_answers {b s : State} (e : Nat) (h : Grows b s) : Answers b (execOpEnd e s) :=
  answers_next (by grind [stepOp_grows])

theorem execOpDrop_answers {b s : State} (e : Nat) (h : Grows b s) : Answers b (execOpDrop e s) :=
  answers_next (by grind [stepOp_grows])

theorem execOpSkip_answers {b s : State} (e : Nat) (h : Grows b s) : Answers b (execOpSkip e s) :=
  answers_next (by grind [stepOp_grows, grows_mk])

theorem execOpLdc_answers {b s : State} (e : Nat) (h : Grows b s) : Answers b (execOpLdc e s) :=
  answers_next (by grind [stepOp_grows])

theorem execOpLds_answers {b s : State} (e : Nat) (h : Grows b s) : Answers b (execOpLds e s) :=
  answers_next (by grind [stepOp_grows])

theorem execOpLdb_answers {b s : State} (e : Nat) (h : Grows b s) : Answers b (execOpLdb e s) :=
  answers_next (by grind [stepOp_grows])

theorem execOpLdt_answers {b s : State} (e : Nat) (h : Grows b s) : Answers b (execOpLdt e s) :=
  answers_next (by grind [stepOp_grows])

theorem execOpLdtm_answers {b s : State} (e : Nat) (h : Grows b s) : Answers b (execOpLdtm e s) :=
  answers_next (by grind [stepOp_grows])

theorem execOpLdch_answers {b s : State} (e : Nat) (h : Grows b s) : Answers b (execOpLdch e s) :=
  answers_next (by grind [stepOp_grows])

theorem execOpLdv_answers {b s : State} (e : Nat) (h : Grows b s) : Answers b (execOpLdv e s) :=
  answers_next (by grind [stepOp_grows])

theorem execLdvDramReadComplete_answers {b s : State} (e : Nat) (h : Grows b s) : Answers b (execLdvDramReadComplete e s) := by
  refine answers_next ?_
  extract_lets done
  have hdone : MayGrow b (done false) := by
    unfold done
    split
    · exact mayGrow_none b
    · refine mayGrow_map _ _ _ fun id => ?_
      extract_lets st fill r w
      split
      · exact resumeShared_grows _ _ (applyOp_grows _ _ _ _ _ (setCtx_grows _ _ _ _ h))
      · exact h
  exact mayGrow_getD hdone h

theorem execOpLva_answers {b s : State} (e : Nat) (h : Grows b s) : Answers b (execOpLva e s) :=
  answers_next (by grind [stepOp_grows])

theorem execOpSrcl_answers {b s : State} (e : Nat) (h : Grows b s) : Answers b (execOpSrcl e s) :=
  answers_next (by grind [stepOp_grows, grows_mk])

theorem execOpMov_answers {b s : State} (e : Nat) (h : Grows b s) : Answers b (execOpMov e s) :=
  answers_next (by grind [stepOp_grows])

theorem execOpAdd_answers {b s : State} (e : Nat) (h : Grows b s) : Answers b (execOpAdd e s) :=
  answers_next (by grind [stepOp_grows])

theorem execOpSub_answers {b s : State} (e : Nat) (h : Grows b s) : Answers b (execOpSub e s) :=
  answers_next (by grind [stepOp_grows])

theorem execOpAddi_answers {b s : State} (e : Nat) (h : Grows b s) : Answers b (execOpAddi e s) :=
  answers_next (by grind [stepOp_grows])

theorem execOpMul_answers {b s : State} (e : Nat) (h : Grows b s) : Answers b (execOpMul e s) :=
  answers_next (by grind [stepOp_grows])

theorem execOpDiv_answers {b s : State} (e : Nat) (h : Grows b s) : Answers b (execOpDiv e s) :=
  answers_next (by grind [stepOp_grows])

theorem execOpScale_answers {b s : State} (e : Nat) (h : Grows b s) : Answers b (execOpScale e s) :=
  answers_next (by grind [stepOp_grows])

theorem execOpMin_answers {b s : State} (e : Nat) (h : Grows b s) : Answers b (execOpMin e s) :=
  answers_next (by grind [stepOp_grows])

theorem execOpMax_answers {b s : State} (e : Nat) (h : Grows b s) : Answers b (execOpMax e s) :=
  answers_next (by grind [stepOp_grows])

theorem execOpAbs_answers {b s : State} (e : Nat) (h : Grows b s) : Answers b (execOpAbs e s) :=
  answers_next (by grind [stepOp_grows])

theorem execOpNeg_answers {b s : State} (e : Nat) (h : Grows b s) : Answers b (execOpNeg e s) :=
  answers_next (by grind [stepOp_grows])

theorem execOpAnd_answers {b s : State} (e : Nat) (h : Grows b s) : Answers b (execOpAnd e s) :=
  answers_next (by grind [stepOp_grows])

theorem execOpOr_answers {b s : State} (e : Nat) (h : Grows b s) : Answers b (execOpOr e s) :=
  answers_next (by grind [stepOp_grows])

theorem execOpXor_answers {b s : State} (e : Nat) (h : Grows b s) : Answers b (execOpXor e s) :=
  answers_next (by grind [stepOp_grows])

theorem execOpAndi_answers {b s : State} (e : Nat) (h : Grows b s) : Answers b (execOpAndi e s) :=
  answers_next (by grind [stepOp_grows])

theorem execOpOri_answers {b s : State} (e : Nat) (h : Grows b s) : Answers b (execOpOri e s) :=
  answers_next (by grind [stepOp_grows])

theorem execOpEqi_answers {b s : State} (e : Nat) (h : Grows b s) : Answers b (execOpEqi e s) :=
  answers_next (by grind [stepOp_grows])

theorem execOpRchk_answers {b s : State} (e : Nat) (h : Grows b s) : Answers b (execOpRchk e s) :=
  answers_next (by grind [stepOp_grows, grows_mk])

theorem execOpInterp_answers {b s : State} (e : Nat) (h : Grows b s) : Answers b (execOpInterp e s) :=
  answers_next (by grind [stepOp_grows])

theorem execOpNewo_answers {b s : State} (e : Nat) (h : Grows b s) : Answers b (execOpNewo e s) :=
  answers_next (by grind [stepOp_grows, grows_mk])

theorem execOpSelo_answers {b s : State} (e : Nat) (h : Grows b s) : Answers b (execOpSelo e s) :=
  answers_next (by grind [stepOp_grows, grows_mk])

theorem execOpCpy_answers {b s : State} (e : Nat) (h : Grows b s) : Answers b (execOpCpy e s) :=
  answers_next (by grind [stepOp_grows, grows_mk])

theorem execOpStb_answers {b s : State} (e : Nat) (h : Grows b s) : Answers b (execOpStb e s) :=
  answers_next (by grind [stepOp_grows, grows_mk])

theorem execOpStt_answers {b s : State} (e : Nat) (h : Grows b s) : Answers b (execOpStt e s) :=
  answers_next (by grind [stepOp_grows])

theorem execOpStm_answers {b s : State} (e : Nat) (h : Grows b s) : Answers b (execOpStm e s) :=
  answers_next (by grind [stepOp_grows])

theorem execOpApc_answers {b s : State} (e : Nat) (h : Grows b s) : Answers b (execOpApc e s) :=
  answers_next (by grind [stepOp_grows])

theorem execOpApf_answers {b s : State} (e : Nat) (h : Grows b s) : Answers b (execOpApf e s) :=
  answers_next (by grind [stepOp_grows, grows_mk])

theorem execOpCsum_answers {b s : State} (e : Nat) (h : Grows b s) : Answers b (execOpCsum e s) :=
  answers_next (by grind [stepOp_grows, grows_mk])

theorem execOpStmk_answers {b s : State} (e : Nat) (h : Grows b s) : Answers b (execOpStmk e s) :=
  answers_next (by grind [stepOp_grows, grows_mk])

theorem execMapOvertime_answers {b s : State} (e : Nat) (h : Grows b s) : Answers b (execMapOvertime e s) :=
  answers_next (by grind [abortRun_grows])

theorem execCommitGroupHandover_answers {b s : State} (e : Nat) (first : Bool) (h : Grows b s) : Answers b (execCommitGroupHandover e first
    s) :=
  answers_next (by grind [resumeShared_grows, setCtx_grows, grows_mk])

theorem execMapEngineTakeOut_answers {b s : State} (r : Req) (e : Nat) (h : Grows b s) : Answers b (execMapEngineTakeOut r e s) :=
  answers_next (by grind [gated_grows, engineOut_grows])

theorem execMapEngineReturn_answers {b s : State} (r : Req) (e : Nat) (h : Grows b s) : Answers b (execMapEngineReturn r e s) :=
  answers_next (by grind [gated_grows, engineBack_grows])

theorem execMapEngineEmptied_answers {b s : State} (e : Nat) (h : Grows b s) : Answers b (execMapEngineEmptied e s) :=
  answers_next (by grind [setEngine_grows, grows_mk])

theorem execProgEnable_answers {b s : State} (r : Req) (p : Nat) (h : Grows b s) : Answers b (execProgEnable r p s) :=
  answers_next (by grind [progGate_grows, setProg_grows, grows_mk])

theorem execProgDisable_answers {b s : State} (r : Req) (p : Nat) (h : Grows b s) : Answers b (execProgDisable r p s) :=
  answers_next (by grind [progGate_grows, setProg_grows, grows_mk])

theorem execProgClearCounters_answers {b s : State} (r : Req) (p : Nat) (h : Grows b s) : Answers b (execProgClearCounters r p s) :=
  answers_next (by grind [progGate_grows, setProg_grows, grows_mk])

theorem execProgDrainComplete_answers {b s : State} (p : Nat) (h : Grows b s) : Answers b (execProgDrainComplete p s) :=
  answers_next (by grind [setProg_grows, grows_mk])

theorem execProgDrainLimit_answers {b s : State} (p : Nat) (h : Grows b s) : Answers b (execProgDrainLimit p s) :=
  answers_next (by grind [dropQueued_grows, sentFree_grows, setProg_grows, grows_foldl, grows_mk])

theorem execCycEnable_answers {b s : State} (r : Req) (i : Nat) (h : Grows b s) : Answers b (execCycEnable r i s) :=
  answers_next (by grind [cycGate_grows, grows_mk])

theorem execCycDisable_answers {b s : State} (r : Req) (i : Nat) (h : Grows b s) : Answers b (execCycDisable r i s) :=
  answers_next (by grind [cycGate_grows, grows_mk])

theorem execCycClearOverlap_answers {b s : State} (r : Req) (i : Nat) (h : Grows b s) : Answers b (execCycClearOverlap r i s) :=
  answers_next (by grind [cycGate_grows, grows_mk])

theorem execMapCntClearGlobal_answers {b s : State} (r : Req) (h : Grows b s) : Answers b (execMapCntClearGlobal r s) :=
  answers_next (by grind [gated_grows, clearRegs_grows])

theorem execMapCntClearPrograms_answers {b s : State} (r : Req) (h : Grows b s) : Answers b (execMapCntClearPrograms r s) :=
  answers_next (by grind [gated_grows, grows_mk])

theorem execTriggerFire_answers {b s : State} (t : Nat) (h : Grows b s) : Answers b (execTriggerFire t s) :=
  answers_next (by grind [missTrig_grows, setTrig_grows, emit_grows, fireSlots_grows, raiseAll_grows, grows_mk])

theorem execCommit_answers {b s : State} (h : Grows b s) : Answers b (execCommit s) :=
  answers_next (by grind [commitLogged_grows, commitNext_grows])

theorem execReplicate_answers {b s : State} (h : Grows b s) : Answers b (execReplicate s) :=
  answers_next (by grind [bitmapCopy_grows, listenerCopy_grows, blkDrop_grows, grows_foldl, grows_mk])

theorem execEgressSchedule_answers {b s : State} (q : Nat) (h : Grows b s) : Answers b (execEgressSchedule q s) :=
  answers_next (by grind [scheduleOne_grows])

theorem execHoldLimitExpiry_answers {b s : State} (place : Option Nat) (h : Grows b s) : Answers b (execHoldLimitExpiry place s) :=
  answers_next (by grind [holdExpiry_grows, copyExpiry_grows])

theorem execCopyStart_answers {b s : State} (q : Nat) (h : Grows b s) : Answers b (execCopyStart q s) :=
  answers_next (by grind [startCopy_grows, setEg_grows, grows_mk])

theorem execSealTagComplete_answers {b s : State} (q : Nat) (h : Grows b s) : Answers b (execSealTagComplete q s) := by
  refine answers_next ?_
  split
  · exact h
  split
  · exact h
  split
  · exact sealFails_grows _ _ _ _ _ (cnt_grows _ _ (report_grows _ _ _ _ h))
  · next c _ id tag _ o _ =>
    split
    next ok t ht =>
    have hgrow : Grows b t := opComplete_eq ht h
    split
    · exact sealFails_grows _ _ _ _ _ hgrow
    · exact putTag_grows _ _ _ _ (grows_ite _ _ _ _ hgrow (putTag_grows _ _ _ _ hgrow))

theorem execCopyTransmissionEnd_answers {b s : State} (q : Nat) (h : Grows b s) : Answers b (execCopyTransmissionEnd q s) :=
  answers_next (by grind [finishCopy_grows, emit_grows, endCur_grows])

theorem execCanArbitrationLost_answers {b s : State} (q : Nat) (h : Grows b s) : Answers b (execCanArbitrationLost q s) :=
  answers_next (by grind [setEg_grows, grows_mk])

theorem execCanArbitrationTimeout_answers {b s : State} (q : Nat) (h : Grows b s) : Answers b (execCanArbitrationTimeout q s) :=
  answers_next (by grind [dropEgress_grows, setEg_grows, grows_mk])

theorem execCdbCycleStart_answers {b s : State} (h : Grows b s) : Answers b (execCdbCycleStart s) := by
  have hroll := guardJudge_grows _ (capturePair_grows _ (rollCycle_grows s h))
  refine answers_next ?_
  split
  · exact h
  · exact h
  · exact grows_ite _ _ _ _ (capturePair_grows _ (rollCycle_grows _ h)) (toListen_grows _ h)
  all_goals exact autoClaim_grows _ (cycleBoundary_grows _ ((grows_mk ..).mpr hroll))

theorem execCdbIdleSegment_answers {b s : State} (h : Grows b s) : Answers b (execCdbIdleSegment s) :=
  answers_next (by grind [cntAdd_grows, setCdb_grows, enter_grows, leaveSync_grows, grows_mk])

theorem execCbFrameEnd_answers {b s : State} (chB : Bool) (bs : Bytes) (raw rawEnd : Nat) (good : Bool) (h : Grows b s) : Answers b
    (execCbFrameEnd chB bs raw rawEnd good s) :=
  answers_next (by grind [listenFrame_grows, abandon_grows, framing_grows, spoiled_grows, report_grows, cnt_grows, arrival_grows,
    checksum_grows, cbAccept_grows])

theorem execListenTimeout_answers {b s : State} (h : Grows b s) : Answers b (execListenTimeout s) :=
  answers_next (by grind [enter_grows, setCdb_grows, guardJudge_grows, capturePair_grows, grows_mk])

theorem execStartupComplete_answers {b s : State} (h : Grows b s) : Answers b (execStartupComplete s) :=
  answers_next (by grind [toSync_grows])

theorem execIntegrationComplete_answers {b s : State} (h : Grows b s) : Answers b (execIntegrationComplete s) :=
  answers_next (by grind [toSync_grows])

theorem execPassiveRecovery_answers {b s : State} (h : Grows b s) : Answers b (execPassiveRecovery s) :=
  answers_next (by grind [toSync_grows])

theorem execPassiveTimeout_answers {b s : State} (h : Grows b s) : Answers b (execPassiveTimeout s) :=
  answers_next (by grind [toListen_grows])

theorem execSyncLostTimeout_answers {b s : State} (h : Grows b s) : Answers b (execSyncLostTimeout s) :=
  answers_next (by grind [toListen_grows])

theorem execChannelLost_answers {b s : State} (chB : Bool) (h : Grows b s) : Answers b (execChannelLost chB s) :=
  answers_next (by grind [setCdb_grows, report_grows, cnt_grows, grows_mk])

theorem execEngineEnable_answers {b s : State} (r : Req) (h : Grows b s) : Answers b (execEngineEnable r s) :=
  answers_next (by grind [gatedBit_grows, setFld_grows, toListen_grows])

theorem execEngineDisable_answers {b s : State} (r : Req) (h : Grows b s) : Answers b (execEngineDisable r s) :=
  answers_next (by grind [gatedBit_grows, enter_grows, leaveSync_grows, setFld_grows])

theorem execCdbRestart_answers {b s : State} (r : Req) (h : Grows b s) : Answers b (execCdbRestart r s) :=
  answers_next (by grind [gated_grows, toListen_grows])

theorem execCdbSlotTransmit_answers {b s : State} (k : Nat) (outside : Bool) (h : Grows b s) : Answers b (execCdbSlotTransmit k outside s) := by
  refine answers_next ?_
  split
  · exact h
  split
  · exact h
  split
  · exact intervene_grows _ h
  split
  next f t ht =>
  have hgrow : Grows b t := buildFrame_eq ht h
  have hsent := emit_grows _ (.cadence 1 k (cbBytes f)) (emit_grows _ (.cadence 0 k (cbBytes f))
    ((grows_mk ..).mpr hgrow : Grows b { t with cdb := { t.cdb with sent := tset t.cdb.sent k (some (cbBytes f)) } }))
  exact grows_ite _ _ _ _ (freeSpare_grows _ _ hsent) hsent

theorem execSlotClaim_answers {b s : State} (r : Req) (k : Nat) (h : Grows b s) : Answers b (execSlotClaim r k s) :=
  answers_next (by grind [gated_grows, claimSlot_grows])

theorem execSlotRelease_answers {b s : State} (r : Req) (k : Nat) (h : Grows b s) : Answers b (execSlotRelease r k s) :=
  answers_next (by grind [gated_grows, setSpare_grows, freeSpare_grows, grows_mk])

theorem execClaimConfirmed_answers {b s : State} (k : Nat) (h : Grows b s) : Answers b (execClaimConfirmed k s) :=
  answers_next (by grind [setSpare_grows, grows_mk])

theorem execClaimBackoffEnd_answers {b s : State} (k : Nat) (h : Grows b s) : Answers b (execClaimBackoffEnd k s) :=
  answers_next (by grind [setSpare_grows, grows_mk])

theorem execClaimLapse_answers {b s : State} (k : Nat) (h : Grows b s) : Answers b (execClaimLapse k s) :=
  answers_next (by grind [freeSpare_grows])

theorem execCdbCntClearGlobal_answers {b s : State} (r : Req) (h : Grows b s) : Answers b (execCdbCntClearGlobal r s) :=
  answers_next (by grind [gated_grows, clearRegs_grows])

theorem execCdbCntClearNodes_answers {b s : State} (r : Req) (h : Grows b s) : Answers b (execCdbCntClearNodes r s) :=
  answers_next (by grind [gated_grows, grows_mk])

theorem execRefclkLost_answers {b s : State} (h : Grows b s) : Answers b (execRefclkLost s) :=
  answers_next (by grind [guardReport_grows, report_grows, cnt_grows, grows_mk])

theorem execBridgeDirectRead_answers {b s : State} (lane : Nat) (guard : Bool) (w offset len tag : Nat) (h : Grows b s) : Answers b
    (execBridgeDirectRead lane guard w offset len tag s) :=
  answers_next (by grind [readFails_grows, countStatus_grows, cnt_grows, emit_grows, takeReq_grows, grows_mk])

theorem execBridgeDirectWrite_answers {b s : State} (lane : Nat) (guard : Bool) (w offset : Nat) (data : Bytes) (h : Grows b s) : Answers b
    (execBridgeDirectWrite lane guard w offset data s) :=
  answers_next (by grind [freeVal_snd, countStatus_grows, lateFault_grows, setRing_grows, cnt_grows, takeReq_grows, grows_mk])

theorem execBrgCmdRead_answers {b s : State} (lane : Nat) (guard : Bool) (op w tag offset len buffer : Nat) (h : Grows b s) : Answers b
    (execBrgCmdRead lane guard op w tag offset len buffer s) :=
  answers_next (by grind [fetched_grows, writeCpl_grows, countStatus_grows, command_grows, grows_mk])

theorem execBrgCmdWrite_answers {b s : State} (lane : Nat) (guard : Bool) (w tag offset len : Nat) (data : Bytes) (h : Grows b s) : Answers
    b (execBrgCmdWrite lane guard w tag offset len data s) :=
  answers_next (by grind [fetched_grows, writeCpl_grows, countStatus_grows, command_grows, grows_mk])

theorem execBrgCmdSemAcquire_answers {b s : State} (lane : Nat) (guard : Bool) (sem tag : Nat) (h : Grows b s) : Answers b
    (execBrgCmdSemAcquire lane guard sem tag s) :=
  answers_next (by grind [fetched_grows, semCommand_grows, acquire_snd])

theorem execBrgCmdSemRelease_answers {b s : State} (lane : Nat) (guard : Bool) (sem tag : Nat) (h : Grows b s) : Answers b
    (execBrgCmdSemRelease lane guard sem tag s) :=
  answers_next (by grind [fetched_grows, semCommand_grows, release_snd])

theorem execSemAcquireReg_answers {b s : State} (r : Req) (n : Nat) (h : Grows b s) : Answers b (execSemAcquireReg r n s) :=
  answers_next (by grind [semReg_grows, acquire_snd])

theorem execSemReleaseReg_answers {b s : State} (r : Req) (n : Nat) (h : Grows b s) : Answers b (execSemReleaseReg r n s) :=
  answers_next (by grind [semReg_grows, release_snd])

theorem execSemLeaseExpiry_answers {b s : State} (n : Nat) (h : Grows b s) : Answers b (execSemLeaseExpiry n s) :=
  answers_next (by grind [semExpire_grows])

theorem execBrgRingEnable_answers {b s : State} (r : Req) (kw : Nat) (value : Word) (h : Grows b s) : Answers b (execBrgRingEnable r kw value s) := by
  refine answers_next (grows_ite _ _ _ _ h (gated_grows _ _ _ _ (fun x hx => ?_) h))
  have hset := setFld_grows _ (Reg.BRG_CR_CTRL kw) 0 0 (bits value 0 0) (setFld_grows x (Reg.BRG_CR_CTRL kw) 15 8 (bits value 15 8) hx)
  have hdrop := dropRing_grows _ (kw / 2) (decide (kw % 2 = 1)) hset
  exact grows_ite _ _ _ _ hset (grows_ite _ _ _ _ (wr_grows _ _ _ (wr_grows _ _ _ (setRing_grows _ _ _ hdrop))) hdrop)

theorem execBrgCompletionTailWrite_answers {b s : State} (r : Req) (kw : Nat) (cpl : Bool) (value : Word) (h : Grows b s) : Answers b
    (execBrgCompletionTailWrite r kw cpl value s) :=
  answers_next (by grind [gated_grows, wr_grows])

theorem execExchangeIssue_answers {b s : State} (h : Grows b s) : Answers b (execExchangeIssue s) :=
  answers_next (by grind [bgFlush_grows, issue_grows])

theorem execResponseMatch_answers {b s : State} (gone : Bool) (h : Grows b s) : Answers b (execResponseMatch gone s) := by
  refine answers_next ?_
  split
  · exact bgFlush_grows _ _ h
  · next x rest _ =>
    extract_lets _ s1 source s2 queries s3
    have hs2 : Grows b s2 := mirrorUpdate_grows _ _ ((grows_mk ..).mpr h)
    have hs3 : Grows b s3 := grows_foldl _ _ hs2 fun t w ht => mirrorReply_grows _ _ ht
    split
    · next t ht => exact firstAnswer_grows _ _ _ hs3 t ht
    · exact grows_ite _ _ _ _ hs3 (cnt_grows _ _ hs3)

theorem execExchangeTimeout_answers {b s : State} (ex : Nat) (h : Grows b s) : Answers b (execExchangeTimeout ex s) :=
  answers_next (by grind [bgSend_grows, putReq_grows, failReq_grows, grows_mk])

theorem execPrefetchComplete_answers {b s : State} (h : Grows b s) : Answers b (execPrefetchComplete s) :=
  answers_next (by grind [dropReq_grows, emit_grows, grows_foldl, grows_mk])

theorem execLateLogRelease_answers {b s : State} (r : Req) (k : Nat) (value : Word) (h : Grows b s) : Answers b (execLateLogRelease r k
    value s) :=
  answers_next (by grind [gated_grows, grows_mk])

theorem execLateUnfence_answers {b s : State} (r : Req) (k : Nat) (value : Word) (h : Grows b s) : Answers b (execLateUnfence r k value s)
    :=
  answers_next (by grind [gated_grows, setWin_grows, grows_mk])

theorem execWindowEnable_answers {b s : State} (r : Req) (w : Nat) (h : Grows b s) : Answers b (execWindowEnable r w s) :=
  answers_next (by grind [winGate_grows, setWin_grows, grows_mk])

theorem execWindowDisable_answers {b s : State} (r : Req) (w : Nat) (h : Grows b s) : Answers b (execWindowDisable r w s) :=
  answers_next (by grind [winGate_grows, setWin_grows, invalidate_grows, grows_mk])

theorem execWindowClearCounters_answers {b s : State} (r : Req) (w : Nat) (h : Grows b s) : Answers b (execWindowClearCounters r w s) :=
  answers_next (by grind [winGate_grows, setWin_grows, grows_mk])

theorem execWindowDrainLimit_answers {b s : State} (w : Nat) (h : Grows b s) : Answers b (execWindowDrainLimit w s) :=
  answers_next (by grind [failReq_grows, report_grows, setWin_grows, grows_foldl, grows_mk])

theorem execBrgCntClearGlobal_answers {b s : State} (r : Req) (h : Grows b s) : Answers b (execBrgCntClearGlobal r s) :=
  answers_next (by grind [gated_grows, clearRegs_grows])

theorem execBrgCntClearWindows_answers {b s : State} (r : Req) (h : Grows b s) : Answers b (execBrgCntClearWindows r s) :=
  answers_next (by grind [gated_grows, grows_mk])

theorem execSafeHCycle_answers {b s : State} (i : SafIn) (h : Grows b s) : Answers b (execSafeHCycle i s) :=
  answers_next (by grind [evalChan_grows, sampleChan_grows, cnt_grows, grows_mk])

theorem execSafePEvaluate_answers {b s : State} (is : List SafIn) (h : Grows b s) : Answers b (execSafePEvaluate is s) :=
  answers_next (by grind [evalChan_grows, sampleAll_grows, grows_mk])

theorem execOdoEdge_answers {b0 s : State} (odo : Nat) (a b : Bool) (sub : Nat) (h : Grows b0 s) : Answers b0 (execOdoEdge odo a b sub s) :=
  answers_next (by grind [odoChan_grows, grows_mk])

theorem execCrosslinkFrameSend_answers {b s : State} (who : Nat) (h : Grows b s) : Answers b (execCrosslinkFrameSend who s) :=
  answers_next (by grind [setChan_grows, grows_mk])

theorem execCrosslinkFrameReceived_answers {b s : State} (who : Nat) (intact : Bool) (h : Grows b s) : Answers b (execCrosslinkFrameReceived
    who intact s) :=
  answers_next (by grind [cnt_grows, setChan_grows, declare_grows, grows_mk])

theorem execCrosslinkStale_answers {b s : State} (who : Nat) (h : Grows b s) : Answers b (execCrosslinkStale who s) :=
  answers_next (by grind [declare_grows, setChan_grows, grows_mk])

theorem execClockCheck_answers {b s : State} (who : Nat) (h : Grows b s) : Answers b (execClockCheck who s) :=
  answers_next (by grind [setChan_grows, declare_grows, grows_mk])

theorem execSafePLockstepFault_answers {b s : State} (h : Grows b s) : Answers b (execSafePLockstepFault s) :=
  answers_next (by grind [declare_grows, allLow_grows, setChan_grows, grows_mk])

theorem execSafePWatchdogExpiry_answers {b s : State} (h : Grows b s) : Answers b (execSafePWatchdogExpiry s) :=
  answers_next (by grind [declare_grows, allLow_grows, setChan_grows, grows_mk])

theorem execParamRecheck_answers {b s : State} (who : Nat) (held : Bytes) (h : Grows b s) : Answers b (execParamRecheck who held s) :=
  answers_next (by grind [declare_grows])

theorem execTestPulseStart_answers {b s : State} (who n : Nat) (h : Grows b s) : Answers b (execTestPulseStart who n s) :=
  answers_next (by grind [setChan_grows, drivePin_grows, grows_mk])

theorem execTestPulseEnd_answers {b s : State} (who n : Nat) (low : Bool) (h : Grows b s) : Answers b (execTestPulseEnd who n low s) :=
  answers_next (by grind [setChan_grows, cnt_grows, drivePin_grows, declare_grows, grows_mk])

theorem execSafCntClear_answers {b s : State} (r : Req) (h : Grows b s) : Answers b (execSafCntClear r s) :=
  answers_next (by grind [gated_grows, clearRegs_grows])

theorem execSafetyStart_answers {b s : State} (h : Grows b s) : Answers b (execSafetyStart s) :=
  answers_next (by grind [safetyStartChan_grows, safViewReset_grows, grows_mk])

theorem execSafePorstAssert_answers {b s : State} (h : Grows b s) : Answers b (execSafePorstAssert s) :=
  answers_next (by grind [allLow_grows, grows_mk])

theorem execSafetyRailReturn_answers {b s : State} (who : Nat) (h : Grows b s) : Answers b (execSafetyRailReturn who s) :=
  answers_next (by grind [setChan_grows, safetyStartChan_grows, grows_mk])

theorem execPorstAssert_answers {b s : State} (h : Grows b s) : Answers b (execPorstAssert s) :=
  answers_next (by grind [porstAssert_grows])

theorem execPorstRelease_answers {b s : State} (h : Grows b s) : Answers b (execPorstRelease s) :=
  answers_next (by grind [grows_mk])

theorem execDomainPowerStep_answers {b s : State} (h : Grows b s) : Answers b (execDomainPowerStep s) :=
  answers_next (by grind [switchOn_grows, setRole_grows, powerFor_grows, grows_mk])

theorem execPllLocked_answers {b s : State} (h : Grows b s) : Answers b (execPllLocked s) :=
  answers_next (by grind [grows_mk])

theorem execPllLockTimeout_answers {b s : State} (h : Grows b s) : Answers b (execPllLockTimeout s) :=
  answers_next (by grind [domainFault_grows, grows_mk])

theorem execPowerMonitorTrip_answers {b s : State} (domain : Nat) (low : Bool) (mv : Nat) (h : Grows b s) : Answers b (execPowerMonitorTrip
    domain low mv s) :=
  answers_next (by grind [porstAssert_grows, report_grows, cnt_grows, tamperDetect_grows, setChan_grows, allLow_grows, wr_grows,
    domainFault_grows, grows_mk])

theorem execVbatLowEnd_answers {b s : State} (mv : Nat) (h : Grows b s) : Answers b (execVbatLowEnd mv s) :=
  answers_next (by grind [grows_mk])

theorem execReadVoutCheck_answers {b s : State} (ok : Bool) (mv : Nat) (h : Grows b s) : Answers b (execReadVoutCheck ok mv s) := by
  refine answers_next ?_
  split
  · exact h
  · extract_lets c good _ s1 _ failed _ n s2
    have hs1 : Grows b s1 := (grows_mk ..).mpr h
    have hfailed : Grows b failed := cnt_grows _ _ hs1
    have hs2 : Grows b s2 := grows_ite _ _ _ _ ((grows_mk ..).mpr hs1)
      (grows_ite _ _ _ _ (avsSend_grows _ _ ((grows_mk ..).mpr hfailed)) ((grows_mk ..).mpr hfailed))
    split
    · exact hs2
    · split
      · exact alertServe_grows _ _ hs2
      · exact hs2

theorem execPmbAlert_answers {b s : State} (word : Nat) (h : Grows b s) : Answers b (execPmbAlert word s) :=
  answers_next (by grind [alertServe_grows, grows_mk])

theorem execPwrCntClear_answers {b s : State} (r : Req) (h : Grows b s) : Answers b (execPwrCntClear r s) :=
  answers_next (by grind [gated_grows, clearRegs_grows])

theorem execAonPowerLost_answers {b s : State} (h : Grows b s) : Answers b (execAonPowerLost s) := by
  have hp := porstAssert_grows s h
  unfold execAonPowerLost
  generalize porstAssert s = t at hp ⊢
  exact ⟨_, rfl, hp.pending, hp.free, hp.out, hp.secver, fun _ => rfl, hp.nvm, hp.msix, hp.pba, hp.latch, hp.moder⟩

theorem execLeaseGrant_answers {b s : State} (r : Req) (k : Nat) (h : Grows b s) : Answers b (execLeaseGrant r k s) := by
  refine answers_next (laneGate_grows _ _ _ _ (fun x hx => ?_) h)
  extract_lets e nb seen
  have hseen : Grows b seen := seeEpoch_grows _ _ hx
  split
  · exact rejectGrant_grows _ _ hx
  split
  · exact grows_ite _ _ _ _ (lapseGrant_grows _ _ hx) (makeCurrent_grows _ _ _ hx)
  split
  · exact grows_ite _ _ _ _ (makeCurrent_grows _ _ _ hseen) (setGrant_grows _ _ _ hseen)
  · exact rejectGrant_grows _ _ hx

theorem execLeaseWitness_answers {b s : State} (r : Req) (k : Nat) (h : Grows b s) : Answers b (execLeaseWitness r k s) :=
  answers_next (by grind [laneGate_grows, rejectGrant_grows, seeEpoch_grows, higherEpoch_grows, setGrant_grows, grows_mk])

theorem execLeaseRevoke_answers {b s : State} (r : Req) (k : Nat) (h : Grows b s) : Answers b (execLeaseRevoke r k s) :=
  answers_next (by grind [laneGate_grows, grantEnded_grows, setGrant_grows, grows_mk])

theorem execGrantBecomesCurrent_answers {b s : State} (k : Nat) (h : Grows b s) : Answers b (execGrantBecomesCurrent k s) :=
  answers_next (by grind [makeCurrent_grows])

theorem execGrantLapse_answers {b s : State} (k : Nat) (h : Grows b s) : Answers b (execGrantLapse k s) :=
  answers_next (by grind [lapseGrant_grows])

theorem execRelinquishCmd_answers {b s : State} (r : Req) (h : Grows b s) : Answers b (execRelinquishCmd r s) :=
  answers_next (by grind [gated_grows, relinquish_grows])

theorem execJoinCmd_answers {b s : State} (r : Req) (h : Grows b s) : Answers b (execJoinCmd r s) :=
  answers_next (by grind [gated_grows, sendJoin_grows])

theorem execHeartbeatSend_answers {b s : State} (h : Grows b s) : Answers b (execHeartbeatSend s) :=
  answers_next (by grind [sendIu_grows, heartbeat_grows])

theorem execHeartbeatReceived_answers {b s : State} (head : IuHead) (tx rx : Nat) (echo : Option (Nat × Nat)) (h : Grows b s) : Answers b
    (execHeartbeatReceived head tx rx echo s) :=
  answers_next (by grind [acceptIu_grows, setRed_grows, higherEpoch_grows, grows_mk])

theorem execIuPathLost_answers {b0 s : State} (b : Bool) (h : Grows b0 s) : Answers b0 (execIuPathLost b s) :=
  answers_next (by grind [setRed_grows, report_grows, linkLost_grows, grows_mk])

theorem execRelinquishReceived_answers {b s : State} (head : IuHead) (h : Grows b s) : Answers b (execRelinquishReceived head s) :=
  answers_next (by grind [acceptIu_grows, raiseAll_grows, setRed_grows, grows_mk])

theorem execJoinReceived_answers {b s : State} (head : IuHead) (h : Grows b s) : Answers b (execJoinReceived head s) :=
  answers_next (by grind [acceptIu_grows, setRed_grows, grows_mk])

theorem execIuCopyReceived_answers {b s : State} (head : IuHead) (stamp : Nat) (payload : Bytes) (h : Grows b s) : Answers b
    (execIuCopyReceived head stamp payload s) :=
  answers_next (by grind [acceptIu_grows, grows_mk])

theorem execRedCntClear_answers {b s : State} (r : Req) (h : Grows b s) : Answers b (execRedCntClear r s) :=
  answers_next (by grind [gated_grows, clearRegs_grows])

theorem execDivergenceTestRequestReceived_answers {b s : State} (head : IuHead) (result : Option Bool) (h : Grows b s) : Answers b
    (execDivergenceTestRequestReceived head result s) :=
  answers_next (by grind [acceptIu_grows, beginDivergence_grows, setRed_grows, grows_mk])

theorem execDivergenceDecide_answers {b s : State} (h : Grows b s) : Answers b (execDivergenceDecide s) :=
  answers_next (by grind [setRed_grows, report_grows, leaveShadow_grows, relinquish_grows, raiseAll_grows, grows_mk])

theorem execDigestReceived_answers {b s : State} (head : IuHead) (q d : Nat) (h : Grows b s) : Answers b (execDigestReceived head q d s) :=
  answers_next (by grind [acceptIu_grows, setRed_grows, mismatch_grows, closeDigest_grows, sendIu_grows, grows_mk])

theorem execCheckpointLate_answers {b s : State} (h : Grows b s) : Answers b (execCheckpointLate s) :=
  answers_next (by grind [ckptAbandon_grows])

theorem execPeatConfirmationReceived_answers {b s : State} (head : IuHead) (q : Nat) (h : Grows b s) : Answers b
    (execPeatConfirmationReceived head q s) :=
  answers_next (by grind [acceptIu_grows, setRed_grows, grows_mk])

theorem execPeatBlockReceived_answers {b0 s : State} (head : IuHead) (b : Nat) (x : PeatBlk) (h : Grows b0 s) : Answers b0
    (execPeatBlockReceived head b x s) :=
  answers_next (by grind [acceptIu_grows, setRed_grows, grows_mk])

theorem execPeatCommitReceived_answers {b s : State} (head : IuHead) (q : Nat) (blocks : List Nat) (full : Bool) (h : Grows b s) : Answers b
    (execPeatCommitReceived head q blocks full s) :=
  answers_next (by grind [acceptIu_grows, setRed_grows, peatCommit_grows, grows_mk])

theorem execPeatStale_answers {b s : State} (h : Grows b s) : Answers b (execPeatStale s) :=
  answers_next (by grind [raiseAll_grows, report_grows, setRed_grows, grows_mk])

theorem execPaceUpdate_answers {b s : State} (laps : List (Nat × Nat × Nat)) (h : Grows b s) : Answers b (execPaceUpdate laps s) :=
  answers_next (by grind [setPace_grows, report_grows, grows_foldl, grows_mk])

theorem execNodeEnable_answers {b s : State} (r : Req) (n : Nat) (h : Grows b s) : Answers b (execNodeEnable r n s) :=
  answers_next (by grind [nodeGate_grows, setNode_grows, grows_mk])

theorem execNodeDisable_answers {b s : State} (r : Req) (n : Nat) (h : Grows b s) : Answers b (execNodeDisable r n s) :=
  answers_next (by grind [nodeGate_grows, setNode_grows, grows_mk])

theorem execNodeClearCounters_answers {b s : State} (r : Req) (n : Nat) (h : Grows b s) : Answers b (execNodeClearCounters r n s) :=
  answers_next (by grind [nodeGate_grows, clearNode_grows, grows_foldl])

theorem execNodeTakeOut_answers {b s : State} (r : Req) (n : Nat) (h : Grows b s) : Answers b (execNodeTakeOut r n s) :=
  answers_next (by grind [nodeGate_grows, nodeOut_grows])

theorem execNodeReturn_answers {b s : State} (r : Req) (n : Nat) (h : Grows b s) : Answers b (execNodeReturn r n s) :=
  answers_next (by grind [nodeGate_grows, nodeReturn_grows])

theorem execNodeDrainLimit_answers {b s : State} (n : Nat) (h : Grows b s) : Answers b (execNodeDrainLimit n s) :=
  answers_next (by grind [loseHeld_grows, clearCredits_grows, setNode_grows, grows_mk])

theorem execBgtCntClearGlobal_answers {b s : State} (r : Req) (h : Grows b s) : Answers b (execBgtCntClearGlobal r s) :=
  answers_next (by grind [gated_grows, clearRegs_grows])

theorem execBgtCntClearNodes_answers {b s : State} (r : Req) (h : Grows b s) : Answers b (execBgtCntClearNodes r s) :=
  answers_next (by grind [gated_grows, clearNode_grows, grows_foldl])

theorem execBgtCntClearPace_answers {b s : State} (r : Req) (h : Grows b s) : Answers b (execBgtCntClearPace r s) :=
  answers_next (by grind [gated_grows, grows_mk])

theorem execLinkDown_answers {b s : State} (n : Nat) (inFrame : Bool) (h : Grows b s) : Answers b (execLinkDown n inFrame s) := by
  refine answers_next ?_
  split
  · exact h
  · extract_lets s1 _ s2 p lost s3 s4 quiet s5
    have hs1 : Grows b s1 := grows_ite _ _ _ _ (framing_grows _ _ h) h
    have hs3 : Grows b s3 := setEg_grows _ _ _ (report_grows _ _ _ _ (setPort_grows _ _ _ hs1))
    have hs4 : Grows b s4 := by
      unfold s4
      split
      · exact emit_grows _ _ hs3
      · exact hs3
    have hs5 : Grows b s5 := grows_foldl _ _ hs4 fun t c ht => freeCopy_grows _ _ (downCount_grows _ _ _ ht)
    exact grows_ite _ _ _ _ (downDiscard_grows _ _ _ _ hs5) hs5

theorem execLinkUp_answers {b s : State} (n : Nat) (h : Grows b s) : Answers b (execLinkUp n s) :=
  answers_next (by grind [setPort_grows, setEg_grows, downDiscard_grows, grows_mk])

theorem execLinkDownHoldExpiry_answers {b s : State} (q : Nat) (h : Grows b s) : Answers b (execLinkDownHoldExpiry q s) :=
  answers_next (by grind [downDiscard_grows, setEg_grows, grows_mk])

theorem execPreemptVerifyDone_answers {b s : State} (q : Nat) (ok : Bool) (h : Grows b s) : Answers b (execPreemptVerifyDone q ok s) :=
  answers_next (by grind [setEg_grows, grows_mk])

theorem execPauseFrameReceived_answers {b s : State} (n quanta : Nat) (h : Grows b s) : Answers b (execPauseFrameReceived n quanta s) :=
  answers_next (by grind [setEg_grows, grows_mk])

theorem execReceivedPauseExpiry_answers {b s : State} (n : Nat) (h : Grows b s) : Answers b (execReceivedPauseExpiry n s) :=
  answers_next (by grind [setEg_grows, grows_mk])

theorem execEgressPortEnable_answers {b s : State} (r : Req) (q : Nat) (h : Grows b s) : Answers b (execEgressPortEnable r q s) :=
  answers_next (by grind [gatedBit_grows, egOn_grows])

theorem execEgressPortDisable_answers {b s : State} (r : Req) (q : Nat) (h : Grows b s) : Answers b (execEgressPortDisable r q s) :=
  answers_next (by grind [gatedBit_grows, egOff_grows])

theorem execEgressPortDrainComplete_answers {b s : State} (q : Nat) (h : Grows b s) : Answers b (execEgressPortDrainComplete q s) :=
  answers_next (by grind [setEg_grows, grows_mk])

theorem execEgressPortDrainLimit_answers {b s : State} (q : Nat) (h : Grows b s) : Answers b (execEgressPortDrainLimit q s) :=
  answers_next (by grind [pullQueued_snd, drainLoss_grows, setEg_grows, grows_mk])

theorem execEgrCntClearGlobal_answers {b s : State} (r : Req) (h : Grows b s) : Answers b (execEgrCntClearGlobal r s) :=
  answers_next (by grind [gated_grows, clearRegs_grows])

theorem execEgrCntClearPorts_answers {b s : State} (r : Req) (h : Grows b s) : Answers b (execEgrCntClearPorts r s) :=
  answers_next (by grind [gated_grows, wr_grows, grows_foldl])

theorem execListenerEnable_answers {b s : State} (r : Req) (l : Nat) (h : Grows b s) : Answers b (execListenerEnable r l s) :=
  answers_next (by grind [listenerGate_grows, setLst_grows, grows_mk])

theorem execListenerJoin_answers {b s : State} (r : Req) (l : Nat) (h : Grows b s) : Answers b (execListenerJoin r l s) :=
  answers_next (by grind [listenerGate_grows, setLst_grows, grows_mk])

theorem execListenerDisable_answers {b s : State} (r : Req) (l : Nat) (h : Grows b s) : Answers b (execListenerDisable r l s) :=
  answers_next (by grind [listenerGate_grows, stopReplay_grows, setLst_grows, grows_mk])

theorem execListenerLeave_answers {b s : State} (r : Req) (l : Nat) (h : Grows b s) : Answers b (execListenerLeave r l s) :=
  answers_next (by grind [listenerGate_grows, leaveListener_grows])

theorem execListenerClearCounters_answers {b s : State} (r : Req) (l : Nat) (h : Grows b s) : Answers b (execListenerClearCounters r l s) :=
  answers_next (by grind [listenerGate_grows, setLst_grows, grows_mk])

theorem execListenerDrainComplete_answers {b s : State} (l : Nat) (h : Grows b s) : Answers b (execListenerDrainComplete l s) :=
  answers_next (by grind [setLst_grows, grows_mk])

theorem execListenerDrainLimit_answers {b s : State} (l : Nat) (h : Grows b s) : Answers b (execListenerDrainLimit l s) :=
  answers_next (by grind [pullQueued_snd, drainLoss_grows, setLst_grows, grows_mk])

theorem execReplayCopy_answers {b s : State} (l : Nat) (h : Grows b s) : Answers b (execReplayCopy l s) := by
  refine answers_next ?_
  split
  · exact h
  split
  · exact endReplay_grows _ _ h
  · next id _ =>
    extract_lets on _ s1 q
    have hs1 : Grows b s1 := (grows_mk ..).mpr h
    split
    · exact hs1
    · split
      next x s2 hx =>
      have hs2 : Grows b s2 := replaySent_eq hx hs1
      refine blkDrop_grows _ _ ?_
      split
      · next hc => exact makeCopy_eq hc hs2
      · next hc => exact placeCopy_grows _ _ _ (makeCopy_eq hc hs2)

theorem execReplayLimitExpiry_answers {b s : State} (l : Nat) (h : Grows b s) : Answers b (execReplayLimitExpiry l s) :=
  answers_next (by grind [endReplay_grows, cnt_grows])

theorem execTxFetchComplete_answers {b s : State} (k : Nat) (ring1 : Bool) (desc payload : Bytes) (h : Grows b s) : Answers b
    (execTxFetchComplete k ring1 desc payload s) :=
  answers_next (by grind [setLane_grows, cnt_grows, writeWb_grows, raiseMod_grows, mirrorRec_snd, judgeCopy_grows, grows_mk])

theorem execWindowTimeout_answers {b s : State} (v cycle index : Nat) (h : Grows b s) : Answers b (execWindowTimeout v cycle index s) :=
  answers_next (by grind [settleVote_grows, closeWindow_grows])

theorem execLaneOutCmd_answers {b s : State} (r : Req) (k : Nat) (h : Grows b s) : Answers b (execLaneOutCmd r k s) :=
  answers_next (by grind [gated_grows, settleVote_grows, setVote_grows, setLane_grows, grows_mk])

theorem execLaneReturnCmd_answers {b s : State} (r : Req) (k : Nat) (h : Grows b s) : Answers b (execLaneReturnCmd r k s) :=
  answers_next (by grind [gated_grows, settleVote_grows, setVote_grows])

theorem execVoterStreamEnable_answers {b s : State} (r : Req) (v : Nat) (h : Grows b s) : Answers b (execVoterStreamEnable r v s) :=
  answers_next (by grind [vsGate_grows, modVs_grows, grows_mk])

theorem execVoterStreamDisable_answers {b s : State} (r : Req) (v : Nat) (h : Grows b s) : Answers b (execVoterStreamDisable r v s) :=
  answers_next (by grind [vsGate_grows, modVs_grows, grows_mk])

theorem execVoterStreamClear_answers {b s : State} (r : Req) (v : Nat) (h : Grows b s) : Answers b (execVoterStreamClear r v s) :=
  answers_next (by grind [vsGate_grows, modVs_grows, grows_mk])

theorem execVoterStreamDrainLimit_answers {b s : State} (v : Nat) (h : Grows b s) : Answers b (execVoterStreamDrainLimit v s) :=
  answers_next (by grind [closeWindow_grows, modVs_grows, grows_foldl, grows_mk])

theorem execVotCntClearGlobal_answers {b s : State} (r : Req) (h : Grows b s) : Answers b (execVotCntClearGlobal r s) :=
  answers_next (by grind [gated_grows, clearRegs_grows])

theorem execVotCntClearLanes_answers {b s : State} (r : Req) (h : Grows b s) : Answers b (execVotCntClearLanes r s) :=
  answers_next (by grind [gated_grows, clearRegs_grows])

theorem execVotCntClearStreams_answers {b s : State} (r : Req) (h : Grows b s) : Answers b (execVotCntClearStreams r s) :=
  answers_next (by grind [gated_grows, grows_mk])

theorem execStageDelta_answers {b s : State} (r : Req) (fetched : Option Bytes) (h : Grows b s) : Answers b (execStageDelta r fetched s) := by
  refine answers_next (gated_grows _ _ _ _ (fun x hx => ?_) h)
  split
  · exact cfgEnd_grows _ _ _ _ _ hx
  split
  · exact cfgBegin_grows _ _ _ _ _ _ hx
  split
  · exact cfgBegin_grows _ _ _ _ _ _ hx
  split
  · exact cfgBegin_grows _ _ _ _ _ _ hx
  split
  · next ht => exact cfgBegin_grows _ _ _ _ _ _ (stageAll_grows hx ht)
  · exact cfgBegin_grows _ _ _ _ _ _ hx

theorem execValidateShadows_answers {b s : State} (r : Req) (h : Grows b s) : Answers b (execValidateShadows r s) :=
  answers_next (by grind [gated_grows, cfgEnd_grows, beginValidate_grows])

theorem execDiscardShadows_answers {b s : State} (r : Req) (h : Grows b s) : Answers b (execDiscardShadows r s) :=
  answers_next (by grind [gated_grows, setShadows_grows])

theorem execSwapGlobal_answers {b s : State} (r : Req) (h : Grows b s) : Answers b (execSwapGlobal r s) := by
  refine answers_next (gated_grows _ _ _ _ (fun x hx => ?_) h)
  extract_lets g
  have hreject := swapReject_grows x hx
  split
  · exact cfgEnd_grows _ _ _ _ _ hreject
  · exact grows_ite _ _ _ _ (cfgEnd_grows _ _ _ _ _ hreject) (cfgEnd_grows _ _ _ _ _ ((grows_mk ..).mpr hx))

theorem execSwapPerRegion_answers {b s : State} (r : Req) (h : Grows b s) : Answers b (execSwapPerRegion r s) :=
  answers_next (by grind [gated_grows, cfgEnd_grows, swapReject_grows, setShadows_grows, grows_mk])

theorem execSwapCancel_answers {b s : State} (r : Req) (h : Grows b s) : Answers b (execSwapCancel r s) :=
  answers_next (by grind [gated_grows, setShadows_grows, cfgEnd_grows, grows_mk])

theorem execProfileStageSwap_answers {b s : State} (r : Req) (n : Nat) (h : Grows b s) : Answers b (execProfileStageSwap r n s) := by
  refine answers_next (gated_grows _ _ _ _ (fun x hx => ?_) h)
  split
  · exact cfgEnd_grows _ _ _ _ _ hx
  split
  · exact cfgEnd_grows _ _ _ _ _ hx
  split
  · exact cfgEnd_grows _ _ _ _ _ hx
  split
  · exact cfgBegin_grows _ _ _ _ _ _ hx
  · next t ht =>
    have hgrow := stageAll_grows hx ht
    extract_lets g
    split
    · exact cfgEnd_grows _ _ _ _ _ (swapReject_grows _ (setShadows_grows _ _ _ hgrow))
    · exact beginValidate_grows _ _ _ _ _ hgrow

theorem execCfgCmdDone_answers {b s : State} (h : Grows b s) : Answers b (execCfgCmdDone s) :=
  answers_next (by grind [cfgFinish_grows, raise_grows])

theorem execMergeStart_answers {b s : State} (h : Grows b s) : Answers b (execMergeStart s) :=
  answers_next (by grind [grows_mk])

theorem execMergeDone_answers {b s : State} (h : Grows b s) : Answers b (execMergeDone s) :=
  answers_next (by grind [setShadows_grows, grows_mk])

theorem execCfgCntClear_answers {b s : State} (r : Req) (h : Grows b s) : Answers b (execCfgCntClear r s) :=
  answers_next (by grind [gated_grows, clearRegs_grows])

theorem execRepairPortOut_answers {b s : State} (r : Req) (p : Nat) (h : Grows b s) : Answers b (execRepairPortOut r p s) :=
  answers_next (by grind [repair_grows, portOut_grows])

theorem execRepairPortReturn_answers {b s : State} (r : Req) (p : Nat) (h : Grows b s) : Answers b (execRepairPortReturn r p s) :=
  answers_next (by grind [repair_grows, portReturn_grows])

theorem execRepairClassifierOut_answers {b s : State} (r : Req) (e : Nat) (h : Grows b s) : Answers b (execRepairClassifierOut r e s) :=
  answers_next (repair_grows _ _ _ _ (fun _ t hx ht => classifierOut_grows e hx t ht) h)

theorem execRepairClassifierReturn_answers {b s : State} (r : Req) (e : Nat) (h : Grows b s) : Answers b (execRepairClassifierReturn r e s)
    :=
  answers_next (by grind [repair_grows, grows_mk])

theorem execRepairPartitionOut_answers {b s : State} (r : Req) (p : Nat) (h : Grows b s) : Answers b (execRepairPartitionOut r p s) :=
  answers_next (by grind [repair_grows, partitionOut_grows])

theorem execRepairPartitionReturn_answers {b s : State} (r : Req) (p : Nat) (h : Grows b s) : Answers b (execRepairPartitionReturn r p s) :=
  answers_next (by grind [repair_grows, partitionReturn_grows])

theorem execRepairBankOut_answers {b s : State} (r : Req) (k : Nat) (h : Grows b s) : Answers b (execRepairBankOut r k s) :=
  answers_next (repair_grows _ _ _ _ (fun _ t hx ht => bankOut_grows k hx t ht) h)

theorem execRepairBankReturn_answers {b0 s : State} (r : Req) (b : Nat) (h : Grows b0 s) : Answers b0 (execRepairBankReturn r b s) :=
  answers_next (by grind [repair_grows, grows_mk])

theorem execBankRemapDone_answers {b s : State} (h : Grows b s) : Answers b (execBankRemapDone s) :=
  answers_next (by grind [bankMove_grows, grows_mk])

theorem execRepairMapEngineOut_answers {b s : State} (r : Req) (e : Nat) (h : Grows b s) : Answers b (execRepairMapEngineOut r e s) :=
  answers_next (by grind [repair_grows, engineOut_grows])

theorem execRepairMapEngineReturn_answers {b s : State} (r : Req) (e : Nat) (h : Grows b s) : Answers b (execRepairMapEngineReturn r e s) :=
  answers_next (by grind [repair_grows, engineBack_grows])

theorem execRepairSubtreeOut_answers {b s : State} (r : Req) (n : Nat) (h : Grows b s) : Answers b (execRepairSubtreeOut r n s) :=
  answers_next (by grind [repairNode_grows, nodeOut_grows])

theorem execRepairSubtreeReturn_answers {b s : State} (r : Req) (n : Nat) (h : Grows b s) : Answers b (execRepairSubtreeReturn r n s) :=
  answers_next (by grind [repairNode_grows, nodeReturn_grows])

theorem execNvmErase_answers {b s : State} (r : Req) (h : Grows b s) : Answers b (execNvmErase r s) :=
  answers_next (by grind [gated_grows, nvmStart_grows])

theorem execNvmProgram_answers {b s : State} (r : Req) (data : Bytes) (h : Grows b s) : Answers b (execNvmProgram r data s) :=
  answers_next (by grind [gated_grows, nvmStart_grows])

theorem execNvmRead_answers {b s : State} (r : Req) (len : Nat) (h : Grows b s) : Answers b (execNvmRead r len s) :=
  answers_next (by grind [gated_grows, nvmStart_grows])

theorem execNvmOpDone_answers {b s : State} (ok : Bool) (h : Grows b s) : Answers b (execNvmOpDone ok s) :=
  answers_next (by grind [nvmEnd_grows, nvmApply_grows, nvmBroken_grows, grows_mk])

theorem execWatchdogExpiry_answers {b s : State} (q : Nat) (onSpare : Bool) (h : Grows b s) : Answers b (execWatchdogExpiry q onSpare s) :=
  answers_next (by grind [spareFails_grows, stall_grows])

theorem execErrorRecordWrite_answers {b s : State} (h : Grows b s) : Answers b (execErrorRecordWrite s) :=
  answers_next (by grind [raiseAll_grows, raiseMod_grows, grows_foldl, grows_mk])

theorem execEjClearRecords_answers {b s : State} (r : Req) (h : Grows b s) : Answers b (execEjClearRecords r s) :=
  answers_next (by grind [gated_grows, clearRecords_grows])

theorem execEjClearSources_answers {b s : State} (r : Req) (h : Grows b s) : Answers b (execEjClearSources r s) :=
  answers_next (by grind [gated_grows, clearSources_grows])

theorem execEjClearBoth_answers {b s : State} (r : Req) (h : Grows b s) : Answers b (execEjClearBoth r s) :=
  answers_next (by grind [gated_grows, clearSources_grows, clearRecords_grows])

theorem execClearAll_answers {b s : State} (r : Req) (value : Word) (h : Grows b s) : Answers b (execClearAll r value s) :=
  answers_next (by grind [gated_grows, grows_mk])

theorem execDgnCntClear_answers {b s : State} (r : Req) (h : Grows b s) : Answers b (execDgnCntClear r s) :=
  answers_next (by grind [gated_grows, clearRegs_grows, grows_mk])

theorem execSelftestRequest_answers {b s : State} (r : Req) (target element : Nat) (full : Bool) (h : Grows b s) : Answers b
    (execSelftestRequest r target element full s) :=
  answers_next (by grind [gated_grows, grows_mk])

theorem execSelftestSlice_answers {b s : State} (target element ns progress : Nat) (h : Grows b s) :
    Answers b (execSelftestSlice target element ns progress s) := by
  refine answers_next ?_
  split
  · exact h
  split
  · exact h
  · next t ht => exact (grows_mk ..).mpr (nodePay_grows _ _ h t ht)

theorem execSelftestPassComplete_answers {b s : State} (target element : Nat) (pass : Bool) (h : Grows b s) : Answers b
    (execSelftestPassComplete target element pass s) :=
  answers_next (by grind [ownResult_grows, cnt_grows, testPassed_grows, testFailed_grows, grows_mk])

theorem execSpareRotation_answers {b s : State} (bank : Bool) (h : Grows b s) : Answers b (execSpareRotation bank s) :=
  answers_next (by grind [testAnew_grows, setCls_grows, takePosition_grows, grows_mk])

theorem execSnapshotCmd_answers {b s : State} (r : Req) (block : Nat) (h : Grows b s) : Answers b (execSnapshotCmd r block s) :=
  answers_next (by grind [gated_grows, grows_mk])

theorem execSnapshotDone_answers {b s : State} (abandoned : Bool) (h : Grows b s) : Answers b (execSnapshotDone abandoned s) :=
  answers_next (by grind [cnt_grows, raiseAll_grows, grows_mk])

theorem execScrubLine_answers {b s : State} (found : EccSite) (dram passEnd : Bool) (h : Grows b s) : Answers b (execScrubLine found dram
    passEnd s) :=
  answers_next (by grind [cnt_grows, report_grows, spareFails_grows, grows_mk])

theorem execTempSample_answers {b s : State} (temps : List Int) (h : Grows b s) : Answers b (execTempSample temps s) :=
  answers_next (by grind [report_grows, grows_foldl, grows_mk])

theorem execStewardWatchdogExpiry_answers {b s : State} (h : Grows b s) : Answers b (execStewardWatchdogExpiry s) :=
  answers_next (by grind [report_grows, grows_mk])

theorem execStewardLockstepFault_answers {b s : State} (h : Grows b s) : Answers b (execStewardLockstepFault s) :=
  answers_next (by grind [report_grows, grows_mk])

theorem execDirectoryRead_answers {b s : State} (h : Grows b s) : Answers b (execDirectoryRead s) := by
  refine answers_next ?_
  split
  · exact h
  split
  · exact haltSafe_grows _ (recordReport_grows _ _ _ _ h)
  split
  · exact haltSafe_grows _ h
  · next d second _ slot _ =>
    extract_lets s1
    have hs1 : Grows b s1 := forgiveTamper_grows _ (countStart_grows _ _ h)
    split
    extract_lets header s2 s3
    have hs2 : Grows b s2 := (grows_mk ..).mpr hs1
    have hs3 : Grows b s3 := grows_ite _ _ _ _ (report_grows _ _ _ _ hs2) hs2
    split
    · exact hs3
    · exact report_grows _ _ _ _ hs3
    · exact report_grows _ _ _ _ hs3

theorem execSramBistDone_answers {b s : State} (banks : List Nat) (other : Bool) (h : Grows b s) : Answers b (execSramBistDone banks other s) := by
  refine answers_next ?_
  split
  · exact h
  split
  · exact failStart_grows _ h
  · next t ht => exact (grows_mk ..).mpr (bistEnd_grows _ _ h t ht)

theorem execDramTrained_answers {b s : State} (ok : Bool) (h : Grows b s) : Answers b (execDramTrained ok s) :=
  answers_next (by grind [failStart_grows, grows_mk])

theorem execBodyReadDone_answers {b s : State} (vout fw : Nat) (h : Grows b s) : Answers b (execBodyReadDone vout fw s) := by
  refine answers_next ?_
  split
  · exact h
  · extract_lets header image s1 _ s2 s3 s4
    split
    · have hreport := report_grows s ‹Nat› noInst 0 h
      exact grows_ite _ _ _ _ (failStart_grows _ hreport) hreport
    · have hs1 : Grows b s1 := startGeneration_grows _ _ (takeImage_grows _ _ (clearPath_grows _ h))
      have hs2 : Grows b s2 := avsStart_grows _ (avsLink_grows _ _ ((grows_mk ..).mpr hs1))
      have hs3 : Grows b s3 := initRuntime_grows _ (startSends_grows _ (keyUnseal_grows _ hs2))
      exact setRole_grows _ _ (powerFor_grows _ _ ((grows_mk ..).mpr hs3))

theorem execStartComplete_answers {b s : State} (h : Grows b s) : Answers b (execStartComplete s) :=
  answers_next (by grind [becomeActive_grows, startDone_grows, becomeStandby_grows])

theorem execStartSettled_answers {b s : State} (h : Grows b s) : Answers b (execStartSettled s) :=
  answers_next (by grind [grows_mk])

theorem execStartClearCounters_answers {b s : State} (r : Req) (h : Grows b s) : Answers b (execStartClearCounters r s) :=
  answers_next (by grind [gated_grows, clearStarts_grows])

theorem execStartRestart_answers {b s : State} (r : Req) (h : Grows b s) : Answers b (execStartRestart r s) :=
  answers_next (by grind [gated_grows, commandedRestart_grows])

theorem execStartClearAndRestart_answers {b s : State} (r : Req) (h : Grows b s) : Answers b (execStartClearAndRestart r s) :=
  answers_next (by grind [gated_grows, commandedRestart_grows, clearStarts_grows])

theorem execSecverRaise_answers {b s : State} (r : Req) (value : Word) (h : Grows b s) : Answers b (execSecverRaise r value s) :=
  answers_next (gated_grows _ _ _ _ (fun _ hx => grows_ite _ _ _ _
    (clearImageRecord_grows _
      ⟨hx.pending, hx.free, hx.out, hx.secver.trans (Nat.le_max_left _ _), hx.regs, hx.nvm, hx.msix, hx.pba, hx.latch, hx.moder⟩)
    hx) h)

theorem execStandbyBistStart_answers {b s : State} (h : Grows b s) : Answers b (execStandbyBistStart s) :=
  answers_next (by grind [switchOn_grows, grows_mk])

theorem execStandbyBistDone_answers {b s : State} (h : Grows b s) : Answers b (execStandbyBistDone s) :=
  answers_next (by grind [powerFor_grows, grows_mk])

theorem execTakeoverComplete_answers {b s : State} (banks : List Nat) (other : Bool) (h : Grows b s) :
    Answers b (execTakeoverComplete banks other s) := by
  refine answers_next ?_
  split
  · exact h
  split
  · exact grows_ite _ _ _ _ h (becomeActive_grows _ (jumpCounters_grows _ _ _ _ (startGeneration_grows _ _ h)))
  · split
    · exact h
    split
    · exact warmTakeover_grows _ ((grows_mk ..).mpr h)
    split
    · exact failStart_grows _ h
    · next t ht => exact warmTakeover_grows _ ((grows_mk ..).mpr (bistEnd_grows _ _ h t ht))
  · exact grows_ite _ _ _ _ (becomeActive_grows _ (startDone_grows _ h)) h
  · exact h

theorem execMirrorReceived_answers {b s : State} (head : IuHead) (n : Nat) (m : MirrorRec) (h : Grows b s) : Answers b (execMirrorReceived
    head n m s) :=
  answers_next (by grind [acceptIu_grows, leaveShadow_grows, mirrorIn_grows, setRed_grows, grows_mk])

theorem execCommitLogReceived_answers {b s : State} (head : IuHead) (e : LogEnt) (h : Grows b s) : Answers b (execCommitLogReceived head e s) := by
  refine answers_next (acceptIu_grows _ _ _ (fun x hx => ?_) h)
  have hlog := grows_ite _ _ _ (isStandby x = true) (setRed_grows x { x.red with logIn := x.red.logIn ++ [e] } hx) hx
  exact grows_ite _ _ _ _ (drainLog_grows _ hlog) hlog

theorem execPeatImageCopyDone_answers {b s : State} (h : Grows b s) : Answers b (execPeatImageCopyDone s) :=
  answers_next (by grind [copyDone_grows, shadowSeal_grows, applyPeat_grows])

theorem execPeriodBoundary_answers {b s : State} (h : Grows b s) : Answers b (execPeriodBoundary s) := by
  refine answers_next ?_
  split
  · exact h
  · next q bound _ =>
    extract_lets was s1 s2 s3 s4
    have hs1 : Grows b s1 := pathBoundary_grows _ _ (countBoundary_grows _ _ _ h)
    have hs2 : Grows b s2 := grows_foldl _ _ hs1 fun t i ht => periodTrigger_grows _ _ _ ht
    have hs3 : Grows b s3 := heartbeat_grows _ (clearAllApply_grows _ (snapshotFreeze_grows _ hs2))
    have hs4 : Grows b s4 := mirrorPeriod_grows _ (checkpoint_grows _ (digestOut_grows _ _ hs3))
    exact leaveRelinquishing_grows _ (shadowSeal_grows _ hs4)

theorem execRegisterWrite_answers {b s : State} (r : Req) (off width value : Nat) (h : Grows b s) :
    Answers b (execRegisterWrite r off width value s) := by
  refine answers_next ?_
  split
  · exact h
  split
  · exact writeMsix_grows _ _ _ _ _ h
  split
  · exact discard_grows _ _ _ _ h
  split
  · exact h
  · exact grows_ite _ _ _ _ (masterGate_grows _ _ _ _ (fun x hx => setFields_grows _ _ _ _ _ hx) h) (setFields_grows _ _ _ _ _ h)

theorem execLatchingRead_answers {b s : State} (r : Req) (off width : Nat) (h : Grows b s) : Answers b (execLatchingRead r off width s) :=
  answers_next (by grind [readWord_grows, emit_grows])

theorem execMsixUnmask_answers {b s : State} (r : Req) (vec : Nat) (h : Grows b s) : Answers b (execMsixUnmask r vec s) :=
  answers_next (by grind [putMsix_grows])

theorem execModerationIntervalExpiry_answers {b s : State} (lane : Nat) (guard : Bool) (vec : Nat) (h : Grows b s) :
    Answers b (execModerationIntervalExpiry lane guard vec s) := by
  refine answers_next ?_
  extract_lets k m s1 s2 ring
  split
  · exact h
  · have hs1 : Grows b s1 := ⟨h.pending, h.free, h.out, h.secver, h.regs, h.nvm, h.msix, h.pba, h.latch, fun w => tabWf_set _ _ (h.moder w)⟩
    have hs2 : Grows b s2 := grows_ite _ _ _ _ (raiseMod_grows _ _ _ _ _ hs1) hs1
    exact grows_ite _ _ _ _ (writeWb_grows _ _ hs2) hs2

theorem execJournalRecord_answers {b s : State} (h : Grows b s) : Answers b (execJournalRecord s) :=
  answers_next (by grind [blkDrop_grows, recordData_grows, appendRecord_grows, newGeneration_grows, lossMark_grows, grows_mk])

theorem execJournalCloseTimeout_answers {b s : State} (h : Grows b s) : Answers b (execJournalCloseTimeout s) :=
  answers_next (by grind [closeBlock_grows])

theorem execJournalScanDone_answers {b s : State} (h : Grows b s) : Answers b (execJournalScanDone s) :=
  answers_next (by grind [lossMark_grows, grows_foldl, grows_mk])

theorem execJournalExport_answers {b s : State} (r : Req) (value : Word) (h : Grows b s) : Answers b (execJournalExport r value s) :=
  answers_next (by grind [gated_grows, grows_mk])

theorem execJournalExportDone_answers {b s : State} (h : Grows b s) : Answers b (execJournalExportDone s) :=
  answers_next (by grind [emit_grows, raise_grows, grows_mk])

theorem execJournalEnable_answers {b s : State} (r : Req) (h : Grows b s) : Answers b (execJournalEnable r s) :=
  answers_next (by grind [gatedBit_grows, setFld_grows, grows_mk])

theorem execJournalDisable_answers {b s : State} (r : Req) (h : Grows b s) : Answers b (execJournalDisable r s) :=
  answers_next (by grind [gatedBit_grows, setFld_grows, grows_mk])

theorem execJournalDrainComplete_answers {b s : State} (h : Grows b s) : Answers b (execJournalDrainComplete s) :=
  answers_next (by grind [grows_mk])

theorem execJournalDrainLimit_answers {b s : State} (h : Grows b s) : Answers b (execJournalDrainLimit s) :=
  answers_next (by grind [blkDrop_grows, report_grows, cntAdd_grows, grows_foldl, grows_mk])

theorem execJrnCntClearCounters_answers {b s : State} (r : Req) (h : Grows b s) : Answers b (execJrnCntClearCounters r s) :=
  answers_next (by grind [gated_grows, clearRegs_grows])

theorem execJournalRestart_answers {b s : State} (r : Req) (h : Grows b s) : Answers b (execJournalRestart r s) :=
  answers_next (by grind [gated_grows, grows_mk])

/-- Every command answers with a next state, and keeps what every step keeps. -/
theorem exec_answers {b s : State} (i : Instr) (h : Grows b s) : Answers b (exec i s) := by
  cases i with
  | registerWrite _ _ _ _ => exact execRegisterWrite_answers _ _ _ _ h
  | latchingRead _ _ _ => exact execLatchingRead_answers _ _ _ h
  | msixUnmask _ _ => exact execMsixUnmask_answers _ _ h
  | spSentenceEnd _ => exact execSpSentenceEnd_answers _ h
  | spGapEnd _ => exact execSpGapEnd_answers _ h
  | charTimeout _ => exact execCharTimeout_answers _ h
  | crWaitExpiry _ => exact execCrWaitExpiry_answers _ h
  | breakOutsideSentence _ => exact execBreakOutsideSentence_answers _ h
  | canFrameEnd _ _ _ _ _ _ _ _ _ => exact execCanFrameEnd_answers _ _ _ _ _ _ _ _ _ h
  | canBusOff _ _ => exact execCanBusOff_answers _ _ h
  | canBusOffRecovery _ => exact execCanBusOffRecovery_answers _ h
  | mvbSlaveFrameEnd _ _ _ _ _ _ => exact execMvbSlaveFrameEnd_answers _ _ _ _ _ _ h
  | mvbMasterFrame _ _ _ => exact execMvbMasterFrame_answers _ _ _ h
  | mvbPoll _ => exact execMvbPoll_answers _ h
  | ethFrameEnd _ _ _ _ => exact execEthFrameEnd_answers _ _ _ _ h
  | prpNodeForget _ _ => exact execPrpNodeForget_answers _ _ h
  | prpPathLost _ _ _ => exact execPrpPathLost_answers _ _ _ h
  | pauseFrameReceived _ _ => exact execPauseFrameReceived_answers _ _ h
  | linkDown _ _ => exact execLinkDown_answers _ _ h
  | linkUp _ => exact execLinkUp_answers _ h
  | portStagingEntry _ => exact execPortStagingEntry_answers _ h
  | portEnable _ _ => exact execPortEnable_answers _ _ h
  | portDisable _ _ => exact execPortDisable_answers _ _ h
  | portDrainComplete _ => exact execPortDrainComplete_answers _ h
  | portDrainLimit _ => exact execPortDrainLimit_answers _ h
  | prtCntClearPort _ _ => exact execPrtCntClearPort_answers _ _ h
  | prtCntClearAll _ => exact execPrtCntClearAll_answers _ h
  | stewardSentence _ _ => exact execStewardSentence_answers _ _ h
  | classify _ => exact execClassify_answers _ h
  | wildcardSearch => exact execWildcardSearch_answers h
  | insertionComplete => exact execInsertionComplete_answers h
  | streamAdmit _ _ => exact execStreamAdmit_answers _ _ h
  | streamReject _ _ => exact execStreamReject_answers _ _ h
  | streamRelease _ _ => exact execStreamRelease_answers _ _ h
  | wholeSecond => exact execWholeSecond_answers h
  | learnedEntryEmpty _ => exact execLearnedEntryEmpty_answers _ h
  | streamEnable _ _ => exact execStreamEnable_answers _ _ h
  | streamDisable _ _ => exact execStreamDisable_answers _ _ h
  | streamClearCounters _ _ => exact execStreamClearCounters_answers _ _ h
  | streamClearLastValue _ _ => exact execStreamClearLastValue_answers _ _ h
  | streamDrainComplete _ => exact execStreamDrainComplete_answers _ h
  | streamDrainLimit _ => exact execStreamDrainLimit_answers _ h
  | lvcWrite => exact execLvcWrite_answers h
  | stbCntClearGlobal _ => exact execStbCntClearGlobal_answers _ h
  | stbCntClearRules _ => exact execStbCntClearRules_answers _ h
  | stbCntClearStreams _ => exact execStbCntClearStreams_answers _ h
  | filterEvaluate => exact execFilterEvaluate_answers h
  | bogWrite => exact execBogWrite_answers h
  | sourceForce _ _ _ => exact execSourceForce_answers _ _ _ h
  | sourceRelease _ _ => exact execSourceRelease_answers _ _ h
  | fltCntClearCounters _ => exact execFltCntClearCounters_answers _ h
  | fltCntClearBog _ => exact execFltCntClearBog_answers _ h
  | mapperDispatch => exact execMapperDispatch_answers h
  | holdLimitExpiry _ => exact execHoldLimitExpiry_answers _ h
  | mapRunStart _ _ => exact execMapRunStart_answers _ _ h
  | class0Preempt _ => exact execClass0Preempt_answers _ h
  | opEnd _ => exact execOpEnd_answers _ h
  | opDrop _ => exact execOpDrop_answers _ h
  | opSkip _ => exact execOpSkip_answers _ h
  | opLdc _ => exact execOpLdc_answers _ h
  | opLds _ => exact execOpLds_answers _ h
  | opLdb _ => exact execOpLdb_answers _ h
  | opLdt _ => exact execOpLdt_answers _ h
  | opLdtm _ => exact execOpLdtm_answers _ h
  | opLdch _ => exact execOpLdch_answers _ h
  | opLdv _ => exact execOpLdv_answers _ h
  | ldvDramReadComplete _ => exact execLdvDramReadComplete_answers _ h
  | opLva _ => exact execOpLva_answers _ h
  | opSrcl _ => exact execOpSrcl_answers _ h
  | opMov _ => exact execOpMov_answers _ h
  | opAdd _ => exact execOpAdd_answers _ h
  | opSub _ => exact execOpSub_answers _ h
  | opAddi _ => exact execOpAddi_answers _ h
  | opMul _ => exact execOpMul_answers _ h
  | opDiv _ => exact execOpDiv_answers _ h
  | opScale _ => exact execOpScale_answers _ h
  | opMin _ => exact execOpMin_answers _ h
  | opMax _ => exact execOpMax_answers _ h
  | opAbs _ => exact execOpAbs_answers _ h
  | opNeg _ => exact execOpNeg_answers _ h
  | opAnd _ => exact execOpAnd_answers _ h
  | opOr _ => exact execOpOr_answers _ h
  | opXor _ => exact execOpXor_answers _ h
  | opAndi _ => exact execOpAndi_answers _ h
  | opOri _ => exact execOpOri_answers _ h
  | opEqi _ => exact execOpEqi_answers _ h
  | opRchk _ => exact execOpRchk_answers _ h
  | opInterp _ => exact execOpInterp_answers _ h
  | opNewo _ => exact execOpNewo_answers _ h
  | opSelo _ => exact execOpSelo_answers _ h
  | opCpy _ => exact execOpCpy_answers _ h
  | opStb _ => exact execOpStb_answers _ h
  | opStt _ => exact execOpStt_answers _ h
  | opStm _ => exact execOpStm_answers _ h
  | opApc _ => exact execOpApc_answers _ h
  | opApf _ => exact execOpApf_answers _ h
  | opCsum _ => exact execOpCsum_answers _ h
  | opStmk _ => exact execOpStmk_answers _ h
  | mapOvertime _ => exact execMapOvertime_answers _ h
  | commitGroupHandover _ _ => exact execCommitGroupHandover_answers _ _ h
  | mapEngineTakeOut _ _ => exact execMapEngineTakeOut_answers _ _ h
  | mapEngineReturn _ _ => exact execMapEngineReturn_answers _ _ h
  | mapEngineEmptied _ => exact execMapEngineEmptied_answers _ h
  | progEnable _ _ => exact execProgEnable_answers _ _ h
  | progDisable _ _ => exact execProgDisable_answers _ _ h
  | progClearCounters _ _ => exact execProgClearCounters_answers _ _ h
  | progDrainComplete _ => exact execProgDrainComplete_answers _ h
  | progDrainLimit _ => exact execProgDrainLimit_answers _ h
  | cycEnable _ _ => exact execCycEnable_answers _ _ h
  | cycDisable _ _ => exact execCycDisable_answers _ _ h
  | cycClearOverlap _ _ => exact execCycClearOverlap_answers _ _ h
  | mapCntClearGlobal _ => exact execMapCntClearGlobal_answers _ h
  | mapCntClearPrograms _ => exact execMapCntClearPrograms_answers _ h
  | commit => exact execCommit_answers h
  | replicate => exact execReplicate_answers h
  | egressSchedule _ => exact execEgressSchedule_answers _ h
  | copyStart _ => exact execCopyStart_answers _ h
  | sealTagComplete _ => exact execSealTagComplete_answers _ h
  | canArbitrationLost _ => exact execCanArbitrationLost_answers _ h
  | canArbitrationTimeout _ => exact execCanArbitrationTimeout_answers _ h
  | linkDownHoldExpiry _ => exact execLinkDownHoldExpiry_answers _ h
  | preemptVerifyDone _ _ => exact execPreemptVerifyDone_answers _ _ h
  | listenerEnable _ _ => exact execListenerEnable_answers _ _ h
  | listenerDisable _ _ => exact execListenerDisable_answers _ _ h
  | listenerJoin _ _ => exact execListenerJoin_answers _ _ h
  | listenerLeave _ _ => exact execListenerLeave_answers _ _ h
  | listenerClearCounters _ _ => exact execListenerClearCounters_answers _ _ h
  | listenerDrainComplete _ => exact execListenerDrainComplete_answers _ h
  | listenerDrainLimit _ => exact execListenerDrainLimit_answers _ h
  | replayCopy _ => exact execReplayCopy_answers _ h
  | replayLimitExpiry _ => exact execReplayLimitExpiry_answers _ h
  | egressPortEnable _ _ => exact execEgressPortEnable_answers _ _ h
  | egressPortDisable _ _ => exact execEgressPortDisable_answers _ _ h
  | egressPortDrainComplete _ => exact execEgressPortDrainComplete_answers _ h
  | egressPortDrainLimit _ => exact execEgressPortDrainLimit_answers _ h
  | egrCntClearGlobal _ => exact execEgrCntClearGlobal_answers _ h
  | egrCntClearPorts _ => exact execEgrCntClearPorts_answers _ h
  | journalRecord => exact execJournalRecord_answers h
  | journalCloseTimeout => exact execJournalCloseTimeout_answers h
  | journalScanDone => exact execJournalScanDone_answers h
  | journalExport _ _ => exact execJournalExport_answers _ _ h
  | journalExportDone => exact execJournalExportDone_answers h
  | journalEnable _ => exact execJournalEnable_answers _ h
  | journalDisable _ => exact execJournalDisable_answers _ h
  | journalDrainComplete => exact execJournalDrainComplete_answers h
  | journalDrainLimit => exact execJournalDrainLimit_answers h
  | jrnCntClearCounters _ => exact execJrnCntClearCounters_answers _ h
  | journalRestart _ => exact execJournalRestart_answers _ h
  | laneCopyWrite _ => exact execLaneCopyWrite_answers _ h
  | laneHoldExpiry _ => exact execLaneHoldExpiry_answers _ h
  | gapWrite _ => exact execGapWrite_answers _ h
  | rxTailWrite _ _ _ => exact execRxTailWrite_answers _ _ _ h
  | laneDeliveryEnable _ _ => exact execLaneDeliveryEnable_answers _ _ h
  | laneDeliveryDisable _ _ => exact execLaneDeliveryDisable_answers _ _ h
  | laneDrainComplete _ => exact execLaneDrainComplete_answers _ h
  | laneDrainLimit _ => exact execLaneDrainLimit_answers _ h
  | tx0EnableWrite _ _ _ => exact execTx0EnableWrite_answers _ _ _ h
  | tx1EnableWrite _ _ _ => exact execTx1EnableWrite_answers _ _ _ h
  | txTailWrite _ _ _ _ => exact execTxTailWrite_answers _ _ _ _ h
  | laneLinkDown _ => exact execLaneLinkDown_answers _ h
  | laneLinkUp _ => exact execLaneLinkUp_answers _ h
  | lniCntClear _ _ => exact execLniCntClear_answers _ _ h
  | txFetchComplete _ _ _ _ => exact execTxFetchComplete_answers _ _ _ _ h
  | windowTimeout _ _ _ => exact execWindowTimeout_answers _ _ _ h
  | laneOutCmd _ _ => exact execLaneOutCmd_answers _ _ h
  | laneReturnCmd _ _ => exact execLaneReturnCmd_answers _ _ h
  | voterStreamEnable _ _ => exact execVoterStreamEnable_answers _ _ h
  | voterStreamDisable _ _ => exact execVoterStreamDisable_answers _ _ h
  | voterStreamClear _ _ => exact execVoterStreamClear_answers _ _ h
  | voterStreamDrainLimit _ => exact execVoterStreamDrainLimit_answers _ h
  | votCntClearGlobal _ => exact execVotCntClearGlobal_answers _ h
  | votCntClearLanes _ => exact execVotCntClearLanes_answers _ h
  | votCntClearStreams _ => exact execVotCntClearStreams_answers _ h
  | bridgeDirectRead _ _ _ _ _ _ => exact execBridgeDirectRead_answers _ _ _ _ _ _ h
  | bridgeDirectWrite _ _ _ _ _ => exact execBridgeDirectWrite_answers _ _ _ _ _ h
  | brgCmdRead _ _ _ _ _ _ _ _ => exact execBrgCmdRead_answers _ _ _ _ _ _ _ _ h
  | brgCmdWrite _ _ _ _ _ _ _ => exact execBrgCmdWrite_answers _ _ _ _ _ _ _ h
  | brgCmdSemAcquire _ _ _ _ => exact execBrgCmdSemAcquire_answers _ _ _ _ h
  | brgCmdSemRelease _ _ _ _ => exact execBrgCmdSemRelease_answers _ _ _ _ h
  | brgRingEnable _ _ _ => exact execBrgRingEnable_answers _ _ _ h
  | exchangeIssue => exact execExchangeIssue_answers h
  | responseMatch _ => exact execResponseMatch_answers _ h
  | exchangeTimeout _ => exact execExchangeTimeout_answers _ h
  | lateLogRelease _ _ _ => exact execLateLogRelease_answers _ _ _ h
  | lateUnfence _ _ _ => exact execLateUnfence_answers _ _ _ h
  | prefetchComplete => exact execPrefetchComplete_answers h
  | semAcquireReg _ _ => exact execSemAcquireReg_answers _ _ h
  | semReleaseReg _ _ => exact execSemReleaseReg_answers _ _ h
  | semLeaseExpiry _ => exact execSemLeaseExpiry_answers _ h
  | windowEnable _ _ => exact execWindowEnable_answers _ _ h
  | windowDisable _ _ => exact execWindowDisable_answers _ _ h
  | windowClearCounters _ _ => exact execWindowClearCounters_answers _ _ h
  | windowDrainLimit _ => exact execWindowDrainLimit_answers _ h
  | brgCntClearGlobal _ => exact execBrgCntClearGlobal_answers _ h
  | brgCntClearWindows _ => exact execBrgCntClearWindows_answers _ h
  | periodBoundary => exact execPeriodBoundary_answers h
  | checkpointLate => exact execCheckpointLate_answers h
  | paceUpdate _ => exact execPaceUpdate_answers _ h
  | nodeEnable _ _ => exact execNodeEnable_answers _ _ h
  | nodeDisable _ _ => exact execNodeDisable_answers _ _ h
  | nodeClearCounters _ _ => exact execNodeClearCounters_answers _ _ h
  | nodeTakeOut _ _ => exact execNodeTakeOut_answers _ _ h
  | nodeReturn _ _ => exact execNodeReturn_answers _ _ h
  | nodeDrainLimit _ => exact execNodeDrainLimit_answers _ h
  | bgtCntClearGlobal _ => exact execBgtCntClearGlobal_answers _ h
  | bgtCntClearNodes _ => exact execBgtCntClearNodes_answers _ h
  | bgtCntClearPace _ => exact execBgtCntClearPace_answers _ h
  | incStage _ _ => exact execIncStage_answers _ _ h
  | incCommit _ _ => exact execIncCommit_answers _ _ h
  | timeStep _ => exact execTimeStep_answers _ h
  | timeSlew _ => exact execTimeSlew_answers _ h
  | timeSet _ => exact execTimeSet_answers _ h
  | slewComplete => exact execSlewComplete_answers h
  | leapArm _ _ => exact execLeapArm_answers _ _ h
  | leapApply => exact execLeapApply_answers h
  | triggerArm _ _ => exact execTriggerArm_answers _ _ h
  | triggerDisarm _ _ => exact execTriggerDisarm_answers _ _ h
  | triggerFire _ => exact execTriggerFire_answers _ h
  | triggerPulseEnd _ => exact execTriggerPulseEnd_answers _ h
  | captureEdge _ _ _ => exact execCaptureEdge_answers _ _ _ h
  | captureRead _ _ => exact execCaptureRead_answers _ _ h
  | departureLogRead _ => exact execDepartureLogRead_answers _ h
  | refclkLost => exact execRefclkLost_answers h
  | refclkReturned => exact execRefclkReturned_answers h
  | holdoverEnd => exact execHoldoverEnd_answers h
  | holdoverLong => exact execHoldoverLong_answers h
  | timCntClearGlobal _ => exact execTimCntClearGlobal_answers _ h
  | timCntClearTriggers _ => exact execTimCntClearTriggers_answers _ h
  | timCntClearCaptures _ => exact execTimCntClearCaptures_answers _ h
  | cdbCycleStart => exact execCdbCycleStart_answers h
  | cdbIdleSegment => exact execCdbIdleSegment_answers h
  | cbFrameEnd _ _ _ _ _ => exact execCbFrameEnd_answers _ _ _ _ _ h
  | cdbSlotTransmit _ _ => exact execCdbSlotTransmit_answers _ _ h
  | listenTimeout => exact execListenTimeout_answers h
  | startupComplete => exact execStartupComplete_answers h
  | integrationComplete => exact execIntegrationComplete_answers h
  | passiveRecovery => exact execPassiveRecovery_answers h
  | passiveTimeout => exact execPassiveTimeout_answers h
  | syncLostTimeout => exact execSyncLostTimeout_answers h
  | channelLost _ => exact execChannelLost_answers _ h
  | engineEnable _ => exact execEngineEnable_answers _ h
  | engineDisable _ => exact execEngineDisable_answers _ h
  | cdbRestart _ => exact execCdbRestart_answers _ h
  | slotClaim _ _ => exact execSlotClaim_answers _ _ h
  | slotRelease _ _ => exact execSlotRelease_answers _ _ h
  | claimConfirmed _ => exact execClaimConfirmed_answers _ h
  | claimBackoffEnd _ => exact execClaimBackoffEnd_answers _ h
  | claimLapse _ => exact execClaimLapse_answers _ h
  | cdbCntClearGlobal _ => exact execCdbCntClearGlobal_answers _ h
  | cdbCntClearNodes _ => exact execCdbCntClearNodes_answers _ h
  | leaseGrant _ _ => exact execLeaseGrant_answers _ _ h
  | leaseWitness _ _ => exact execLeaseWitness_answers _ _ h
  | leaseRevoke _ _ => exact execLeaseRevoke_answers _ _ h
  | grantBecomesCurrent _ => exact execGrantBecomesCurrent_answers _ h
  | grantLapse _ => exact execGrantLapse_answers _ h
  | takeoverComplete _ _ => exact execTakeoverComplete_answers _ _ h
  | relinquishCmd _ => exact execRelinquishCmd_answers _ h
  | joinCmd _ => exact execJoinCmd_answers _ h
  | heartbeatSend => exact execHeartbeatSend_answers h
  | heartbeatReceived _ _ _ _ => exact execHeartbeatReceived_answers _ _ _ _ h
  | mirrorReceived _ _ _ => exact execMirrorReceived_answers _ _ _ h
  | commitLogReceived _ _ => exact execCommitLogReceived_answers _ _ h
  | digestReceived _ _ _ => exact execDigestReceived_answers _ _ _ h
  | divergenceDecide => exact execDivergenceDecide_answers h
  | peatBlockReceived _ _ _ => exact execPeatBlockReceived_answers _ _ _ h
  | peatCommitReceived _ _ _ _ => exact execPeatCommitReceived_answers _ _ _ _ h
  | peatImageCopyDone => exact execPeatImageCopyDone_answers h
  | relinquishReceived _ => exact execRelinquishReceived_answers _ h
  | joinReceived _ => exact execJoinReceived_answers _ h
  | iuCopyReceived _ _ _ => exact execIuCopyReceived_answers _ _ _ h
  | iuPathLost _ => exact execIuPathLost_answers _ h
  | peatStale => exact execPeatStale_answers h
  | redCntClear _ => exact execRedCntClear_answers _ h
  | kvtGenerate _ _ => exact execKvtGenerate_answers _ _ h
  | kvtDerive _ _ _ _ => exact execKvtDerive_answers _ _ _ _ h
  | kvtUnwrap _ _ _ _ => exact execKvtUnwrap_answers _ _ _ _ h
  | kvtLoad _ _ => exact execKvtLoad_answers _ _ h
  | kvtCommit _ _ => exact execKvtCommit_answers _ _ h
  | kvtDiscard _ _ => exact execKvtDiscard_answers _ _ h
  | kvtInvalidate _ _ => exact execKvtInvalidate_answers _ _ h
  | kvtZeroize _ _ => exact execKvtZeroize_answers _ _ h
  | kvtClear _ _ => exact execKvtClear_answers _ _ h
  | kvtWrap _ _ _ => exact execKvtWrap_answers _ _ _ h
  | newRoot _ => exact execNewRoot_answers _ h
  | kcvCheck _ _ _ => exact execKcvCheck_answers _ _ _ h
  | kvtOpComplete _ _ => exact execKvtOpComplete_answers _ _ h
  | orphanSweepDone => exact execOrphanSweepDone_answers h
  | remask => exact execRemask_answers h
  | lifecycleMove _ _ => exact execLifecycleMove_answers _ _ h
  | debugOpen _ _ _ => exact execDebugOpen_answers _ _ _ h
  | tamperDetect _ => exact execTamperDetect_answers _ h
  | tamperStatusClear _ => exact execTamperStatusClear_answers _ h
  | tamperLogClear _ => exact execTamperLogClear_answers _ h
  | kvtCntClear _ => exact execKvtCntClear_answers _ h
  | safetyStart => exact execSafetyStart_answers h
  | safePorstAssert => exact execSafePorstAssert_answers h
  | safeHCycle _ => exact execSafeHCycle_answers _ h
  | safePEvaluate _ => exact execSafePEvaluate_answers _ h
  | odoEdge _ _ _ _ => exact execOdoEdge_answers _ _ _ _ h
  | crosslinkFrameSend _ => exact execCrosslinkFrameSend_answers _ h
  | crosslinkFrameReceived _ _ => exact execCrosslinkFrameReceived_answers _ _ h
  | crosslinkStale _ => exact execCrosslinkStale_answers _ h
  | clockCheck _ => exact execClockCheck_answers _ h
  | safePLockstepFault => exact execSafePLockstepFault_answers h
  | safePWatchdogExpiry => exact execSafePWatchdogExpiry_answers h
  | paramRecheck _ _ => exact execParamRecheck_answers _ _ h
  | testPulseStart _ _ => exact execTestPulseStart_answers _ _ h
  | testPulseEnd _ _ _ => exact execTestPulseEnd_answers _ _ _ h
  | safCntClear _ => exact execSafCntClear_answers _ h
  | porstAssert => exact execPorstAssert_answers h
  | porstRelease => exact execPorstRelease_answers h
  | domainPowerStep => exact execDomainPowerStep_answers h
  | pllLocked => exact execPllLocked_answers h
  | pllLockTimeout => exact execPllLockTimeout_answers h
  | directoryRead => exact execDirectoryRead_answers h
  | sramBistDone _ _ => exact execSramBistDone_answers _ _ h
  | dramTrained _ => exact execDramTrained_answers _ h
  | bodyReadDone _ _ => exact execBodyReadDone_answers _ _ h
  | startComplete => exact execStartComplete_answers h
  | startSettled => exact execStartSettled_answers h
  | startClearCounters _ => exact execStartClearCounters_answers _ h
  | startRestart _ => exact execStartRestart_answers _ h
  | startClearAndRestart _ => exact execStartClearAndRestart_answers _ h
  | secverRaise _ _ => exact execSecverRaise_answers _ _ h
  | stageDelta _ _ => exact execStageDelta_answers _ _ h
  | validateShadows _ => exact execValidateShadows_answers _ h
  | discardShadows _ => exact execDiscardShadows_answers _ h
  | cfgCmdDone => exact execCfgCmdDone_answers h
  | swapGlobal _ => exact execSwapGlobal_answers _ h
  | swapPerRegion _ => exact execSwapPerRegion_answers _ h
  | swapCancel _ => exact execSwapCancel_answers _ h
  | profileStageSwap _ _ => exact execProfileStageSwap_answers _ _ h
  | mergeStart => exact execMergeStart_answers h
  | mergeDone => exact execMergeDone_answers h
  | repairPortOut _ _ => exact execRepairPortOut_answers _ _ h
  | repairPortReturn _ _ => exact execRepairPortReturn_answers _ _ h
  | repairClassifierOut _ _ => exact execRepairClassifierOut_answers _ _ h
  | repairClassifierReturn _ _ => exact execRepairClassifierReturn_answers _ _ h
  | repairPartitionOut _ _ => exact execRepairPartitionOut_answers _ _ h
  | repairPartitionReturn _ _ => exact execRepairPartitionReturn_answers _ _ h
  | repairBankOut _ _ => exact execRepairBankOut_answers _ _ h
  | repairBankReturn _ _ => exact execRepairBankReturn_answers _ _ h
  | bankRemapDone => exact execBankRemapDone_answers h
  | repairMapEngineOut _ _ => exact execRepairMapEngineOut_answers _ _ h
  | repairMapEngineReturn _ _ => exact execRepairMapEngineReturn_answers _ _ h
  | repairSubtreeOut _ _ => exact execRepairSubtreeOut_answers _ _ h
  | repairSubtreeReturn _ _ => exact execRepairSubtreeReturn_answers _ _ h
  | nvmErase _ => exact execNvmErase_answers _ h
  | nvmProgram _ _ => exact execNvmProgram_answers _ _ h
  | nvmRead _ _ => exact execNvmRead_answers _ _ h
  | nvmOpDone _ => exact execNvmOpDone_answers _ h
  | cfgCntClear _ => exact execCfgCntClear_answers _ h
  | watchdogExpiry _ _ => exact execWatchdogExpiry_answers _ _ h
  | errorRecordWrite => exact execErrorRecordWrite_answers h
  | ejClearRecords _ => exact execEjClearRecords_answers _ h
  | ejClearSources _ => exact execEjClearSources_answers _ h
  | ejClearBoth _ => exact execEjClearBoth_answers _ h
  | clearAll _ _ => exact execClearAll_answers _ _ h
  | selftestRequest _ _ _ _ => exact execSelftestRequest_answers _ _ _ _ h
  | selftestSlice _ _ _ _ => exact execSelftestSlice_answers _ _ _ _ h
  | selftestPassComplete _ _ _ => exact execSelftestPassComplete_answers _ _ _ h
  | spareRotation _ => exact execSpareRotation_answers _ h
  | snapshotCmd _ _ => exact execSnapshotCmd_answers _ _ h
  | snapshotDone _ => exact execSnapshotDone_answers _ h
  | scrubLine _ _ _ => exact execScrubLine_answers _ _ _ h
  | tempSample _ => exact execTempSample_answers _ h
  | dgnCntClear _ => exact execDgnCntClear_answers _ h
  | stewardWatchdogExpiry => exact execStewardWatchdogExpiry_answers h
  | stewardLockstepFault => exact execStewardLockstepFault_answers h
  | powerMonitorTrip _ _ _ => exact execPowerMonitorTrip_answers _ _ _ h
  | vbatLowEnd _ => exact execVbatLowEnd_answers _ h
  | readVoutCheck _ _ => exact execReadVoutCheck_answers _ _ h
  | pmbAlert _ => exact execPmbAlert_answers _ h
  | pwrCntClear _ => exact execPwrCntClear_answers _ h
  | sentencePortCharacter _ _ _ _ => exact execSentencePortCharacter_answers _ _ _ _ h
  | copyTransmissionEnd _ => exact execCopyTransmissionEnd_answers _ h
  | peatConfirmationReceived _ _ => exact execPeatConfirmationReceived_answers _ _ h
  | divergenceTestRequestReceived _ _ => exact execDivergenceTestRequestReceived_answers _ _ h
  | safetyRailReturn _ => exact execSafetyRailReturn_answers _ h
  | vbatApplied => exact execVbatApplied_answers h
  | vbatLost => exact execVbatLost_answers h
  | aonPowerLost => exact execAonPowerLost_answers h
  | standbyBistStart => exact execStandbyBistStart_answers h
  | standbyBistDone => exact execStandbyBistDone_answers h
  | moderationIntervalExpiry _ _ _ => exact execModerationIntervalExpiry_answers _ _ _ h
  | receivedPauseExpiry _ => exact execReceivedPauseExpiry_answers _ h
  | brgCompletionTailWrite _ _ _ _ => exact execBrgCompletionTailWrite_answers _ _ _ _ h

end Sys2Proof.Proofs
end

section
/-! SUPPORT. What every step keeps, and the three statements about it. -/

namespace Sys2Proof.Proofs

open Sys2Proof Sys2Proof.Machine Sys2Proof.Laws Sys2Proof.Safety

/-- A step answers with a next state, one command shorter, that keeps what every step keeps. -/
theorem step_answers (s : State) : ∃ t, step s = .next t ∧ Grows { s with pending := s.pending.tail } t := by
  unfold step
  split
  · next c rest hq =>
    rw [hq]
    exact exec_answers c (Grows.refl { s with pending := rest })
  · next hq =>
    refine ⟨idle s, rfl, ?_⟩
    have hsame : { s with pending := s.pending.tail } = s := by rw [hq, List.tail_nil, ← hq]
    rw [hsame]
    exact idle_grows s (Grows.refl s)

theorem grows_of_step {s t : State} (h : step s = .next t) : Grows { s with pending := s.pending.tail } t := by
  obtain ⟨u, hu, hgrow⟩ := step_answers s
  obtain rfl : u = t := Host.Outcome.next.inj (hu.symm.trans h)
  exact hgrow

/-- Settles O50: every operation on a table of words keeps its canonical form, and a step is made of such operations. -/
theorem stepKeepsCanonical : Obligations.StepKeepsCanonical := by
  unfold Obligations.StepKeepsCanonical
  intro s t ⟨hregs, hnvm, hmsix, hpba, hlatch, hmoder⟩ ht
  have hgrow := grows_of_step ht
  exact ⟨hgrow.regs hregs, hgrow.nvm hnvm, hgrow.msix hmsix, hgrow.pba hpba, hgrow.latch hlatch, hgrow.moder hmoder⟩

/-- Settles O51: the queue loses its head, and what each command does to the rest only adds to it. -/
theorem stepGoesOnward : Obligations.StepGoesOnward := by
  unfold Obligations.StepGoesOnward
  intro s t ht
  have hgrow := grows_of_step ht
  exact ⟨hgrow.pending, hgrow.out, hgrow.free, hgrow.secver⟩

theorem run_succ {s t : State} (n : Nat) (h : step s = .next t) : core.run (n + 1) s = core.run n t := by
  have hcore : core.step s = .next t := h
  simp only [Host.Core.run, hcore]

/-- A run of `n` steps ends in a next state, with `n` commands fewer in the queue. -/
theorem run_drops (n : Nat) (s : State) : ∃ t, core.run n s = .next t ∧ t.pending = s.pending.drop n := by
  induction n generalizing s with
  | zero => exact ⟨s, rfl, rfl⟩
  | succ n ih =>
    obtain ⟨u, hu, hgrow⟩ := step_answers s
    obtain ⟨t, ht, hq⟩ := ih u
    exact ⟨t, (run_succ n hu).trans ht, by rw [hq, hgrow.pending, List.drop_tail]⟩

/-- Settles O52: each step of a run answers with a next state and takes one command off the queue. -/
theorem queueDrains : Obligations.QueueDrains := by
  unfold Obligations.QueueDrains
  refine ⟨fun n s => ?_, fun s => ?_⟩
  · obtain ⟨t, ht, -⟩ := run_drops n s
    exact ⟨t, ht⟩
  · obtain ⟨t, ht, hq⟩ := run_drops s.pending.length s
    exact ⟨t, ht, hq.trans List.drop_length⟩

end Sys2Proof.Proofs
end

section
/-! SUPPORT. A vector that falls due while it is masked, and its unmasking (R551). -/

namespace Sys2Proof.Proofs

open Sys2Proof Sys2Proof.Machine Sys2Proof.Laws

theorem raise_of_masked {s : State} {lane vec : Nat} {guard : Bool} (h : bit (msixWord s lane guard vec 3) 0 = true) :
    raise s lane guard vec = { s with pba := tset s.pba (vecKey lane guard vec) true } := if_pos h

theorem raise_of_unmasked {s : State} {lane vec : Nat} {guard : Bool} (h : bit (msixWord s lane guard vec 3) 0 = false) :
    raise s lane guard vec = emit s (.msix lane guard vec) := by
  rw [raise, h]
  rfl

theorem tget_tset {α : Type} [DecidableEq α] [Inhabited α] {t : Tab α} (hwf : tabWf (fun _ => default) t = true) (k : Nat) (v : α) :
    tget (tset t k v) k = v := tgetD_tsetD k v hwf

/-- A masked vector that falls due once or more sets its pending bit and does nothing else. -/
theorem foldl_raise_of_masked {s : State} {lane vec : Nat} {guard : Bool} (h : bit (msixWord s lane guard vec 3) 0 = true)
    (hwf : tabWf (fun _ => default) s.pba = true) (n : Nat) :
    ∃ p, (List.range (n + 1)).foldl (fun s _ => raise s lane guard vec) s = { s with pba := p } ∧
      tabWf (fun _ => default) p = true ∧ tget p (vecKey lane guard vec) = true := by
  induction n with
  | zero => exact ⟨_, raise_of_masked h, tabWf_set _ _ hwf, tget_tset hwf _ _⟩
  | succ n ih =>
    obtain ⟨p, hfold, hp, -⟩ := ih
    refine ⟨tset p (vecKey lane guard vec) true, ?_, tabWf_set _ _ hp, tget_tset hp _ _⟩
    rw [List.range_succ, List.foldl_append, hfold]
    exact raise_of_masked (s := { s with pba := p }) h

/-- The state after MSIX_UNMASK of a vector with nothing pending. -/
def unmasked (s : State) (lane : Nat) (guard : Bool) (vec : Nat) : State :=
  { s with msix := tsetD msixReset s.msix (vecKey lane guard vec * 4 + 3) 0#32 }

theorem exec_msixUnmask_of_pending {s : State} {lane vec : Nat} {guard : Bool} (hvec : vec < 64)
    (hdue : tget s.pba (vecKey lane guard vec) = true) : exec (.msixUnmask (.fn lane guard) vec) s =
      .next (emit { unmasked s lane guard vec with pba := tset s.pba (vecKey lane guard vec) false } (.msix lane guard vec)) := by
  change Host.Outcome.next (if vec < 64 then putMsix s lane guard vec 3 0#32 else s) = _
  rw [if_pos hvec]
  exact congrArg _ (if_pos ⟨rfl, by decide, hdue⟩)

theorem exec_msixUnmask_of_idle {s : State} {lane vec : Nat} {guard : Bool} (hvec : vec < 64)
    (hidle : tget s.pba (vecKey lane guard vec) = false) : exec (.msixUnmask (.fn lane guard) vec) s = .next (unmasked s lane guard vec) := by
  change Host.Outcome.next (if vec < 64 then putMsix s lane guard vec 3 0#32 else s) = _
  rw [if_pos hvec]
  refine congrArg _ (if_neg fun hdue => ?_)
  rw [hidle] at hdue
  exact absurd hdue.2.2 (by decide)

/-- Settles O53: the pending bit does not count, and unmasking sends one message for it. -/
theorem maskedVectorSendsOneMessage : Obligations.MaskedVectorSendsOneMessage := by
  unfold Obligations.MaskedVectorSendsOneMessage
  rintro s lane vec n guard ⟨-, -, hmsix, hpba, -, -⟩ hvec hmask
  refine ⟨fun t ht => ?_, fun hidle => ⟨_, exec_msixUnmask_of_idle hvec hidle, rfl, ?_⟩⟩
  · obtain ⟨p, hfold, hp, hdue⟩ := foldl_raise_of_masked hmask hpba n
    obtain rfl := hfold.symm.trans ht
    exact ⟨rfl, hdue, _, exec_msixUnmask_of_pending hvec hdue, rfl, tget_tset hp _ _⟩
  · have hclear : msixWord (unmasked s lane guard vec) lane guard vec 3 = 0#32 := tgetD_tsetD _ _ hmsix
    rw [raise_of_unmasked (by rw [hclear]; decide)]
    rfl

end Sys2Proof.Proofs
end

section
/-! SUPPORT. What a gated command does where the write takes effect (R545). -/

namespace Sys2Proof.Proofs

open Sys2Proof Sys2Proof.Machine Sys2Proof.Safety

theorem gatedBit_of_allowed {s : State} {r : Req} {off bitNo : Nat} (h : Allowed s r off) (hbit : mayWrite r off bitNo = true)
    (f : State → State) : gatedBit s r off bitNo f = f s := by
  rw [gatedBit, gated_of_allowed h, if_pos hbit]

end Sys2Proof.Proofs
end
section
/-! SUPPORT. Micro-ops that find no open output (R177). -/

namespace Sys2Proof.Proofs

open Sys2Proof Sys2Proof.Machine

theorem onOut_none {r : Run} (h : curOut r = none) (f : Nat → OutBuf → OpRes) : onOut r f = .abort 3 := by
  rw [onOut, h]

end Sys2Proof.Proofs
end
section
/-! SUPPORT. A frame of the inter-unit link that was not seen before (R385, R386). -/

namespace Sys2Proof.Proofs

open Sys2Proof Sys2Proof.Machine

theorem acceptIu_fresh {s : State} {h : IuHead} (hruns : s.dev ≠ .reset) (hlive : s.dev ≠ .haltSafe) (hpath : h.path ≤ 1)
    (hnew : s.red.rxSeqs.contains h.seq = false) (f : State → State) : acceptIu s h f = f (acceptIu s h fun s => s) := by
  have hserved : ¬ (s.dev = .reset ∨ s.dev = .haltSafe ∨ h.path > 1) := by simp [hruns, hlive, hpath]
  have hunseen : ¬ (pathAlive s h.path).rxSeqs.contains h.seq = true := by
    rw [pathAlive_rxSeqs, hnew]
    exact Bool.false_ne_true
  refine (if_neg hserved).trans ((if_neg hunseen).trans (congrArg f (Eq.symm ?_)))
  exact (if_neg hserved).trans (if_neg hunseen)

end Sys2Proof.Proofs
end
section
/-! SUPPORT. The channels of the safety supervisor are 1 (SAFE_H) and 2 (SAFE_P). -/

namespace Sys2Proof.Proofs

theorem not_otherChannel {who : Nat} (h : who = 1 ∨ who = 2) : ¬ (who ≠ 1 ∧ who ≠ 2) := fun ⟨h1, h2⟩ => h.elim h1 h2

end Sys2Proof.Proofs
end

section
/-! Sentence ports (R54 to R57). -/

namespace Sys2Proof.Proofs

open Sys2Proof Sys2Proof.Machine Sys2Proof.Laws Sys2Proof.Safety

theorem rxSettle_of_open {s : State} {n : Nat} (hended : (port s n).rx.ended = none) (hcrEnd : (port s n).rx.crEnd = none) (ch : Byte)
    (t : Nat) : rxSettle s n ch t = s := by
  simp [rxSettle, hended, hcrEnd]

/-- A character on an enabled or draining sentence port whose last sentence has not ended. -/
theorem exec_sentencePortCharacter_of_open {s : State} {n : Nat} (hkind : pkind n = .sp) (hstate : (port s n).state = 1 ∨ (port s n).state = 2)
    (hended : (port s n).rx.ended = none) (hcrEnd : (port s n).rx.crEnd = none) (ch : Byte) (t : Nat) (good : Bool) :
    exec (.sentencePortCharacter n ch t good) s = .next (
      if (port s n).rx.active then (if good then rxMore s n ch t (charEnd s n t) else rxFail s n)
      else if good then rxIdle s n ch t (charEnd s n t) else s) := by
  have htakes : ¬ (pkind n ≠ .sp ∨ ((port s n).state ≠ 1 ∧ (port s n).state ≠ 2)) := by
    rintro (hother | ⟨hne1, hne2⟩)
    · exact hother hkind
    · exact hstate.elim hne1 hne2
  change execSentencePortCharacter n ch t good s = _
  simp only [execSentencePortCharacter, if_neg htakes, rxSettle_of_open hended hcrEnd]

/-- Outside a sentence, a character that begins one in an IEC mode (R54). -/
theorem rxIdle_of_startChar {s : State} {n t : Nat} {ch : Byte} (hstate : (port s n).state = 1) (hmode : spMode s n ≤ 1)
    (hch : ch = 0x24#8 ∨ ch = 0x21#8 ∨ ch = 0x5C#8) (e : Nat) : rxIdle s n ch t e = setPort s n { port s n with
      rx := { (default : Rx) with active := true, chars := [ch], start := t, comp := stampComp s n t, lastEnd := some e, taking := true } } := by
  have hadmits : admits s n t = true := by simp [admits, hstate]
  have hmodes : spMode s n = 0 ∨ spMode s n = 1 := by omega
  rcases hmodes with hzero | hone
  · simp only [rxIdle, hzero, if_pos hch, rxStart, hadmits]
  · simp only [rxIdle, hone, if_pos hch, rxStart, hadmits]

/-- Settles O1: each clause is one branch of the character step, the `StartMatch` and the mode picking it. -/
theorem sentencePortReception : Obligations.SentencePortReception := by
  unfold Obligations.SentencePortReception
  refine ⟨?_, ?_, ?_, ?_, ?_, ?_, ?_⟩
  · intro s n ch t hpkind hstate hspMode hended hcrEnd hactive hch
    rw [exec_sentencePortCharacter_of_open hpkind (.inl hstate) hended hcrEnd, hactive, rxIdle_of_startChar hstate hspMode hch]
    rfl
  · intro s n ch t good hpkind hstate hended hcrEnd
    exact exec_sentencePortCharacter_of_open hpkind hstate hended hcrEnd ch t good
  · intro s n e hended
    change execSpSentenceEnd _ _ = _
    simp [execSpSentenceEnd, hended]
  · intro s n e hlastEnd hspMode hactive
    change execSpGapEnd _ _ = _
    simp [execSpGapEnd, hlastEnd, hspMode, hactive]
  · intro s n hactive htaking hended hcrEnd hfield
    change execCharTimeout n s = _
    simp [execCharTimeout, hactive, hended, hcrEnd, hfield, rxFail, htaking, rxClear]
  · intro s n e hcrEnd hended
    change execCrWaitExpiry _ _ = _
    simp [execCrWaitExpiry, hcrEnd, hended]
  · intro s n hactive
    change execBreakOutsideSentence _ _ = _
    simp [execBreakOutsideSentence, hactive]

end Sys2Proof.Proofs
end

section
/-! CAN and MVB ports. -/

namespace Sys2Proof.Proofs

open Sys2Proof Sys2Proof.Machine Sys2Proof.Laws Sys2Proof.Safety

/-- Settles O2: a frame is judged by its own checks before anything is delivered. -/
theorem fieldbusReception : Obligations.FieldbusReception := by
  unfold Obligations.FieldbusReception
  refine ⟨?_, ?_, ?_, ?_, ?_, ?_, ?_⟩
  · intro s n id ide fd data t e hkind hbusOff hadmits hfd
    have hgood : ¬ ((0 : Nat) ≠ 0 ∨ (fd = true ∧ bit (rd s (Reg.PRT_MODE n)) 0 = false)) := by
      rintro (hne | ⟨hf, hoff⟩)
      · exact hne rfl
      · exact absurd (hfd hf) (by rw [hoff]; decide)
    change execCanFrameEnd n id ide false fd data 0 t e s = _
    simp only [execCanFrameEnd, if_neg hgood]
    simp [hkind, hbusOff, hadmits, b2n]
  · intro s n id ide rtr fd data t e hpkind hbusOff hadmits
    change execCanFrameEnd _ _ _ _ _ _ _ _ _ _ = _
    simp [execCanFrameEnd, hpkind, hbusOff, hadmits]
  · intro s n inFrame hpkind hbusOff
    change execCanBusOff _ _ _ = _
    simp [execCanBusOff, hpkind, hbusOff]
  · intro s n hbusOff hbit
    change execCanBusOffRecovery _ _ = _
    simp [execCanBusOffRecovery, hbusOff, hbit]
  · intro s n addr code b data t e hmaster hcode hkind hadmits hsink hline hsize hfcode
    have hline' : fld (setPort s n { port s n with mvMaster := none }) (Reg.PRT_MODE n) 5 4 = 0 := hline
    change execMvbSlaveFrameEnd n 1 b data t e s = _
    simp only [execMvbSlaveFrameEnd, hmaster, hline']
    simp [mvJudge, hcode, hkind, hadmits, hsink, hsize, hfcode]
  · intro s n addr code hpkind
    change execMvbMasterFrame _ _ _ _ = _
    simp [execMvbMasterFrame, hpkind]
  · intro s n w hkind hbit hgate hpoll hentry hw
    subst hentry
    change execMvbPoll n s = _
    simp [execMvbPoll, hkind, hbit, hgate, not_le.mpr hpoll, hw]

end Sys2Proof.Proofs
end

section
/-! Ethernet reception. -/

namespace Sys2Proof.Proofs

open Sys2Proof Sys2Proof.Machine Sys2Proof.Laws Sys2Proof.Safety

/-- Settles O3: the length and FCS tests come first, the PRP table is read entry by entry. -/
theorem ethernetReception : Obligations.EthernetReception := by
  unfold Obligations.EthernetReception
  refine ⟨?_, ?_, ?_, ?_, ?_⟩
  · intro s n frame t e hisEth hadmits hframe hlength hleAt
    change execEthFrameEnd _ _ _ _ _ = _
    simp [execEthFrameEnd, hisEth, hadmits, not_lt.mpr hframe, not_lt.mpr hlength, hleAt]
  · intro s n frame t e hisEth hadmits hframe hlength hleAt hbeAt htag hbit hmode
    change execEthFrameEnd _ _ _ _ _ = _
    simp [execEthFrameEnd, hisEth, hadmits, not_lt.mpr hframe, not_lt.mpr hlength, hleAt, hbeAt, htag, hbit, hmode]
  · intro s pair mac hused hsince
    change execPrpNodeForget _ _ _ = _
    simp [execPrpNodeForget, hused, hsince]
  · intro s pair mac a b hseenA hseenB hlostA hsince hlimit
    change execPrpPathLost _ _ _ _ = _
    simp [execPrpPathLost, hseenA, hseenB, hlostA, hsince, hlimit]
  · intro s pair mac a b hseenA hseenB hlostB hsince hlimit
    change execPrpPathLost _ _ _ _ = _
    simp [execPrpPathLost, hseenA, hseenB, hlostB, hsince, not_lt.mpr hsince, hlimit, not_le.mpr hlimit]

end Sys2Proof.Proofs
end

section
/-! Service commands of the ingress ports. -/

namespace Sys2Proof.Proofs

open Sys2Proof Sys2Proof.Machine Sys2Proof.Laws Sys2Proof.Safety

/-- A port is configured by its other registers (R554), whatever its control register holds. -/
theorem unconfigured_setFld_ctrl (s : State) (n hi lo v : Nat) : unconfigured (setFld s (Reg.PRT_CTRL n) hi lo v) n = unconfigured s n := by
  have hother : ∀ {x}, x ≠ Reg.PRT_CTRL n → rd (setFld s (Reg.PRT_CTRL n) hi lo v) x = rd s x := fun h => rd_setFld_ne s hi lo v h
  simp (disch := simp [Reg.PRT_CTRL, Reg.PRT_MODE, Reg.PRT_TIMING, Reg.PRT_TIMING2, Reg.PRT_LIMITS, Reg.PRT_SYNC, Reg.PRT_HINT])
    only [unconfigured, List.all_cons, List.all_nil, hother]

/-- Settles O4: each command is its gate, then one update of one port. -/
theorem portServiceCommands : Obligations.PortServiceCommands := by
  unfold Obligations.PortServiceCommands
  refine ⟨?_, ?_, ?_, ?_, ?_, ?_, ?_, ?_, ?_⟩
  · intro s r n hallowed hconfigured hoff hserving
    change execPortEnable r n s = _
    have hclosed : ¬ (unconfigured (setFld s (Reg.PRT_CTRL n) 0 0 1) n = true ∨ (port s n).state = 3 ∨ (port s n).state = 1) := by
      simp [unconfigured_setFld_ctrl, hconfigured, hoff, hserving]
    rw [execPortEnable, gated_of_allowed hallowed]
    exact congrArg _ (if_neg hclosed)
  · intro s r n hallowed hstate
    change execPortDisable r n s = _
    simp [execPortDisable, gated_of_allowed hallowed, portOff, hstate]
  · intro s n hstate hbuf hstaging hactive
    change execPortDrainComplete _ _ = _
    simp [execPortDrainComplete, hstate, hbuf, hstaging, hactive]
  · intro s n hstate hdrainAt
    change execPortDrainLimit _ _ = _
    simp [execPortDrainLimit, hstate, not_lt.mpr hdrainAt]
  · intro s n x rest o hhint hcredit
    change execPortStagingEntry n s = _
    simp only [execPortStagingEntry, hhint, hcredit]
    rfl
  · intro s n x rest o hhint hnohint hcredit
    change execPortStagingEntry n s = _
    simp only [execPortStagingEntry, hhint, hnohint, hcredit]
    rfl
  · intro s r n hallowed hn
    change execPrtCntClearPort _ _ _ = _
    simp [execPrtCntClearPort, gated_of_allowed hallowed, hn]
  · intro s r hallowed
    change execPrtCntClearAll _ _ = _
    simp [execPrtCntClearAll, gated_of_allowed hallowed]
  · intro s tag payload o hstate hisStandby hcredit
    change execStewardSentence _ _ _ = _
    simp [execStewardSentence, hstate, hisStandby, hcredit]

end Sys2Proof.Proofs
end

section
/-! Ethernet links. -/

namespace Sys2Proof.Proofs

open Sys2Proof Sys2Proof.Machine Sys2Proof.Laws Sys2Proof.Safety

/-- Settles O5: each event is one branch on the state of the link. -/
theorem linkEvents : Obligations.LinkEvents := by
  unfold Obligations.LinkEvents
  refine ⟨?_, ?_, ?_, ?_, ?_, ?_⟩
  · intro s n inFrame hisEth hlink
    exact congrArg Host.Outcome.next (if_neg (by simp [hisEth, hlink]))
  · intro s n hisEth hlink hisPrp
    have hpath : ∀ p x, isPrp (setEg (setPort s n p) n x) n = false := fun _ _ => hisPrp
    change execLinkUp n s = _
    simp [execLinkUp, hisEth, hlink, hpath]
    rfl
  · intro s q t hdownSince hdownHeld hfield
    change execLinkDownHoldExpiry _ _ = _
    simp [execLinkDownHoldExpiry, hdownSince, hdownHeld, not_lt.mpr hfield]
  · intro s q ok hverify
    change execPreemptVerifyDone _ _ _ = _
    simp [execPreemptVerifyDone, hverify]
  · intro s n quanta hisEth hlink hbit
    change execPauseFrameReceived _ _ _ = _
    simp [execPauseFrameReceived, hisEth, hlink, hbit]
  · intro s n hpaused
    change execReceivedPauseExpiry _ _ = _
    simp [execReceivedPauseExpiry, hpaused]

end Sys2Proof.Proofs
end

section
/-! Listeners. -/

namespace Sys2Proof.Proofs

open Sys2Proof Sys2Proof.Machine Sys2Proof.Laws Sys2Proof.Safety

/-- Settles O6: each command is its gate, then one branch on the state of the listener. -/
theorem listenerCommands : Obligations.ListenerCommands := by
  unfold Obligations.ListenerCommands
  refine ⟨?_, ?_, ?_, ?_, ?_, ?_, ?_, ?_, ?_, ?_⟩
  · intro s r l hallowed hl
    change execListenerEnable _ _ _ = _
    simp [execListenerEnable, listenerGate, gated_of_allowed hallowed, hl]
  · intro s r l hallowed hl hstate hreplaying hlength
    change execListenerJoin r l s = _
    simp [execListenerJoin, listenerGate, gated_of_allowed hallowed, hl, hstate, hreplaying, not_le.mpr hlength]
    rfl
  · intro s r l hallowed hl hstate
    change execListenerDisable _ _ _ = _
    simp [execListenerDisable, listenerGate, gated_of_allowed hallowed, hl, hstate]
  · intro s r l hallowed hl
    change execListenerLeave _ _ _ = _
    simp [execListenerLeave, listenerGate, gated_of_allowed hallowed, leaveListener, hl]
  · intro s r l hallowed hl
    change execListenerClearCounters _ _ _ = _
    simp [execListenerClearCounters, listenerGate, gated_of_allowed hallowed, hl]
  · intro s l hstate hlistenerPorts
    change execListenerDrainComplete _ _ = _
    simp [execListenerDrainComplete, hstate, hlistenerPorts]
  · intro s l hstate hdrainAt
    change execListenerDrainLimit _ _ = _
    simp [execListenerDrainLimit, hstate, not_lt.mpr hdrainAt]
  · intro s l p hlistener hreplayNext
    change execReplayCopy _ _ = _
    simp [execReplayCopy, hlistener, hreplayNext]
  · intro s l p id hlistener hreplayNext hlsPort hportTakes
    change execReplayCopy l s = _
    have htakes : ¬ (lsPort s l > 104 ∨ portTakes s (lsPort s l) = false) := by simp [not_lt.mpr hlsPort, hportTakes]
    simp only [execReplayCopy, hlistener, hreplayNext]
    exact congrArg _ (if_neg htakes)
  · intro s l p hlistener hmax
    change execReplayLimitExpiry _ _ = _
    simp [execReplayLimitExpiry, hlistener, hmax]

end Sys2Proof.Proofs
end

section
/-! Egress ports. -/

namespace Sys2Proof.Proofs

open Sys2Proof Sys2Proof.Machine Sys2Proof.Laws Sys2Proof.Safety

/-- Settles O7: each command is its gate, then one branch on the state of the port. -/
theorem egressPortCommands : Obligations.EgressPortCommands := by
  unfold Obligations.EgressPortCommands
  refine ⟨?_, ?_, ?_, ?_, ?_, ?_⟩
  · intro s r q hallowed hbit hq hstate hstate2
    change execEgressPortEnable _ _ _ = _
    simp [execEgressPortEnable, gatedBit_of_allowed hallowed hbit, egOn, not_lt.mpr hq, hstate, hstate2]
  · intro s r q hallowed hbit hq hstate
    change execEgressPortDisable _ _ _ = _
    simp [execEgressPortDisable, gatedBit_of_allowed hallowed hbit, egOff, not_lt.mpr hq, hstate]
  · intro s q hstate hcopiesAt
    change execEgressPortDrainComplete _ _ = _
    simp [execEgressPortDrainComplete, hstate, hcopiesAt]
  · intro s q hstate hdrainAt
    change execEgressPortDrainLimit _ _ = _
    simp [execEgressPortDrainLimit, hstate, not_lt.mpr hdrainAt]
  · intro s r hallowed
    change execEgrCntClearGlobal _ _ = _
    simp [execEgrCntClearGlobal, gated_of_allowed hallowed]
  · intro s r hallowed
    change execEgrCntClearPorts _ _ = _
    simp [execEgrCntClearPorts, gated_of_allowed hallowed]

end Sys2Proof.Proofs
end

section
/-! The classifier. -/

namespace Sys2Proof.Proofs

open Sys2Proof Sys2Proof.Machine Sys2Proof.Laws Sys2Proof.Safety

/-- Settles O8: the outcome of the index lookup decides the branch. -/
theorem classifierCommands : Obligations.ClassifierCommands := by
  unfold Obligations.ClassifierCommands
  refine ⟨?_, ?_, ?_, ?_, ?_, ?_, ?_⟩
  · intro s n e id x rest t1 hengineOf hstaging hkey hadmitSent
    change execClassify _ _ = _
    simp [execClassify, hengineOf, hstaging, hkey, hadmitSent]
  · intro s n e x rest hengineOf hstaging hkey
    change execClassify _ _ = _
    simp [execClassify, hengineOf, hstaging, hkey]
  · intro s m rest id t1 hmisses hkey hadmitSent
    change execWildcardSearch _ = _
    simp [execWildcardSearch, hmisses, hkey, hadmitSent]
  · intro s m rest hmisses hkey hunbound
    change execWildcardSearch _ = _
    simp [execWildcardSearch, hmisses, hkey, hunbound]
  · intro s p ix hisNone hid
    change execInsertionComplete _ = _
    simp [execInsertionComplete, hisNone, hid]
  · intro s id haging hbeforeCommit
    change execLearnedEntryEmpty _ _ = _
    simp [execLearnedEntryEmpty, emptyLearned, haging, hbeforeCommit]
  · intro s hlastSec
    change execWholeSecond _ = _
    simp [execWholeSecond, not_le.mpr hlastSec]

end Sys2Proof.Proofs
end

section
/-! Stream commands. -/

namespace Sys2Proof.Proofs

open Sys2Proof Sys2Proof.Machine Sys2Proof.Laws Sys2Proof.Safety

/-- Settles O9: each command is its gate, then one branch on the state of the stream. -/
theorem streamCommands : Obligations.StreamCommands := by
  unfold Obligations.StreamCommands
  refine ⟨?_, ?_, ?_, ?_, ?_, ?_, ?_, ?_, ?_, ?_, ?_, ?_, ?_⟩
  · intro s r id g hallowed hentry haging
    change execStreamAdmit _ _ _ = _
    simp [execStreamAdmit, verdictGate, gated_of_allowed hallowed, hentry, haging]
  · intro s r id g hallowed hentry haging
    change execStreamReject _ _ _ = _
    simp [execStreamReject, verdictGate, gated_of_allowed hallowed, hentry, haging]
  · intro s r id g hallowed hentry haging
    change execStreamRelease _ _ _ = _
    simp [execStreamRelease, verdictGate, gated_of_allowed hallowed, ageLearned, hentry, haging]
  · intro s r id hallowed hr hbyteAt hid hid2 hstrmCfg hpartServes haging hstate
    change execStreamEnable _ _ _ = _
    simp [execStreamEnable, streamGate, gated_of_allowed hallowed, hr, hbyteAt, hid, not_lt.mpr hid2, hstrmCfg, hpartServes, haging, hstate]
  · intro s r id hallowed hr hbyteAt hid hid2 hstrmCfg hpartServes hstate
    change execStreamDisable _ _ _ = _
    simp [execStreamDisable, streamGate, gated_of_allowed hallowed, hr, hbyteAt, hid, not_lt.mpr hid2, hstrmCfg, hpartServes, hstate]
  · intro s r id hallowed hr hbyteAt hid hid2
    change execStreamClearCounters _ _ _ = _
    simp [execStreamClearCounters, streamGate, gated_of_allowed hallowed, hr, hbyteAt, hid, not_lt.mpr hid2]
  · intro s r id hallowed hr hbyteAt hid hid2
    change execStreamClearLastValue _ _ _ = _
    simp [execStreamClearLastValue, streamGate, gated_of_allowed hallowed, clearLast, hr, hbyteAt, hid, not_lt.mpr hid2]
  · intro s id hstate haging hbeforeDispatch
    change execStreamDrainComplete _ _ = _
    simp [execStreamDrainComplete, hstate, haging, hbeforeDispatch]
  · intro s id hstate hdrainAt haging
    change execStreamDrainLimit _ _ = _
    simp [execStreamDrainLimit, hstate, not_lt.mpr hdrainAt, haging]
  · intro s x rest hlvcQueue
    change execLvcWrite _ = _
    simp [execLvcWrite, hlvcQueue]
    rfl
  · intro s r hallowed
    change execStbCntClearGlobal _ _ = _
    simp [execStbCntClearGlobal, gated_of_allowed hallowed]
  · intro s r hallowed
    change execStbCntClearRules _ _ = _
    simp [execStbCntClearRules, gated_of_allowed hallowed]
  · intro s r hallowed
    change execStbCntClearStreams _ _ = _
    simp [execStbCntClearStreams, gated_of_allowed hallowed]

end Sys2Proof.Proofs
end

section
/-! Filters, the bog and source groups. -/

namespace Sys2Proof.Proofs

open Sys2Proof Sys2Proof.Machine Sys2Proof.Laws Sys2Proof.Safety

/-- Settles O10: each command is its gate, then one branch. -/
theorem filterCommands : Obligations.FilterCommands := by
  unfold Obligations.FilterCommands
  refine ⟨?_, ?_, ?_, ?_, ?_, ?_, ?_, ?_, ?_, ?_⟩
  · intro s x rest o hstream hcredit
    change execFilterEvaluate _ = _
    simp [execFilterEvaluate, hstream, hcredit]
  · intro s x rest o hstream htakeFirst hcredit
    change execFilterEvaluate _ = _
    simp [execFilterEvaluate, hstream, htakeFirst, hcredit]
  · intro s e rest hintake hthawed hfits
    have hbit : bit (rd { s with flt := { s.flt with bogIntake := rest } } Reg.FLT_BOG_CTRL) 0 = false := hthawed
    have hroom : ¬ s.flt.bogPtr + min e.length (fld { s with flt := { s.flt with bogIntake := rest } } Reg.FLT_BOG_CTRL 27 16) > 65536 :=
      not_lt.mpr hfits
    obtain ⟨t, ht⟩ : ∃ t, exec .bogWrite s = .next t := ⟨_, rfl⟩
    refine ⟨t, ht, ?_⟩
    change execBogWrite s = _ at ht
    simp only [execBogWrite, hintake, hbit, Bool.false_eq_true, if_false, if_neg hroom] at ht
    cases ht
    exact ⟨rfl, rfl, rfl, rfl, rfl⟩
  · intro s r g m hallowed hg hg2 hm
    change execSourceForce _ _ _ _ = _
    simp [execSourceForce, gated_of_allowed hallowed, hg, not_lt.mpr hg2, not_lt.mpr hm]
  · intro s r g hallowed hg hg2
    change execSourceRelease _ _ _ = _
    simp [execSourceRelease, gated_of_allowed hallowed, hg, not_lt.mpr hg2]
  · intro s r hallowed
    change execFltCntClearCounters _ _ = _
    simp [execFltCntClearCounters, gated_of_allowed hallowed]
  · intro s r hallowed hreqGuard
    change execFltCntClearBog _ _ = _
    simp [execFltCntClearBog, gated_of_allowed hallowed, hreqGuard]
  · intro s user ident huser huser2
    change execKvtOpComplete _ _ _ = _
    simp [execKvtOpComplete, huser, huser2]
  · intro s ident
    change execKvtOpComplete _ _ _ = _
    simp [execKvtOpComplete]
  · intro s c hcmd
    change execKvtOpComplete _ _ _ = _
    simp [execKvtOpComplete, hcmd]

end Sys2Proof.Proofs
end

section
/-! Micro-ops that load. -/

namespace Sys2Proof.Proofs

open Sys2Proof Sys2Proof.Machine Sys2Proof.Laws Sys2Proof.Safety

/-- Settles O11: `stepOp_at` reduces each step to the micro-op under the program counter. -/
theorem mapperLoads : Obligations.MapperLoads := by
  unfold Obligations.MapperLoads
  refine ⟨?_, ?_, ?_, ?_, ?_, ?_, ?_, ?_, ?_, ?_, ?_⟩
  · intro s e w first r hat
    change execOpLdc _ _ = _
    simp [execOpLdc, stepOp_at hat]
  · intro s e w first r hat
    change execOpLds _ _ = _
    simp [execOpLds, stepOp_at hat]
  · intro s e w first r hat
    change execOpLdb _ _ = _
    simp [execOpLdb, stepOp_at hat]
  · intro s e w first r hat
    change execOpLdt _ _ = _
    simp [execOpLdt, stepOp_at hat]
  · intro s e w first r hat
    change execOpLdtm _ _ = _
    simp [execOpLdtm, stepOp_at hat]
  · intro s e w first r hat
    change execOpLdch _ _ = _
    simp [execOpLdch, stepOp_at hat]
  · intro s e w first r hat hlvStream
    change execOpLdv _ _ = _
    simp [execOpLdv, stepOp_at hat, hlvStream]
  · intro s e w first r p hat hlvStream hsnap
    change execOpLdv _ _ = _
    simp [execOpLdv, stepOp_at hat, hlvStream, hsnap]
  · intro s e w first r p hat hlvStream hsnap
    change execOpLva _ _ = _
    simp [execOpLva, stepOp_at hat, hlvStream, hsnap]
  · intro s e w first r m r2 hat hfreshMember
    change execOpSrcl e s = _
    simp [execOpSrcl, stepOp_at hat, hfreshMember, setReg]
  · intro s e w first r r2 hat hfreshMember
    change execOpSrcl e s = _
    simp [execOpSrcl, stepOp_at hat, hfreshMember, setReg]

end Sys2Proof.Proofs
end

section
/-! Micro-ops that compute. -/

namespace Sys2Proof.Proofs

open Sys2Proof Sys2Proof.Machine Sys2Proof.Laws Sys2Proof.Safety

/-- Settles O12: `stepOp_at` reduces each step to the micro-op under the program counter. -/
theorem mapperArithmetic : Obligations.MapperArithmetic := by
  unfold Obligations.MapperArithmetic
  refine ⟨?_, ?_, ?_, ?_, ?_, ?_, ?_, ?_, ?_, ?_, ?_⟩
  · intro s e w first r hat
    change execOpMov _ _ = _
    simp [execOpMov, stepOp_at hat]
  · intro s e w first r hat
    change execOpAdd _ _ = _
    simp [execOpAdd, stepOp_at hat]
  · intro s e w first r hat
    change execOpSub _ _ = _
    simp [execOpSub, stepOp_at hat]
  · intro s e w first r hat
    change execOpAddi _ _ = _
    simp [execOpAddi, stepOp_at hat]
  · intro s e w first r hat
    change execOpMul _ _ = _
    simp [execOpMul, stepOp_at hat]
  · intro s e w first r hat hreg
    change execOpDiv _ _ = _
    simp [execOpDiv, stepOp_at hat, hreg]
  · intro s e w first r hat
    change execOpScale _ _ = _
    simp [execOpScale, stepOp_at hat]
  · intro s e w first r hat
    change execOpMin _ _ = _
    simp [execOpMin, stepOp_at hat]
  · intro s e w first r hat
    change execOpMax _ _ = _
    simp [execOpMax, stepOp_at hat]
  · intro s e w first r hat
    change execOpAbs _ _ = _
    simp [execOpAbs, stepOp_at hat]
  · intro s e w first r hat
    change execOpNeg _ _ = _
    simp [execOpNeg, stepOp_at hat]

end Sys2Proof.Proofs
end

section
/-! Micro-ops on bits, ranges and tables. -/

namespace Sys2Proof.Proofs

open Sys2Proof Sys2Proof.Machine Sys2Proof.Laws Sys2Proof.Safety

/-- Settles O13: `stepOp_at` reduces each step to the micro-op under the program counter. -/
theorem mapperLogic : Obligations.MapperLogic := by
  unfold Obligations.MapperLogic
  refine ⟨?_, ?_, ?_, ?_, ?_, ?_, ?_, ?_, ?_, ?_⟩
  · intro s e w first r hat
    change execOpAnd _ _ = _
    simp [execOpAnd, stepOp_at hat]
  · intro s e w first r hat
    change execOpOr _ _ = _
    simp [execOpOr, stepOp_at hat]
  · intro s e w first r hat
    change execOpXor _ _ = _
    simp [execOpXor, stepOp_at hat]
  · intro s e w first r hat
    change execOpAndi _ _ = _
    simp [execOpAndi, stepOp_at hat]
  · intro s e w first r hat
    change execOpOri _ _ = _
    simp [execOpOri, stepOp_at hat]
  · intro s e w first r hat
    change execOpEqi _ _ = _
    simp [execOpEqi, stepOp_at hat]
  · intro s e w first r hat hsext hreg
    change execOpRchk _ _ = _
    simp [execOpRchk, stepOp_at hat, hsext, hreg]
  · intro s e w first r hat hsext
    change execOpRchk e s = _
    cases htrap : opBit w 48 <;> simp [execOpRchk, stepOp_at hat, hsext, htrap]
  · intro s e w first r below hat hbelow houtside hclamp
    change execOpInterp e s = _
    cases below with
    | true => simp [execOpInterp, stepOp_at hat, of_decide_eq_true hbelow, hclamp]
    | false =>
      have habove := of_decide_eq_true (houtside.resolve_left Bool.false_ne_true)
      simp [execOpInterp, stepOp_at hat, of_decide_eq_false hbelow, habove, hclamp]
  · intro s e w first r hat hlow hhigh
    change execOpInterp e s = _
    simp [execOpInterp, stepOp_at hat, not_lt.mpr hlow, not_lt.mpr hhigh.le, hhigh.ne]

end Sys2Proof.Proofs
end

section
/-! Micro-ops that build outputs. -/

namespace Sys2Proof.Proofs

open Sys2Proof Sys2Proof.Machine Sys2Proof.Laws Sys2Proof.Safety

/-- Settles O14: `stepOp_at` finds the micro-op, `onOut_cur` the output it works on. -/
theorem mapperOutputs : Obligations.MapperOutputs := by
  unfold Obligations.MapperOutputs
  refine ⟨?_, ?_, ?_, ?_, ?_, ?_, ?_, ?_, ?_, ?_, ?_, ?_, ?_⟩
  · intro s e w first r hat
    change execOpNewo e s = _
    simp [execOpNewo, stepOp_at hat, setOut]
  · intro s e w first r hat
    change execOpSelo _ _ = _
    simp [execOpSelo, stepOp_at hat]
  · intro s e w first r o b hat hcurOut hfits
    change execOpCpy e s = _
    simp [execOpCpy, stepOp_at hat, onOut_cur hcurOut, not_lt.mpr hfits, setOut]
  · intro s e w first r o b hat hcurOut hfits
    change execOpStb e s = _
    simp [execOpStb, stepOp_at hat, onOut_cur hcurOut, not_lt.mpr hfits]
  · intro s e w first r o b hat hcurOut hopBit habs
    change execOpStt _ _ = _
    simp [execOpStt, stepOp_at hat, onOut_cur hcurOut, hopBit, habs]
  · intro s e w first r o b hat hcurOut hopBit
    change execOpStt _ _ = _
    simp [execOpStt, stepOp_at hat, onOut_cur hcurOut, hopBit]
  · intro s e w first r o b hat hcurOut hlow hhigh
    change execOpStm e s = _
    simp [execOpStm, stepOp_at hat, onOut_cur hcurOut, not_lt.mpr hlow, not_lt.mpr hhigh]
  · intro s e w first r o b hat hcurOut
    change execOpApc _ _ = _
    simp [execOpApc, stepOp_at hat, onOut_cur hcurOut]
  · intro s e w first r o b f hat hcurOut hrunText
    change execOpApf _ _ = _
    simp [execOpApf, stepOp_at hat, onOut_cur hcurOut, hrunText]
  · intro s e w first r o b hat hcurOut hrunText
    change execOpApf _ _ = _
    simp [execOpApf, stepOp_at hat, onOut_cur hcurOut, hrunText]
  · intro s e w first r o b hat hcurOut hnbits
    change execOpCsum _ _ = _
    simp [execOpCsum, stepOp_at hat, onOut_cur hcurOut, hnbits]
  · intro s e w first r o b fin code hat hcurOut hkind hfin hcode hrange hplace hapart
    subst hfin hcode
    change execOpCsum e s = _
    simp [execOpCsum, stepOp_at hat, onOut_cur hcurOut, hkind, not_lt.mpr hrange, not_lt.mpr hplace, hapart, setOut]
  · intro s e w first r o b hat hcurOut hmarks hfits
    change execOpStmk e s = _
    simp [execOpStmk, stepOp_at hat, onOut_cur hcurOut, not_le.mpr hmarks, not_lt.mpr hfits, setOut]

end Sys2Proof.Proofs
end

section
/-! Micro-ops that abort their run (R177). -/

namespace Sys2Proof.Proofs

open Sys2Proof Sys2Proof.Machine Sys2Proof.Laws Sys2Proof.Safety

/-- Settles O15: `stepOp_at` finds the micro-op, `onOut_none` that no output is open. -/
theorem mapperTraps : Obligations.MapperTraps := by
  unfold Obligations.MapperTraps
  refine ⟨?_, ?_, ?_, ?_, ?_, ?_, ?_, ?_, ?_, ?_, ?_, ?_, ?_, ?_, ?_⟩
  · intro s e w first r hat hreg
    change execOpDiv _ _ = _
    simp [execOpDiv, stepOp_at hat, hreg]
  · intro s e w first r o b hat hcurOut hlength
    change execOpCpy _ _ = _
    simp [execOpCpy, stepOp_at hat, onOut_cur hcurOut, hlength]
  · intro s e w first r o b hat hcurOut hlength
    change execOpStb _ _ = _
    simp [execOpStb, stepOp_at hat, onOut_cur hcurOut, hlength]
  · intro s e w first r hat hcurOut
    change execOpCpy _ _ = _
    simp [execOpCpy, stepOp_at hat, onOut_none hcurOut]
  · intro s e w first r hat hcurOut
    change execOpStb _ _ = _
    simp [execOpStb, stepOp_at hat, onOut_none hcurOut]
  · intro s e w first r hat hcurOut
    change execOpStt _ _ = _
    simp [execOpStt, stepOp_at hat, onOut_none hcurOut]
  · intro s e w first r hat hcurOut
    change execOpStm _ _ = _
    simp [execOpStm, stepOp_at hat, onOut_none hcurOut]
  · intro s e w first r hat hcurOut
    change execOpApc _ _ = _
    simp [execOpApc, stepOp_at hat, onOut_none hcurOut]
  · intro s e w first r hat hcurOut
    change execOpApf _ _ = _
    simp [execOpApf, stepOp_at hat, onOut_none hcurOut]
  · intro s e w first r hat hcurOut
    change execOpCsum _ _ = _
    simp [execOpCsum, stepOp_at hat, onOut_none hcurOut]
  · intro s e w first r hat hcurOut
    change execOpStmk _ _ = _
    simp [execOpStmk, stepOp_at hat, onOut_none hcurOut]
  · intro s e w first r hat hlvStream hsnap
    change execOpLdv _ _ = _
    simp [execOpLdv, stepOp_at hat, hlvStream, hsnap]
  · intro s e w first r hat hlvStream hsnap
    change execOpLva _ _ = _
    simp [execOpLva, stepOp_at hat, hlvStream, hsnap]
  · intro s e w first r o b hat hcurOut hlength
    change execOpStmk _ _ = _
    simp [execOpStmk, stepOp_at hat, onOut_cur hcurOut, hlength]
  · intro s e w first r o b hat hcurOut hreg
    change execOpStm _ _ = _
    simp [execOpStm, stepOp_at hat, onOut_cur hcurOut, hreg]

end Sys2Proof.Proofs
end

section
/-! Dispatch, start and end of runs. -/

namespace Sys2Proof.Proofs

open Sys2Proof Sys2Proof.Machine Sys2Proof.Laws Sys2Proof.Safety

/-- Settles O16: the sources of a run are tried in the order of the spec, and the hypotheses pick one. -/
theorem mapperRunControl : Obligations.MapperRunControl := by
  unfold Obligations.MapperRunControl
  refine ⟨?_, ?_, ?_, ?_, ?_, ?_, ?_, ?_, ?_, ?_, ?_, ?_, ?_, ?_⟩
  · intro s t htry
    change Host.Outcome.next (Option.getD (Option.orElse (Option.orElse (tryCyc s true) fun _ => tryFiltered s true) fun _ => _) s) = _
    rw [htry]
    rfl
  · intro s t hzero hblocked hother
    change Host.Outcome.next (Option.getD (Option.orElse (Option.orElse (tryCyc s true) fun _ => tryFiltered s true) fun _ => _) s) = _
    rw [hzero, hblocked]
    exact congrArg (fun o => Host.Outcome.next (Option.getD o s)) hother
  · intro s e x rest hrange hstate hengine hsh hnone hfirst
    change execMapRunStart e false s = _
    simp only [execMapRunStart, startRun, hstate, hengine, hsh, hnone, hfirst, not_lt.mpr hrange]
    rfl
  · intro s e x rest hrange hstate hengine hsh hready hfirst
    change execMapRunStart e true s = _
    simp only [execMapRunStart, pauseShared, startRun, hstate, hengine, hsh, hready, hfirst, not_lt.mpr hrange]
    rfl
  · intro s e t0 r hrange hstate hengine hsh hended hwaiting hsince hready
    change execClass0Preempt e s = _
    simp [execClass0Preempt, pauseShared, hstate, hengine, hsh, hended, hwaiting, hsince, hready, not_lt.mpr hrange]
  · intro s e w first r hat
    change execOpEnd e s = _
    rw [execOpEnd, stepOp_at hat]
    rfl
  · intro s e w first r hat
    change execOpDrop e s = _
    rw [execOpDrop, stepOp_at hat]
    rfl
  · intro s e w first r hat
    change execOpSkip e s = _
    rw [execOpSkip, stepOp_at hat, applyOp_go]
    split <;> rfl
  · intro s e r hctx hended hsince hmeteredTime
    change execMapOvertime _ _ = _
    simp [execMapOvertime, hctx, hended, hsince, hmeteredTime]
  · intro s e r hctx hctx2 hended hsince hmeteredTime
    change execMapOvertime _ _ = _
    simp [execMapOvertime, hctx, hctx2, hended, hsince, hmeteredTime]
  · intro s e first g q hended hgroup
    change execCommitGroupHandover _ _ _ = _
    simp [execCommitGroupHandover, hended, hgroup]
  · intro s e id r p hctx hwaiting hsnap
    change execLdvDramReadComplete e s = _
    simp only [execLdvDramReadComplete, hctx, hwaiting, Option.map_some, Option.getD_some, hsnap]
  · intro s x rest t hholds hpolicy hcredit hheld hgap
    change Host.Outcome.next (holdExpiry s) = _
    simp [holdExpiry, takeFirst, hholds, hpolicy, hcredit, hheld, hgap]
  · intro s q c rest t hwaiting hpolicy hcredit hheld hgap
    change Host.Outcome.next (copyExpiry s q) = _
    simp [copyExpiry, takeCopy, takeFirst, hwaiting, hpolicy, hcredit, hheld, hgap]

end Sys2Proof.Proofs
end

section
/-! Engines, programs and cyclic slots. -/

namespace Sys2Proof.Proofs

open Sys2Proof Sys2Proof.Machine Sys2Proof.Laws Sys2Proof.Safety

/-- Settles O17: each command is its gate, then one branch on the state of what it names. -/
theorem mapperService : Obligations.MapperService := by
  unfold Obligations.MapperService
  refine ⟨?_, ?_, ?_, ?_, ?_, ?_, ?_, ?_, ?_, ?_, ?_, ?_, ?_, ?_, ?_⟩
  · intro s r e hallowed he hengServes henginesServing
    change execMapEngineTakeOut _ _ _ = _
    simp [execMapEngineTakeOut, gated_of_allowed hallowed, engineOut, not_lt.mpr he, hengServes, not_le.mpr henginesServing]
  · intro s r e hallowed he hstate hemptying
    change execMapEngineReturn _ _ _ = _
    simp [execMapEngineReturn, gated_of_allowed hallowed, engineBack, not_lt.mpr he, hstate, hemptying]
  · intro s r e hallowed he hstate
    change execMapEngineReturn _ _ _ = _
    simp [execMapEngineReturn, gated_of_allowed hallowed, engineBack, not_lt.mpr he, hstate]
  · intro s e hemptying hqueue hengine hsh
    change execMapEngineEmptied _ _ = _
    simp [execMapEngineEmptied, hemptying, hqueue, hengine, hsh]
  · intro s r p hallowed hp hp2 hprogLen hr hstate
    change execProgEnable _ _ _ = _
    simp [execProgEnable, progGate, gated_of_allowed hallowed, hp, not_lt.mpr hp2, hprogLen, hr, hstate]
  · intro s r p hallowed hp hp2 hprogLen hr hstate
    change execProgEnable _ _ _ = _
    simp [execProgEnable, progGate, gated_of_allowed hallowed, hp, not_lt.mpr hp2, hprogLen, hr, hstate]
  · intro s r p hallowed hp hp2 hprogLen hr hstate
    change execProgDisable r p s = _
    simp [execProgDisable, progGate, gated_of_allowed hallowed, hp, not_lt.mpr hp2, hprogLen, hr, hstate, apply_ite (setProg s p)]
  · intro s r p hallowed hp hp2 hprogLen hr
    change execProgClearCounters _ _ _ = _
    simp [execProgClearCounters, progGate, gated_of_allowed hallowed, hp, not_lt.mpr hp2, hprogLen, hr]
  · intro s p hstate hprogBusy
    change execProgDrainComplete _ _ = _
    simp [execProgDrainComplete, hstate, hprogBusy]
  · intro s p hstate hdrainAt
    change execProgDrainLimit _ _ = _
    simp [execProgDrainLimit, hstate, not_lt.mpr hdrainAt]
  · intro s r i hallowed hi hr
    change execCycEnable _ _ _ = _
    simp [execCycEnable, cycGate, gated_of_allowed hallowed, not_lt.mpr hi, hr]
  · intro s r i hallowed hi hr
    change execCycDisable _ _ _ = _
    simp [execCycDisable, cycGate, gated_of_allowed hallowed, not_lt.mpr hi, hr]
  · intro s r i hallowed hi hr
    change execCycClearOverlap _ _ _ = _
    simp [execCycClearOverlap, cycGate, gated_of_allowed hallowed, not_lt.mpr hi, hr]
  · intro s r hallowed
    change execMapCntClearGlobal _ _ = _
    simp [execMapCntClearGlobal, gated_of_allowed hallowed]
  · intro s r hallowed
    change execMapCntClearPrograms _ _ = _
    simp [execMapCntClearPrograms, gated_of_allowed hallowed]

end Sys2Proof.Proofs
end

section
/-! Commit, replication, scheduling, transmission. -/

namespace Sys2Proof.Proofs

open Sys2Proof Sys2Proof.Machine Sys2Proof.Laws Sys2Proof.Safety

/-- Settles O18: the queues are searched in the order of the spec, and the hypotheses pick the entry. -/
theorem commitAndEgress : Obligations.CommitAndEgress := by
  unfold Obligations.CommitAndEgress
  refine ⟨?_, ?_, ?_, ?_, ?_, ?_, ?_, ?_, ?_⟩
  · intro s x q hshadowing hnextCommit
    change execCommit s = _
    simp only [execCommit, hshadowing, commitNext, hnextCommit]
    rfl
  · intro s e rest x q hshadowing hlog hnamed hgen
    change execCommit s = _
    simp only [execCommit, hshadowing, commitLogged, hlog, hnamed, hgen, ↓reduceIte]
  · intro s x rest hreplicate
    change execReplicate _ = _
    simp [execReplicate, hreplicate]
  · intro s q hq hnone hsome
    obtain ⟨t, ht⟩ := Option.isSome_iff_exists.mp hsome
    refine ⟨t, ?_, ht⟩
    change execEgressSchedule q s = _
    rw [execEgressSchedule, if_neg (not_lt.mpr hq), scheduleOne, hnone]
    cases hzero : tryZero s q <;> simp_all
  · intro s q c rest hq hmayStart hcur htakeFirst
    change execCopyStart _ _ = _
    simp [execCopyStart, not_lt.mpr hq, hmayStart, hcur, htakeFirst]
  · intro s q c hcur hsealOp
    change execCopyTransmissionEnd _ _ = _
    simp [execCopyTransmissionEnd, endCur, hcur, hsealOp]
  · intro s q id tag c o hcur hsealOp hop hgood htwin
    change execSealTagComplete q s = _
    simp only [execSealTagComplete, hcur, hsealOp, hop, hgood, htwin]
    rfl
  · intro s q c hpkind hcur
    change execCanArbitrationLost _ _ = _
    simp [execCanArbitrationLost, hpkind, hcur]
  · intro s q t c rest hpkind hqueue hfirstTry hperiodUnits
    change execCanArbitrationTimeout _ _ = _
    simp [execCanArbitrationTimeout, hpkind, hqueue, hfirstTry, hperiodUnits]

end Sys2Proof.Proofs
end

section
/-! Budget nodes and pace. -/

namespace Sys2Proof.Proofs

open Sys2Proof Sys2Proof.Machine Sys2Proof.Laws Sys2Proof.Safety

/-- Settles O19: each command is its gate, then one update of the node. -/
theorem budgetCommands : Obligations.BudgetCommands := by
  unfold Obligations.BudgetCommands
  refine ⟨?_, ?_, ?_, ?_, ?_, ?_, ?_, ?_, ?_, ?_⟩
  · intro s r n hallowed hn hn2 hndUsed hr
    change execNodeEnable _ _ _ = _
    simp [execNodeEnable, nodeGate, gated_of_allowed hallowed, hn, not_lt.mpr hn2, hndUsed, hr]
  · intro s r n hallowed hn hn2 hndUsed hr hstate
    change execNodeDisable _ _ _ = _
    simp [execNodeDisable, nodeGate, gated_of_allowed hallowed, hn, not_lt.mpr hn2, hndUsed, hr, hstate]
  · intro s r n hallowed hn hn2 hndUsed hr
    change execNodeClearCounters _ _ _ = _
    simp [execNodeClearCounters, nodeGate, gated_of_allowed hallowed, hn, not_lt.mpr hn2, hndUsed, hr]
    rfl
  · intro s r n hallowed hn hn2 hndUsed hr
    change execNodeTakeOut _ _ _ = _
    simp [execNodeTakeOut, nodeGate, gated_of_allowed hallowed, nodeOut, hn, not_lt.mpr hn2, hndUsed, hr]
  · intro s r n hallowed hn hn2 hndUsed hr hout
    change execNodeReturn _ _ _ = _
    simp [execNodeReturn, nodeGate, gated_of_allowed hallowed, nodeReturn, hn, not_lt.mpr hn2, hndUsed, hr, hout]
  · intro s n hstate hdrainAt
    change execNodeDrainLimit _ _ = _
    simp [execNodeDrainLimit, hstate, not_lt.mpr hdrainAt]
  · intro s laps
    change execPaceUpdate _ _ = _
    simp [execPaceUpdate]
  · intro s r hallowed
    change execBgtCntClearGlobal _ _ = _
    simp [execBgtCntClearGlobal, gated_of_allowed hallowed]
  · intro s r hallowed
    change execBgtCntClearNodes _ _ = _
    simp [execBgtCntClearNodes, gated_of_allowed hallowed]
    rfl
  · intro s r hallowed
    change execBgtCntClearPace _ _ = _
    simp [execBgtCntClearPace, gated_of_allowed hallowed]

end Sys2Proof.Proofs
end

section
/-! The journal. -/

namespace Sys2Proof.Proofs

open Sys2Proof Sys2Proof.Machine Sys2Proof.Laws Sys2Proof.Safety

/-- The numbers of the good blocks in the area (R237), by any function that reads them off an entry. -/
theorem filterMap_area {s : State} {found : List Nat} (hfound : s.jrn.area.filterMap (fun e => e.2.bind fun b =>
    if decide (e.1 < jrnPlaces s) && blockGood b then some b.number else none) = found) (f : Nat × Option JBlock → Option Nat)
    (hnone : ∀ n, f (n, none) = none)
    (hsome : ∀ n b, f (n, some b) = if decide (n < jrnPlaces s) && blockGood b then some b.number else none) :
    s.jrn.area.filterMap f = found := by
  rw [← hfound]
  refine List.filterMap_congr fun e _ => ?_
  obtain ⟨n, _ | b⟩ := e
  · exact hnone n
  · exact hsome n b

/-- Settles O20: each command is its gate, then one branch on the state of the journal. -/
theorem journalCommands : Obligations.JournalCommands := by
  unfold Obligations.JournalCommands
  refine ⟨?_, ?_, ?_, ?_, ?_, ?_, ?_, ?_, ?_, ?_, ?_, ?_⟩
  · intro s x rest hscanning hstate hdev hqueue
    change execJournalRecord _ = _
    simp [execJournalRecord, hscanning, hstate, hdev, hqueue]
  · intro s code a b stamp rest hscanning hstate hdev hqueue
    change execJournalRecord _ = _
    simp [execJournalRecord, hscanning, hstate, hdev, hqueue]
  · intro s hrecCount hcloseTime
    change execJournalCloseTimeout _ = _
    simp [execJournalCloseTimeout, hrecCount, hcloseTime]
  · intro s found hscanning hfound
    change execJournalScanDone s = _
    simp only [execJournalScanDone, hscanning]
    rw [filterMap_area hfound _ (fun _ => rfl) (fun _ _ => rfl)]
    rfl
  · intro s r value k hallowed hbit hbits hexpData hJRN_EXPORT_BLOCK_HI
    change execJournalExport _ _ _ = _
    simp [execJournalExport, gated_of_allowed hallowed, hbit, hbits, hexpData, hJRN_EXPORT_BLOCK_HI]
  · intro s hexpData
    change execJournalExportDone _ = _
    simp [execJournalExportDone, hexpData]
  · intro s r hallowed hbit
    change execJournalEnable _ _ = _
    simp [execJournalEnable, gatedBit_of_allowed hallowed hbit]
  · intro s r hallowed hbit hstate
    change execJournalDisable _ _ = _
    simp [execJournalDisable, gatedBit_of_allowed hallowed hbit, hstate]
  · intro s hstate hqueue
    change execJournalDrainComplete _ = _
    simp [execJournalDrainComplete, hstate, hqueue]
  · intro s hstate hdrainAt
    change execJournalDrainLimit _ = _
    simp [execJournalDrainLimit, hstate, not_lt.mpr hdrainAt]
  · intro s r hallowed
    change execJrnCntClearCounters _ _ = _
    simp [execJrnCntClearCounters, gated_of_allowed hallowed]
  · intro s r hallowed hreqGuard
    change execJournalRestart _ _ = _
    simp [execJournalRestart, gated_of_allowed hallowed, hreqGuard]

end Sys2Proof.Proofs
end

section
/-! The period boundary. -/

namespace Sys2Proof.Proofs

open Sys2Proof Sys2Proof.Machine Sys2Proof.Laws Sys2Proof.Safety

/-- Settles O21: the boundary is its chain of works, the due boundary its only condition. -/
theorem periodBoundary : Obligations.PeriodBoundary := by
  unfold Obligations.PeriodBoundary
  intro s q bound hboundaryDue
  change execPeriodBoundary _ = _
  simp [execPeriodBoundary, hboundaryDue]

end Sys2Proof.Proofs
end

section
/-! Delivery to a lane. -/

namespace Sys2Proof.Proofs

open Sys2Proof Sys2Proof.Machine Sys2Proof.Laws Sys2Proof.Safety

/-- Settles O22: the conditions of delivery are tested one by one, then the head of the list decides. -/
theorem laneDelivery : Obligations.LaneDelivery := by
  unfold Obligations.LaneDelivery
  refine ⟨?_, ?_, ?_, ?_, ?_, ?_, ?_, ?_, ?_, ?_, ?_, ?_, ?_⟩
  · intro s k x rest hlist hstate hlink hgap hdev hlaneRoom
    change execLaneCopyWrite _ _ = _
    simp [execLaneCopyWrite, hlist, hstate, hlink, hgap, hdev, hlaneRoom]
  · intro s k stamp index n c rest hlist hstate hlink hgap hdev hlaneRoom
    change execLaneCopyWrite _ _ = _
    simp [execLaneCopyWrite, hlist, hstate, hlink, hgap, hdev, hlaneRoom]
  · intro s k code stamp a b rest hlist hstate hlink hgap hdev hlaneRoom
    change execLaneCopyWrite _ _ = _
    simp [execLaneCopyWrite, hlist, hstate, hlink, hgap, hdev, hlaneRoom]
  · intro s k t it rest hlist hwait hstate hlaneRoom hholdUs
    change execLaneHoldExpiry _ _ = _
    simp [execLaneHoldExpiry, hlist, hwait, hstate, hlaneRoom, not_lt.mpr hholdUs]
  · intro s k g hgap hdev hstate hlink hquarterFree
    change execGapWrite _ _ = _
    simp [execGapWrite, hgap, hdev, hstate, hlink, hquarterFree]
  · intro s r k value hallowed hwithin
    change Host.Outcome.next (gated s r (Reg.LNI_RX_TAIL k) _) = _
    rw [gated_of_allowed hallowed]
    exact congrArg _ (if_pos hwithin)
  · intro s r k value hallowed hbeyond
    change Host.Outcome.next (gated s r (Reg.LNI_RX_TAIL k) _) = _
    rw [gated_of_allowed hallowed]
    exact congrArg _ (if_neg (not_le.mpr hbeyond))
  · intro s r k hallowed hbit hlink hstate hstate2 hringEntries hdataBytes hgap hmissed
    change execLaneDeliveryEnable _ _ _ = _
    simp [execLaneDeliveryEnable, gatedBit_of_allowed hallowed hbit, hlink, hstate, hstate2, hringEntries, hdataBytes, hgap, hmissed]
  · intro s r k hallowed hbit hstate
    change execLaneDeliveryDisable _ _ _ = _
    simp [execLaneDeliveryDisable, gatedBit_of_allowed hallowed hbit, hstate]
  · intro s k hstate hlist
    change execLaneDrainComplete _ _ = _
    simp [execLaneDrainComplete, hstate, hlist]
  · intro s k hstate hdrainAt
    change execLaneDrainLimit _ _ = _
    simp [execLaneDrainLimit, hstate, not_lt.mpr hdrainAt]
  · intro s k hlink
    change execLaneLinkDown _ _ = _
    simp [execLaneLinkDown, hlink]
  · intro s k hk
    change execLaneLinkUp _ _ = _
    simp [execLaneLinkUp, hk]

end Sys2Proof.Proofs
end

section
/-! Transmit rings. -/

namespace Sys2Proof.Proofs

open Sys2Proof Sys2Proof.Machine Sys2Proof.Laws Sys2Proof.Safety

/-- Settles O23: each command is its gate, then one update of one ring. -/
theorem laneTransmission : Obligations.LaneTransmission := by
  unfold Obligations.LaneTransmission
  refine ⟨?_, ?_, ?_, ?_, ?_⟩
  · intro s r k on hallowed hbit hon
    change execTx0EnableWrite r k on s = _
    have hopen : ¬ (on = true ∧ (lane s k).link = false) := by
      rintro ⟨rfl, hdown⟩
      simp [hdown] at hon
    rw [execTx0EnableWrite, gatedBit_of_allowed hallowed hbit, if_neg hopen]
  · intro s r k on hallowed hbit hon
    change execTx1EnableWrite r k on s = _
    have hopen : ¬ (on = true ∧ (lane s k).link = false) := by
      rintro ⟨rfl, hdown⟩
      simp [hdown] at hon
    rw [execTx1EnableWrite, gatedBit_of_allowed hallowed hbit, if_neg hopen]
  · intro s r k ring1 value hallowed hwithin
    change execTxTailWrite r k ring1 value s = _
    rw [execTxTailWrite, gated_of_allowed hallowed, if_neg (not_lt.mpr hwithin)]
  · intro s k ring1 desc payload hisStandby htx0 hlink hring1
    change execTxFetchComplete _ _ _ _ _ = _
    simp [execTxFetchComplete, hisStandby, htx0, hlink, hring1]
  · intro s r value hallowed
    change execLniCntClear _ _ _ = _
    simp [execLniCntClear, gated_of_allowed hallowed]

end Sys2Proof.Proofs
end

section
/-! The voter. -/

namespace Sys2Proof.Proofs

open Sys2Proof Sys2Proof.Machine Sys2Proof.Laws Sys2Proof.Safety

/-- Settles O24: each command is its gate, then one branch on the state of the lane or stream. -/
theorem voterCommands : Obligations.VoterCommands := by
  unfold Obligations.VoterCommands
  refine ⟨?_, ?_, ?_, ?_, ?_, ?_, ?_, ?_, ?_, ?_, ?_, ?_⟩
  · intro s v cycle index w hfind htime
    change execWindowTimeout v cycle index s = _
    rw [execWindowTimeout, hfind]
    exact congrArg _ (if_neg (not_lt.mpr htime))
  · intro s r k hallowed hk hreqLane
    change execLaneOutCmd _ _ _ = _
    simp [execLaneOutCmd, gated_of_allowed hallowed, not_lt.mpr hk, hreqLane]
  · intro s r k hallowed hk hother hasks
    change execLaneOutCmd r k s = _
    rw [execLaneOutCmd, gated_of_allowed hallowed]
    simp only [hasks, hother, not_lt.mpr hk]
    rfl
  · intro s r k hallowed hk hother hasks
    change execLaneOutCmd r k s = _
    rw [execLaneOutCmd, gated_of_allowed hallowed, if_neg (not_lt.mpr hk), if_neg hother]
    exact congrArg _ (if_pos hasks)
  · intro s r k hallowed hk hreqLane hfenceSinceGap hvote
    change execLaneReturnCmd _ _ _ = _
    simp [execLaneReturnCmd, gated_of_allowed hallowed, not_lt.mpr hk, hreqLane, hfenceSinceGap, hvote]
  · intro s r v hallowed hr hv
    change execVoterStreamEnable _ _ _ = _
    simp [execVoterStreamEnable, vsGate, gated_of_allowed hallowed, hr, hv]
  · intro s r v hallowed hr hstate
    change execVoterStreamDisable _ _ _ = _
    simp [execVoterStreamDisable, vsGate, gated_of_allowed hallowed, hr, hstate]
  · intro s r v hallowed hr
    change execVoterStreamClear _ _ _ = _
    simp [execVoterStreamClear, vsGate, gated_of_allowed hallowed, hr]
  · intro s v hstate hdrainAt
    change execVoterStreamDrainLimit _ _ = _
    simp [execVoterStreamDrainLimit, hstate, not_lt.mpr hdrainAt]
  · intro s r hallowed
    change execVotCntClearGlobal _ _ = _
    simp [execVotCntClearGlobal, gated_of_allowed hallowed]
  · intro s r hallowed
    change execVotCntClearLanes _ _ = _
    simp [execVotCntClearLanes, gated_of_allowed hallowed]
  · intro s r hallowed
    change execVotCntClearStreams _ _ = _
    simp [execVotCntClearStreams, gated_of_allowed hallowed]

end Sys2Proof.Proofs
end

section
/-! Triggers and captures. -/

namespace Sys2Proof.Proofs

open Sys2Proof Sys2Proof.Machine Sys2Proof.Laws Sys2Proof.Safety

/-- Settles O26: the state of the trigger or of the queue decides the branch. -/
theorem triggersAndCaptures : Obligations.TriggersAndCaptures := by
  unfold Obligations.TriggersAndCaptures
  refine ⟨?_, ?_, ?_, ?_, ?_, ?_, ?_, ?_, ?_, ?_, ?_, ?_⟩
  · intro s r t hallowed ht hr
    change execTriggerArm _ _ _ = _
    simp [execTriggerArm, gated_of_allowed hallowed, not_lt.mpr ht, hr]
  · intro s r t hallowed ht hr hclass
    change execTriggerArm r t s = _
    rw [execTriggerArm, gated_of_allowed hallowed]
    simp [not_lt.mpr ht, hr, hclass]
  · intro s r t hallowed ht hr
    change execTriggerDisarm _ _ _ = _
    simp [execTriggerDisarm, gated_of_allowed hallowed, not_lt.mpr ht, hr]
  · intro s t d hdue harmed hd hperiod hstep
    change execTriggerFire t s = _
    simp only [execTriggerFire, hdue, harmed, not_lt.mpr hd, hperiod, hstep]
    rfl
  · intro s t d hdue harmed hd htrigPeriod htrigStep
    change execTriggerFire _ _ = _
    simp [execTriggerFire, hdue, harmed, not_lt.mpr hd, htrigPeriod, htrigStep]
  · intro s t e hpulseEnd he
    change execTriggerPulseEnd _ _ = _
    simp [execTriggerPulseEnd, hpulseEnd, not_lt.mpr he]
  · intro s c level t hc hlevel
    change execCaptureEdge _ _ _ _ = _
    simp [execCaptureEdge, not_lt.mpr hc, hlevel]
  · intro s c level t p hc hlevel hlast ht
    change execCaptureEdge _ _ _ _ = _
    simp [execCaptureEdge, not_lt.mpr hc, hlevel, hlast, ht]
  · intro s c level t hc hlevel hlast hfield hlength
    change execCaptureEdge _ _ _ _ = _
    simp [execCaptureEdge, not_lt.mpr hc, hlevel, hlast, not_le.mpr hlength]
    exact fun h => absurd h hfield
  · intro s r c hc hdomainOn
    change execCaptureRead _ _ _ = _
    simp [execCaptureRead, not_lt.mpr hc, hdomainOn]
  · intro s r e rest hdomainOn hdepLog
    change execDepartureLogRead _ _ = _
    simp [execDepartureLogRead, hdomainOn, hdepLog]
  · intro s r hdomainOn hdepLog
    change execDepartureLogRead _ _ = _
    simp [execDepartureLogRead, hdomainOn, hdepLog]

end Sys2Proof.Proofs
end

section
/-! The field bridge takes requests. -/

namespace Sys2Proof.Proofs

open Sys2Proof Sys2Proof.Machine Sys2Proof.Laws Sys2Proof.Safety

/-- Settles O27: the refusal of a request is judged first, then the cache. -/
theorem bridgeRequests : Obligations.BridgeRequests := by
  unfold Obligations.BridgeRequests
  refine ⟨?_, ?_, ?_, ?_, ?_, ?_, ?_, ?_, ?_⟩
  · intro s lane guard w offset len tag c hreached hrefused
    change execBridgeDirectRead lane guard w offset len tag s = _
    rcases hrefused with hrefusal | ⟨hrefusal, hrange, rfl⟩
    · simp [execBridgeDirectRead, hreached, hrefusal]
    · simp [execBridgeDirectRead, hreached, hrefusal, hrange]
  · intro s lane guard w offset len tag e rest hbrgReached hreqRefusal hrangeOk hwinW hcacheHit
    change execBridgeDirectRead _ _ _ _ _ _ _ = _
    simp [execBridgeDirectRead, hbrgReached, hreqRefusal, hrangeOk, hwinW, hcacheHit]
  · intro s lane guard w offset len tag hbrgReached hreqRefusal hrangeOk hwinW hqueued
    change execBridgeDirectRead _ _ _ _ _ _ _ = _
    simp [execBridgeDirectRead, hbrgReached, hreqRefusal, hrangeOk, hwinW, not_le.mpr hqueued]
  · intro s lane guard w offset data x hreached hrefusal hrange hposted hqueued hfenced hx
    subst hx
    have hopen : ∀ y, (win (setRing s (kwOf lane guard) y) w).fenced.contains lane = false := fun _ => hfenced
    change execBridgeDirectWrite lane guard w offset data s = _
    simp only [execBridgeDirectWrite, hreached, hrefusal, hrange, hposted, not_le.mpr hqueued, hopen]
    rfl
  · intro s lane guard w offset data x hreached hrefusal hrange hposted hqueued hfenced hx
    subst hx
    have hclosed : ∀ y, (win (setRing s (kwOf lane guard) y) w).fenced.contains lane = true := fun _ => hfenced
    change execBridgeDirectWrite lane guard w offset data s = _
    simp only [execBridgeDirectWrite, hreached, hrefusal, hrange, hposted, not_le.mpr hqueued, hclosed]
    rfl
  · intro s lane guard w tag offset len buffer hcanFetch hw
    change execBrgCmdRead _ _ _ _ _ _ _ _ _ = _
    simp [execBrgCmdRead, fetched, hcanFetch, not_lt.mpr hw]
  · intro s lane guard w tag offset len data hcanFetch hw hlength
    change execBrgCmdWrite _ _ _ _ _ _ _ _ = _
    simp [execBrgCmdWrite, fetched, hcanFetch, not_lt.mpr hw, hlength]
  · intro s r kw value hallowed hkw hbit hvalue
    change execBrgRingEnable _ _ _ _ = _
    simp [execBrgRingEnable, gated_of_allowed hallowed, not_lt.mpr hkw, hbit, hvalue]
  · intro s r kw cpl value hallowed hkw
    change execBrgCompletionTailWrite _ _ _ _ _ = _
    simp [execBrgCompletionTailWrite, gated_of_allowed hallowed, not_lt.mpr hkw]

end Sys2Proof.Proofs
end

section
/-! The field bridge at work. -/

namespace Sys2Proof.Proofs

open Sys2Proof Sys2Proof.Machine Sys2Proof.Laws Sys2Proof.Safety

/-- Settles O28: the queue searched and what it holds decide the branch. -/
theorem bridgeExchanges : Obligations.BridgeExchanges := by
  unfold Obligations.BridgeExchanges
  refine ⟨?_, ?_, ?_, ?_, ?_, ?_, ?_, ?_⟩
  · intro s r hdev htalker hroom hreqs
    change execExchangeIssue s = _
    have hsame : { s with brg := { s.brg with talker := s.brg.talker } } = s := rfl
    have hquiet : bgFlush s.brg.talker s = s := by
      rw [htalker] at hsame ⊢
      exact hsame
    have hfree : bgRoom s = true := by simp [bgRoom, htalker, hroom]
    have hfirst : ((firstIssue s true [] s.brg.reqs).orElse fun _ => firstIssue s false [] s.brg.reqs) = some r := by
      rcases hreqs with h | ⟨hnone, h⟩
      · simp [h]
      · simp [hnone, h]
    rw [execExchangeIssue, hquiet]
    simp only [hdev, hfree, hfirst]
    simp
  · intro s gone x rest hintake
    change execResponseMatch gone s = _
    simp only [execResponseMatch, hintake]
    congr 1
    split <;> rename_i h <;> rw [h] <;> rfl
  · intro s ex r hex hex2 hdeadline hwindow hwrites hretries
    change execExchangeTimeout _ _ = _
    simp [execExchangeTimeout, hex, hex2, not_lt.mpr hdeadline, hwindow, hwrites, hretries]
  · intro s ex r hfind hex hdue hwindow hlast
    change execExchangeTimeout ex s = _
    have hover : ¬ (writes r = false ∧ r.retries > 0) := by
      rintro ⟨hread, hmore⟩
      rcases hlast with h | h
      · simp [h] at hread
      · omega
    simp only [execExchangeTimeout, hfind, hwindow, if_neg hover]
    simp [hex, not_lt.mpr hdue]
  · intro s p hfull hnoKeep
    change execPrefetchComplete _ = _
    simp [execPrefetchComplete, hfull, hnoKeep]
  · intro s p hfull hnoKeep
    change execPrefetchComplete _ = _
    simp [execPrefetchComplete, hfull, hnoKeep]
  · intro s r k value hallowed hk
    change execLateLogRelease _ _ _ _ = _
    simp [execLateLogRelease, gated_of_allowed hallowed, not_lt.mpr hk]
  · intro s r k value hallowed hk hbit
    change execLateUnfence _ _ _ _ = _
    simp [execLateUnfence, gated_of_allowed hallowed, not_lt.mpr hk, hbit]

end Sys2Proof.Proofs
end

section
/-! Semaphores and windows of the bridge. -/

namespace Sys2Proof.Proofs

open Sys2Proof Sys2Proof.Machine Sys2Proof.Laws Sys2Proof.Safety

/-- Settles O29: each command is its gate, then one branch on the owner or the state. -/
theorem bridgeSemaphoresAndWindows : Obligations.BridgeSemaphoresAndWindows := by
  unfold Obligations.BridgeSemaphoresAndWindows
  refine ⟨?_, ?_, ?_, ?_, ?_, ?_, ?_, ?_, ?_, ?_, ?_, ?_⟩
  · intro s lane guard n tag hcanFetch
    change execBrgCmdSemAcquire _ _ _ _ _ = _
    simp [execBrgCmdSemAcquire, fetched, hcanFetch]
  · intro s lane guard n tag hcanFetch
    change execBrgCmdSemRelease _ _ _ _ _ = _
    simp [execBrgCmdSemRelease, fetched, hcanFetch]
  · intro s lane guard n hallowed hdev hn howner
    change execSemAcquireReg _ _ _ = _
    simp [execSemAcquireReg, semReg, gated_of_allowed hallowed, acquire, hdev, not_lt.mpr hn, howner]
  · intro s lane guard n hallowed howned hother
    change execSemAcquireReg (.fn lane guard) n s = _
    have hlost : ¬ ((sem s n).owner = none ∨ (sem s n).owner = some (lane, guard)) := by simp [howned, hother]
    simp [execSemAcquireReg, semReg, gated_of_allowed hallowed, acquire, if_neg hlost]
  · intro s lane guard n hallowed hdev hn howner
    change execSemReleaseReg _ _ _ = _
    simp [execSemReleaseReg, semReg, gated_of_allowed hallowed, release, hdev, not_lt.mpr hn, howner]
  · intro s n lane guard howner hexpiry
    change execSemLeaseExpiry _ _ = _
    simp [execSemLeaseExpiry, semExpire, howner, not_lt.mpr hexpiry]
  · intro s r w hallowed hw
    change execWindowEnable _ _ _ = _
    simp [execWindowEnable, winGate, gated_of_allowed hallowed, hw]
  · intro s r w hallowed hw hstate
    change execWindowDisable _ _ _ = _
    simp [execWindowDisable, winGate, gated_of_allowed hallowed, hw, hstate]
  · intro s r w hallowed hw
    change execWindowClearCounters _ _ _ = _
    simp [execWindowClearCounters, winGate, gated_of_allowed hallowed, hw]
  · intro s w hstate hdrainAt
    change execWindowDrainLimit _ _ = _
    simp [execWindowDrainLimit, hstate, not_lt.mpr hdrainAt]
  · intro s r hallowed
    change execBrgCntClearGlobal _ _ = _
    simp [execBrgCntClearGlobal, gated_of_allowed hallowed]
  · intro s r hallowed
    change execBrgCntClearWindows _ _ = _
    simp [execBrgCntClearWindows, gated_of_allowed hallowed]

end Sys2Proof.Proofs
end

section
/-! The states of the cadence bus engine. -/

namespace Sys2Proof.Proofs

open Sys2Proof Sys2Proof.Machine Sys2Proof.Laws Sys2Proof.Safety

/-- Settles O30: the state of the engine decides the branch. -/
theorem cadenceStates : Obligations.CadenceStates := by
  unfold Obligations.CadenceStates
  refine ⟨?_, ?_, ?_, ?_, ?_, ?_, ?_, ?_, ?_, ?_, ?_, ?_, ?_, ?_, ?_, ?_⟩
  · intro s hstate
    change execCdbCycleStart s = _
    rcases hstate with h | h <;> simp only [execCdbCycleStart, h]
  · intro s hstate
    change execCdbCycleStart _ = _
    simp [execCdbCycleStart, hstate]
  · intro s hstate
    change execCdbCycleStart s = _
    rcases hstate with h | h | h <;> simp only [execCdbCycleStart, h]
  · intro s off rate fo fr hidle hoff hlisten hoffset hrate
    change execCdbIdleSegment s = _
    have hruns : ¬ (s.cdb.idleDone = true ∨ s.cdb.state = .off ∨ s.cdb.state = .listen) := by simp [hidle, hoff, hlisten]
    simp only [execCdbIdleSegment, if_neg hruns, hoffset, hrate, decide_eq_true_eq]
  · intro s hstate hdev hfield
    change execListenTimeout _ = _
    simp [execListenTimeout, hstate, hdev, not_lt.mpr hfield]
  · intro s hstate hbit hdev hfield
    change execListenTimeout _ = _
    simp [execListenTimeout, hstate, hbit, hdev, not_lt.mpr hfield]
  · intro s hstate hinState hidleDone
    change execStartupComplete _ = _
    simp [execStartupComplete, hstate, hinState, hidleDone]
  · intro s hstate hinState hsyncOk hadoptedSeen hidleDone
    change execIntegrationComplete _ = _
    simp [execIntegrationComplete, hstate, hinState, hsyncOk, hadoptedSeen, hidleDone]
  · intro s hstate hclear
    change execPassiveRecovery _ = _
    simp [execPassiveRecovery, hstate, hclear]
  · intro s hstate hinState hidleDone
    change execPassiveTimeout _ = _
    simp [execPassiveTimeout, hstate, hinState, hidleDone]
  · intro s hstate hisSyncNode hsyncLimit
    change execSyncLostTimeout _ = _
    simp [execSyncLostTimeout, hstate, hisSyncNode, hsyncLimit]
  · intro s chB hchaLost hmax
    change execChannelLost _ _ = _
    simp [execChannelLost, hchaLost, not_lt.mpr hmax]
  · intro s r hallowed hbit
    change execEngineEnable _ _ = _
    simp [execEngineEnable, gatedBit_of_allowed hallowed hbit]
  · intro s r hallowed hbit
    change execEngineDisable _ _ = _
    simp [execEngineDisable, gatedBit_of_allowed hallowed hbit]
  · intro s r hallowed hstate
    change execCdbRestart _ _ = _
    simp [execCdbRestart, gated_of_allowed hallowed, hstate]
  · intro s hrefLost hholdover
    change execRefclkLost _ = _
    simp [execRefclkLost, hrefLost, hholdover]

end Sys2Proof.Proofs
end

section
/-! Frames and slots of the cadence bus. -/

namespace Sys2Proof.Proofs

open Sys2Proof Sys2Proof.Machine Sys2Proof.Laws Sys2Proof.Safety

/-- Settles O31: the checks of a frame are made in the order of the spec. -/
theorem cadenceFramesAndSlots : Obligations.CadenceFramesAndSlots := by
  unfold Obligations.CadenceFramesAndSlots
  refine ⟨?_, ?_, ?_, ?_, ?_, ?_, ?_, ?_, ?_, ?_, ?_, ?_, ?_, ?_, ?_⟩
  · intro s chB bs raw rawEnd good hstate
    change execCbFrameEnd _ _ _ _ _ _ = _
    simp [execCbFrameEnd, hstate]
  · intro s chB bs raw rawEnd good hstate
    change execCbFrameEnd _ _ _ _ _ _ = _
    simp [execCbFrameEnd, hstate]
  · intro s chB bs raw rawEnd k t hstate ht hslot
    change execCbFrameEnd chB bs raw rawEnd false s = _
    subst ht
    rcases hstate with h | h | h <;> simp [execCbFrameEnd, h, hslot]
  · intro s chB bs raw rawEnd k t hstate ht hslot hfar
    change execCbFrameEnd chB bs raw rawEnd true s = _
    subst ht
    rcases hstate with h | h | h <;> simp only [execCbFrameEnd, h, hslot, gt_iff_lt, if_pos hfar] <;> simp
  · intro s chB bs raw rawEnd k t f hstate ht hslot hnear hinside hjudge
    change execCbFrameEnd chB bs raw rawEnd true s = _
    subst ht
    rcases hstate with h | h | h <;>
      simp only [execCbFrameEnd, h, hslot, gt_iff_lt, if_neg (not_lt.mpr hnear), if_neg (not_lt.mpr hinside), hjudge] <;> simp
  · intro s k f s1 hengineSends hguardPermits hbuildFrame
    change execCdbSlotTransmit _ _ _ = _
    simp [execCdbSlotTransmit, hengineSends, hguardPermits, hbuildFrame]
  · intro s k hengineSends hguardPermits
    change execCdbSlotTransmit _ _ _ = _
    simp [execCdbSlotTransmit, hengineSends, hguardPermits]
  · intro s k outside hsilent
    change execCdbSlotTransmit k outside s = _
    rcases hsilent with h | h <;> simp [execCdbSlotTransmit, h]
  · intro s r k hallowed hslotUse hk hstate hclaimCount
    change execSlotClaim _ _ _ = _
    simp [execSlotClaim, gated_of_allowed hallowed, claimSlot, hslotUse, not_lt.mpr hk, hstate, not_le.mpr hclaimCount]
  · intro s r k hallowed hslotUse hmine
    change execSlotRelease _ _ _ = _
    simp [execSlotRelease, gated_of_allowed hallowed, hslotUse, hmine]
  · intro s k hstate hspare
    change execClaimConfirmed _ _ = _
    simp [execClaimConfirmed, hstate, hspare]
  · intro s k hstate hbackoff
    change execClaimBackoffEnd _ _ = _
    simp [execClaimBackoffEnd, hstate, hbackoff]
  · intro s k hstate hmax
    change execClaimLapse _ _ = _
    simp [execClaimLapse, hstate, hmax]
  · intro s r hallowed
    change execCdbCntClearGlobal _ _ = _
    simp [execCdbCntClearGlobal, gated_of_allowed hallowed]
  · intro s r hallowed
    change execCdbCntClearNodes _ _ = _
    simp [execCdbCntClearNodes, gated_of_allowed hallowed]

end Sys2Proof.Proofs
end

section
/-! Grants of the lease. -/

namespace Sys2Proof.Proofs

open Sys2Proof Sys2Proof.Machine Sys2Proof.Laws Sys2Proof.Safety

theorem not_refusesGrants {s : State} (hkeeps : s.dev ≠ .relinquishing) (hruns : s.dev ≠ .reset) : ¬ refusesGrants s = true := by
  simp [refusesGrants, hkeeps, hruns]

theorem newTerm_setGrant {s : State} {e : Nat} (hseen : s.red.seen < e) (k : Nat) (g : Grant) : newTerm (setGrant s k g) e = true := by
  have habove : (setGrant s k g).red.seen < e := hseen
  simp [newTerm, habove]

/-- Settles O32: `laneGate_own` opens the gate of the lane, then the epoch decides. -/
theorem leaseGrants : Obligations.LeaseGrants := by
  unfold Obligations.LeaseGrants
  refine ⟨?_, ?_, ?_, ?_, ?_, ?_, ?_, ?_, ?_, ?_, ?_⟩
  · intro s k hk hdev
    change execLeaseGrant (.fn k true) k s = _
    rw [execLeaseGrant, laneGate_own hk]
    exact congrArg _ (if_pos (decide_eq_true hdev))
  · intro s k hk hkeeps hruns hnonzero hepoch hrenewing hlive
    change execLeaseGrant (.fn k true) k s = _
    rw [execLeaseGrant, laneGate_own hk]
    refine congrArg Host.Outcome.next ((if_neg (not_refusesGrants hkeeps hruns)).trans ((if_pos ⟨hnonzero, hepoch, hrenewing⟩).trans ?_))
    exact if_neg (Bool.eq_false_iff.mp hlive)
  · intro s k hk hkeeps hruns hseen hother hstart
    change execLeaseGrant (.fn k true) k s = _
    rw [execLeaseGrant, laneGate_own hk]
    refine congrArg Host.Outcome.next ((if_neg (not_refusesGrants hkeeps hruns)).trans ((if_neg fun h => hother h.2.1).trans ?_))
    exact (if_pos (newTerm_setGrant hseen k _)).trans (if_pos hstart)
  · intro s k hk hkeeps hruns hseen hother hstart
    change execLeaseGrant (.fn k true) k s = _
    rw [execLeaseGrant, laneGate_own hk]
    refine congrArg Host.Outcome.next ((if_neg (not_refusesGrants hkeeps hruns)).trans ((if_neg fun h => hother h.2.1).trans ?_))
    exact (if_pos (newTerm_setGrant hseen k _)).trans (if_neg (not_le.mpr hstart))
  · intro s k hk hkeeps hruns
    change execLeaseWitness (.fn k true) k s = _
    rw [execLeaseWitness, laneGate_own hk]
    exact congrArg _ (if_neg (not_refusesGrants hkeeps hruns))
  · intro s k hk hheld
    change execLeaseRevoke (.fn k true) k s = _
    have hany : ¬ ((grant (setGrant s k { grant s k with heard := some s.red.leaseTimer }) k).current = false ∧
        (grant (setGrant s k { grant s k with heard := some s.red.leaseTimer }) k).pend = none) := by
      rintro ⟨hidle, hnone⟩
      rcases hheld with h | h
      · exact absurd (h.symm.trans hidle) (by decide)
      · exact h hnone
    rw [execLeaseRevoke, laneGate_own hk]
    exact congrArg _ (if_neg hany)
  · intro s k e nb hpend hnb hkeeps hruns
    change execGrantBecomesCurrent k s = _
    simp [execGrantBecomesCurrent, hpend, not_lt.mpr hnb, not_refusesGrants hkeeps hruns]
  · intro s k hcurrent hlapse
    change execGrantLapse _ _ = _
    simp [execGrantLapse, grantOver, hcurrent, hlapse]
  · intro s r hallowed hdev
    change execRelinquishCmd _ _ = _
    simp [execRelinquishCmd, gated_of_allowed hallowed, hdev]
  · intro s r hallowed hisStandby
    change execJoinCmd _ _ = _
    simp [execJoinCmd, gated_of_allowed hallowed, hisStandby]
  · intro s r hallowed
    change execRedCntClear _ _ = _
    simp [execRedCntClear, gated_of_allowed hallowed]

end Sys2Proof.Proofs
end

section
/-! Frames of the inter-unit link. -/

namespace Sys2Proof.Proofs

open Sys2Proof Sys2Proof.Machine Sys2Proof.Laws Sys2Proof.Safety

/-- Settles O33: an accepted frame acts on the state that notes it. -/
theorem interUnitFrames : Obligations.InterUnitFrames := by
  unfold Obligations.InterUnitFrames
  refine ⟨?_, ?_, ?_, ?_, ?_, ?_, ?_, ?_, ?_, ?_, ?_, ?_⟩
  · intro s hdev hlive
    change execHeartbeatSend _ = _
    simp [execHeartbeatSend, sendIu, hdev, hlive]
  · intro s h tx rx hruns hlive hpath hnew
    change execHeartbeatReceived h tx rx none s = _
    rw [execHeartbeatReceived, acceptIu_fresh hruns hlive hpath hnew]
  · intro s h tx rx a b hruns hlive hpath hnew
    change execHeartbeatReceived h tx rx (some (a, b)) s = _
    rw [execHeartbeatReceived, acceptIu_fresh hruns hlive hpath hnew]
    rfl
  · intro s h hruns hlive hpath hnew
    change execRelinquishReceived h s = _
    rw [execRelinquishReceived, acceptIu_fresh hruns hlive hpath hnew]
  · intro s h hruns hlive hpath hnew hactive
    change execJoinReceived h s = _
    rw [execJoinReceived, acceptIu_fresh hruns hlive hpath hnew, if_pos hactive]
  · intro s h stamp payload hruns hlive hpath hnew hroom
    change execIuCopyReceived h stamp payload s = _
    rw [execIuCopyReceived, acceptIu_fresh hruns hlive hpath hnew, if_pos hroom]
  · intro s h hruns hlive hpath hnew
    change execDivergenceTestRequestReceived h none s = _
    rw [execDivergenceTestRequestReceived, acceptIu_fresh hruns hlive hpath hnew]
  · intro s h f hruns hlive hpath hnew hrunning
    change execDivergenceTestRequestReceived h (some f) s = _
    rw [execDivergenceTestRequestReceived, acceptIu_fresh hruns hlive hpath hnew]
    exact congrArg _ (if_pos hrunning)
  · intro s h q d own hruns hlive hpath hnew hactive hown
    change execDigestReceived h q d s = _
    rw [execDigestReceived, acceptIu_fresh hruns hlive hpath hnew]
    simp only [hactive, hown, if_true]
  · intro s hdivState hownFail hpeerFail hdev
    change execDivergenceDecide _ = _
    simp [execDivergenceDecide, setRed, hdivState, hownFail, hpeerFail, hdev]
  · intro s hdivState hownFail hpeerFail
    change execDivergenceDecide _ = _
    simp [execDivergenceDecide, hdivState, hownFail, hpeerFail]
    rfl
  · intro s b hpathA hmsUnits
    change execIuPathLost _ _ = _
    simp [execIuPathLost, hpathA, not_lt.mpr hmsUnits]

end Sys2Proof.Proofs
end

section
/-! Mirroring and takeover. -/

namespace Sys2Proof.Proofs

open Sys2Proof Sys2Proof.Machine Sys2Proof.Laws Sys2Proof.Safety

theorem peatCommit_dev (s : State) (q : Nat) (blocks : List Nat) (full : Bool) : (peatCommit s q blocks full).dev = s.dev := by
  rw [peatCommit]
  split <;> rfl

theorem sendIu_dev (s : State) (f : IuFrame) : (sendIu s f).dev = s.dev := by
  rw [sendIu]
  split <;> rfl

theorem copyDone_dev (s : State) (q : Nat) (full : Bool) (list : Tab (Option PeatBlk)) : (copyDone s q full list).dev = s.dev := by
  rw [copyDone]
  split
  · exact (peatCommit_dev _ _ _ _).trans (sendIu_dev _ _)
  · exact sendIu_dev _ _

/-- Settles O34: an accepted frame acts on the state that notes it. -/
theorem mirroringAndTakeover : Obligations.MirroringAndTakeover := by
  unfold Obligations.MirroringAndTakeover
  refine ⟨?_, ?_, ?_, ?_, ?_, ?_, ?_, ?_, ?_, ?_, ?_⟩
  · intro s h n m hruns hlive hpath hnew hshadow horder
    change execMirrorReceived h n m s = _
    have hnext : ¬ ((acceptIu s h fun s => s).red.mirrorSeq ≠ 0 ∧ n ≠ (acceptIu s h fun s => s).red.mirrorSeq + 1) := fun ⟨hfirst, hgap⟩ =>
      horder.elim hfirst hgap
    rw [execMirrorReceived, acceptIu_fresh hruns hlive hpath hnew, if_pos hshadow, if_neg hnext]
  · intro s h n m hruns hlive hpath hnew hshadow hfirst hgap
    change execMirrorReceived h n m s = _
    rw [execMirrorReceived, acceptIu_fresh hruns hlive hpath hnew, if_pos hshadow, if_pos ⟨hfirst, hgap⟩]
  · intro s h e hruns hlive hpath hnew hstandby
    change execCommitLogReceived h e s = _
    rw [execCommitLogReceived, acceptIu_fresh hruns hlive hpath hnew]
    simp only [if_pos hstandby]
  · intro s h b x hruns hlive hpath hnew hstandby hpeer hplace
    change execPeatBlockReceived h b x s = _
    have htaken : ¬ (isStandby (acceptIu s h fun s => s) = false ∨ x.unit = peatUnit (acceptIu s h fun s => s) ∨ b > 383) := by
      simp [hstandby, hpeer, hplace]
    rw [execPeatBlockReceived, acceptIu_fresh hruns hlive hpath hnew]
    exact congrArg _ (if_neg htaken)
  · intro s h q blocks full hruns hlive hpath hnew hstandby hidle
    change execPeatCommitReceived h q blocks full s = _
    rw [execPeatCommitReceived, acceptIu_fresh hruns hlive hpath hnew]
    simp [hstandby, hidle]
  · intro s q full list hcopying hstays
    change execPeatImageCopyDone s = _
    have hjoins : ¬ (full = true ∧ (copyDone s q full list).dev = .standbyCold) := by
      rw [copyDone_dev]
      rintro ⟨rfl, hcold⟩
      simp [hcold] at hstays
    simp only [execPeatImageCopyDone, hcopying]
    exact congrArg _ (if_neg fun h => hjoins ⟨h.1, h.2.1⟩)
  · intro s h q c hruns hlive hpath hnew hckpt hq hsent
    change execPeatConfirmationReceived h q s = _
    rw [execPeatConfirmationReceived, acceptIu_fresh hruns hlive hpath hnew]
    simp [hckpt, hq, hsent]
  · intro s c hckpt hunsent hckptEvery
    change execCheckpointLate _ = _
    simp [execCheckpointLate, hckpt, hunsent, hckptEvery]
  · intro s hstandby himage hfresh hlate hpassed
    change execPeatStale s = _
    refine congrArg Host.Outcome.next (if_neg ?_)
    rintro (h | h | h | h | h)
    · simp [hstandby] at h
    · simp [Option.isNone_iff_eq_none.mp h] at himage
    · simp [hfresh] at h
    · exact absurd hlate (not_le.mpr h)
    · exact absurd hpassed (not_le.mpr h)
  · intro s banks other hmajority htaking hdev htakeAt
    change execTakeoverComplete _ _ _ = _
    simp [execTakeoverComplete, hmajority, htaking, hdev, not_le.mpr htakeAt]
  · intro s banks other hmajority htaking hdev
    change execTakeoverComplete _ _ _ = _
    simp [execTakeoverComplete, hmajority, htaking, hdev]

end Sys2Proof.Proofs
end

section
/-! Commands of the key vault. -/

namespace Sys2Proof.Proofs

open Sys2Proof Sys2Proof.Machine Sys2Proof.Laws Sys2Proof.Safety

/-- A serving slot that may be used gives its key and changes nothing. -/
theorem takeKey_of_serves {s : State} {k master usage : Nat} (hmay : attrUse s k master usage = true) (hserves : slotServes s k = true) :
    takeKey s k master usage = (some (slotKey s.vault k), s) := by
  simp [takeKey, hmay, hserves]

/-- A vault command runs where none does, its slot exists and names the requester as its master. -/
theorem kvtCmd_runs {s : State} {r : Req} {k : Nat} (hallowed : Allowed s r Reg.KVT_CMD) (hidle : s.vault.cmd = none) (hlow : 2 ≤ k)
    (hhigh : k ≤ 255) (hmaster : attrMaster s k (masterOf r) = true) (act : State → State) : kvtCmd s r k act = act s := by
  simp [kvtCmd, gated_of_allowed hallowed, hidle, not_lt.mpr hlow, not_lt.mpr hhigh, hmaster]

/-- Settles O35: the refusals of the vault are tested first, then the state of the slot. -/
theorem vaultCommands : Obligations.VaultCommands := by
  unfold Obligations.VaultCommands
  refine ⟨?_, ?_, ?_, ?_, ?_, ?_, ?_, ?_, ?_, ?_, ?_, ?_⟩
  · intro s r k hallowed hcmd
    change execKvtDiscard _ _ _ = _
    simp [execKvtDiscard, kvtCmd, gated_of_allowed hallowed, hcmd]
  · intro s r k hallowed hcmd hc hk hattrMaster
    change execKvtZeroize _ _ _ = _
    simp [execKvtZeroize, kvtCmd, gated_of_allowed hallowed, hcmd, not_lt.mpr hc, not_lt.mpr hk, hattrMaster]
  · intro s r k hallowed hcmd hc hk hattrMaster
    change execKvtGenerate _ _ _ = _
    simp [execKvtGenerate, kvtCmd, gated_of_allowed hallowed, hcmd, not_lt.mpr hc, not_lt.mpr hk, hattrMaster]
  · intro s r k source label hallowed hidle hlow hhigh hmaster hsource hmay hserves hdepth
    change execKvtDerive r k source label s = _
    have hshallow : ¬ 8 ≤ slotDepth s.vault 9 source := by omega
    simp [execKvtDerive, kvtCmd, gated_of_allowed hallowed, hidle, not_lt.mpr hlow, not_lt.mpr hhigh, hmaster, hsource, hmay,
      takeKey_of_serves hmay hserves, hshallow]
  · intro s r k source blob hallowed hidle hlow hhigh hmaster hsource hmay hserves
    change execKvtUnwrap r k source blob s = _
    have hmayUse : ¬ (source = 0 ∨ ¬ attrUse s source (masterOf r) useUnwrap = true) := by simp [hsource, hmay]
    rw [execKvtUnwrap, kvtCmd_runs hallowed hidle hlow hhigh hmaster, takeKey_of_serves hmay hserves]
    exact congrArg _ (if_neg hmayUse)
  · intro s r k hallowed hidle hlow hhigh hmaster hopen
    change execKvtLoad r k s = _
    have hmay : ¬ (s.vault.lc ≠ 1 ∧ rootState s.vault ≠ 3) := fun ⟨hprovisioned, hold⟩ => hopen.elim hprovisioned hold
    simp only [execKvtLoad, kvtCmd, gated_of_allowed hallowed, if_neg hmay]
    simp [hidle, not_lt.mpr hlow, not_lt.mpr hhigh, hmaster]
  · intro s r k hallowed hcmd hc hk hattrMaster hpend
    change execKvtCommit _ _ _ = _
    simp [execKvtCommit, kvtCmd, gated_of_allowed hallowed, hcmd, not_lt.mpr hc, not_lt.mpr hk, hattrMaster, hpend]
  · intro s r k hallowed hcmd hc hk hattrMaster
    change execKvtDiscard _ _ _ = _
    simp [execKvtDiscard, kvtCmd, gated_of_allowed hallowed, hcmd, not_lt.mpr hc, not_lt.mpr hk, hattrMaster]
  · intro s r k hallowed hcmd hc hk hattrMaster
    change execKvtInvalidate _ _ _ = _
    simp [execKvtInvalidate, kvtCmd, gated_of_allowed hallowed, hcmd, not_lt.mpr hc, not_lt.mpr hk, hattrMaster]
  · intro s r k hallowed hcmd hc hk hattrMaster
    change execKvtZeroize _ _ _ = _
    simp [execKvtZeroize, kvtCmd, gated_of_allowed hallowed, hcmd, not_lt.mpr hc, not_lt.mpr hk, hattrMaster]
  · intro s r k hallowed hcmd hc hk hattrMaster hstate
    change execKvtClear _ _ _ = _
    simp [execKvtClear, kvtCmd, gated_of_allowed hallowed, hcmd, not_lt.mpr hc, not_lt.mpr hk, hattrMaster, hstate]
  · intro s r k source hallowed hidle hlow hhigh hmaster hsource hmay hserves hlc hattr hfilled
    change execKvtWrap r k source s = _
    simp [execKvtWrap, kvtCmd, gated_of_allowed hallowed, hidle, not_lt.mpr hlow, not_lt.mpr hhigh, hmaster, hsource, hmay,
      takeKey_of_serves hmay hserves, hlc, hattr, hfilled]

end Sys2Proof.Proofs
end

section
/-! Root, lifecycle and tamper. -/

namespace Sys2Proof.Proofs

open Sys2Proof Sys2Proof.Machine Sys2Proof.Laws Sys2Proof.Safety

/-- Settles O36: each command is its gate, then one branch. -/
theorem vaultRootAndTamper : Obligations.VaultRootAndTamper := by
  unfold Obligations.VaultRootAndTamper
  refine ⟨?_, ?_, ?_, ?_, ?_, ?_, ?_, ?_, ?_, ?_, ?_, ?_, ?_, ?_, ?_⟩
  · intro s r hallowed hidle hroot hlc
    change execNewRoot r s = _
    have hlife : ¬ (s.vault.lc ≠ 1 ∧ s.vault.lc ≠ 2) := fun ⟨hfirst, hsecond⟩ => hlc.elim hfirst hsecond
    simp only [execNewRoot, gated_of_allowed hallowed, if_neg hlife, hidle, hroot]
    rfl
  · intro s r hallowed hcmd hvault
    change execNewRoot _ _ = _
    simp [execNewRoot, gated_of_allowed hallowed, hcmd, hvault]
  · intro s r k value hallowed hc hk hattrMaster hpend
    change execKcvCheck _ _ _ _ = _
    simp [execKcvCheck, gated_of_allowed hallowed, not_lt.mpr hc, not_lt.mpr hk, hattrMaster, hpend]
  · intro s hsweep
    change execOrphanSweepDone _ = _
    simp [execOrphanSweepDone, hsweep]
  · intro s hon hdue
    have hruns : ¬ (¬ domainOn s 11 = true ∨ since s s.vault.remaskAt < 10 * secUnits) := by simp [hon, not_lt.mpr hdue]
    exact ⟨_, congrArg Host.Outcome.next (if_neg hruns), rfl⟩
  · intro s r hallowed
    change execLifecycleMove _ _ _ = _
    simp [execLifecycleMove, gated_of_allowed hallowed]
  · intro s r value a hallowed harmed hsince hvalue hnext hanchors
    change execLifecycleMove r value s = _
    have hword : ¬ value.toNat = 0x4C430001 := by omega
    have hmoves : ¬ (decide (since s a ≤ msUnits) = false ∨ value.toNat ≠ s.vault.lc + 1 ∨ s.vault.lc + 1 > 3 ∨
        (s.vault.lc + 1 = 1 ∧ s.vault.anchors = [])) := by
      simp only [hsince, hvalue, not_lt.mpr hnext, decide_true]
      simpa using hanchors
    rw [execLifecycleMove, gated_of_allowed hallowed, if_neg hword, harmed]
    exact congrArg _ (if_neg hmoves)
  · intro s pubkey token sig hlc hdebug hdomainOn
    change execDebugOpen _ _ _ _ = _
    simp [execDebugOpen, hlc, hdebug, hdomainOn]
  · intro s code
    change execTamperDetect _ _ = _
    simp [execTamperDetect]
  · intro s code hoff
    change Host.Outcome.next (tamperDetect code s) = _
    exact congrArg _ (if_pos hoff)
  · intro s r hallowed hvault
    change execTamperStatusClear _ _ = _
    simp [execTamperStatusClear, gated_of_allowed hallowed, hvault]
  · intro s r hallowed
    change execTamperLogClear _ _ = _
    simp [execTamperLogClear, gated_of_allowed hallowed]
  · intro s r hallowed
    change execKvtCntClear _ _ = _
    simp [execKvtCntClear, gated_of_allowed hallowed]
  · intro s
    change execVbatApplied _ = _
    simp [execVbatApplied]
  · intro s
    change execVbatLost _ = _
    simp [execVbatLost]

end Sys2Proof.Proofs
end

section
/-! The two channels of the safety supervisor. -/

namespace Sys2Proof.Proofs

open Sys2Proof Sys2Proof.Machine Sys2Proof.Laws Sys2Proof.Safety

/-- Settles O37: the state of the channel decides the branch. -/
theorem safetyChannels : Obligations.SafetyChannels := by
  unfold Obligations.SafetyChannels
  refine ⟨?_, ?_, ?_, ?_, ?_, ?_, ?_, ?_, ?_, ?_, ?_, ?_, ?_⟩
  · intro s i hh
    change execSafeHCycle _ _ = _
    simp [execSafeHCycle, hh]
  · intro s is hp
    change execSafePEvaluate _ _ = _
    simp [execSafePEvaluate, hp]
  · intro s a b sub hs
    change execOdoEdge _ _ _ _ _ = _
    simp [execOdoEdge, hs]
  · intro s a b sub hs
    change execOdoEdge _ _ _ _ _ = _
    simp [execOdoEdge, hs]
  · intro s who hwho hruns
    change execCrosslinkFrameSend who s = _
    simp only [execCrosslinkFrameSend, not_otherChannel hwho, hruns]
    rfl
  · intro s who intact f rest hwho hruns hframes hspoiled
    change execCrosslinkFrameReceived who intact s = _
    simp only [execCrosslinkFrameReceived, not_otherChannel hwho, hruns, hframes, hspoiled]
    rfl
  · intro s who f rest hwho hruns hframes hfirst hblock
    change execCrosslinkFrameReceived who true s = _
    simp only [execCrosslinkFrameReceived, not_otherChannel hwho, hruns, hframes, hfirst, hblock]
    simp
  · intro s who hwho hruns hsilent hstale
    change execCrosslinkStale who s = _
    simp only [execCrosslinkStale, not_otherChannel hwho, hruns, not_lt.mpr hsilent, hstale]
    rfl
  · intro s who hwho hruns hdue hleast hmost
    change execClockCheck who s = _
    simp only [execClockCheck, not_otherChannel hwho, hruns, not_lt.mpr hdue, gt_iff_lt, not_lt.mpr hleast, not_lt.mpr hmost]
    rfl
  · intro s who hwho hruns hdue hwrong
    change execClockCheck who s = _
    simp only [execClockCheck, not_otherChannel hwho, hruns, not_lt.mpr hdue, gt_iff_lt, hwrong]
    rfl
  · intro s hp
    change execSafePLockstepFault _ = _
    simp [execSafePLockstepFault, hp]
  · intro s hp
    change execSafePWatchdogExpiry _ = _
    simp [execSafePWatchdogExpiry, hp]
  · intro s who held hwho hruns hblock
    change execParamRecheck who held s = _
    simp only [execParamRecheck, not_otherChannel hwho, hruns, Option.isNone_iff_eq_none, hblock]
    rfl

end Sys2Proof.Proofs
end

section
/-! Safety outputs and the start of the supervisor. -/

namespace Sys2Proof.Proofs

open Sys2Proof Sys2Proof.Machine Sys2Proof.Laws Sys2Proof.Safety

/-- Settles O38: the state of the output decides the branch. -/
theorem safetyOutputsAndStart : Obligations.SafetyOutputsAndStart := by
  unfold Obligations.SafetyOutputsAndStart
  refine ⟨?_, ?_, ?_, ?_, ?_, ?_, ?_, ?_, ?_⟩
  · intro s who n hwho hruns hn hused htested hdue hnone hfree hdrive hother
    change execTestPulseStart who n s = _
    simp only [execTestPulseStart, not_otherChannel hwho, hruns, gt_iff_lt, not_lt.mpr hn, hused, htested, not_lt.mpr hdue, hnone,
      not_lt.mpr hfree, hdrive, hother]
    rfl
  · intro s who n hwho hruns hn hused htested hdue hnone hfree hidle
    change execTestPulseStart who n s = _
    have hskips : ¬ (tget (chan s who).outs n).drive = true ∨ ¬ otherDrive s who n = true := by simpa using hidle
    simp only [execTestPulseStart, not_otherChannel hwho, hruns, gt_iff_lt, not_lt.mpr hn, hused, htested, not_lt.mpr hdue, hnone,
      not_lt.mpr hfree, if_pos hskips]
    rfl
  · intro s who n low hwho hruns hn hpulse hdemand
    change execTestPulseEnd who n low s = _
    simp only [execTestPulseEnd, not_otherChannel hwho, hruns, gt_iff_lt, not_lt.mpr hn, Option.isNone_iff_eq_none, hpulse, hdemand]
    rfl
  · intro s who n hwho hruns hn hpulse hdemand
    change execTestPulseEnd who n true s = _
    simp only [execTestPulseEnd, not_otherChannel hwho, hruns, gt_iff_lt, not_lt.mpr hn, Option.isNone_iff_eq_none, hpulse, hdemand]
    rfl
  · intro s who n hwho hruns hn hpulse hdemand
    change execTestPulseEnd who n false s = _
    simp only [execTestPulseEnd, not_otherChannel hwho, hruns, gt_iff_lt, not_lt.mpr hn, Option.isNone_iff_eq_none, hpulse, hdemand]
    rfl
  · intro s r hallowed
    change execSafCntClear _ _ = _
    simp [execSafCntClear, gated_of_allowed hallowed]
  · intro s hporst
    change execSafetyStart _ = _
    simp [execSafetyStart, hporst]
  · intro s
    change execSafePorstAssert _ = _
    simp [execSafePorstAssert]
  · intro s who hwho hon
    change execSafetyRailReturn who s = _
    simp only [execSafetyRailReturn, not_otherChannel hwho, hon]
    rfl

end Sys2Proof.Proofs
end

section
/-! Power. -/

namespace Sys2Proof.Proofs

open Sys2Proof Sys2Proof.Machine Sys2Proof.Laws Sys2Proof.Safety

theorem avsSend_cmdBusy {s : State} (hbusy : s.pwr.cmdBusy = true) (mv : Nat) : (avsSend s mv).pwr.cmdBusy = true := by
  rw [avsSend]
  split
  · exact hbusy
  · rfl

/-- Settles O39: the domain or the step decides the branch. -/
theorem powerCommands : Obligations.PowerCommands := by
  unfold Obligations.PowerCommands
  refine ⟨?_, ?_, ?_, ?_, ?_, ?_, ?_, ?_, ?_, ?_, ?_, ?_, ?_, ?_, ?_, ?_, ?_, ?_⟩
  · intro s
    change execPorstAssert _ = _
    simp [execPorstAssert]
  · intro s hporst
    change execPorstRelease _ = _
    simp [execPorstRelease, hporst]
  · intro s hsequencing hporst hclock hstep
    change execDomainPowerStep s = _
    have hlocked : ¬ (s.pwr.step ≥ 1 ∧ ¬ s.pwr.pllLocked = true) := by
      rintro ⟨hlater, hunlocked⟩
      rcases hclock with h | h
      · omega
      · exact hunlocked h
    rw [execDomainPowerStep, if_neg hlocked, if_pos hstep]
    simp [hsequencing, hporst]
    rfl
  · intro s hsequencing hporst hpllLocked hstep hdev
    change execDomainPowerStep _ = _
    simp [execDomainPowerStep, hsequencing, hporst, hpllLocked, not_le.mpr hstep, hdev]
  · intro s hdomainOn hrunning
    change execPllLocked _ = _
    simp [execPllLocked, hdomainOn, hrunning]
  · intro s hsequencing hpllLocked
    change execPllLockTimeout _ = _
    simp [execPllLockTimeout, hsequencing, hpllLocked]
  · intro s low mv
    change execPowerMonitorTrip _ _ _ _ = _
    simp [execPowerMonitorTrip]
  · intro s mv hvbatLow hporst
    change execPowerMonitorTrip _ _ _ _ = _
    simp [execPowerMonitorTrip, hvbatLow, hporst]
  · intro s d mv low hporst hon hd
    change execPowerMonitorTrip d low mv s = _
    rcases hd with rfl | rfl <;> simp [execPowerMonitorTrip, hporst, hon]
  · intro s d mv hporst hon hlow hhigh
    change execPowerMonitorTrip d true mv s = _
    have h1 : d ≠ 1 := by omega
    have h2 : d ≠ 2 := by omega
    have h4 : d ≠ 4 := by omega
    have h5 : d ≠ 5 := by omega
    have hinside : ¬ 15 < d := by omega
    simp [execPowerMonitorTrip, h1, h2, h4, h5, hinside, hporst, hon, hlow, hhigh]
  · intro s d mv low hporst hon hd
    change execPowerMonitorTrip d low mv s = _
    have h1 : d ≠ 1 := by omega
    have h2 : d ≠ 2 := by omega
    have h4 : d ≠ 4 := by omega
    have h5 : d ≠ 5 := by omega
    have hinside : ¬ 15 < d := by omega
    have hfabric : ¬ (7 ≤ d ∧ d ≤ 10 ∧ low = true) := by
      rintro ⟨hleast, hmost, rfl⟩
      simp at hd
      omega
    simp only [execPowerMonitorTrip, h1, h2, h4, h5, gt_iff_lt, hinside, hporst, hon, hfabric]
    rfl
  · intro s mv hc
    change execVbatLowEnd _ _ = _
    simp [execVbatLowEnd, not_lt.mpr hc]
  · intro s mv hcmdBusy hmv hcommand halertPending
    change execReadVoutCheck _ _ _ = _
    simp [execReadVoutCheck, hcmdBusy, hmv, hcommand, halertPending]
  · intro s mv s1 hbusy htries hs1 hlinked havs
    change execReadVoutCheck false mv s = _
    have hagain : s1.pwr.cmdBusy = true := by
      rw [hs1]
      exact hbusy
    have hpwr : ∀ x off, (cnt x off).pwr = x.pwr := fun _ _ => rfl
    have hruns : ¬ ¬ s.pwr.cmdBusy = true := not_not.mpr hbusy
    simp only [execReadVoutCheck, if_neg hruns, Bool.false_and, Bool.false_eq_true, if_false, hpwr, if_pos htries]
    subst hs1
    exact congrArg _ (if_pos (avsSend_cmdBusy hagain _))
  · intro s word hdomainOn hcmdBusy
    change execPmbAlert _ _ = _
    simp [execPmbAlert, hdomainOn, hcmdBusy]
  · intro s word hdomainOn hcmdBusy
    change execPmbAlert _ _ = _
    simp [execPmbAlert, hdomainOn, hcmdBusy]
  · intro s r hallowed
    change execPwrCntClear _ _ = _
    simp [execPwrCntClear, gated_of_allowed hallowed]
  · intro s
    change execAonPowerLost _ = _
    simp [execAonPowerLost]

end Sys2Proof.Proofs
end

section
/-! The start. -/

namespace Sys2Proof.Proofs

open Sys2Proof Sys2Proof.Machine Sys2Proof.Laws Sys2Proof.Safety

/-- Settles O40: each step of the start is one branch on what it has found. -/
theorem startSequence : Obligations.StartSequence := by
  unfold Obligations.StartSequence
  refine ⟨?_, ?_, ?_, ?_, ?_, ?_, ?_, ?_, ?_, ?_, ?_, ?_, ?_, ?_, ?_, ?_⟩
  · intro s hdev hphase hdirectory
    change execDirectoryRead _ = _
    simp [execDirectoryRead, hdev, hphase, hdirectory]
  · intro s d second slot hdev hphase hdirectory hslot
    change execDirectoryRead s = _
    simp only [execDirectoryRead, hdev, hphase, hdirectory, hslot]
    rfl
  · intro s hdev hphase
    change execSramBistDone [] false s = _
    simp [execSramBistDone, hdev, hphase, bistEnd]
  · intro s banks hdev hphase
    change execSramBistDone banks true s = _
    simp [execSramBistDone, hdev, hphase, bistEnd]
  · intro s ok hdev
    change execDramTrained _ _ = _
    simp [execDramTrained, hdev]
  · intro s vout fw image hdev hphase hready himage
    change execBodyReadDone vout fw s = _
    subst himage
    simp only [execBodyReadDone, hdev, hphase, hready]
    rfl
  · intro s hdev hmajority
    change execStartComplete _ = _
    simp [execStartComplete, hdev, hmajority]
  · intro s hdev hmajority hleaseWait
    change execStartComplete _ = _
    simp [execStartComplete, hdev, hmajority, hleaseWait]
  · intro s t hcompleteAt hsettled hsecUnits hcountedKind
    change execStartSettled _ = _
    simp [execStartSettled, hcompleteAt, hsettled, not_lt.mpr hsecUnits, hcountedKind]
  · intro s r hallowed
    change execStartClearCounters _ _ = _
    simp [execStartClearCounters, gated_of_allowed hallowed]
  · intro s r hallowed
    change execStartRestart _ _ = _
    simp [execStartRestart, gated_of_allowed hallowed]
  · intro s r hallowed
    change execStartClearAndRestart _ _ = _
    simp [execStartClearAndRestart, gated_of_allowed hallowed]
  · intro s r hallowed
    change execSecverRaise _ _ _ = _
    simp [execSecverRaise, gated_of_allowed hallowed]
  · intro s r value hallowed hvalue
    change execSecverRaise _ _ _ = _
    simp [execSecverRaise, gated_of_allowed hallowed, hvalue]
  · intro s hdev hbistRtc hsequencing
    change execStandbyBistStart _ = _
    simp [execStandbyBistStart, hdev, hbistRtc, hsequencing]
  · intro s hdev hcache hsequencing htaking
    change execStandbyBistDone s = _
    have hfree : ¬ (s.dev ≠ .standbyCold ∨ s.pwr.on.contains 10 = false ∨ s.pwr.sequencing = true ∨ s.red.taking.isSome = true) := by
      rw [hcache, hsequencing, htaking]
      simp [hdev]
    rw [execStandbyBistDone, if_neg hfree]

end Sys2Proof.Proofs
end

section
/-! Configuration. -/

namespace Sys2Proof.Proofs

open Sys2Proof Sys2Proof.Machine Sys2Proof.Laws Sys2Proof.Safety

/-- Settles O41: the refusals of a command are tested in the order of the spec. -/
theorem configurationCommands : Obligations.ConfigurationCommands := by
  unfold Obligations.ConfigurationCommands
  refine ⟨?_, ?_, ?_, ?_, ?_, ?_, ?_, ?_, ?_, ?_, ?_, ?_, ?_, ?_, ?_, ?_, ?_, ?_, ?_⟩
  · intro s r fetched g hallowed hrun
    change execStageDelta r fetched s = _
    simp [execStageDelta, gated_of_allowed hallowed, hrun]
  · intro s r d hallowed hrun hlength
    change execStageDelta r (some d) s = _
    have hwhole : ¬ d.length ≠ (rd s Reg.CFG_STAGE_LEN).toNat := not_not.mpr hlength
    rw [execStageDelta, gated_of_allowed hallowed, hrun]
    exact congrArg _ (if_neg hwhole)
  · intro s r hallowed hrun
    change execStageDelta r none s = _
    simp [execStageDelta, gated_of_allowed hallowed, hrun]
  · intro s r hallowed hrun hownedBy
    change execValidateShadows _ _ = _
    simp [execValidateShadows, gated_of_allowed hallowed, hrun, hownedBy]
  · intro s r hallowed hrun hownedBy
    change execValidateShadows _ _ = _
    simp [execValidateShadows, gated_of_allowed hallowed, hrun, hownedBy]
  · intro s r hallowed
    change execDiscardShadows _ _ = _
    simp [execDiscardShadows, gated_of_allowed hallowed]
  · intro s hrun
    change execCfgCmdDone _ = _
    simp [execCfgCmdDone, hrun]
  · intro s g hrun
    change execCfgCmdDone _ = _
    simp [execCfgCmdDone, hrun]
  · intro s r hallowed hmaskRegions hswapLate
    change execSwapGlobal _ _ = _
    simp [execSwapGlobal, gated_of_allowed hallowed, hmaskRegions, hswapLate]
  · intro s r hallowed hmaskRegions hswapLate
    change execSwapGlobal _ _ = _
    simp [execSwapGlobal, gated_of_allowed hallowed, hmaskRegions, hswapLate]
  · intro s r hallowed hmaskRegions
    change execSwapPerRegion _ _ = _
    simp [execSwapPerRegion, gated_of_allowed hallowed, hmaskRegions]
  · intro s r i hallowed hmaskRegions
    change execSwapPerRegion _ _ = _
    simp [execSwapPerRegion, gated_of_allowed hallowed, hmaskRegions]
  · intro s r hallowed
    change execSwapCancel _ _ = _
    simp [execSwapCancel, gated_of_allowed hallowed]
  · intro s r n hallowed hrun hprofileRec
    change execProfileStageSwap _ _ _ = _
    simp [execProfileStageSwap, gated_of_allowed hallowed, hrun, hprofileRec]
  · intro s r n hallowed hrun
    change execProfileStageSwap r n s = _
    simp only [execProfileStageSwap, gated_of_allowed hallowed, hrun]
    rfl
  · intro s hmergeFront
    change execMergeStart _ = _
    simp [execMergeStart, hmergeFront]
  · intro s b hmergeFront hmergeBegun hb
    change execMergeStart _ = _
    simp [execMergeStart, hmergeFront, hmergeBegun, not_lt.mpr hb]
  · intro s b hmergeFront hmergeBegun
    change execMergeDone _ = _
    simp [execMergeDone, hmergeFront, hmergeBegun]
  · intro s r hallowed
    change execCfgCntClear _ _ = _
    simp [execCfgCntClear, gated_of_allowed hallowed]

end Sys2Proof.Proofs
end

section
/-! Live repair and the flash. -/

namespace Sys2Proof.Proofs

open Sys2Proof Sys2Proof.Machine Sys2Proof.Laws Sys2Proof.Safety

/-- Settles O42: the kind of part decides the branch. -/
theorem repairCommands : Obligations.RepairCommands := by
  unfold Obligations.RepairCommands
  refine ⟨?_, ?_, ?_, ?_, ?_, ?_, ?_, ?_, ?_, ?_, ?_, ?_, ?_, ?_, ?_, ?_, ?_, ?_, ?_⟩
  · intro s r p hallowed hc
    change execRepairPortOut _ _ _ = _
    simp [execRepairPortOut, repair, gated_of_allowed hallowed, not_le.mpr hc]
  · intro s r p hallowed hp
    change execRepairPortOut _ _ _ = _
    simp [execRepairPortOut, repair, gated_of_allowed hallowed, hp]
  · intro s r p hallowed hp
    change execRepairPortReturn _ _ _ = _
    simp [execRepairPortReturn, repair, gated_of_allowed hallowed, hp]
  · intro s r p hallowed hp
    change execRepairPartitionOut _ _ _ = _
    simp [execRepairPartitionOut, repair, gated_of_allowed hallowed, hp]
  · intro s r p hallowed hp
    change execRepairPartitionReturn _ _ _ = _
    simp [execRepairPartitionReturn, repair, gated_of_allowed hallowed, hp]
  · intro s r e hallowed he
    change execRepairMapEngineOut _ _ _ = _
    simp [execRepairMapEngineOut, repair, gated_of_allowed hallowed, he]
  · intro s r e hallowed he
    change execRepairMapEngineReturn _ _ _ = _
    simp [execRepairMapEngineReturn, repair, gated_of_allowed hallowed, he]
  · intro s r e hallowed he hclsEngine
    change execRepairClassifierOut _ _ _ = _
    simp [execRepairClassifierOut, repair, gated_of_allowed hallowed, classifierOut, he, hclsEngine]
  · intro s r e hallowed he hclsEngine
    change execRepairClassifierReturn _ _ _ = _
    simp [execRepairClassifierReturn, repair, gated_of_allowed hallowed, he, hclsEngine]
  · intro s r hallowed hbankSpare hbankCopy
    change execRepairBankOut _ _ _ = _
    simp [execRepairBankOut, repair, gated_of_allowed hallowed, bankOut, hbankSpare, not_lt.mpr hbankSpare, hbankCopy]
  · intro s r b hallowed hb hbankSpare hbankCopy hcfgs hs
    change execRepairBankOut _ _ _ = _
    simp [execRepairBankOut, repair, gated_of_allowed hallowed, bankOut, hb, not_lt.mpr hbankSpare, hbankCopy, hcfgs, hs]
  · intro s r b hallowed hb hs hbankSpare
    change execRepairBankReturn _ _ _ = _
    simp [execRepairBankReturn, repair, gated_of_allowed hallowed, hb, hs, hbankSpare]
  · intro s a b hbankCopy
    change execBankRemapDone _ = _
    simp [execBankRemapDone, hbankCopy]
  · intro s r n hallowed hc hn hndUsed hr
    change execRepairSubtreeOut _ _ _ = _
    simp [execRepairSubtreeOut, repairNode, gated_of_allowed hallowed, repair, hc, hn, hndUsed, hr]
  · intro s r n hallowed hc hn hndUsed hr
    change execRepairSubtreeReturn _ _ _ = _
    simp [execRepairSubtreeReturn, repairNode, gated_of_allowed hallowed, repair, hc, hn, hndUsed, hr]
  · intro s r hallowed hidle hsome hend hopen
    change execNvmErase r s = _
    simp only [execNvmErase, gated_of_allowed hallowed, nvmStart, hidle, hopen, gt_iff_lt, not_lt.mpr hend]
    rfl
  · intro s r data hallowed hidle hsome hend hopen
    change execNvmProgram r data s = _
    simp only [execNvmProgram, gated_of_allowed hallowed, nvmStart, hidle, hsome, hopen, gt_iff_lt, not_lt.mpr hend]
    rfl
  · intro s r len hallowed hidle hsome hend hopen
    change execNvmRead r len s = _
    simp only [execNvmRead, gated_of_allowed hallowed, nvmStart, hidle, hsome, hopen, gt_iff_lt, not_lt.mpr hend]
    rfl
  · intro s ok g hnvmRun
    change execNvmOpDone _ _ = _
    simp [execNvmOpDone, hnvmRun]

end Sys2Proof.Proofs
end

section
/-! Records of diagnosis. -/

namespace Sys2Proof.Proofs

open Sys2Proof Sys2Proof.Machine Sys2Proof.Laws Sys2Proof.Safety

/-- Settles O43: each command is its gate, then one branch. -/
theorem diagnosticRecords : Obligations.DiagnosticRecords := by
  unfold Obligations.DiagnosticRecords
  refine ⟨?_, ?_, ?_, ?_, ?_, ?_, ?_, ?_, ?_, ?_, ?_, ?_, ?_, ?_, ?_, ?_, ?_⟩
  · intro s q d hqueueDomain hdomainOn
    change execWatchdogExpiry _ _ _ = _
    simp [execWatchdogExpiry, hqueueDomain, hdomainOn]
  · intro s q d hqueueDomain hdomainOn
    change execWatchdogExpiry _ _ _ = _
    simp [execWatchdogExpiry, hqueueDomain, hdomainOn]
  · intro s e rest place d hintake hsev hplace
    change execErrorRecordWrite s = _
    have hmild : ¬ e.sev ≥ 2 := not_le.mpr hsev
    have hsoft : ¬ e.sev ≥ 3 := by omega
    simp only [execErrorRecordWrite, hintake, hplace, hmild, hsoft, decide_false]
    rfl
  · intro s e rest place d hintake hsev hplace
    change execErrorRecordWrite s = _
    have hmild : e.sev ≥ 2 := by omega
    have hgrave : e.sev ≥ 3 := hsev
    simp only [execErrorRecordWrite, hintake, hplace, hmild, hgrave, decide_true]
    rfl
  · intro s r hallowed
    change execEjClearRecords _ _ = _
    simp [execEjClearRecords, gated_of_allowed hallowed]
  · intro s r hallowed
    change execEjClearSources _ _ = _
    simp [execEjClearSources, gated_of_allowed hallowed]
  · intro s r hallowed
    change execEjClearBoth _ _ = _
    simp [execEjClearBoth, gated_of_allowed hallowed]
  · intro s r hallowed
    change execClearAll _ _ _ = _
    simp [execClearAll, gated_of_allowed hallowed]
  · intro s r block hallowed hblock hsnapState hsnapPending
    change execSnapshotCmd _ _ _ = _
    simp [execSnapshotCmd, gated_of_allowed hallowed, hblock, hsnapState, hsnapPending]
  · intro s r block hallowed hblock hsnapState
    change execSnapshotCmd _ _ _ = _
    simp [execSnapshotCmd, gated_of_allowed hallowed, hblock, hsnapState]
  · intro s hsnapState
    change execSnapshotDone _ _ = _
    simp [execSnapshotDone, hsnapState]
  · intro s hsnapState
    change execSnapshotDone _ _ = _
    simp [execSnapshotDone, hsnapState]
  · intro s c hcool hfirst
    change execTempSample [c] s = _
    have hmild : ¬ c > 125 := by omega
    simp only [execTempSample, List.foldl_nil, hcool, hfirst, hmild]
    rfl
  · intro s c hhot hfirst
    change execTempSample [c] s = _
    have hcool : ¬ c ≤ 120 := by omega
    simp only [execTempSample, List.foldl_nil, hcool, hfirst, gt_iff_lt, hhot]
    rfl
  · intro s r hallowed
    change execDgnCntClear _ _ = _
    simp [execDgnCntClear, gated_of_allowed hallowed]
  · intro s hstate hfault
    change execStewardWatchdogExpiry _ = _
    simp [execStewardWatchdogExpiry, hstate, hfault]
  · intro s hstate hfault
    change execStewardLockstepFault _ = _
    simp [execStewardLockstepFault, hstate, hfault]

end Sys2Proof.Proofs
end

section
/-! Self-tests and scrubbing. -/

namespace Sys2Proof.Proofs

open Sys2Proof Sys2Proof.Machine Sys2Proof.Laws Sys2Proof.Safety

/-- Settles O44: the element or the region of the line decides the branch. -/
theorem selfTestsAndScrub : Obligations.SelfTestsAndScrub := by
  unfold Obligations.SelfTestsAndScrub
  refine ⟨?_, ?_, ?_, ?_, ?_, ?_, ?_, ?_, ?_, ?_, ?_, ?_, ?_⟩
  · intro s r target element hallowed htarget
    change execSelftestRequest _ _ _ _ _ = _
    simp [execSelftestRequest, gated_of_allowed hallowed, not_lt.mpr htarget]
  · intro s target element ns progress s1 hns htarget hnodePay
    change execSelftestSlice _ _ _ _ _ = _
    simp [execSelftestSlice, not_lt.mpr hns, not_lt.mpr htarget, hnodePay]
  · intro s target element pass htarget
    change execSelftestPassComplete _ _ _ _ = _
    simp [execSelftestPassComplete, not_lt.mpr htarget]
  · intro s b hbankSpare hstate hbankCopy hbankReturning hnextServing
    change execSpareRotation _ _ = _
    simp [execSpareRotation, not_lt.mpr hbankSpare, hstate, hbankCopy, hbankReturning, hnextServing]
  · intro s e hspare hstate hreturning hnextServing
    change execSpareRotation _ _ = _
    simp [execSpareRotation, hspare, hstate, hreturning, hnextServing]
  · intro s dram
    rfl
  · intro s
    rfl
  · intro s dram
    rfl
  · intro s dram bank
    rfl
  · intro s dram place
    rfl
  · intro s dram id
    rfl
  · intro s dram
    rfl
  · intro s dram
    rfl

end Sys2Proof.Proofs
end

section
/-! Register access. -/

namespace Sys2Proof.Proofs

open Sys2Proof Sys2Proof.Machine Sys2Proof.Laws Sys2Proof.Safety

/-- A write that is not discarded is of 32 bits and aligned (R545). -/
theorem discardCause_width {s : State} {r : Req} {off width : Nat} (h : discardCause s r off width = none) :
    discardCause s r off 32 = none := by
  have hwidth : ¬ (width ≠ 32 ∨ off % 4 ≠ 0) := by
    intro hbad
    simp [discardCause, if_pos hbad] at h
  obtain rfl : width = 32 := by omega
  exact h

/-- Settles O45: a write acts only where it is allowed, a read holds the other half of a pair. -/
theorem registerAccess : Obligations.RegisterAccess := by
  unfold Obligations.RegisterAccess
  refine ⟨?_, ?_, ?_, ?_, ?_, ?_, ?_, ?_, ?_⟩
  · intro s r off width value c hoff hmsix hcause
    change execRegisterWrite r off width value s = _
    simp only [execRegisterWrite, ge_iff_le, not_le.mpr hoff, hmsix, hcause]
    rfl
  · intro s r off width value a hoff hmsix hcause hacc hworld
    change execRegisterWrite r off width value s = _
    simp only [execRegisterWrite, ge_iff_le, not_le.mpr hoff, hmsix, hcause, hacc, hworld]
    rfl
  · intro s r off width value a hoff hmsix hcause hacc hworld hmaster
    change execRegisterWrite r off width value s = _
    simp only [execRegisterWrite, ge_iff_le, not_le.mpr hoff, hmsix, hcause, hacc, hworld, masterGate, gated_of_allowed (discardCause_width
      hcause), hmaster]
    rfl
  · intro s lane guard v i value hv hi
    change execRegisterWrite (.fn lane guard) (0xF00000 + 16 * v + 4 * i) 32 value s = _
    have hspace : ¬ 0xF00000 + 16 * v + 4 * i ≥ 2 ^ 24 := by omega
    have hmsix : inMsix (0xF00000 + 16 * v + 4 * i) = true := decide_eq_true (by omega)
    have haligned : (32 = 32 ∧ (0xF00000 + 16 * v + 4 * i) % 4 = 0) ∨ (32 = 64 ∧ (0xF00000 + 16 * v + 4 * i) % 8 = 0) := .inl ⟨rfl, by omega⟩
    have htable : 0xF00000 + 16 * v + 4 * i < 0xF00400 := by omega
    have hvector : (0xF00000 + 16 * v + 4 * i - 0xF00000) / 16 = v := by omega
    have hword : (0xF00000 + 16 * v + 4 * i) % 16 / 4 = i := by omega
    rw [execRegisterWrite, if_neg hspace, if_pos hmsix, writeMsix, if_neg (not_not.mpr haligned), if_pos htable, hvector, hword]
    rfl
  · intro s lane vec guard hvec
    change execMsixUnmask (.fn lane guard) vec s = _
    simp [execMsixUnmask, hvec]
  · intro s r off hspace haligned hlow hlatches
    change execLatchingRead r off 32 s = _
    have hplain : ¬ (off = Reg.TIM_DEP_INFO ∨ (0xE0900 ≤ off ∧ off < 0xE0980 ∧ off % 16 = 4)) := by
      rintro (rfl | ⟨hcapture, -⟩)
      · exact absurd hlow (by decide)
      · omega
    have hsteward : off ≠ Reg.STW_STATUS := by
      rintro rfl
      exact absurd hlow (by decide)
    rw [execLatchingRead, if_neg (not_le.mpr hspace), if_pos ⟨rfl, haligned⟩, readWord, if_neg hplain, hlatches]
    simp only [if_neg hsteward, List.foldl_nil, ite_self]
  · intro s r hon
    change execLatchingRead r Reg.TIM_NOW_LO 32 s = _
    have hlatches : latches s Reg.TIM_NOW_LO = [(Reg.TIM_NOW_HI, hi32 (now s))] := by simp +decide [latches]
    have hplain : ¬ (Reg.TIM_NOW_LO = Reg.TIM_DEP_INFO ∨ (0xE0900 ≤ Reg.TIM_NOW_LO ∧ Reg.TIM_NOW_LO < 0xE0980 ∧ Reg.TIM_NOW_LO % 16 = 4)) := by
      decide
    have hspace : ¬ Reg.TIM_NOW_LO ≥ 2 ^ 24 := by decide
    rw [execLatchingRead, if_neg hspace, if_pos ⟨rfl, rfl⟩, readWord, if_neg hplain, hlatches, if_pos hon]
    rfl
  · intro s r off hspace hodd
    change execLatchingRead r off 32 s = _
    have hword : ¬ (32 = 32 ∧ off % 4 = 0) := fun h => hodd h.2
    have hpair : ¬ (32 = 64 ∧ off % 8 = 0 ∧ inMsix off = true) := fun h => absurd h.1 (by decide)
    rw [execLatchingRead, if_neg (not_le.mpr hspace), if_neg hword, if_neg hpair]
  · intro s k vec guard hk hvec hvec2 hvec3 hrunning huntil_
    change execModerationIntervalExpiry _ _ _ _ = _
    simp [execModerationIntervalExpiry, not_lt.mpr hk, not_lt.mpr hvec, hvec2, hvec3, hrunning, not_lt.mpr huntil_]

end Sys2Proof.Proofs
end

section
/-! A step. -/

namespace Sys2Proof.Proofs

open Sys2Proof Sys2Proof.Machine Sys2Proof.Laws Sys2Proof.Safety

/-- Settles O46: `step` is `exec` of the head of the queue. -/
theorem stepRunsFrontCommand : Obligations.StepRunsFrontCommand := by
  unfold Obligations.StepRunsFrontCommand
  intro c rest s
  rfl

end Sys2Proof.Proofs
end

section
/-! The idle step. -/

namespace Sys2Proof.Proofs

open Sys2Proof Sys2Proof.Machine Sys2Proof.Laws Sys2Proof.Safety

/-- Without a command a running steward takes up the copies in its intake, and the rest is the tick (log 67). -/
theorem idle_eq_tick (s : State) : ∃ w, idle s = { tick s with stw := w } := by
  rw [idle]
  split
  · exact ⟨_, rfl⟩
  · exact ⟨(tick s).stw, rfl⟩

/-- One tick of the lease timer, which the real-time clock divides. -/
def leaseTick (s : State) (rtc : Nat) : State :=
  { s with red := { s.red with leaseTimer := s.red.leaseTimer + 1 }, tim := { s.tim with rtc := rtc } }

/-- Device time moves by its increment and by what the slew allows (R316). -/
def advance (s : State) : State :=
  { s with tim := { s.tim with dt := (Int.ofNat (s.tim.dt + increment s) + slewPart s).toNat, slew := s.tim.slew - slewPart s } }

theorem tick_eq (s : State) : ∃ rtc, tick s = if s.tim.running then advance (leaseTick s rtc) else leaseTick s rtc := by
  rw [tick]
  split
  · exact ⟨s.tim.rtc, rfl⟩
  · exact ⟨s.tim.rtc + 1, rfl⟩

/-- Settles O47: a tick counts the lease timer first, then device time where it runs. -/
theorem idleStep : Obligations.IdleStep := by
  unfold Obligations.IdleStep
  intro s hpending
  have hstep : step s = .next (idle s) := by rw [step, hpending]
  obtain ⟨w, hidle⟩ := idle_eq_tick s
  obtain ⟨rtc, htick⟩ := tick_eq s
  refine ⟨idle s, hstep, ?_⟩
  rw [hidle, htick]
  by_cases hruns : s.tim.running = true
  · rw [if_pos hruns]
    exact ⟨hpending, rfl, fun hstopped => by simp [hstopped] at hruns, fun _ => ⟨rfl, rfl⟩, rfl, rfl, rfl⟩
  · rw [if_neg hruns]
    exact ⟨hpending, rfl, fun _ => rfl, fun h => absurd h hruns, rfl, rfl, rfl⟩

end Sys2Proof.Proofs
end

section
/-! The state after reset. -/

namespace Sys2Proof.Proofs

open Sys2Proof Sys2Proof.Machine Sys2Proof.Laws Sys2Proof.Safety

/-- Settles O48: the tables are empty, so a read answers what an unlisted key reads as. -/
theorem resetState : Obligations.ResetState := by
  unfold Obligations.ResetState
  refine ⟨?_, ?_, ?_, ?_, ?_, ?_, ?_, ?_⟩
  · exact fun _ => rfl
  · rfl
  · rfl
  · rfl
  · exact fun _ => ⟨rfl, rfl⟩
  · rfl
  · rfl
  · exact fun _ => rfl

end Sys2Proof.Proofs
end

section
/-! Canonical form after reset. -/

namespace Sys2Proof.Proofs

open Sys2Proof Sys2Proof.Machine Sys2Proof.Laws Sys2Proof.Safety

/-- Settles O49: after reset every table is the empty list. -/
theorem resetIsCanonical : Obligations.ResetIsCanonical := by
  unfold Obligations.ResetIsCanonical
  exact ⟨rfl, rfl, rfl, rfl, rfl, rfl⟩

end Sys2Proof.Proofs
end
